-- ==== Sys2Proof/Word.lean ====
section
/-! DEFINITION. The word types of the block (00 R21, R22) and the plainest arithmetic on them. -/

namespace Sys2Proof

/-- A register, 32 bits wide (00 R22). -/
abbrev Word := BitVec 32

/-- A byte of a host-memory structure. -/
abbrev Byte := BitVec 8

/-- A 64-bit host address or parameter (04 R123, R136). -/
abbrev Addr := BitVec 64

/-- 2^32, the modulus of every free-running count (04 R126, R147). -/
def two32 : Nat := 4294967296

/-- A free-running 32-bit count advanced by `n`. -/
def add32 (a n : Nat) : Nat := (a + n) % two32

/-- The distance from `b` up to `a` modulo 2^32. -/
def sub32 (a b : Nat) : Nat := (a + two32 - b % two32) % two32

/-- Ceiling division. -/
def ceilDiv (a b : Nat) : Nat := (a + b - 1) / b

/-- Holds a value inside a range. -/
def clamp (lo hi x : Nat) : Nat := if x < lo then lo else if hi < x then hi else x

end Sys2Proof
end

