-- ==== Sys2Proof/Syntax.lean ====
section
/-! DEFINITION. The commands the block takes from outside: one constructor per row of spec/opcode_table.json (those whose
commands can wait first), with the operands that a step's rule reads (95_what_each_step_holds.md). -/

namespace Sys2Proof

/-- Port 0 – 127 (00, Names). -/
abbrev Port := Fin 128
/-- Bed 0 – 7 (01 R27). -/
abbrev Bed := Fin 8
/-- Function: 0 the PF, n = 1 – 128 VF n (03 R94, PFN_ASSIGN.FUNC). -/
abbrev Fnc := Fin 129
/-- A VF: the value v stands for VF v + 1 (03 R94). -/
abbrev Vf := Fin 128
/-- Fault source number (15 R518). -/
abbrev Src := Fin 1024
/-- Dispatcher source number; 4,095 is the spurious number (14 R493). -/
abbrev Dsp := Fin 4095
/-- Tender engine T0 – T8 (14 R470). -/
abbrev Tender := Fin 9
/-- Trough bank (01 R28). -/
abbrev Bank := Fin 32
/-- Event ring of a function (04, Event rings). -/
abbrev Evr := Fin 256
/-- MSI-X vector (03 R107). -/
abbrev Vec := Fin 2048
/-- Processor of the dispatcher: 0 – 8 T0 – T8, 9 K0, 10 K1 (14 R494). -/
abbrev Proc := Fin 11

/-- Supplies whose loss acts as PERST_N (17 R570). -/
inductive MainRail | core | sram | phy | phyh | io | bed
  deriving DecidableEq, Repr
/-- What VOUT_MODE reads (17 R575). -/
inductive VoutMode | linear | other | noAnswer
  deriving DecidableEq, Repr
/-- Causes of a conventional reset (03 R118). -/
inductive LinkResetKind | hot | dllDown | disable
  deriving DecidableEq, Repr
/-- JTAG instructions (02 R78): `other` stands for every further IEEE 1149.1 or factory instruction. -/
inductive JtagInstr | idcode | bypass | sample | other (n : Nat)
  deriving DecidableEq, Repr
/-- How a read ends without data (03 R91). -/
inductive ReadErr | ur | ca | timeout | poison
  deriving DecidableEq, Repr
/-- The two USB sides of a port (08 R273). -/
inductive Side | usb2 | ss
  deriving DecidableEq, Repr
/-- Speeds, coded 0 – 4 as in the slot record (05 R173). -/
inductive Speed | low | full | high | gen1 | gen2
  deriving DecidableEq, Repr
/-- Ordered sets of PD messages (11 R374). -/
inductive Sop | sop0 | sop1 | sop2
  deriving DecidableEq, Repr

/-- The descriptor of a command: the issuing function, its address and its COOKIE (04 R136, R142). -/
structure CmdHdr where
  fn : Fnc
  ptr : Addr
  cookie : Word
  deriving DecidableEq, Repr
/-- PARAM0 – PARAM2 of a command descriptor (04 R136). -/
structure Params where
  p0 : Addr
  p1 : Addr
  p2 : Addr
  deriving DecidableEq, Repr
/-- A device slot or guest function, by function and bell index (04 R154). -/
structure SlotRef where
  fn : Fnc
  bell : Fin 16384
  deriving DecidableEq, Repr
/-- An endpoint, or one stream of it (stream 0: the endpoint itself), by function, bell index and endpoint index. -/
structure EpRef where
  fn : Fnc
  bell : Fin 16384
  ep : Fin 31
  stream : Fin 1024
  deriving DecidableEq, Repr
/-- A ring whose positions the part reads. -/
inductive RingRef | cmd (f : Fnc) | ep (e : EpRef)
  deriving DecidableEq, Repr
/-- The 32 bytes of a ring position: the 64-bit word at 0x00 and the words at 0x08 – 0x1C (04 R131, R136). -/
structure Desc where
  q0 : Addr
  w2 : Word
  w3 : Word
  w4 : Word
  w5 : Word
  w6 : Word
  w7 : Word
  deriving DecidableEq, Repr
/-- What one sweep of the rake read (04 R160): the grand bell, the group bells, 64 slot bells for each changed group
and the 32 producer entries for each changed slot bell. -/
structure SweepReads where
  grand : Addr
  groups : List Word
  slots : List (Nat × List Word)
  prods : List (Nat × List Word)
  deriving DecidableEq, Repr
/-- The PCI windows of the part (03 R97, R99, R100). -/
inductive Bar | pfBar0 | pfBar2 | vfBar0 (v : Vf) | vfBar2 (v : Vf)
  deriving DecidableEq, Repr
/-- A word at a hop of the core fabric, with its number in the order in which the path carries words, the ones sent again included (01 R41). -/
structure HopWord where
  hop : Nat
  word : Nat
  deriving DecidableEq, Repr
/-- A window and an offset in it. -/
structure WinAddr where
  bar : Bar
  off : BitVec 26
  deriving DecidableEq, Repr
/-- A memory access to one of the windows as R22 sees it: its width in bits, and the data of a write. -/
structure RawAccess where
  bar : Bar
  off : BitVec 26
  bits : Nat
  isWrite : Bool
  data : BitVec 64 := 0
  deriving DecidableEq, Repr
/-- Capabilities of configuration space: those R87 and R96 give, and those R87 marks "no" (03). -/
inductive PciCap
  | pcie | powerManagement | msix | aer | sriov | ari | acs | ptm | l1Substates | ltr | serialNumber | phys16 | phys32 | phys64 | laneMargining | flitLogging
  | msi | ats | pri | pasid | tph | resizableBar
  deriving DecidableEq, Repr
/-- The fields of configuration space the manual gives (03 R87 – R97, R107); `other` is every field of which it gives no value. -/
inductive CfgField
  | ids | revision | interruptPin | totalVfs | vfOffset | vfStride | vfDeviceId | pageSizes | vfMigration | sriovControl | numVfs
  | command | bar (i : Fin 6) | vfBar (i : Fin 6) | devCap | devCtl | devCap2 | devCtl2 | linkCap | linkStatus | linkCap2 | l1Caps | acsCaps | ptmCaps
  | capability (c : PciCap)
  | msixControl | pmcsr | aerUncor | aerCor | serialLo | serialHi | ptmControl | other (off : Nat)
  deriving DecidableEq, Repr
/-- A configuration request (02 R46; 03 R96). -/
inductive CfgReq | read (f : CfgField) | write (f : CfgField) (w : Word)
  deriving DecidableEq, Repr
/-- What a failed host-memory read was for (03 R91). -/
inductive ReadFor
  | desc (e : EpRef) | outData (e : EpRef) | command (f : Fnc) | streamTable (e : EpRef) | evrCons (f : Fnc) (r : Evr)
  | inputBlock (h : CmdHdr) (opcode : Byte) (q : Params) | updateImage
  deriving DecidableEq, Repr
/-- One entry of a stream table (05 R194). -/
structure StreamEntry where
  q0 : Addr
  prod : Word
  flags : Word
  deriving DecidableEq, Repr
/-- A device's answer to an OUT packet (07 R266). -/
inductive Handshake | ack | nyet | nak | retry
  deriving DecidableEq, Repr
/-- Failed transactions (06 R220, R230, R231): `ping` is a USB 2.0 PING, `ssPing` the SuperSpeed PING of R231. -/
inductive XactErr | crc | badPid | falseEop | ping | ssRetry | ssPing
  deriving DecidableEq, Repr
/-- What a split exchange with a hub gave (06 R226; 07 R254, R266). -/
inductive SplitRes
  | ssFail | csFail | err | nyet | nak | ack | data (tog : Bool) (bytes : List Byte)
  deriving DecidableEq, Repr
/-- A device's answer to an LPM transaction (08 R289). -/
inductive LpmAns | ack | nyet | stall | silent
  deriving DecidableEq, Repr
/-- Tokens of an external host toward a guest (09 R319, R327 – R329). -/
inductive TokenKind | tokIn | tokPing | tokLpm
  deriving DecidableEq, Repr
/-- Why a guest leaves PRESENT (09 R333, VALUE of GUEST-HOST-GONE). -/
inductive GoneCause | disconnect | vbus | cc | ssLink | role
  deriving DecidableEq, Repr
/-- What a CC pin shows (10 R345, R351, R363): `rp` carries the level 1 – 3 of PRT_TC_STATUS.RP. -/
inductive CcSee | opened | ra | rd | rp (level : Fin 4)
  deriving DecidableEq, Repr
/-- Resistances to ground of one moisture reading, in ohms (10 R370, R371). -/
structure MoistReading where
  sbu1 : Nat
  sbu2 : Nat
  cc1 : Nat
  cc2 : Nat
  deriving DecidableEq, Repr
/-- A packet with a valid SOP* ordered set (10 R361, R365): whether CRC, symbols and EOP are good, its header and data. -/
structure PdRx where
  sop : Sop
  good : Bool
  hdr : BitVec 16
  objs : List Word
  deriving DecidableEq, Repr
/-- The three role swaps (11 R394). -/
inductive SwapKind | dr | pr | vconn
  deriving DecidableEq, Repr
/-- EPR_Mode actions (11 R387). -/
inductive EprMode | enter | exit | enterAck | enterOk | enterFail
  deriving DecidableEq, Repr
/-- Kinds of answers to a request of the port (11 R409). -/
inductive PdRespKind | accept | reject | ack | nak | busy | caps | status
  deriving DecidableEq, Repr
/-- An answer to a request of the port: its header and its data objects (11 R410). -/
structure PdResp where
  sop : Sop
  kind : PdRespKind
  hdr : BitVec 16
  data : List Word
  deriving DecidableEq, Repr
/-- PD timers of PS_TRANSITION_TIMEOUT (11 R376). -/
inductive PdTimer | psTransition | psSourceOff | psSourceOn | noResponse | enterEpr
  deriving DecidableEq, Repr
/-- SuperSpeed device notifications (08 R272, R294). -/
inductive DevNotif | functionWake (route : BitVec 20) | latencyTolerance
  deriving DecidableEq, Repr
/-- Orders of policy or the keepers to a power path (12 R424, R428). -/
inductive PathOrder | sourceOn | sinkOn | off | target (mv ma : Nat)
  deriving DecidableEq, Repr
/-- Wake causes, coded 1 – 7 (13 R457); `watch` names the CF_WATCH entry. -/
inductive WakeCause | bell | port | warning | watch (i : Fin 64) | d0 | fault | retention
  deriving DecidableEq, Repr
/-- SELF-TEST operations 1 – 5 (14 R485). -/
inductive TestOp | tender | bank | adc | bed | keeper
  deriving DecidableEq, Repr
/-- Services a graft calls, and the accesses that are graft faults (14 R491, R492). -/
inductive GraftCall
  | time | port (p : Port) | budget (p : Port) | timer (p : Port) (ms : Nat) | vdm (p : Port) (sop : Sop) (hdr : Word) (vdos : List Word)
  | note (v : Word) | unknown | outOfRegion
  deriving DecidableEq, Repr
/-- What a unit puts on its fault line (15 R505): the cause, UNIT, the function of sources 649 and 650, INFO, and
whether the condition lasts. -/
structure FaultRep where
  src : Src
  cause : Byte
  unit : Byte
  func : Fnc
  info : Word
  lasting : Bool
  deriving DecidableEq, Repr
/-- What a rebuild finds of a context's two copies (05 R203). -/
inductive CopyFound | equal | firstLater | firstBad | secondBad
  deriving DecidableEq, Repr
/-- SRAM arrays with an error to report (01 R28, R29). -/
inductive Array2 | context | slot | trough | schedule | capture | tender | keeper | staging
  deriving DecidableEq, Repr
/-- A captured happening (16 R534, R535): `addr` is the device address it concerns and `sof` marks SOF and timestamp packets. -/
structure CapPacket where
  kind : Fin 6
  speed : BitVec 3
  dir : Bool
  err : Bool
  sof : Bool
  code : Byte
  addr : Option (BitVec 7)
  wireLen : BitVec 16
  data : List Byte
  deriving DecidableEq, Repr
/-- One refreshed measurement (16 R562). -/
inductive TeleSample
  | temp (i : Fin 9) (v : Byte) | rail (i : Fin 16) (mv : BitVec 12) | core (mv power : BitVec 16) | port (p : Port) (mv ma : BitVec 16)
  deriving DecidableEq, Repr
/-- The 64-bit counts read through a latch (16 R551, TB_LO). -/
inductive Tally | portIn (p : Port) | portOut (p : Port) | device | timebase
  deriving DecidableEq, Repr

/-- The commands of the block: one constructor per row of spec/opcode_table.json. -/
inductive Instr
  /-- NO_OP (R138). -/
  | noOp (h : CmdHdr) (q : Params) (rsv : Word)
  /-- UNKNOWN_COMMAND (R137). -/
  | unknownCommand (h : CmdHdr) (ty : BitVec 4) (op : BitVec 8) (q : Params)
  /-- OPEN_SLOT (R180). -/
  | openSlot (h : CmdHdr) (q : Params)
  /-- ASSIGN_ADDRESS (R181). -/
  | assignAddress (h : CmdHdr) (q : Params)
  /-- SET_ENDPOINTS (R182). -/
  | setEndpoints (h : CmdHdr) (q : Params) (blk : List Byte)
  /-- CLEAR_HALT (R184). -/
  | clearHalt (h : CmdHdr) (q : Params)
  /-- PAUSE_ENDPOINT (R187). -/
  | pauseEndpoint (h : CmdHdr) (q : Params)
  /-- MOVE_CURSOR (R185). -/
  | moveCursor (h : CmdHdr) (q : Params)
  /-- CLOSE_SLOT (R186). -/
  | closeSlot (h : CmdHdr) (q : Params)
  /-- SNAPSHOT_CONTEXT (R189). -/
  | snapshotContext (h : CmdHdr) (q : Params)
  /-- PORT_ENABLE (R306). -/
  | portEnable (h : CmdHdr) (q : Params)
  /-- PORT_DISABLE (R306). -/
  | portDisable (h : CmdHdr) (q : Params)
  /-- PORT_RESET (R241). -/
  | portReset (h : CmdHdr) (q : Params)
  /-- PORT_RESET_QUIESCED (R241). -/
  | portResetQuiesced (p : Port)
  /-- PORT_RESET_DONE (R281). -/
  | portResetDone (p : Port) (sd : Side) (sp : Speed)
  /-- PORT_SUSPEND (R291). -/
  | portSuspend (h : CmdHdr) (q : Params)
  /-- SUSPEND_COMPLETE (R291). -/
  | suspendComplete (p : Port)
  /-- PORT_RESUME (R293). -/
  | portResume (h : CmdHdr) (q : Params)
  /-- RESUME_RECOVERY_END (R293). -/
  | resumeRecoveryEnd (p : Port) (sd : Side)
  /-- TREE_SLEEP (R297). -/
  | treeSleep (h : CmdHdr) (q : Params)
  /-- TREE_SLEEP_QUIESCED (R297). -/
  | treeSleepQuiesced (p : Port)
  /-- TREE_WAKE (R297). -/
  | treeWake (h : CmdHdr) (q : Params)
  /-- PORT_TEST (R306). -/
  | portTest (h : CmdHdr) (q : Params)
  /-- SS_RETRY (R306). -/
  | ssRetry (h : CmdHdr) (q : Params)
  /-- POWER_OFF (R306). -/
  | powerOff (h : CmdHdr) (q : Params)
  /-- POWER_CYCLE (R306). -/
  | powerCycle (h : CmdHdr) (q : Params)
  /-- POWER_CYCLE_DELAY_EXPIRE (R306). -/
  | powerCycleDelayExpire (p : Port)
  /-- GUEST_OPEN (R317). -/
  | guestOpen (h : CmdHdr) (q : Params)
  /-- GUEST_ENDPOINTS (R322). -/
  | guestEndpoints (h : CmdHdr) (q : Params) (blk : List Byte)
  /-- GUEST_CLOSE (R316). -/
  | guestClose (h : CmdHdr) (q : Params)
  /-- GUEST_CONNECT (R315). -/
  | guestConnect (h : CmdHdr) (q : Params)
  /-- GUEST_DISCONNECT (R315). -/
  | guestDisconnect (h : CmdHdr) (q : Params)
  /-- GUEST_WAKE (R335). -/
  | guestWake (h : CmdHdr) (q : Params)
  /-- GUEST_EP_PAUSE (R323). -/
  | guestEpPause (h : CmdHdr) (q : Params)
  /-- GUEST_EP_MOVE (R323). -/
  | guestEpMove (h : CmdHdr) (q : Params)
  /-- GUEST_EP_HALT (R323). -/
  | guestEpHalt (h : CmdHdr) (q : Params)
  /-- GUEST_EP_UNHALT (R323). -/
  | guestEpUnhalt (h : CmdHdr) (q : Params)
  /-- ROLE_SET (R337). -/
  | roleSet (h : CmdHdr) (q : Params)
  /-- GUEST_SNAPSHOT (R317). -/
  | guestSnapshot (h : CmdHdr) (q : Params)
  /-- PORT_LIMIT (R439). -/
  | portLimit (h : CmdHdr) (q : Params)
  /-- SHED_CLASS (R439). -/
  | shedClass (h : CmdHdr) (q : Params)
  /-- BED_BUDGET (R439). -/
  | bedBudget (h : CmdHdr) (q : Params)
  /-- DEV_BUDGET (R439). -/
  | devBudget (h : CmdHdr) (q : Params)
  /-- IND_LEVEL (R439). -/
  | indLevel (h : CmdHdr) (q : Params)
  /-- SEND_CAPS (R409). -/
  | sendCaps (h : CmdHdr) (q : Params)
  /-- PD_REQUEST_RDO (R409). -/
  | pdRequestRdo (h : CmdHdr) (q : Params)
  /-- DR_SWAP (R409). -/
  | drSwap (h : CmdHdr) (q : Params)
  /-- PR_SWAP (R409). -/
  | prSwap (h : CmdHdr) (q : Params)
  /-- VCONN_SWAP (R409). -/
  | vconnSwap (h : CmdHdr) (q : Params)
  /-- SOFT_RESET (R409). -/
  | softReset (h : CmdHdr) (q : Params)
  /-- HARD_RESET (R409). -/
  | hardReset (h : CmdHdr) (q : Params)
  /-- GET_SOURCE_CAPS (R409). -/
  | getSourceCaps (h : CmdHdr) (q : Params)
  /-- GET_SINK_CAPS (R409). -/
  | getSinkCaps (h : CmdHdr) (q : Params)
  /-- DISCOVER (R409). -/
  | discover (h : CmdHdr) (q : Params)
  /-- EPR_ENTER (R409). -/
  | eprEnter (h : CmdHdr) (q : Params)
  /-- EPR_EXIT (R409). -/
  | eprExit (h : CmdHdr) (q : Params)
  /-- GET_STATUS (R409). -/
  | getStatus (h : CmdHdr) (q : Params)
  /-- SEND_VDM (R411). -/
  | sendVdm (h : CmdHdr) (q : Params) (blk : List Byte)
  /-- SET_MODE (R444). -/
  | setMode (h : CmdHdr) (q : Params)
  /-- ROTATE_NEXT (R480). -/
  | rotateNext (h : CmdHdr) (q : Params)
  /-- ROTATE_ENGINE (R480). -/
  | rotateEngine (h : CmdHdr) (q : Params)
  /-- ROTATE_UPDATE (R481). -/
  | rotateUpdate (h : CmdHdr) (q : Params)
  /-- UPDATE_CANCEL (R484). -/
  | updateCancel (h : CmdHdr) (q : Params)
  /-- SELF_TEST_TENDER (R485). -/
  | selfTestTender (h : CmdHdr) (q : Params)
  /-- SELF_TEST_BANK (R485). -/
  | selfTestBank (h : CmdHdr) (q : Params)
  /-- SELF_TEST_ADC (R485). -/
  | selfTestAdc (h : CmdHdr) (q : Params)
  /-- SELF_TEST_BED (R485). -/
  | selfTestBed (h : CmdHdr) (q : Params)
  /-- SELF_TEST_KEEPER (R485). -/
  | selfTestKeeper (h : CmdHdr) (q : Params)
  /-- CAPTURE_START (R536). -/
  | captureStart (h : CmdHdr) (q : Params)
  /-- CAPTURE_STOP (R549). -/
  | captureStop (h : CmdHdr) (q : Params)
  /-- CAPTURE_FLUSH (R542). -/
  | captureFlush (h : CmdHdr) (q : Params)
  /-- READ_ALMANAC_SLOTS (R559). -/
  | readAlmanacSlots (h : CmdHdr) (q : Params)
  /-- READ_ALMANAC_INFO (R559). -/
  | readAlmanacInfo (h : CmdHdr) (q : Params)
  /-- LIFECYCLE_PLANT (R80). -/
  | lifecyclePlant (h : CmdHdr) (q : Params) (tok : List Byte)
  /-- LIFECYCLE_UPROOT (R80). -/
  | lifecycleUproot (h : CmdHdr) (q : Params) (tok : List Byte)
  /-- LIFECYCLE_RETURN (R80). -/
  | lifecycleReturn (h : CmdHdr) (q : Params) (tok : List Byte)
  /-- LIFECYCLE_REVOKE (R80). -/
  | lifecycleRevoke (h : CmdHdr) (q : Params) (tok : List Byte)
  /-- LIFECYCLE_RAISE_FLOOR (R80). -/
  | lifecycleRaiseFloor (h : CmdHdr) (q : Params) (tok : List Byte)
  /-- STREAM_TABLE_READ (R196). -/
  | streamTableRead (e : EpRef) (tbl : List StreamEntry)
  /-- CREDIT_REVOCATION_SETTLED (R256). -/
  | creditRevocationSettled (e : EpRef) (revoked : Nat) (consumed : Nat)
  /-- PACKET_CLAIM (R258). -/
  | packetClaim (e : EpRef)
  /-- OUT_HANDSHAKE (R266). -/
  | outHandshake (e : EpRef) (hs : Handshake)
  /-- NAK_LIMIT_REACHED (R218). -/
  | nakLimitReached (e : EpRef)
  /-- TRANSACTION_TIMEOUT (R220). -/
  | transactionTimeout (e : EpRef)
  /-- TRANSACTION_ERROR_RECEIVED (R220). -/
  | transactionErrorReceived (e : EpRef) (k : XactErr)
  /-- STALL_RECEIVED (R239). -/
  | stallReceived (e : EpRef)
  /-- BABBLE_DETECTED (R221). -/
  | babbleDetected (e : EpRef)
  /-- NRDY_RECEIVED (R228). -/
  | nrdyReceived (e : EpRef)
  /-- SPLIT_RESULT (R226). -/
  | splitResult (e : EpRef) (k : SplitRes)
  /-- SETUP_STAGE_COMPLETE (R238). -/
  | setupStageComplete (e : EpRef)
  /-- TOGGLE_SNOOP_RESET (R192). -/
  | toggleSnoopReset (sl : SlotRef)
  /-- GUEST_BUS_RESET (R331). -/
  | guestBusReset (p : Port)
  /-- GUEST_RESET_END (R331). -/
  | guestResetEnd (p : Port) (sp : Speed)
  /-- GUEST_SETUP_DELIVER (R325). -/
  | guestSetupDeliver (p : Port)
  /-- GUEST_IN_HANDSHAKE (R329). -/
  | guestInHandshake (p : Port) (ep : Fin 31) (acked : Bool)
  /-- GUEST_SUSPEND_DETECT (R332). -/
  | guestSuspendDetect (p : Port)
  /-- GUEST_RESUME_DETECT (R332). -/
  | guestResumeDetect (p : Port)
  /-- GUEST_HOST_GONE (R333). -/
  | guestHostGone (p : Port) (cause : GoneCause)
  /-- GUEST_SS_LINK_TIMEOUT (R315). -/
  | guestSsLinkTimeout (p : Port)
  /-- REGULATOR_SETTLED (R445). -/
  | regulatorSettled (mv : Nat)
  /-- ENGINE_SELF_TEST_DONE (R474). -/
  | engineSelfTestDone (pass : Bool)
  /-- UPDATE_IMAGE_CHECKED (R481). -/
  | updateImageChecked (image : List Byte) (fmtSame : Bool)
  /-- SELF_TEST_DONE (R485). -/
  | selfTestDone (op : TestOp) (pass : Bool) (ms : Nat)
  /-- POWER_ON (R571). -/
  | powerOn (vddIoHigh : Bool) (vm : VoutMode)
  /-- SUPPLY_MAIN_LOW (R570). -/
  | supplyMainLow (r : MainRail)
  /-- CONFIG_REQUEST (R46). -/
  | configRequest (f : Fnc) (q : CfgReq)
  /-- CONVENTIONAL_RESET (R118). -/
  | conventionalReset (k : LinkResetKind)
  /-- LINK_RETRAIN (R93). -/
  | linkRetrain (rate : Fin 8) (width : Fin 32)
  /-- FLR_VF (R116). -/
  | flrVf (v : Vf)
  /-- FLR_VF_COMPLETE (R607). -/
  | flrVfComplete (v : Vf)
  /-- MAX_PAYLOAD_SIZE_CHANGE (R121). -/
  | maxPayloadSizeChange (code : Fin 4)
  /-- FUNCTION_D0_ENTRY (R457). -/
  | functionD0Entry (f : Fnc)
  /-- JTAG_INSTRUCTION (R78). -/
  | jtagInstruction (k : JtagInstr)
  /-- LDR_PROD_WRITE (R52). -/
  | ldrProdWrite (w : Word)
  /-- LDR_RESTART (R51). -/
  | ldrRestart (w : Word)
  /-- LOADER_DESCRIPTOR_FETCHED (R51). -/
  | loaderDescriptorFetched (addr : BitVec 64) (len : Word) (tag : Word)
  /-- IMAGE_PIECE_RECEIVED (R65). -/
  | imagePieceReceived (bytes : List Byte)
  /-- LOADER_READ_ERROR (R53). -/
  | loaderReadError (e : ReadErr)
  /-- PERSIST_HOLD_EXPIRE (R72). -/
  | persistHoldExpire (p : Port)
  /-- SETUP_LOCK_WRITE (R75). -/
  | setupLockWrite (w : Word)
  /-- REGISTER_WRITE (R599). -/
  | registerWrite (off : BitVec 26) (w : Word)
  /-- VF_BAR0_WRITE (R100). -/
  | vfBar0Write (v : Vf) (off : BitVec 16) (w : Word)
  /-- MISALIGNED_ACCESS (R22). -/
  | misalignedAccess (a : RawAccess)
  /-- SLEEP_WORD_ACCESS (R24). -/
  | sleepWordAccess (a : WinAddr) (isWrite : Bool)
  /-- NUDGE (R166). -/
  | nudge (f : Fnc)
  /-- DOZE_EN_CLEAR (R164). -/
  | dozeEnClear (f : Fnc) (w : Word)
  /-- EVR_ENABLE_WRITE (R107). -/
  | evrEnableWrite (f : Fnc) (r : Evr) (w : Word)
  /-- MSIX_UNMASK (R108). -/
  | msixUnmask (f : Fnc) (vec : Vec)
  /-- FLT_STATUS_CLEAR (R517). -/
  | fltStatusClear (k : Fin 32) (w : Word)
  /-- FLT_WIRE_CLEAR (R506). -/
  | fltWireClear (k : Fin 32) (w : Word)
  /-- FLT_CNT_CLEAR (R517). -/
  | fltCntClear (n : Src) (w : Word)
  /-- SAFE_HOLD_CLEAR (R514). -/
  | safeHoldClear (w : Word)
  /-- FLT_PIN_HELD_CLEAR (R516). -/
  | fltPinHeldClear (w : Word)
  /-- FLT_PIN_FORCE (R516). -/
  | fltPinForce (w : Word)
  /-- INJ_FIRE_TAGGED (R528). -/
  | injFireTagged (w : Word)
  /-- INJ_FIRE_WIRE (R530). -/
  | injFireWire (w : Word)
  /-- PRT_SIEVE_LOST_CLEAR (R545). -/
  | prtSieveLostClear (p : Port) (w : Word)
  /-- TELE_TEMP_READ (R25). -/
  | teleTempRead (u : Fin 9)
  /-- PRT_FRAME_READ (R237). -/
  | prtFrameRead (p : Port)
  /-- TALLY_LO_READ (R551). -/
  | tallyLoRead (t : Tally)
  /-- ALM_DATA_READ (R560). -/
  | almDataRead (k : Fin 16)
  /-- HOT_RESET_TIMEOUT (R281). -/
  | hotResetTimeout (p : Port)
  /-- SUSPEND_QUIESCED (R291). -/
  | suspendQuiesced (p : Port)
  /-- SS_U3_ENTERED (R291). -/
  | ssU3Entered (p : Port)
  /-- RESUME_K_END (R293). -/
  | resumeKEnd (p : Port)
  /-- SS_RESUME_TIMEOUT (R293). -/
  | ssResumeTimeout (p : Port)
  /-- GUEST_WAKE_K_START (R335). -/
  | guestWakeKStart (p : Port)
  /-- GUEST_WAKE_K_END (R335). -/
  | guestWakeKEnd (p : Port)
  /-- RAKE_SWEEP (R160). -/
  | rakeSweep (f : Fnc) (rd : SweepReads)
  /-- RAKE_DOZE_ENTER (R164). -/
  | rakeDozeEnter (f : Fnc) (rd : SweepReads) (failed : Bool)
  /-- BELL_READ_ERROR (R91). -/
  | bellReadError (f : Fnc) (e : ReadErr)
  /-- EVR_CONS_READ (R149). -/
  | evrConsRead (f : Fnc) (r : Evr) (v : Word)
  /-- EVENT_RING_ROOM_RETURNS (R150). -/
  | eventRingRoomReturns (f : Fnc) (r : Evr)
  /-- DESCRIPTOR_FETCHED (R127). -/
  | descriptorFetched (rg : RingRef) (addr : BitVec 64) (d : Desc)
  /-- HOST_READ_ERROR (R91). -/
  | hostReadError (what : ReadFor) (e : ReadErr)
  /-- OUT_DATA_FETCHED (R265). -/
  | outDataFetched (e : EpRef) (bytes : List Byte)
  /-- CREDIT_GRANT (R253). -/
  | creditGrant (e : EpRef)
  /-- PEND_CLEAR (R202). -/
  | pendClear (e : EpRef)
  /-- MSIX_HOLDOFF_EXPIRE (R152). -/
  | msixHoldoffExpire (f : Fnc) (r : Evr)
  /-- MICROFRAME_START (R216). -/
  | microframeStart (p : Port)
  /-- WINDOW_BUILD (R206). -/
  | windowBuild (p : Port)
  /-- WINDOW_LOAD_POINT (R206). -/
  | windowLoadPoint (p : Port)
  /-- IN_PACKET_RECEIVED (R254). -/
  | inPacketReceived (e : EpRef) (tog : BitVec 5) (bytes : List Byte)
  /-- ERDY_RECEIVED (R228). -/
  | erdyReceived (e : EpRef)
  /-- SET_ADDRESS_RECOVERY_END (R174). -/
  | setAddressRecoveryEnd (sl : SlotRef)
  /-- ISO_STREAM_END (R235). -/
  | isoStreamEnd (e : EpRef)
  /-- ISO_COMMIT_DEADLINE (R244). -/
  | isoCommitDeadline (e : EpRef)
  /-- USB2_CONNECT_DEBOUNCE (R279). -/
  | usb2ConnectDebounce (p : Port) (low : Bool)
  /-- SS_TRAINING_U0 (R278). -/
  | ssTrainingU0 (p : Port) (gen2 : Bool)
  /-- SS_TRAINING_TIMEOUT (R283). -/
  | ssTrainingTimeout (p : Port)
  /-- USB2_DETACH (R285). -/
  | usb2Detach (p : Port)
  /-- SS_DETACH (R285). -/
  | ssDetach (p : Port)
  /-- REMOTE_WAKE_DETECTED (R294). -/
  | remoteWakeDetected (p : Port) (sd : Side)
  /-- L1_IDLE_EXPIRE (R289). -/
  | l1IdleExpire (p : Port)
  /-- LPM_ANSWER (R289). -/
  | lpmAnswer (p : Port) (a : LpmAns)
  /-- L1_EXIT (R289). -/
  | l1Exit (p : Port) (byDevice : Bool)
  /-- U_STATE_TIMER_EXPIRE (R290). -/
  | uStateTimerExpire (p : Port) (u2 : Bool)
  /-- SS_INACTIVE (R302). -/
  | ssInactive (p : Port)
  /-- PORT_BABBLE (R300). -/
  | portBabble (p : Port) (loss : Bool)
  /-- SS_RECOVERY_ENTRY (R300). -/
  | ssRecoveryEntry (p : Port)
  /-- GUEST_PRESENT (R315). -/
  | guestPresent (p : Port)
  /-- GUEST_SETUP_RECEIVED (R325). -/
  | guestSetupReceived (p : Port) (pkt : BitVec 64)
  /-- GUEST_TOKEN (R319). -/
  | guestToken (p : Port) (ep : Fin 31) (k : TokenKind)
  /-- GUEST_OUT_PACKET (R328). -/
  | guestOutPacket (p : Port) (ep : Fin 31) (tog : BitVec 5) (bytes : List Byte)
  /-- CC_TERMINATION_CHANGE (R345). -/
  | ccTerminationChange (p : Port) (cc1 : CcSee) (cc2 : CcSee)
  /-- CC_ATTACH_DEBOUNCE (R346). -/
  | ccAttachDebounce (p : Port)
  /-- CC_DETACH_DEBOUNCE (R349). -/
  | ccDetachDebounce (p : Port)
  /-- VBUS_SINK_DISCONNECT (R349). -/
  | vbusSinkDisconnect (p : Port)
  /-- DRP_PERIOD_EXPIRE (R347). -/
  | drpPeriodExpire (p : Port)
  /-- TRY_TIMER_EXPIRE (R348). -/
  | tryTimerExpire (p : Port)
  /-- ERROR_RECOVERY_EXPIRE (R346). -/
  | errorRecoveryExpire (p : Port)
  /-- MOISTURE_READING_START (R370). -/
  | moistureReadingStart (p : Port)
  /-- MOISTURE_READING_DONE (R371). -/
  | moistureReadingDone (p : Port) (m : MoistReading)
  /-- VCONN_OC_TRIP (R353). -/
  | vconnOcTrip (p : Port)
  /-- VCONN_SHORT_TRIP (R353). -/
  | vconnShortTrip (p : Port)
  /-- PD_MESSAGE_RECEIVED (R378). -/
  | pdMessageReceived (p : Port) (m : PdRx)
  /-- FLOOD_BUCKET_ROLL (R366). -/
  | floodBucketRoll (p : Port)
  /-- QUARANTINE_RELEASE_EXPIRE (R369). -/
  | quarantineReleaseExpire (p : Port)
  /-- CC_LINE_IDLE (R362). -/
  | ccLineIdle (p : Port)
  /-- CC_IDLE_TIMEOUT (R362). -/
  | ccIdleTimeout (p : Port)
  /-- CC_COLLISION (R362). -/
  | ccCollision (p : Port)
  /-- SINKTX_WAIT_EXPIRE (R363). -/
  | sinktxWaitExpire (p : Port)
  /-- GOODCRC_RECEIVED (R379). -/
  | goodcrcReceived (p : Port) (sop : Sop) (id : BitVec 3)
  /-- DR_SWAP_ACCEPT_ACKED (R396). -/
  | drSwapAcceptAcked (p : Port)
  /-- TRECEIVE_EXPIRE (R379). -/
  | treceiveExpire (p : Port)
  /-- SOURCE_CAPS_RECEIVED (R391). -/
  | sourceCapsReceived (p : Port) (epr : Bool) (objs : List Word)
  /-- REQUEST_RECEIVED (R384). -/
  | requestReceived (p : Port) (rdo : Word)
  /-- WAIT_RECEIVED (R392). -/
  | waitReceived (p : Port)
  /-- PS_RDY_RECEIVED (R396). -/
  | psRdyReceived (p : Port)
  /-- SWAP_REQUEST_RECEIVED (R394). -/
  | swapRequestReceived (p : Port) (k : SwapKind)
  /-- EPR_MODE_RECEIVED (R387). -/
  | eprModeReceived (p : Port) (k : EprMode)
  /-- EPR_KEEPALIVE_RECEIVED (R390). -/
  | eprKeepaliveReceived (p : Port)
  /-- SOFT_RESET_RECEIVED (R400). -/
  | softResetReceived (p : Port) (sop : Sop)
  /-- HARD_RESET_RECEIVED (R399). -/
  | hardResetReceived (p : Port)
  /-- HARD_RESET_SOURCE_OFF (R399). -/
  | hardResetSourceOff (p : Port)
  /-- SRC_RECOVER_EXPIRE (R399). -/
  | srcRecoverExpire (p : Port)
  /-- ALERT_RECEIVED (R403). -/
  | alertReceived (p : Port) (ado : Word)
  /-- GET_STATUS_RECEIVED (R402). -/
  | getStatusReceived (p : Port)
  /-- VDM_RECEIVED (R404). -/
  | vdmReceived (p : Port) (sop : Sop) (hdr : Word) (vdos : List Word)
  /-- NOT_SUPPORTED_RECEIVED (R374). -/
  | notSupportedReceived (p : Port) (sop : Sop) (ty : BitVec 5)
  /-- PD_RESPONSE_RECEIVED (R409). -/
  | pdResponseReceived (p : Port) (r : PdResp)
  /-- SRC_TRANSITION_EXPIRE (R385). -/
  | srcTransitionExpire (p : Port)
  /-- WAIT_HOLD_EXPIRE (R386). -/
  | waitHoldExpire (p : Port)
  /-- SNK_WAIT_EXPIRE (R392). -/
  | snkWaitExpire (p : Port)
  /-- PPS_TIMEOUT (R390). -/
  | ppsTimeout (p : Port)
  /-- EPR_KEEPALIVE_TIMEOUT (R390). -/
  | eprKeepaliveTimeout (p : Port)
  /-- SINK_REFRESH_TIMER (R390). -/
  | sinkRefreshTimer (p : Port)
  /-- SENDER_RESPONSE_TIMEOUT (R409). -/
  | senderResponseTimeout (p : Port)
  /-- HARD_RESET_COUNT_EXHAUSTED (R399). -/
  | hardResetCountExhausted (p : Port)
  /-- CABLE_DISCOVERY_TIMER (R406). -/
  | cableDiscoveryTimer (p : Port)
  /-- SEND_SOURCE_CAP_TIMER (R406). -/
  | sendSourceCapTimer (p : Port)
  /-- OFFER_CHANGE (R383). -/
  | offerChange (p : Port)
  /-- SWAP_RETRY_TIMER (R409). -/
  | swapRetryTimer (p : Port)
  /-- TRELLIS_HELLO_RECEIVED (R407). -/
  | trellisHelloReceived (p : Port) (vdo1 : Word) (vdo2 : Word)
  /-- TRELLIS_TIMEOUT (R407). -/
  | trellisTimeout (p : Port)
  /-- BRIDGE_POLL (R360). -/
  | bridgePoll (p : Port) (txProd : Word) (rxCons : Word) (tx : List Byte)
  /-- UART_BYTE_RECEIVED (R360). -/
  | uartByteReceived (p : Port) (b : Byte) (bad : Bool)
  /-- UART_BYTE_SENT (R360). -/
  | uartByteSent (p : Port)
  /-- PATH_ORDER (R428). -/
  | pathOrder (p : Port) (o : PathOrder)
  /-- RAMP_COMPLETE (R424). -/
  | rampComplete (p : Port)
  /-- OC_TIMER_START (R430). -/
  | ocTimerStart (p : Port)
  /-- OC_TIMER_EXPIRE (R423). -/
  | ocTimerExpire (p : Port)
  /-- OC_TIMER_RESET (R423). -/
  | ocTimerReset (p : Port)
  /-- SHORT_CIRCUIT (R423). -/
  | shortCircuit (p : Port)
  /-- RAMP_TIMEOUT (R423). -/
  | rampTimeout (p : Port)
  /-- OVER_VOLTAGE (R423). -/
  | overVoltage (p : Port)
  /-- REVERSE_CURRENT (R423). -/
  | reverseCurrent (p : Port)
  /-- GATE_OFF_CONFIRMED (R424). -/
  | gateOffConfirmed (p : Port)
  /-- COOL_EXPIRE (R425). -/
  | coolExpire (p : Port)
  /-- ON_STABLE_EXPIRE (R426). -/
  | onStableExpire (p : Port)
  /-- FB_TRIM_TICK (R421). -/
  | fbTrimTick (p : Port)
  /-- POWER_GOOD_ASSERT (R429). -/
  | powerGoodAssert (p : Port)
  /-- PPS_CURRENT_LIMIT (R389). -/
  | ppsCurrentLimit (p : Port) (ma : Nat)
  /-- VBUS_SAFE0V_REACHED (R395). -/
  | vbusSafe0vReached (p : Port)
  /-- EARLYWARN_ENTRY (R436). -/
  | earlywarnEntry (b : Bed) (ch : Fin 2)
  /-- SHED_NEXT (R437). -/
  | shedNext (b : Bed)
  /-- EARLYWARN_RESTORE_EXPIRE (R438). -/
  | earlywarnRestoreExpire (b : Bed)
  /-- TEMPO_SAMPLE (R449). -/
  | tempoSample (idx : BitVec 16)
  /-- SUNDIAL_CHECK (R452). -/
  | sundialCheck (second : BitVec 16)
  /-- REGULATOR_POLL (R455). -/
  | regulatorPoll (rd : Option Nat)
  /-- WAKE_CAUSE (R457). -/
  | wakeCause (c : WakeCause)
  /-- ROTATION_COPY_DONE (R473). -/
  | rotationCopyDone (pauseUs : Nat)
  /-- CODE_PAGE_REPAIR (R477). -/
  | codePageRepair (t : Tender) (peerOk : Bool)
  /-- THREAD_RESTART (R478). -/
  | threadRestart (t : Tender) (engineLost : Bool)
  /-- BED_TEST_IDLE (R485). -/
  | bedTestIdle (b : Bed)
  /-- GRAFT_RUN_EXPIRE (R492). -/
  | graftRunExpire (g : Fin 8) (hk : Nat)
  /-- GRAFT_SERVICE_CALL (R491). -/
  | graftServiceCall (g : Fin 8) (c : GraftCall)
  /-- GRAFT_TIMER_EXPIRE (R491). -/
  | graftTimerExpire (g : Fin 8) (p : Port)
  /-- DISPATCHER_SOURCE_ASSERT (R496). -/
  | dispatcherSourceAssert (n : Dsp) (entering : Option Proc)
  /-- DISPATCHER_CLAIM (R496). -/
  | dispatcherClaim (pr : Proc)
  /-- DISPATCHER_EOI (R497). -/
  | dispatcherEoi (pr : Proc) (n : BitVec 12) (stillHigh : Bool) (seenHigh : Bool)
  /-- HOLDOFF_TIMER_EXPIRE (R502). -/
  | holdoffTimerExpire (g : Fin 256)
  /-- DISPATCHER_STACK_MISMATCH (R498). -/
  | dispatcherStackMismatch (pr : Proc)
  /-- FAULT_LINE_RAISED (R505). -/
  | faultLineRaised (r : FaultRep)
  /-- FAULT_LINE_BROKEN (R504). -/
  | faultLineBroken (n : Src) (v : Bool)
  /-- FAULT_LINE_QUIET (R505). -/
  | faultLineQuiet (n : Src)
  /-- PORT_HOLD_DONE (R509). -/
  | portHoldDone (p : Port)
  /-- BED_RESTART_DONE (R510). -/
  | bedRestartDone (b : Bed)
  /-- BED_ISOLATE_DONE (R510). -/
  | bedIsolateDone (b : Bed)
  /-- CONTEXT_REBUILD_DONE (R203). -/
  | contextRebuildDone (e : EpRef) (found : CopyFound)
  /-- SRAM_ECC_ERROR (R29). -/
  | sramEccError (a : Array2) (unit : Nat) (double : Bool)
  /-- TROUGH_WORD_REBUILD (R523). -/
  | troughWordRebuild (k : Bank)
  /-- TROUGH_BANK_RETIRE (R523). -/
  | troughBankRetire (k : Bank) (lost : Bool)
  /-- MARCH_DONE (R532). -/
  | marchDone (pass : Bool)
  /-- ADC_CAL_TIMER (R531). -/
  | adcCalTimer (b : Bed)
  /-- EFUSE_TEST_PULSE (R521). -/
  | efuseTestPulse (p : Port) (agree : Bool)
  /-- COLD_FRAME_WATCH_TEST (R521). -/
  | coldFrameWatchTest (seen : Bool)
  /-- FABRIC_CHECK_FAIL (R41). -/
  | fabricCheckFail (w : HopWord)
  /-- FABRIC_HANDSHAKE_TIMEOUT (R41). -/
  | fabricHandshakeTimeout (hop : Nat)
  /-- LANE_FAIL (R39). -/
  | laneFail (b : Bed) (lane : Nat)
  /-- RING_ENGINE_LOST (R40). -/
  | ringEngineLost (k : Fin 16)
  /-- THERMAL_WARNING (R518). -/
  | thermalWarning (die : Fin 9)
  /-- THERMAL_SHUTDOWN (R519). -/
  | thermalShutdown (die : Fin 9)
  /-- THERMAL_COOLED (R519). -/
  | thermalCooled (die : Fin 9)
  /-- SIEVE_PACKET_BEGIN (R539). -/
  | sievePacketBegin (p : Port)
  /-- SIEVE_PACKET_END (R539). -/
  | sievePacketEnd (p : Port) (r : CapPacket)
  /-- SIEVE_POINTER_MISMATCH (R543). -/
  | sievePointerMismatch (p : Port)
  /-- EXPORTER_POLL (R547). -/
  | exporterPoll (p : Port) (cons : Word)
  /-- SMBUS_ALMANAC_SELECT (R561). -/
  | smbusAlmanacSelect (w : BitVec 16)
  /-- SMBUS_TELEMETRY_SELECT (R561). -/
  | smbusTelemetrySelect (pg : Byte)
  /-- PTM_RESPONSE (R553). -/
  | ptmResponse (hostTime : BitVec 64)
  /-- TELEMETRY_REFRESH (R562). -/
  | telemetryRefresh (t : TeleSample)
  /-- PS_TRANSITION_TIMEOUT (R376). -/
  | psTransitionTimeout (p : Port) (k : PdTimer)
  /-- U1_U2_ENTRY_REQUEST (R290). -/
  | u1U2EntryRequest (p : Port) (u2 : Bool)
  /-- DEVICE_NOTIFICATION_RECEIVED (R294). -/
  | deviceNotificationReceived (p : Port) (k : DevNotif)
  /-- SUPPLY_MAIN_RECOVERED (R570). -/
  | supplyMainRecovered
  /-- VDD_HV_LOW (R570). -/
  | vddHvLow
  /-- VDD_HV_RETURN (R570). -/
  | vddHvReturn
  /-- VCONN_IN_LOW (R570). -/
  | vconnInLow
  /-- RETENTION_LOST (R462). -/
  | retentionLost
  /-- PERST_ASSERT (R45). -/
  | perstAssert
  /-- PERST_RELEASE (R46). -/
  | perstRelease
  /-- SRAM_WIPE_COMPLETE (R45). -/
  | sramWipeComplete
  /-- CONFIG_SPACE_READY (R46). -/
  | configSpaceReady
  /-- LINK_RECOVERY (R117). -/
  | linkRecovery
  /-- FLR_PF (R74). -/
  | flrPf
  /-- VF_ENABLE_SET (R104). -/
  | vfEnableSet
  /-- VF_ENABLE_CLEAR (R104). -/
  | vfEnableClear
  /-- REFCLK25_LOST (R576). -/
  | refclk25Lost
  /-- IMAGE_CHECK_DONE (R58). -/
  | imageCheckDone
  /-- KEEPER_CONFIG_CHECK (R61). -/
  | keeperConfigCheck
  /-- TENDER_STARTUP_DONE (R65). -/
  | tenderStartupDone
  /-- SOWING_COMPLETE (R65). -/
  | sowingComplete
  /-- TEMPO_STATUS_READ (R25). -/
  | tempoStatusRead
  /-- LIFECYCLE_COMMIT_DONE (R83). -/
  | lifecycleCommitDone
  /-- RESTORE_NEXT (R438). -/
  | restoreNext
  /-- TEMPO_RECOVERED_EXPIRE (R450). -/
  | tempoRecoveredExpire
  /-- REGULATOR_SETTLE_TIMEOUT (R445). -/
  | regulatorSettleTimeout
  /-- MODE_WINDOWS_DRAINED (R446). -/
  | modeWindowsDrained
  /-- AUTO_RAISE_TIMER (R454). -/
  | autoRaiseTimer
  /-- DROWSE_IDLE_EXPIRE (R456). -/
  | drowseIdleExpire
  /-- DORMANT_IDLE_EXPIRE (R456). -/
  | dormantIdleExpire
  /-- DORMANT_ENTRY_COMPLETE (R458). -/
  | dormantEntryComplete
  /-- DORMANT_EXIT_COMPLETE (R458). -/
  | dormantExitComplete
  /-- BROWN_OUT (R461). -/
  | brownOut
  /-- ROTATION_TIMER (R472). -/
  | rotationTimer
  /-- SPARE_REFILL_DONE (R473). -/
  | spareRefillDone
  /-- KEEPER_MEMORY_REWRITE (R479). -/
  | keeperMemoryRewrite
  /-- KEEPER_DIVERGENCE (R522). -/
  | keeperDivergence
  /-- KEEPER_SWAP (R483). -/
  | keeperSwap
  /-- KEEPER_READY (R483). -/
  | keeperReady
  /-- KEEPER_READY_TIMEOUT (R483). -/
  | keeperReadyTimeout
  /-- UPDATE_ABANDON_DONE (R484). -/
  | updateAbandonDone
  /-- BED_TEST_DEADLINE (R485). -/
  | bedTestDeadline
  /-- COLLECTOR_MISMATCH (R520). -/
  | collectorMismatch
  /-- COLLECTOR_REBUILD_DONE (R520). -/
  | collectorRebuildDone
  /-- FAULT_N_PULSE_END (R516). -/
  | faultNPulseEnd
  /-- SCRUB_TICK (R30). -/
  | scrubTick
  /-- BANK_REBUILD_DONE (R523). -/
  | bankRebuildDone
  /-- MARCH_TIMER (R532). -/
  | marchTimer
  /-- FALLOW_MOVE_DONE (R532). -/
  | fallowMoveDone
  /-- KEEPER_SELF_CHECK (R531). -/
  | keeperSelfCheck
  /-- SMBUS_IDENTITY (R561). -/
  | smbusIdentity
  /-- SMBUS_STATUS (R561). -/
  | smbusStatus
  /-- SMBUS_ALMANAC_INFO (R561). -/
  | smbusAlmanacInfo
  /-- SMBUS_ALMANAC_READ (R561). -/
  | smbusAlmanacRead
  /-- SMBUS_TELEMETRY_READ (R563). -/
  | smbusTelemetryRead
  /-- SMBUS_ALERT_RESPONSE (R561). -/
  | smbusAlertResponse
  /-- PTM_DIALOGUE (R553). -/
  | ptmDialogue
  /-- REFCLK25_RESTORED (R576). -/
  | refclk25Restored
  deriving DecidableEq, Repr

end Sys2Proof
end

