-- ==== Sys2Proof/Config.lean ====
section
/-! DEFINITION. What an implementation fixes: its sizes, and the free values, of which nothing is known (see notes/assumptions/3.md). None has a body. -/

namespace Sys2Proof.Config

/-- CRC-32 of an almanac record's bytes 0x00 – 0x33 (16 R555). -/
opaque crc32 : List Byte → BitVec 32
/-- The nonce of the n-th draw (02, LC_NONCE: "random"). -/
opaque nonce : Nat → BitVec 128
/-- The n-th fresh bit: the outcome of an arbiter of which the manual makes no promise (07 R255). -/
opaque freeBit : Nat → Bool
/-- The n-th fresh number below a bound that the user of it applies (10 R347; 05 R172). -/
opaque freeNat : Nat → Nat

/-- The objects that a customer's graft gives in its n-th answer (14 R490). -/
opaque graftObjs : Nat → List Nat
/-- At a tie, whether the rounded quotient is the upper one (16 R567). -/
opaque tieUp : Int → Int → Bool
/-- What firmware gives a dispatcher source: priority [3:0], target mask [14:4], hold-off group [22:15] (14 R494). -/
opaque dspSetup : Nat → Nat
/-- The timer that firmware gives a hold-off group, in µs (14 R502). -/
opaque holdoffLen : Nat → Nat

/-- Trough capacity the working pool gives, in bytes (03 R106). -/
def workingPool : Nat := 24 * 1048576
/-- Trough capacity that the part keeps for its own use beside the working pool, in bytes (03 R106). -/
def keptSpace : Nat := 7 * 1048576
/-- Largest Wenuimo image (02 R57). -/
def imageMax : Nat := 16 * 1048576
/-- Slot records of the part (05 R169). -/
def slotPool : Nat := 16384
/-- Contexts of the part (05 R169). -/
def contextPool : Nat := 262144
/-- Guest function records of the part (05 R169). -/
def guestPool : Nat := 128
/-- Commands of one function in progress at once (04 R139). -/
def commandsInProgress : Nat := 32

end Sys2Proof.Config
end

