-- ==== Sys2Proof/Machine/State.lean ====
section
/-! DEFINITION. The state of the block as plain data: every register, queue, buffer, counter, mode and pin the manual
gives it (INVENTORY.md, ## State), the queue of waiting commands, and State.reset. -/

namespace Sys2Proof.Machine

open Sys2Proof

/-- A sparse table: keys strictly rising, no entry at the value an unlisted key reads as. -/
abbrev Tbl (α : Type) := List (Nat × α)

/-- Reasons a step stops. No command of the table stops the block, so only the idle state of a lost part is named. -/
inductive Fault
  /-- Raised by nothing: the block's commands all answer a next state (safe). -/
  | none
  deriving DecidableEq, Repr

/-- Reasons a command has no meaning. -/
inductive Refusal
  /-- Raised by an arm of exec whose command has no meaning yet (safe). -/
  | notModelled (mnemonic : String)
  deriving DecidableEq, Repr

/-! ### What the part sends on its interfaces -/

/-- An event record before its position is known (04 R142): DETAIL as a whole, GEN added when it is written. -/
structure EvRec where
  ty : Nat
  ptr : Nat := 0
  count : Nat := 0
  code : Nat := 0
  cookie : Nat := 0
  time : Nat := 0
  detail : Nat := 0
  ep : Nat := 0
  src : Nat := 0
  deriving DecidableEq, Repr

/-- Happenings on the CC wire the part causes (10, 11). -/
inductive CcOut
  | goodCrc (sop : Sop) (id : Nat) | msg (sop : Sop) (id : Nat) (ty : Nat) (ext : Bool) (objs : List Nat) | hardReset
  deriving DecidableEq, Repr

/-- Where a token of the part as host goes: the USB address of the device (05 R174), the endpoint index, and the stream (06 R229). -/
structure BusTok where
  dev : Nat
  ep : Nat
  stream : Nat := 0
  deriving DecidableEq, Repr
/-- Marks of an isochronous OUT start-split (06 R224); `none` on every other start-split. -/
inductive SplitMark | none | all | begin | mid | fin
  deriving DecidableEq, Repr
/-- Happenings on a USB side the part causes (06, 08, 09). `in_` is an IN token, on SuperSpeed the ACK TP with the sequence number awaited and
NumP (07 R254); `out` an OUT token and `data` its packet with the data PID (0 DATA0, 1 DATA1, 2 DATA2, 3 MDATA) or the sequence number. -/
inductive HostTok
  | in_ (seq numP : Nat) | out | setup | data (pid : Nat) (bytes : List Byte) | ping | ssPing | startSplit (m : SplitMark) (bytes : List Byte)
  | completeSplit | ack (seq numP : Nat) | retry (seq numP : Nat)
  deriving DecidableEq, Repr
inductive BusOut
  | reset (warm : Bool) | hotReset | resumeK | lfpsExit | lpm (besl : Nat) (wake : Bool) | sof (n : Nat) | keepAlive | itp (n : Nat)
  /-- A token, packet or handshake of the part as host. -/
  | host (t : BusTok) (x : HostTok)
  | ack (ep : Nat) | ackRetry (ep : Nat) | nak (ep : Nat) | nyet (ep : Nat) | nrdy (ep : Nat) | erdy (ep : Nat) | stall (ep : Nat) | data (ep : Nat) (tog : Nat) (bytes : List Byte)
  | lpmAck | lpmNyet | uEntry (u2 : Bool) | uAccept (u2 : Bool) | uReject | u3 | functionWake (iface : Nat) | test (sel : Nat)
  | streamReject (t : BusTok)
  deriving DecidableEq, Repr

/-- One thing the part sent or signalled. -/
inductive Out
  /-- An event record written to a ring at a position, with its GEN (04 R145). -/
  | record (f r pos : Nat) (gen : Bool) (e : EvRec)
  /-- An MSI-X message (03 R108). -/
  | msix (f vec : Nat)
  /-- A write to host memory under a function's routing ID (03 R110); like a record and a message, without Relaxed Ordering (03 R89). -/
  | hostWrite (f addr : Nat) (bytes : List Byte)
  /-- A write that carries USB data, and whether it has Relaxed Ordering (03 R89). -/
  | dataWrite (f addr : Nat) (ro : Bool) (bytes : List Byte)
  /-- A read completion of a register access. -/
  | readData (w : Nat)
  /-- A configuration completion; none is Configuration Request Retry Status (02 R46). -/
  | cfgData (w : Option Nat)
  | cc (p : Nat) (m : CcOut)
  | bus (p : Nat) (sd : Side) (b : BusOut)
  /-- A byte on the UART of the bridge (10 R357); `onSbu1` says which SBU pin carries it. -/
  | uart (p : Nat) (onSbu1 : Bool) (b : Byte)
  /-- VOUT_COMMAND over PMBus, in mV (13 R445). -/
  | vout (mv : Nat)
  | smbus (bytes : List Byte)
  | ptmRequest
  | pme (f : Nat)
  deriving DecidableEq, Repr

/-! ### OTP, supplies, boot -/

/-- Lifecycle states, coded 1 – 3 in LDR_STATUS (02 R78). -/
inductive Life | seedling | planted | uprooted
  deriving DecidableEq, Repr
/-- Kinds of lifecycle token (02 R79). -/
inductive LcKind | plant | uproot | ret | revoke | raiseFloor
  deriving DecidableEq, Repr
/-- The pending mark of R83: the token's KIND and its target. -/
structure LcMark where
  kind : LcKind
  hashes : List (BitVec 384) := []
  vendor : Bool := false
  target : Nat := 0
  deriving DecidableEq, Repr
/-- One calibration value pair of current or VBUS (16 R565, R567). -/
structure CalPair where
  gain : Int := 0
  offset : Int := 0
  deriving DecidableEq, Repr
/-- Factory calibration of a port (16 R564). -/
structure Cal where
  i : CalPair := {}
  v : CalPair := {}
  deriving DecidableEq, Repr
/-- The OTP banks (01 R27; 02 R79, R86). Enrolled customer hashes stand in slot order. -/
structure Otp where
  life : Life := .seedling
  uid : BitVec 128 := 0
  gradeE : Bool := false
  floor : Nat := 0
  vendHash : List (BitVec 384) := [0, 0, 0, 0]
  vendRevoked : BitVec 4 := 0
  custHash : List (BitVec 384) := []
  custRevoked : BitVec 8 := 0
  mark : Option LcMark := none
  cal : Tbl Cal := []
  deriving DecidableEq, Repr

/-- Supplies, pins and clocks (17 R568 – R576). -/
structure Supply where
  low : List MainRail := []
  hvLow : Bool := false
  vddIoHigh : Bool := false
  voutLinear : Bool := true
  perst : Bool := true
  wiping : Bool := true
  cfgReady : Bool := false
  refclk : Bool := true
  wakeN : Bool := false
  tap : JtagInstr := .idcode
  deriving DecidableEq, Repr

/-- SOW_STATE, coded 0 – 6 (02). -/
inductive SowState | awaiting | receiving | checking | starting | served | refused | uprooted
  deriving DecidableEq, Repr

/-- A graft entry of the customer header (02 R56). -/
structure GraftEntry where
  offset : Nat
  length : Nat
  id : Nat
  hash : BitVec 384
  deriving DecidableEq, Repr

/-- What the part keeps of an image: its bytes are in the parts named (02 R55, R56; 14 R481). -/
structure ImageInfo where
  fwVersion : Nat
  svn : Nat
  cfgHash : BitVec 384
  cfg : List Byte
  grafts : List GraftEntry
  graftHdrs : List (List Byte)
  deriving DecidableEq, Repr

/-- PDO types of a held contract (02 R71). -/
inductive PdoKind | fixed | pps | avs
  deriving DecidableEq, Repr
/-- A contract held under power-persist (02 R71), kept by the cold frame. -/
structure Held where
  mv : Nat
  ma : Nat
  kind : PdoKind
  typec : Bool
  deriving DecidableEq, Repr

/-- The POWER_PERSIST setting (02 R68). -/
structure Persist where
  enable : Bool := false
  hold : Nat := 20
  mask : BitVec 128 := 0
  deriving DecidableEq, Repr

/-- The loader and the boot ROM (02 R51 – R61). -/
structure Boot where
  st : SowState := .awaiting
  refusal : Nat := 0
  cons : Nat := 0
  img : List Byte := []
  gotLast : Bool := false
  piece : Option (Nat × Bool) := none
  nonceDraw : Nat := 0
  persist : Persist := {}
  persistCopy : Persist := {}
  held : Tbl Held := []
  persistEnds : List (Nat × Nat) := []
  checked : Option ImageInfo := none
  running : Option ImageInfo := none
  deriving DecidableEq, Repr

/-! ### The upstream port -/

/-- The configuration-space fields of one function the part acts on (03 R87 – R96, R107). -/
structure FnCfg where
  memEn : Bool := false
  mrrs : Nat := 2
  d3 : Bool := false
  pmeEn : Bool := false
  relaxed : Bool := true
  ctoValue : Nat := 0
  msixEn : Bool := false
  msixMask : Bool := false
  aerUncor : Word := 0
  aerCor : Word := 0
  deriving DecidableEq, Repr
/-- One MSI-X vector: message, Mask bit, PBA bit (03 R101, R108). -/
structure MsixVec where
  addr : Nat := 0
  data : Nat := 0
  mask : Bool := true
  pba : Bool := false
  deriving DecidableEq, Repr
/-- The link, SR-IOV and the functions' configuration (03). -/
structure Pcie where
  rate : Nat := 6
  width : Nat := 16
  vfEn : Bool := false
  numVfs : Nat := 0
  ari : Bool := false
  mps : Nat := 0
  ptmEn : Bool := false
  /-- The base addresses of BAR0, BAR2, VF BAR0 and VF BAR2, and VF Memory Space Enable (03 R94, R97). -/
  bar0 : Nat := 0
  bar2 : Nat := 0
  vfBar0 : Nat := 0
  vfBar2 : Nat := 0
  vfMemEn : Bool := false
  fns : Tbl FnCfg := []
  msix : Tbl MsixVec := []
  flr : List Nat := []
  deriving DecidableEq, Repr

/-! ### Rings and the rake -/

/-- The rake's visit state of a function (04 R164, R166; 03 R607). -/
inductive Doze | sweeping | dozing | afterFlr
  deriving DecidableEq, Repr
/-- Run state of an event ring (04 R147 – R152): W, C, the hold-off timer, the pending mark, and records of happenings
that wait for room. -/
structure EvRing where
  w : Nat := 0
  c : Nat := 0
  timer : Bool := false
  mark : Bool := false
  wait : List EvRec := []
  deriving DecidableEq, Repr
/-- A ring cursor: the address, lap generation and count of a position, the position's place in its segment and the
segment's length in positions (04 R124 – R126). -/
structure Cursor where
  addr : Nat := 0
  gen : Bool := true
  count : Nat := 0
  pos : Nat := 0
  len : Nat := 128
  deriving DecidableEq, Repr
/-- A function's rake and command ring (04). -/
structure FnRun where
  grand : Nat := 0
  groups : Tbl Nat := []
  bells : Tbl Nat := []
  prods : Tbl Nat := []
  idle : Nat := 0
  doze : Doze := .sweeping
  cur : Cursor := {}
  curSet : Bool := false
  prod : Nat := 0
  stopped : Bool := false
  evrs : Tbl EvRing := []
  deriving DecidableEq, Repr

/-! ### Slots and endpoints -/

/-- Slot states, coded 0 – 3 (05 R173). -/
inductive SlotSt | free | dflt | addressed | configured
  deriving DecidableEq, Repr
/-- A slot record (05 R173), its tree mark (08 R297) and the SetAddress recovery of R174. -/
structure Slot where
  st : SlotSt := .free
  gone : Bool := false
  noSnoop : Bool := false
  speed : Nat := 0
  isHub : Bool := false
  port : Nat := 0
  multiTt : Bool := false
  address : Nat := 0
  hubPorts : Nat := 0
  route : Nat := 0
  ttPort : Nat := 0
  ctxCount : Nat := 0
  ttHub : Nat := 0
  ctxBase : Nat := 0
  seq : Nat := 0
  tree : Bool := false
  recovery : Bool := false
  deriving DecidableEq, Repr

/-- Endpoint states, coded 0 – 5 (05 R177). -/
inductive EpSt | closed | idle | running | paused | halted | faulted
  deriving DecidableEq, Repr
/-- How far a transfer has been read (04 R133): whether it goes on, its DATA_STAGE (4 before a SETUP), the control stage
reached (0 none, 1 SETUP, 2 DATA, 3 STATUS), its descriptors and bytes; `ans`: an answer transfer stands next (09 R324). -/
structure RdSt where
  chain : Bool := false
  data : Nat := 4
  stage : Nat := 0
  count : Nat := 0
  bytes : Nat := 0
  ans : Bool := false
  deriving DecidableEq, Repr
/-- A validated descriptor of a ring (04 R131), the cursor after it (past the LINKs that follow) and the reading state after it. -/
structure Td where
  addr : Nat
  buf : Nat
  len : Nat
  cookie : Nat
  param : Nat
  chain : Bool
  eoc : Bool
  eos : Bool
  imm : Bool
  ty : Nat
  flags : Nat
  next : Cursor
  rd : RdSt
  /-- The first bus interval whose window had not passed its load point when the position was covered and read (06 R233), in the count of
  microframes since the bus started. -/
  from_ : Nat := 0
  deriving DecidableEq, Repr
/-- A covered position that broke a rule or whose read failed (04 R610, second row). -/
structure BadPos where
  addr : Nat
  code : Nat
  count : Nat := 0
  cookie : Nat := 0
  deriving DecidableEq, Repr
/-- A credit of the bed (07 R253): its serial and the toggle or sequence number the packet must carry. -/
structure Credit where
  serial : Nat
  tog : Nat
  covered : Bool
  deriving DecidableEq, Repr
/-- A credit ledger (07 R257): the serials granted, consumed and revoked so far. -/
structure Ledger where
  granted : Nat := 0
  consumed : Nat := 0
  revoked : Nat := 0
  deriving DecidableEq, Repr
/-- Why a revocation runs (07 R256, R258). -/
inductive RevWhy | pause (h : CmdHdr) (opcode : Nat) | snoop | reset | detach | halt | hold
  deriving DecidableEq, Repr
/-- A copy of a ring position fetched beyond the producer index (07 R251). -/
structure Ahead where
  addr : Nat
  d : Desc
  deriving DecidableEq, Repr
/-- An endpoint context or stream context (05 R177), and what the part keeps beside it. -/
structure Ep where
  st : EpSt := .closed
  /-- Root port, and whether the endpoint is a guest function's. -/
  port : Nat := 0
  guest : Bool := false
  cur : Cursor := {}
  toggle : Bool := false
  seq : Nat := 0
  commit : Nat := 0
  done : Nat := 0
  ty : Nat := 0
  xactErr : Nat := 0
  splitErr : Nat := 0
  babble : Nat := 0
  mps : Nat := 0
  burst : Nat := 0
  mult : Nat := 0
  interval : Nat := 0
  retry : Nat := 3
  streams : Bool := false
  stLog : Nat := 0
  base : Nat := 0
  pend : Bool := false
  skip : Bool := false
  evr : Nat := 0
  iface : Nat := 0
  /-- Place in the plan (06 R214), microframe Y in each frame of the plan (06 R223, R609) and order of admission of a periodic endpoint. -/
  phase : Nat := 0
  ys : List Nat := []
  admitNo : Nat := 0
  prod : Nat := 0
  fetch : Cursor := {}
  tds : List Td := []
  ahead : List Ahead := []
  /-- The reading state at the fetch position and at DEQ. -/
  rd : RdSt := {}
  curRd : RdSt := {}
  bad : Option BadPos := none
  /-- Bytes the transfer's descriptors before the one at DEQ moved (04 R135). -/
  moved : Nat := 0
  /-- A SHORT-PACKET record owed when the last descriptor retires: its POINTER, COUNT and COOKIE (04 R134). -/
  owed : Option (Nat × Nat × Nat) := none
  pkts : List (List Byte) := []
  credits : List Credit := []
  /-- The two copies of the credit ledger (07 R257). -/
  led : Ledger := {}
  ledCopy : Ledger := {}
  /-- The ledger when the revocation that runs was issued; the credit of a split outstanding is not yet settled in it (07 R256). -/
  revFrom : Ledger := {}
  staged : List (List Byte) := []
  /-- A transaction is on the wire; one of the transfer at DEQ has started; a split is outstanding. -/
  wire : Bool := false
  begun : Bool := false
  split : Bool := false
  /-- Packets sent and not yet answered, or packets that tokens on the wire have invited; packets the present burst may still bring (06 R227). -/
  inflight : Nat := 0
  left : Nat := 0
  /-- A credit consumed by a start-split stands for the split outstanding (07 R254, R256); a complete-split is on the wire; the microframe after
  which the next one is sent (06 R224). -/
  inSplit : Bool := false
  cs : Bool := false
  csAfter : Nat := 0
  /-- A PING is on the wire (06 R218, R220). -/
  pingOn : Bool := false
  /-- Passed over for the rest of the microframe (06 R218). -/
  skipUf : Bool := false
  /-- A pause, reset or detach has begun (07 R258). -/
  stopping : Bool := false
  rev : Option RevWhy := none
  failRun : Nat := 0
  naks : Nat := 0
  ping : Bool := false
  waiting : Bool := false
  /-- The setup packet of the control transfer in progress, and a status stage that waits for snooped resets (05 R192). -/
  setup : Nat := 0
  snoop : Bool := false
  /-- The data stage has ended by a short packet; its further descriptors retire without events (04 R134). -/
  dataEnd : Bool := false
  /-- The stream the device has selected (06 R229). -/
  picked : Nat := 0
  /-- Isochronous: in stream, empty intervals, missed intervals unreported. -/
  inStream : Bool := false
  empty : Nat := 0
  missed : Nat := 0
  /-- The service interval being carried out, the interval's last packet has come, its transactions so far, and how many further ones the
  device has announced (06 R237). -/
  isoOn : Bool := false
  isoLast : Bool := false
  isoGot : Nat := 0
  isoMore : Nat := 0
  /-- The SuperSpeed PING before the next service interval went unanswered (06 R231). -/
  noPing : Bool := false
  /-- Streams: the last PROD seen, whether the entry has once been found VALID, and what VALID last read (05 R196). -/
  seenProd : Nat := 0
  seenValid : Bool := false
  valid : Bool := true
  /-- Guest endpoint 0: STALL until the next SETUP (09 R327). -/
  stallAll : Bool := false
  /-- Set while a guest IN NRDY awaits an ERDY (09 R330). -/
  owesErdy : Bool := false
  /-- The records of the present bundle that both stages hold, oldest first (05 R202). -/
  stage : List Out := []
  /-- Faulted: the state and the producer index that the surviving copy holds (05 R203). -/
  was : EpSt := .closed
  wasProd : Nat := 0
  deriving DecidableEq, Repr

/-! ### Ports: links, schedule, guest -/

/-- Link states, coded 0 – 8 (08 R277). -/
inductive LinkSt | off | disconnected | attached | resetting | enabled | suspended | resuming | error | withheld
  deriving DecidableEq, Repr
/-- Who ordered a reset, as VALUE of RESET-DONE (08 R309). -/
inductive ResetBy | action | autoReset | autoWarm | flr
  deriving DecidableEq, Repr
/-- Who resumes a side (08 R293 – R295, R304). -/
inductive ResumeBy | action | remote | bed
  deriving DecidableEq, Repr
/-- One USB side of a port (08 R278). -/
structure SideSt where
  st : LinkSt := .off
  speed : Nat := 7
  l1 : Bool := false
  ulink : Nat := 0
  cause : Nat := 0
  trainRun : Nat := 0
  resetBy : ResetBy := .action
  warm : Bool := false
  quiesced : Bool := false
  resumeBy : ResumeBy := .action
  coincident : Bool := false
  recovering : Bool := false
  wakeVal : Nat := 0
  wakeLatched : Bool := false
  lpm : Bool := false
  lpmBar : Bool := false
  suspending : Bool := false
  quiet : Bool := false
  maxSpeed : Nat := 4
  deriving DecidableEq, Repr
/-- The links of a port (08). -/
structure Link where
  u2 : SideSt := {}
  ss : SideSt := {}
  disabled : Bool := false
  test : Nat := 0
  lane : Bool := false
  /-- Device role in force (09 R311) and the role the latest ROLE-SET chose. -/
  device : Bool := false
  roleSet : Bool := false
  held : Bool := false
  deriving DecidableEq, Repr

/-- Modes, coded 0 – 2 (13 R441). -/
inductive Mode | steady | bloom | fallow
  deriving DecidableEq, Repr
/-- State of a schedule window (06 R205 – R208). -/
inductive WinSt | none | built | sealed | abandoned
  deriving DecidableEq, Repr
/-- Kinds of a periodic entry, with its number in the service interval (06 R205, R224). -/
inductive WinKind | xact (i : Nat) | ssplit (i : Nat) | csplit
  deriving DecidableEq, Repr
/-- A periodic entry of a window: the endpoint it serves, its kind, and the microframe at which the service interval it belongs to begins. -/
structure WinEntry where
  key : Nat
  kind : WinKind
  iv : Nat
  deriving DecidableEq, Repr
/-- A window: its microframe, state, periodic and asynchronous sections. -/
structure Window where
  mf : Nat
  st : WinSt
  periodic : List WinEntry
  async : List Nat
  /-- The mode and the reduction of run-ahead under which it was built (01 R44). -/
  mode : Mode := .steady
  reduced : Bool := false
  deriving DecidableEq, Repr
/-- The bus of a port (06): interval counter, latched time, windows, rotation of the asynchronous section; the periodic entries of the
executing window still to be carried out, and its asynchronous entries in the order of their next turn (06 R216). -/
structure Bus where
  todo : List WinEntry := []
  turn : List Nat := []
  interval : Nat := 0
  running : Bool := false
  start : Nat := 0
  latch : Nat := 0
  mf : Nat := 0
  nextMf : Nat := 1
  windows : List Window := []
  rot : Nat := 0
  deriving DecidableEq, Repr

/-- Guest states, coded 0 – 3 (09 R314). -/
inductive GuestSt | free | ready | dflt | addressed
  deriving DecidableEq, Repr
/-- A guest function record (09 R314) and what the part keeps beside it. -/
structure Guest where
  st : GuestSt := .free
  connectReq : Bool := false
  present : Bool := false
  suspended : Bool := false
  speed : Nat := 7
  held : Bool := false
  address : Nat := 0
  owner : Nat := 0
  bell : Nat := 0
  dropped : Nat := 0
  setup : Nat := 0
  ctxBase : Nat := 0
  ctxCount : Nat := 0
  seq : Nat := 0
  discarded : Nat := 0
  speedMax : Nat := 0
  /-- SET_ADDRESS acknowledged whose status stage has not completed (09 R325). -/
  newAddr : Option Nat := none
  stallSetup : Bool := false
  resetting : Bool := false
  oldSpeed : Nat := 7
  /-- The status answer of SET_ADDRESS has been sent (09 R325 rule 1). -/
  addrSent : Bool := false
  /-- GUEST-WAKE: its interface, K being driven, and the part's own signalling ended (09 R335, R336). -/
  wakeIface : Nat := 0
  wakeDriving : Bool := false
  wakeDone : Bool := false
  deriving DecidableEq, Repr

/-! ### Ports: Type-C, PD, power path, bridge, capture -/

/-- Connection states, coded 0 – 17 (10 R344). -/
inductive TcSt
  | disabled | errorRecovery | unattachedSnk | attachWaitSnk | attachedSnk | unattachedSrc | attachWaitSrc | attachedSrc | trySrc | tryWaitSnk
  | trySnk | tryWaitSrc | unorientedDebug | orientedDebug | debugSnk | audio | drying | fixed
  deriving DecidableEq, Repr
/-- The Type-C side of a port (10). -/
structure Tc where
  st : TcSt := .disabled
  orient : Bool := false
  source : Bool := false
  dfp : Bool := false
  rp : Nat := 0
  /-- Rp level held under 12 R434. -/
  rpHeld : Nat := 0
  vconnSrc : Bool := false
  vconnOn : Bool := false
  vconnTripped : Bool := false
  quarantine : Bool := false
  bridge : Bool := false
  sinkTxNg : Bool := false
  wetLast : Bool := false
  cc1 : CcSee := .opened
  cc2 : CcSee := .opened
  reading : Bool := false
  dry : Nat := 0
  powerOff : Bool := false
  buckets : List Nat := [0, 0, 0, 0, 0, 0, 0, 0]
  retired : Bool := false
  /-- A debounce that ended during a BED test: the attach is declared when the test ends (14 R485). -/
  attachDue : Bool := false
  /-- Roles and VCONN source at attach (11 R399). -/
  atSource : Bool := false
  atDfp : Bool := false
  atVconn : Bool := false
  /-- PRT_TC_CFG, PRT_CC_GUARD, PRT_MOIST and the PD registers in force since the last Unattached entry (10 R343). -/
  cfg : Word := 0
  guard : Word := 0
  moist : Word := 0
  pdCfg : Word := 0
  pdSrc : Word := 0
  pdSnk : Word := 0
  pdIdent : Word := 0
  deriving DecidableEq, Repr

/-- MessageIDs and the message store of one SOP* (11 R377 – R379). -/
structure SopSt where
  tx : Nat := 0
  last : Option Nat := none
  stored : Option (Nat × List Nat) := none
  deriving DecidableEq, Repr
/-- Why a message is sent, to be remembered until its GoodCRC (11). -/
inductive MsgUse
  | caps | accept | reject | wait | psRdy | softReset (asCmd : Bool) | request | swapReq (k : SwapKind) | swapAccept (k : SwapKind) | swapAnswer
  | alert (ado : Nat) | status | vdmReq | vdmAns | hello | enterMode | exitMode | trellisReq | discover | cable | eprEnter | eprExit | eprAck | eprOk | eprFail
  | keepAlive | getSrc | getSnk | getStatus | notSupported | other
  deriving DecidableEq, Repr
/-- A message being sent (10 R362, R363; 11 R379). -/
structure PdTx where
  sop : Sop
  ty : Nat
  ext : Bool
  objs : List Nat
  use : MsgUse
  tries : Nat := 0
  sinkTx : Bool := false
  onWire : Bool := false
  deriving DecidableEq, Repr
/-- Steps of trellis entry (11 R407). -/
inductive Trellis | no | identity | svids | modes | enter | hello | entered
  deriving DecidableEq, Repr
/-- Contract in force (11, PRT_PD_STATUS). -/
structure Contract where
  epr : Bool := false
  kind : PdoKind := .fixed
  rdo : Nat := 0
  obj : Nat := 0
  mv : Nat := 0
  ma : Nat := 0
  deriving DecidableEq, Repr
/-- Where a role swap stands (11 R396, R397): requested by the part, asked by the partner, or carried out after its Accept. -/
inductive SwapSt | none | mine (k : SwapKind) | theirs (k : SwapKind) | transit (k : SwapKind) (byMe : Bool)
  deriving DecidableEq, Repr
/-- The PD policy of a port (11). -/
structure Pd where
  s0 : SopSt := {}
  s1 : SopSt := {}
  s2 : SopSt := {}
  txq : List PdTx := []
  /-- The own message, acknowledged, whose answer is awaited (11 R376). -/
  awaits : Option MsgUse := none
  awaitSop : Sop := .sop0
  /-- As sink, after a Hard Reset, VBUS is awaited (11 R399). -/
  sinkWait : Bool := false
  rev3 : Bool := true
  con : Option Contract := none
  /-- Request accepted whose Accept awaits its GoodCRC, or whose transition runs (11 R385). -/
  next : Option Contract := none
  transition : Bool := false
  grant : Nat := 0
  oldGrant : Nat := 0
  offered : List Nat := []
  offeredEpr : Bool := false
  partner : List Nat := []
  partnerEpr : Bool := false
  waitSince : Option Nat := none
  swap : SwapSt := .none
  swapRetry : Option SwapKind := none
  /-- The swap request was sent again after a drop (11 R409). -/
  reSent : Bool := false
  epr : Bool := false
  ppsCl : Bool := false
  cableKnown : Bool := false
  cableVdo : Nat := 0
  cableTries : Nat := 0
  /-- Cable discovery of this attachment has ended (11 R406). -/
  cableDone : Bool := false
  trellis : Trellis := .no
  trellisPeer : Option (Nat × Nat) := none
  helloAcked : Bool := false
  hardResets : Nat := 0
  hardPending : Bool := false
  override : Option Nat := none
  capsDue : Bool := false
  rePending : Bool := false
  /-- RDO of the part's latest Request, which is sent again after a Wait (11 R392). -/
  sentRdo : Nat := 0
  /-- The partner starts first: both ends were stopped in one sequence (11 R398). -/
  yields : Bool := false
  capsCount : Nat := 0
  attached : Bool := false
  deriving DecidableEq, Repr

/-- Power path states, coded 0 – 5 (12 R424). -/
inductive PathSt | off | ramp | on | trip | cool | latched
  deriving DecidableEq, Repr
/-- The power path of a port (12). -/
structure Path where
  st : PathSt := .off
  pg : Bool := false
  ocTimer : Bool := false
  sinking : Bool := false
  shed : Bool := false
  fb : Nat := 0
  target : Nat := 0
  next : Option (Nat × Nat) := none
  ocp : Nat := 0
  sc : Nat := 0
  retries : Nat := 0
  lastTrip : Nat := 0
  queued : Option PathOrder := none
  mv : Nat := 0
  ma : Nat := 0
  disch : Bool := true
  slewing : Bool := false
  indLevel : Bool := false
  limit : Nat := 0
  shedClass : Nat := 7
  waitBudget : Bool := false
  /-- Reasons for which the path is held at vSafe0V: 1 Hard Reset, 3 quarantine with DROP, 4 thermal shutdown, 5 VDD_HV lost. -/
  hold : List Nat := []
  chainAside : Bool := false
  forceOff : Bool := false
  /-- Gate confirmed off in TRIP under hardware-only protection (12 R427). -/
  gateOff : Bool := false
  /-- The ramp in progress is a retry (12 R440, RETRY-ON). -/
  retrying : Bool := false
  deriving DecidableEq, Repr

/-- The UART bridge of a port (10 R358 – R360). -/
structure Bridge where
  txProd : Nat := 0
  txCons : Nat := 0
  rxProd : Nat := 0
  rxCons : Nat := 0
  rxWritten : Nat := 0
  txBytes : List Byte := []
  rxBytes : List Byte := []
  deriving DecidableEq, Repr

/-- A capture record in a sieve, with the address it concerns for the exporter's filter (16 R535, R547). -/
structure CapRec where
  bytes : List Byte
  kind : Nat
  addr : Option Nat
  follows : Bool
  deriving DecidableEq, Repr
/-- A capture of a port (16 R534 – R549). -/
structure Capture where
  running : Bool := false
  fn : Nat := 0
  size : Nat := 0
  snap : Nat := 0
  kinds : Nat := 0
  noSof : Bool := false
  address : Nat := 0
  addrEn : Bool := false
  ring : Nat := 0
  ringSize : Nat := 65536
  ctl : Nat := 0
  level : Nat := 0
  memBase : Nat := 0
  startNo : Nat := 0
  prod : Nat := 0
  cons : Nat := 0
  prevProd : Nat := 0
  recs : List CapRec := []
  inPacket : Bool := false
  dropThis : Bool := false
  beginTime : Nat := 0
  claimed : Bool := false
  crossed : Bool := false
  lostSeen : Nat := 0
  lostSat : Bool := false
  ringFull : Bool := false
  stop : Option (Option CmdHdr) := none
  flush : Option CmdHdr := none
  lastKept : Bool := true
  deriving DecidableEq, Repr

/-! ### Beds and budgets -/

/-- A bed (12 R416, R436; 01 R39; 15 R510). -/
structure BedSt where
  bedW : Nat := 0
  cutPct : Nat := 50
  restore : Nat := 10
  warnMv : List Nat := [0, 0]
  hystMv : List Nat := [50, 50]
  low : List Bool := [false, false]
  warn : Bool := false
  /-- The warning's budget cut is in force (12 R436 step 4). -/
  cut : Bool := false
  /-- The effective budget in mW that the warning gave when it was entered (12 R436, R439). -/
  cutMw : Nat := 0
  restoring : Bool := false
  isolating : Bool := false
  isoTimes : List Nat := []
  retired : Bool := false
  lanesLost : List Nat := []
  hot : Bool := false
  warm : Bool := false
  testing : Bool := false
  deriving DecidableEq, Repr
/-- Hook-up values of a port (12 R416) and its user calibration (16 R565). -/
structure Hook where
  rsense : Nat := 0
  rt : Nat := 0
  v0 : Nat := 0
  vCeil : Nat := 0
  iCeil : Nat := 0
  sinkEn : Bool := false
  rDisch : Nat := 0
  fixedV : Nat := 0
  fixedI : Nat := 0
  user : Cal := {}
  deriving DecidableEq, Repr
/-- The device budget, the order of BUDGET-WAIT and the order of shedding (12 R415, R435, R438). -/
structure Budget where
  devW : Nat := 0
  waitOrder : List Nat := []
  shedOrder : List Nat := []
  earlyWarnN : Bool := false
  deriving DecidableEq, Repr

/-! ### Modes and power states -/

/-- Device power states, coded 0 – 2 (13 R456). -/
inductive PwrSt | active | drowse | dormant
  deriving DecidableEq, Repr
/-- Why a mode change runs (13 R445, R446, R451, R454). -/
inductive ModeBy | command (h : CmdHdr) (force : Bool) | stepDown | raise
  deriving DecidableEq, Repr
/-- Phase of a mode change (13 R445, R446). -/
inductive ModePhase | settle | confirm | drain | settleDown
  deriving DecidableEq, Repr
/-- A mode change in progress. -/
structure ModeChg where
  goal : Mode
  old : Mode
  by_ : ModeBy
  phase : ModePhase
  good : Nat := 0
  withheld : Nat := 0
  stopped : Nat := 0
  /-- A sample below the threshold has come, and the record of the end waits for room (04 R140). -/
  failed : Bool := false
  deriving DecidableEq, Repr
/-- The modes, the sundial, the regulator and the power states (13). -/
structure ModeSt where
  mode : Mode := .steady
  floor : Nat := 0
  index : Nat := 0
  lowMark : Nat := 65535
  reduced : Bool := false
  stepped : Bool := false
  steppedFrom : Mode := .steady
  chg : Option ModeChg := none
  queued : Option ModeBy := none
  lowRun : Nat := 0
  belowRun : Nat := 0
  lastTempo : Tbl Nat := []
  vout : Nat := 0
  voutTarget : Nat := 850
  badReads : Nat := 0
  regSilent : Bool := false
  pwr : PwrSt := .active
  cfLp : Bool := false
  lastWake : Nat := 0
  entering : Bool := false
  leaving : Option Nat := none
  brownPend : Bool := false
  retention : Bool := true
  rewriteDue : Bool := false
  pwrCopy : Word := 0
  watchCopy : Tbl Nat := []
  deriving DecidableEq, Repr

/-! ### Engines, grafts, dispatcher -/

/-- Why an engine is rotated (14 R472, R480, R482, R485). -/
inductive RotBy | auto | command (h : CmdHdr) | test | update | abandon
  deriving DecidableEq, Repr
/-- Steps of a rotation (14 R473); `waiting`: ordered, and held by a happening of R475. -/
inductive RotStep | waiting | copying | selfTest | retest | refill
  deriving DecidableEq, Repr
/-- A rotation: the outgoing engine, the engine under test, and whether the migration point has passed (14 R473, R476). -/
structure Rot where
  out_ : Nat
  by_ : RotBy
  step : RotStep
  test : Nat
  moved : Bool := false
  deriving DecidableEq, Repr
/-- Steps of a firmware update (14 R482 – R484). -/
inductive UpdStep | checking | loading (again : Bool) | rotating | swapping | abandoning
  deriving DecidableEq, Repr
structure Upd where
  h : CmdHdr
  step : UpdStep
  img : Option ImageInfo := none
  newEngines : List Nat := []
  /-- UPDATE-CANCELs that complete with the abandoned update. -/
  cancels : List CmdHdr := []
  /-- It is abandoned after step 4 of R482 had begun. -/
  late : Bool := false
  deriving DecidableEq, Repr
/-- A SELF-TEST in progress (14 R485): its OP, command and UNIT; a spare's second test (R474); a BED test that runs. -/
structure SelfTest where
  op : TestOp
  h : CmdHdr
  unit : Nat
  again : Bool := false
  runs : Bool := false
  deriving DecidableEq, Repr
/-- The tenders and the keepers (14). -/
structure Eng where
  spare : Nat := 8
  active : List Nat := [0, 1, 2, 3, 4, 5, 6, 7]
  retired : List Nat := []
  /-- Engines by the end of their latest passed self-test, the earliest first (14 R472). -/
  order : List Nat := [0, 1, 2, 3, 4, 5, 6, 7, 8]
  rot : Option Rot := none
  rotDue : Bool := false
  lastPause : Nat := 0
  upd : Option Upd := none
  swapping : Bool := false
  tests : List SelfTest := []
  svn : Nat := 0
  fwVersion : Nat := 0
  deriving DecidableEq, Repr
/-- A graft (14 R486 – R492). -/
structure Graft where
  st : Nat := 0
  kind : Nat := 0
  hooks : Nat := 0
  threads : Nat := 1
  memKib : Nat := 4
  run : Nat := 20
  mask : BitVec 128 := 0
  note : Nat := 0
  times : List Nat := []
  timers : Tbl Nat := []
  deriving DecidableEq, Repr
/-- A dispatcher source (14 R494). -/
structure DspSrc where
  prio : Nat := 0
  targets : BitVec 11 := 0
  group : Nat := 0
  pending : Bool := false
  inService : Bool := false
  held : Bool := false
  deriving DecidableEq, Repr
/-- A processor's stack of (source, priority), top first (14 R498). -/
structure ProcSt where
  stack : List (Nat × Nat) := []
  deriving DecidableEq, Repr
/-- A hold-off group: timer length in µs, running (14 R502). -/
structure Holdoff where
  len : Nat := 0
  running : Bool := false
  deriving DecidableEq, Repr
/-- The dispatcher (14 R493 – R503). -/
structure Dispatch where
  srcs : Tbl DspSrc := []
  procs : Tbl ProcSt := []
  groups : Tbl Holdoff := []
  deriving DecidableEq, Repr

/-! ### Faults -/

/-- Encodings of a fault line (15 R504): `ack` is a single happening already acknowledged. -/
inductive Line | quiet | fault | broken (v : Bool)
  deriving DecidableEq, Repr
/-- A fault source (15 R505, R517). -/
structure FltSrc where
  line : Line := .quiet
  lastCause : Nat := 0
  status : Bool := false
  still : Bool := false
  wire : Bool := false
  sat : Bool := false
  /-- The latest real record took SAFE-HOLD (15 R514). -/
  safe : Bool := false
  deriving DecidableEq, Repr
/-- An injection that no acknowledgement has formed a record of yet (15 R527 – R530). -/
structure Inj where
  src : Nat
  cause : Nat
  unit : Nat
  wire : Bool
  deriving DecidableEq, Repr
/-- What a fault record reports (15 R508). -/
structure FltRec where
  src : Nat := 0
  cause : Nat := 0
  unit : Nat := 0
  func : Nat := 0
  info : Nat := 0
  wire : Bool := false
  injected : Bool := false
  real : Bool := false
  react : Nat := 0
  /-- PHASE of the record's own event: 3 when it retires a unit (15 R508, R519). -/
  phase : Nat := 0
  deriving DecidableEq, Repr
/-- The fault collector (15). -/
structure Flt where
  srcs : Tbl FltSrc := []
  safeHold : Bool := false
  rebuilding : Bool := false
  holdStill : Bool := false
  /-- The latest SAFE-HOLD record (15 R514). -/
  safeRec : FltRec := {}
  /-- The minimum pulse of FAULT_N runs (15 R516). -/
  pulse : Bool := false
  /-- PORT-HOLDs and BED-ISOLATEs in progress, by port and bed, with the record that ordered them. -/
  portHolds : List (Nat × FltRec) := []
  isolations : List (Nat × FltRec) := []
  /-- Causes of lines that went live during a collector rebuild, acknowledged afterwards in source order (15 R520). -/
  deferred : List FltRec := []
  deriving DecidableEq, Repr

/-! ### Observation -/

/-- A rate-limit window of an almanac source (16 R557). -/
structure AlmWin where
  start : Nat
  n : Nat
  slot : Nat
  deriving DecidableEq, Repr
/-- An almanac slot's content without SEQ_A, SEQ_B and CRC (16 R555). -/
structure AlmRec where
  seq : Nat := 0
  source : Nat := 0
  kind : Nat := 0
  pinned : Bool := false
  injected : Bool := false
  time : Nat := 0
  boot : Nat := 0
  unit : Nat := 0
  cause : Nat := 0
  func : Nat := 0
  info : Nat := 0
  count : Nat := 0
  repeats : Nat := 0
  lastTime : Nat := 0
  detail : Nat := 0
  deriving DecidableEq, Repr
/-- The almanac (16 R554 – R558). -/
structure Alm where
  /-- Slot 0 holds the birth record (16 R554, R558; notes/assumptions/5.md). -/
  slots : Tbl AlmRec := [(0, { seq := 1, source := 0x100A, kind := 10, pinned := true })]
  nextSeq : Nat := 2
  boot : Nat := 0
  nextSlot : Nat := 64
  lifeUsed : Nat := 0
  faultUsed : Nat := 0
  writes : Nat := 1
  coalesced : Nat := 0
  windows : Tbl AlmWin := []
  pinnedSrcs : List Nat := []
  journal : Option (Nat × AlmRec) := none
  deriving DecidableEq, Repr
/-- Time (16 R551 – R553): the local count in ns and the alignment. -/
structure Time where
  local_ : Nat := 0
  offset : Int := 0
  latch : Nat := 0
  aligned : Bool := false
  epoch : Nat := 0
  errorNs : Int := 0
  rejects : Nat := 0
  asked : Bool := false
  stepNext : Bool := true
  /-- Error left to slew out, and the slewing earned so far in millionths of a ns (16 R553). -/
  slew : Int := 0
  acc : Nat := 0
  deriving DecidableEq, Repr
/-- The SMBus target and SMB_ALERT_N (16 R561). -/
structure Smb where
  slot : Nat := 0
  page : Nat := 0
  alert : Bool := false
  deriving DecidableEq, Repr
/-- Measurements (16 R562). -/
structure Tele where
  temp : Tbl (Nat × Nat) := []
  rail : Tbl Nat := []
  vout : Nat := 0
  power : Nat := 0
  deriving DecidableEq, Repr
/-- A 64-bit tally and its latch (16 R551). -/
structure TallySt where
  n : Nat := 0
  latch : Nat := 0
  deriving DecidableEq, Repr
/-- A hop of the core fabric (01 R41): consecutive words that failed on the path in use, the latest of them, and whether the first path
is retired. -/
structure HopSt where
  fails : Nat := 0
  latest : Nat := 0
  second : Bool := false
  deriving DecidableEq, Repr
/-- Core units: ring engines, trough banks, fabric, clocks (01 R28 – R41; 15 R522 – R533). -/
structure Units where
  ringLost : List Nat := []
  fallow : Nat := 0
  fallowOn : Bool := false
  fallowMoved : Bool := false
  nextBank : Nat := 0
  retiredBanks : List Nat := []
  rebuildingBank : Option Nat := none
  rebuilt : List (Nat × Nat) := []
  hops : Tbl HopSt := []
  scrubPos : Nat := 0
  deriving DecidableEq, Repr

/-! ### Commands in progress -/

/-- What a command in progress does (04 R139, R140). -/
inductive OpKind
  | reset | suspend | resume | treeSleep | powerCycle | guestWake | guestPause (ep : Nat) | pause (ep : Nat)
  | pd (op out : Nat) (retry : Bool) | vdm (out : Nat) (sop : Sop)
  deriving DecidableEq, Repr
/-- A command in progress, with the port (128: none) and the bell index (0: none) it names. -/
structure Op where
  h : CmdHdr
  kind : OpKind
  port : Nat := 128
  bell : Nat := 0
  deriving DecidableEq, Repr

/-- What a waiting command waits for. The last four only keep the order of what concerns one endpoint, port or slot (05 R190, R198). -/
inductive WaitKey
  | evr (f r : Nat) | port (p : Nat) | slot (f b : Nat) | limit (f : Nat) | mode
  | ep (k : Nat) | portHeld (p : Nat) | slotHeld (f b : Nat) | epHeld (k : Nat)
  deriving DecidableEq, Repr
/-- What waits: a command, or a bundle of the part's own: the entry of an endpoint into Paused (05 R187), the detach of a slot (05 R174), and a
producer index handed over while a SET ENDPOINTS of the endpoint waits (05 R182). -/
inductive Job
  | cmd (c : Instr) | pauseEnd (r : Nat) | detach (key : Nat) | hand (k prod : Nat)
  deriving DecidableEq, Repr
/-- A bundle that waits: behind another of the same target (04 R139), or for room in an event ring (04 R150). -/
structure Waiting where
  keys : List WaitKey
  job : Job
  deriving DecidableEq, Repr

/-- The state of the block. -/
structure State where
  /-- The queue of commands, first in first out. -/
  pending : List Instr := []
  /-- Commands that wait under R139 or R150. -/
  waiting : List Waiting := []
  /-- While a waiting command is tried again: the other waiting commands (04 R139). -/
  aside : List Waiting := []
  /-- Commands in progress. -/
  ops : List Op := []
  /-- Register words written by software or counted by hardware, by PF BAR0 offset; an unlisted one reads as its reset value. -/
  regs : Tbl Nat := []
  lock : Bool := false
  blockedLast : Nat := 0
  otp : Otp := {}
  sup : Supply := {}
  boot : Boot := {}
  pcie : Pcie := {}
  fns : Tbl FnRun := []
  slots : Tbl Slot := []
  eps : Tbl Ep := []
  /-- Reserves that did not fit: function × 4 + pool (0 trough, 1 slots, 2 contexts, 3 guests). -/
  short : List Nat := []
  /-- Grants of reserves at the lock: function × 4 + pool. -/
  grants : Tbl Nat := []
  links : Tbl Link := []
  buses : Tbl Bus := []
  guests : Tbl Guest := []
  tcs : Tbl Tc := []
  pds : Tbl Pd := []
  paths : Tbl Path := []
  brgs : Tbl Bridge := []
  caps : Tbl Capture := []
  capStarts : Nat := 0
  beds : Tbl BedSt := []
  hooks : Tbl Hook := []
  budget : Budget := {}
  mode : ModeSt := {}
  eng : Eng := {}
  grafts : Tbl Graft := []
  dsp : Dispatch := {}
  flt : Flt := {}
  inj : List Inj := []
  alm : Alm := {}
  time : Time := {}
  smb : Smb := {}
  tele : Tele := {}
  tallies : Tbl TallySt := []
  units : Units := {}
  /-- What the part has sent, newest first. -/
  out : List Out := []
  /-- Event rings (function, ring) in which a record of the bundle being made found no room (04 R150). -/
  blocked : List (Nat × Nat) := []
  /-- Free values drawn so far. -/
  free : Nat := 0
  deriving DecidableEq, Repr

/-- The block right after power-on, with PERST_N still asserted (02 R45, R48, R74): AWAITING, ports safe. -/
def State.reset : State := {}

end Sys2Proof.Machine
end

