-- ==== Sys2Proof/Machine/Ops.lean ====
section
/-! DEFINITION. The named operations on the tables of State: reading, writing and updating one entry, and bit fields of
register words. -/

namespace Sys2Proof.Machine

open Sys2Proof

/-- The entry of a sparse table at a key. -/
def tget {α : Type} (d : α) : Tbl α → Nat → α
  | [], _ => d
  | (j, v) :: t, k => if j = k then v else tget d t k

/-- The table without its entries at a key. -/
def terase {α : Type} : Tbl α → Nat → Tbl α
  | [], _ => []
  | (j, v) :: t, k => if j = k then terase t k else (j, v) :: terase t k

/-- The table with an entry put before the first greater key. -/
def tins {α : Type} : Tbl α → Nat → α → Tbl α
  | [], k, v => [(k, v)]
  | (j, w) :: t, k, v => if k < j then (k, v) :: (j, w) :: t else (j, w) :: tins t k v

/-- Writes an entry and keeps the canonical form: the value an unlisted key reads as is not listed. -/
def tput {α : Type} [DecidableEq α] (d : α) (t : Tbl α) (k : Nat) (v : α) : Tbl α :=
  if v = d then terase t k else tins (terase t k) k v

/-- Keys strictly rising. -/
def tsorted {α : Type} : Tbl α → Bool
  | [] => true
  | [_] => true
  | (j, _) :: (k, w) :: t => decide (j < k) && tsorted ((k, w) :: t)

/-- The canonical form of a table: keys rising, no entry at the default. -/
def twf {α : Type} [DecidableEq α] (d : α) (t : Tbl α) : Bool := tsorted t && t.all (fun e => decide (e.2 ≠ d))

/-- Bits [lo + w − 1 : lo] of a word. -/
def bits (x lo w : Nat) : Nat := x / 2 ^ lo % 2 ^ w
/-- Bit `i` of a word. -/
def bit (x i : Nat) : Bool := x / 2 ^ i % 2 == 1
/-- A Bool as a bit. -/
def b2n (b : Bool) : Nat := if b then 1 else 0
/-- The word with bits [lo + w − 1 : lo] replaced. -/
def setBits (x lo w v : Nat) : Nat := x - bits x lo w * 2 ^ lo + (v % 2 ^ w) * 2 ^ lo

/-- The first number below `n` that satisfies `p`. -/
def firstBelow (p : Nat → Bool) (n : Nat) : Option Nat := (List.range n).find? p
/-- Little-endian bytes of a number. -/
def leBytes : Nat → Nat → List Byte
  | 0, _ => []
  | n + 1, x => BitVec.ofNat 8 x :: leBytes n (x / 256)
/-- The number that little-endian bytes give. -/
def leNat : List Byte → Nat
  | [] => 0
  | b :: bs => b.toNat + 256 * leNat bs
/-- `n` little-endian bytes at an offset, as a number. -/
def leAt (bs : List Byte) (off n : Nat) : Nat := leNat ((bs.drop off).take n)
/-- Saturating count. -/
def satAdd (w x n : Nat) : Nat := min (x + n) (2 ^ w - 1)
/-- Every port number, bed number and side. -/
def ports : List Nat := List.range 128
def bedsAll : List Nat := List.range 8
/-- The bed of a port (00, Names). -/
def bedOf (p : Nat) : Nat := p / 16
/-- The ports of a bed. -/
def portsOf (b : Nat) : List Nat := (List.range 16).map (· + 16 * b)

/-- Inserts by a Nat rank, after equal ranks. -/
def insertBy {α : Type} (r : α → Nat) (x : α) : List α → List α
  | [] => [x]
  | y :: l => if r x < r y then x :: y :: l else y :: insertBy r x l
/-- Orders a list by a Nat rank, keeping the order of equal ranks. -/
def sortBy {α : Type} (r : α → Nat) (l : List α) : List α := l.foldl (fun acc x => insertBy r x acc) []

/-! ### One entry of each table -/

/-- The Link at a key. -/
def State.link (s : State) (k : Nat) : Link := tget {} s.links k
def State.linkPut (s : State) (k : Nat) (v : Link) : State := { s with links := tput {} s.links k v }
def State.linkOn (s : State) (k : Nat) (g : Link → Link) : State := s.linkPut k (g (s.link k))

/-- The Bus at a key. -/
def State.bus (s : State) (k : Nat) : Bus := tget {} s.buses k
def State.busPut (s : State) (k : Nat) (v : Bus) : State := { s with buses := tput {} s.buses k v }
def State.busOn (s : State) (k : Nat) (g : Bus → Bus) : State := s.busPut k (g (s.bus k))

/-- The Guest at a key. -/
def State.guest (s : State) (k : Nat) : Guest := tget {} s.guests k
def State.guestPut (s : State) (k : Nat) (v : Guest) : State := { s with guests := tput {} s.guests k v }
def State.guestOn (s : State) (k : Nat) (g : Guest → Guest) : State := s.guestPut k (g (s.guest k))

/-- The Tc at a key. -/
def State.tc (s : State) (k : Nat) : Tc := tget {} s.tcs k
def State.tcPut (s : State) (k : Nat) (v : Tc) : State := { s with tcs := tput {} s.tcs k v }
def State.tcOn (s : State) (k : Nat) (g : Tc → Tc) : State := s.tcPut k (g (s.tc k))

/-- The Pd at a key. -/
def State.pd (s : State) (k : Nat) : Pd := tget {} s.pds k
def State.pdPut (s : State) (k : Nat) (v : Pd) : State := { s with pds := tput {} s.pds k v }
def State.pdOn (s : State) (k : Nat) (g : Pd → Pd) : State := s.pdPut k (g (s.pd k))

/-- The Path at a key. -/
def State.path (s : State) (k : Nat) : Path := tget {} s.paths k
def State.pathPut (s : State) (k : Nat) (v : Path) : State := { s with paths := tput {} s.paths k v }
def State.pathOn (s : State) (k : Nat) (g : Path → Path) : State := s.pathPut k (g (s.path k))

/-- The Bridge at a key. -/
def State.brg (s : State) (k : Nat) : Bridge := tget {} s.brgs k
def State.brgPut (s : State) (k : Nat) (v : Bridge) : State := { s with brgs := tput {} s.brgs k v }
def State.brgOn (s : State) (k : Nat) (g : Bridge → Bridge) : State := s.brgPut k (g (s.brg k))

/-- The Capture at a key. -/
def State.cap (s : State) (k : Nat) : Capture := tget {} s.caps k
def State.capPut (s : State) (k : Nat) (v : Capture) : State := { s with caps := tput {} s.caps k v }
def State.capOn (s : State) (k : Nat) (g : Capture → Capture) : State := s.capPut k (g (s.cap k))

/-- The BedSt at a key. -/
def State.bed (s : State) (k : Nat) : BedSt := tget {} s.beds k
def State.bedPut (s : State) (k : Nat) (v : BedSt) : State := { s with beds := tput {} s.beds k v }
def State.bedOn (s : State) (k : Nat) (g : BedSt → BedSt) : State := s.bedPut k (g (s.bed k))

/-- The Hook at a key. -/
def State.hook (s : State) (k : Nat) : Hook := tget {} s.hooks k
def State.hookPut (s : State) (k : Nat) (v : Hook) : State := { s with hooks := tput {} s.hooks k v }
def State.hookOn (s : State) (k : Nat) (g : Hook → Hook) : State := s.hookPut k (g (s.hook k))

/-- The FnRun at a key. -/
def State.fn (s : State) (k : Nat) : FnRun := tget {} s.fns k
def State.fnPut (s : State) (k : Nat) (v : FnRun) : State := { s with fns := tput {} s.fns k v }
def State.fnOn (s : State) (k : Nat) (g : FnRun → FnRun) : State := s.fnPut k (g (s.fn k))

/-- The Slot at a key. -/
def State.slot (s : State) (k : Nat) : Slot := tget {} s.slots k
def State.slotPut (s : State) (k : Nat) (v : Slot) : State := { s with slots := tput {} s.slots k v }
def State.slotOn (s : State) (k : Nat) (g : Slot → Slot) : State := s.slotPut k (g (s.slot k))

/-- The Ep at a key. -/
def State.ep (s : State) (k : Nat) : Ep := tget {} s.eps k
def State.epPut (s : State) (k : Nat) (v : Ep) : State := { s with eps := tput {} s.eps k v }
def State.epOn (s : State) (k : Nat) (g : Ep → Ep) : State := s.epPut k (g (s.ep k))

/-- The Graft at a key. -/
def State.graft (s : State) (k : Nat) : Graft := tget {} s.grafts k
def State.graftPut (s : State) (k : Nat) (v : Graft) : State := { s with grafts := tput {} s.grafts k v }
def State.graftOn (s : State) (k : Nat) (g : Graft → Graft) : State := s.graftPut k (g (s.graft k))

/-- The TallySt at a key. -/
def State.tally (s : State) (k : Nat) : TallySt := tget {} s.tallies k
def State.tallyPut (s : State) (k : Nat) (v : TallySt) : State := { s with tallies := tput {} s.tallies k v }
def State.tallyOn (s : State) (k : Nat) (g : TallySt → TallySt) : State := s.tallyPut k (g (s.tally k))

/-! ### Nested tables -/

def State.cfgFn (s : State) (f : Nat) : FnCfg := tget {} s.pcie.fns f
def State.cfgFnOn (s : State) (f : Nat) (g : FnCfg → FnCfg) : State :=
  { s with pcie := { s.pcie with fns := tput {} s.pcie.fns f (g (s.cfgFn f)) } }
/-- Key of an MSI-X vector. -/
def vecKey (f v : Nat) : Nat := f * 2048 + v
def State.vec (s : State) (f v : Nat) : MsixVec := tget {} s.pcie.msix (vecKey f v)
def State.vecOn (s : State) (f v : Nat) (g : MsixVec → MsixVec) : State :=
  { s with pcie := { s.pcie with msix := tput {} s.pcie.msix (vecKey f v) (g (s.vec f v)) } }
def State.evr (s : State) (f r : Nat) : EvRing := tget {} (s.fn f).evrs r
def State.evrOn (s : State) (f r : Nat) (g : EvRing → EvRing) : State :=
  s.fnOn f (fun n => { n with evrs := tput {} n.evrs r (g (tget {} n.evrs r)) })
def State.dspSrc (s : State) (n : Nat) : DspSrc := tget {} s.dsp.srcs n
def State.dspSrcOn (s : State) (n : Nat) (g : DspSrc → DspSrc) : State :=
  { s with dsp := { s.dsp with srcs := tput {} s.dsp.srcs n (g (s.dspSrc n)) } }
def State.proc (s : State) (n : Nat) : ProcSt := tget {} s.dsp.procs n
def State.procOn (s : State) (n : Nat) (g : ProcSt → ProcSt) : State :=
  { s with dsp := { s.dsp with procs := tput {} s.dsp.procs n (g (s.proc n)) } }
def State.holdoff (s : State) (n : Nat) : Holdoff := tget {} s.dsp.groups n
def State.holdoffOn (s : State) (n : Nat) (g : Holdoff → Holdoff) : State :=
  { s with dsp := { s.dsp with groups := tput {} s.dsp.groups n (g (s.holdoff n)) } }
def State.fltSrc (s : State) (n : Nat) : FltSrc := tget {} s.flt.srcs n
def State.fltSrcOn (s : State) (n : Nat) (g : FltSrc → FltSrc) : State :=
  { s with flt := { s.flt with srcs := tput {} s.flt.srcs n (g (s.fltSrc n)) } }

/-- Key of a slot or guest bell index. -/
def slotKey (f b : Nat) : Nat := f * 16384 + b
/-- Key of an endpoint context, or of a stream context (stream 0 is the endpoint itself). -/
def epKey (f b e st : Nat) : Nat := ((f * 16384 + b) * 32 + e) * 1024 + st
/-- The function, bell index, endpoint index and stream of a key. -/
def keyFn (k : Nat) : Nat := k / 1024 / 32 / 16384
def keyBell (k : Nat) : Nat := k / 1024 / 32 % 16384
def keyEp (k : Nat) : Nat := k / 1024 % 32
def keyStream (k : Nat) : Nat := k % 1024
def keySlot (k : Nat) : Nat := k / 1024 / 32

/-- One side of a port. -/
def Link.side (l : Link) : Side → SideSt
  | .usb2 => l.u2
  | .ss => l.ss
def Link.sidePut (l : Link) (sd : Side) (x : SideSt) : Link :=
  match sd with
  | .usb2 => { l with u2 := x }
  | .ss => { l with ss := x }
def State.sideOn (s : State) (p : Nat) (sd : Side) (g : SideSt → SideSt) : State :=
  s.linkOn p (fun l => l.sidePut sd (g (l.side sd)))

/-- An address inside a window of the part (03 R94, R97). -/
def Pcie.own (x : Pcie) (a : Nat) : Bool :=
  ((tget {} x.fns 0).memEn && ((decide (x.bar0 ≤ a) && decide (a < x.bar0 + 0x4000000)) || (decide (x.bar2 ≤ a) && decide (a < x.bar2 + 0x1000000))))
  || (x.vfEn && x.vfMemEn && ((decide (x.vfBar0 ≤ a) && decide (a < x.vfBar0 + 0x10000 * x.numVfs)) || (decide (x.vfBar2 ≤ a) && decide (a < x.vfBar2 + 0x10000 * x.numVfs))))
/-- The address of a memory write that the manual places by its address (03 R88). -/
def Out.addr : Out → Option Nat
  | .hostWrite _ a _ => some a
  | .dataWrite _ a _ _ => some a
  | _ => none
/-- A write that the part does not issue: it is addressed to a window of its own (03 R88). -/
def State.ownWrite (s : State) (o : Out) : Bool := match o.addr with | some a => s.pcie.own a | none => false
/-- Something the part sends; a write addressed to its own windows is never issued (03 R88), and it carries on (03 R605). -/
def State.emit (s : State) (o : Out) : State := { s with out := if s.ownWrite o then s.out else o :: s.out }
/-- The next free value, and the state that has drawn it. -/
def State.draw (s : State) : Nat × State := (s.free, { s with free := s.free + 1 })
/-- Folds a step over numbers. -/
def forEach {α : Type} (l : List α) (g : α → State → State) (s : State) : State := l.foldl (fun s x => g x s) s

end Sys2Proof.Machine
end

