-- ==== Sys2Proof/Machine/Regs.lean ====
section
/-! DEFINITION. The register map of BAR0 (18, and the field tables of every chapter): the writable and stored fields of
each register, their access codes (00 R25) and reset values, the stored words, the lock (18 R599, R600), the sleep word
(13 R467, R468), and one accessor per setting with the treatment of out-of-range values its table gives. -/

namespace Sys2Proof.Machine

open Sys2Proof

/-- Access codes (00 R25). -/
inductive Acc | ro | rw | rwl | w1c | wo | rs | rc
  deriving DecidableEq, Repr
/-- A field: lowest bit, width, access code, reset value. -/
structure Fld where
  lo : Nat
  w : Nat
  acc : Acc
  reset : Nat := 0
  deriving DecidableEq, Repr

/-- Global identity block, SETUP_LOCK and SETUP_STATUS (18; 02). -/
def globalRegs : Tbl (List Fld) := [
  (0x0, [⟨0, 16, .ro, 0x1EF7⟩, ⟨16, 16, .ro, 0x5A80⟩]), (0x4, [⟨0, 8, .ro, 0x10⟩, ⟨8, 1, .ro, 0⟩]),
  (0x8, [⟨0, 8, .ro, 128⟩, ⟨8, 4, .ro, 8⟩, ⟨12, 4, .ro, 9⟩, ⟨16, 8, .ro, 16⟩]), (0xC, [⟨0, 16, .ro, 1⟩]),
  (0x10, [⟨0, 32, .ro, 0⟩]), (0x14, [⟨0, 32, .ro, 0⟩]), (0x18, [⟨0, 32, .ro, 0⟩]), (0x1C, [⟨0, 32, .ro, 0⟩]),
  (0x40, [⟨0, 1, .rwl, 0⟩]), (0x44, [⟨0, 16, .rs, 0⟩, ⟨16, 1, .w1c, 0⟩]), (0x48, [⟨0, 26, .ro, 0⟩, ⟨26, 1, .ro, 0⟩])]
/-- Boot block (02; 16). -/
def bootRegs : Tbl (List Fld) := [
  (0x1000, [⟨6, 26, .rwl, 0⟩]), (0x1004, [⟨0, 32, .rwl, 0⟩]), (0x1008, [⟨0, 1, .rwl, 0⟩, ⟨1, 1, .wo, 0⟩, ⟨4, 3, .rwl, 0⟩]),
  (0x100C, [⟨0, 32, .rwl, 0⟩]), (0x1010, [⟨0, 32, .ro, 0⟩]),
  (0x1014, [⟨0, 4, .ro, 0⟩, ⟨8, 8, .ro, 0⟩, ⟨16, 2, .ro, 0⟩, ⟨18, 1, .ro, 0⟩]),
  (0x1020, [⟨0, 32, .ro, 0⟩]), (0x1024, [⟨0, 32, .ro, 0⟩]), (0x1028, [⟨0, 32, .ro, 0⟩]), (0x102C, [⟨0, 32, .ro, 0⟩]),
  (0x1030, [⟨0, 7, .ro, 0⟩, ⟨8, 8, .ro, 0⟩, ⟨16, 8, .ro, 0⟩, ⟨24, 4, .ro, 0⟩]),
  (0x1040, [⟨0, 13, .rw, 0⟩, ⟨16, 1, .rw, 0⟩])]
/-- Core blocks at fixed offsets (13, 12, 14, 15, 16). -/
def coreRegs : Tbl (List Fld) := [
  (0x100000, [⟨0, 16, .ro, 0⟩, ⟨16, 16, .rc, 0xFFFF⟩]), (0x100004, [⟨0, 2, .ro, 0⟩, ⟨2, 1, .ro, 0⟩, ⟨3, 1, .ro, 0⟩, ⟨16, 16, .ro, 0⟩]),
  (0x100008, [⟨0, 2, .ro, 0⟩, ⟨4, 1, .rwl, 0⟩, ⟨8, 8, .rwl, 0⟩]),
  (0x110000, [⟨0, 1, .rwl, 1⟩, ⟨1, 1, .rwl, 0⟩, ⟨4, 8, .rwl, 100⟩, ⟨16, 8, .rwl, 50⟩, ⟨24, 7, .rwl, 64⟩]),
  (0x110004, [⟨0, 2, .ro, 0⟩, ⟨2, 1, .ro, 0⟩, ⟨3, 1, .w1c, 0⟩, ⟨4, 1, .w1c, 0⟩, ⟨8, 4, .ro, 0⟩, ⟨16, 16, .rs, 0⟩]),
  (0x110008, [⟨0, 12, .ro, 0⟩, ⟨12, 1, .w1c, 0⟩, ⟨16, 16, .rs, 0⟩]),
  (0x120000, [⟨0, 16, .ro, 0⟩, ⟨16, 16, .ro, 0⟩]), (0x120004, [⟨0, 8, .ro, 0⟩, ⟨8, 1, .ro, 0⟩]),
  (0x130000, [⟨0, 1, .rwl, 1⟩, ⟨8, 8, .rwl, 10⟩]),
  (0x130004, [⟨0, 4, .ro, 8⟩, ⟨4, 9, .ro, 0xFF⟩, ⟨13, 9, .ro, 0⟩, ⟨22, 1, .ro, 0⟩, ⟨23, 1, .ro, 0⟩, ⟨24, 8, .ro, 0⟩]),
  (0x130008, [⟨0, 16, .rs, 0⟩, ⟨16, 8, .rs, 0⟩, ⟨24, 8, .rs, 0⟩]), (0x13000C, [⟨0, 7, .ro, 0⟩, ⟨8, 8, .rs, 0⟩, ⟨16, 8, .rs, 0⟩]),
  (0x130010, [⟨0, 32, .ro, 0⟩]), (0x144000, [⟨0, 8, .rs, 0⟩, ⟨8, 8, .rs, 0⟩, ⟨16, 8, .rs, 0⟩, ⟨24, 8, .rs, 0⟩]),
  (0x163000, [⟨0, 1, .w1c, 0⟩, ⟨1, 1, .ro, 0⟩, ⟨2, 1, .ro, 0⟩, ⟨8, 8, .ro, 0⟩, ⟨16, 8, .ro, 0⟩]),
  (0x163004, [⟨0, 1, .w1c, 0⟩, ⟨1, 1, .rw, 0⟩, ⟨2, 1, .rwl, 0⟩]), (0x163010, [⟨0, 1, .rwl, 0⟩, ⟨1, 1, .rwl, 0⟩]),
  (0x163014, [⟨0, 32, .wo, 0⟩]), (0x163018, [⟨0, 16, .rs, 0⟩, ⟨16, 16, .rs, 0⟩]),
  (0x163020, [⟨0, 1, .rwl, 1⟩, ⟨1, 1, .rwl, 1⟩, ⟨2, 1, .rwl, 1⟩, ⟨8, 8, .rwl, 24⟩, ⟨16, 8, .rwl, 60⟩]),
  (0x163024, [⟨0, 5, .ro, 0⟩, ⟨5, 1, .ro, 0⟩, ⟨6, 1, .ro, 0⟩]), (0x163028, [⟨0, 32, .ro, 0⟩]), (0x16302C, [⟨0, 32, .rs, 0⟩]),
  (0x170000, [⟨0, 32, .ro, 0⟩]), (0x170004, [⟨0, 32, .ro, 0⟩]), (0x170008, [⟨0, 1, .rwl, 1⟩, ⟨8, 8, .rwl, 10⟩, ⟨16, 8, .rwl, 50⟩]),
  (0x17000C, [⟨0, 1, .ro, 0⟩, ⟨8, 8, .ro, 0⟩, ⟨16, 16, .ro, 0⟩]), (0x170010, [⟨0, 32, .ro, 0⟩]), (0x170014, [⟨0, 32, .ro, 0⟩]),
  (0x1700A0, [⟨0, 16, .ro, 0⟩, ⟨16, 16, .ro, 0⟩])]
/-- Function set-up block, but for the event rings and FN_SWEEP (04, 05, 09). -/
def fnRegs : Tbl (List Fld) := [
  (0x000, [⟨12, 20, .rwl, 0⟩]), (0x004, [⟨0, 32, .rwl, 0⟩]), (0x008, [⟨12, 20, .rwl, 0⟩]), (0x00C, [⟨0, 32, .rwl, 0⟩]),
  (0x010, [⟨0, 9, .rwl, 0⟩]), (0x018, [⟨0, 1, .ro, 0⟩, ⟨1, 1, .ro, 0⟩, ⟨2, 1, .ro, 0⟩, ⟨16, 16, .rs, 0⟩]),
  (0x020, [⟨12, 20, .rwl, 0⟩]), (0x024, [⟨0, 32, .rwl, 0⟩]), (0x028, [⟨0, 1, .rwl, 0⟩, ⟨4, 4, .rwl, 0⟩]),
  (0x030, [⟨0, 15, .rwl, 0⟩, ⟨16, 15, .rwl, 16384⟩, ⟨31, 1, .ro, 0⟩]), (0x034, [⟨0, 11, .rwl, 0⟩, ⟨16, 11, .rwl, 1024⟩, ⟨31, 1, .ro, 0⟩]),
  (0x038, [⟨0, 8, .rwl, 0⟩, ⟨16, 8, .rwl, 128⟩, ⟨31, 1, .ro, 0⟩])]
/-- The four registers of an event ring (04). -/
def evrRegs : Tbl (List Fld) := [
  (0x0, [⟨12, 20, .rwl, 0⟩]), (0x4, [⟨0, 32, .rwl, 0⟩]), (0x8, [⟨0, 1, .rwl, 0⟩, ⟨4, 4, .rwl, 0⟩, ⟨16, 11, .rwl, 0⟩]),
  (0xC, [⟨0, 10, .rwl, 0⟩, ⟨16, 1, .ro, 0⟩, ⟨17, 1, .ro, 0⟩])]
/-- Bed block (12). -/
def bedRegs : Tbl (List Fld) := [
  (0x0, [⟨0, 16, .ro, 0⟩, ⟨16, 16, .ro, 0⟩]), (0x4, [⟨0, 16, .ro, 0⟩, ⟨16, 1, .ro, 0⟩, ⟨17, 1, .ro, 0⟩, ⟨18, 1, .ro, 0⟩, ⟨19, 1, .ro, 0⟩]),
  (0x8, [⟨0, 16, .rs, 0⟩, ⟨16, 16, .rs, 0⟩])]
/-- Port block (08, 06, 07, 09, 10, 11, 12, 16). -/
def portRegs : Tbl (List Fld) := [
  (0x100, [⟨0, 1, .rwl, 1⟩, ⟨1, 1, .rwl, 1⟩, ⟨4, 3, .rwl, 4⟩, ⟨8, 1, .rwl, 0⟩, ⟨9, 1, .rwl, 0⟩, ⟨10, 1, .rwl, 1⟩, ⟨16, 8, .rwl, 20⟩, ⟨24, 8, .rwl, 50⟩]),
  (0x104, [⟨0, 8, .rwl, 0⟩, ⟨8, 8, .rwl, 0⟩, ⟨16, 1, .rwl, 0⟩, ⟨20, 4, .rwl, 0⟩, ⟨24, 4, .rwl, 1⟩, ⟨28, 1, .rwl, 0⟩]),
  (0x108, [⟨0, 4, .ro, 0⟩, ⟨4, 3, .ro, 7⟩, ⟨7, 1, .ro, 0⟩, ⟨8, 4, .ro, 0⟩, ⟨12, 3, .ro, 7⟩, ⟨16, 2, .ro, 0⟩, ⟨18, 1, .ro, 0⟩]),
  (0x10C, [⟨0, 8, .rs, 0⟩, ⟨8, 8, .rs, 0⟩, ⟨16, 16, .rs, 0⟩]),
  (0x200, [⟨0, 4, .rwl, 4⟩, ⟨16, 8, .rwl, 32⟩]), (0x208, [⟨0, 14, .ro, 0⟩, ⟨31, 1, .ro, 0⟩]), (0x20C, [⟨0, 32, .ro, 0⟩]), (0x210, [⟨0, 32, .ro, 0⟩]),
  (0x218, [⟨0, 1, .rwl, 1⟩, ⟨1, 1, .rwl, 1⟩, ⟨2, 1, .rwl, 1⟩, ⟨4, 4, .rwl, 0⟩]), (0x21C, [⟨0, 16, .rs, 0⟩, ⟨16, 16, .rs, 0⟩]),
  (0x300, [⟨0, 2, .rwl, 0⟩, ⟨2, 1, .rwl, 0⟩, ⟨3, 1, .rwl, 0⟩, ⟨4, 1, .rwl, 0⟩]),
  (0x400, [⟨0, 2, .ro, 0⟩, ⟨2, 2, .rwl, 0⟩, ⟨4, 2, .rwl, 0⟩, ⟨6, 2, .rwl, 0⟩, ⟨8, 1, .rwl, 0⟩, ⟨9, 1, .rwl, 0⟩, ⟨10, 1, .rwl, 0⟩, ⟨11, 1, .rwl, 0⟩,
    ⟨12, 2, .rwl, 0⟩, ⟨14, 1, .rwl, 0⟩, ⟨16, 7, .rwl, 0⟩, ⟨24, 7, .rwl, 0⟩]),
  (0x404, [⟨0, 10, .rwl, 0⟩, ⟨10, 1, .rwl, 0⟩, ⟨11, 1, .rwl, 0⟩, ⟨16, 8, .rwl, 0⟩]), (0x408, [⟨0, 7, .rwl, 0⟩, ⟨7, 1, .rwl, 0⟩]),
  (0x410, [⟨0, 15, .ro, 0⟩]), (0x414, [⟨0, 16, .rs, 0⟩, ⟨16, 8, .rs, 0⟩, ⟨24, 8, .rs, 0⟩]),
  (0x418, [⟨0, 12, .rs, 0⟩, ⟨12, 8, .rs, 0⟩, ⟨20, 6, .rs, 0⟩, ⟨26, 6, .rs, 0⟩]),
  (0x420, [⟨0, 22, .rwl, 0⟩, ⟨22, 2, .rwl, 0⟩, ⟨24, 1, .rwl, 0⟩, ⟨25, 1, .rwl, 0⟩, ⟨26, 1, .rwl, 0⟩]), (0x424, [⟨12, 20, .rwl, 0⟩]),
  (0x428, [⟨0, 32, .rwl, 0⟩]), (0x42C, [⟨0, 16, .rs, 0⟩, ⟨16, 16, .rs, 0⟩]),
  (0x500, [⟨0, 1, .rwl, 0⟩, ⟨1, 1, .rwl, 0⟩, ⟨2, 1, .rwl, 0⟩, ⟨3, 1, .rwl, 1⟩, ⟨4, 2, .rwl, 0⟩, ⟨6, 1, .rwl, 0⟩, ⟨7, 1, .rwl, 1⟩, ⟨8, 1, .rwl, 0⟩,
    ⟨9, 1, .rwl, 1⟩, ⟨16, 8, .rwl, 50⟩, ⟨24, 8, .rwl, 10⟩]),
  (0x504, [⟨0, 1, .ro, 1⟩, ⟨1, 1, .rwl, 0⟩, ⟨2, 1, .rwl, 0⟩, ⟨3, 1, .rwl, 0⟩, ⟨4, 1, .rwl, 0⟩, ⟨5, 1, .rwl, 0⟩, ⟨6, 1, .rwl, 0⟩, ⟨8, 2, .rwl, 0⟩, ⟨16, 7, .rwl, 60⟩]),
  (0x508, [⟨0, 10, .rwl, 50⟩, ⟨16, 7, .rwl, 10⟩, ⟨24, 1, .rwl, 0⟩, ⟨25, 1, .rwl, 0⟩]), (0x50C, [⟨0, 16, .rwl, 0x1EF7⟩, ⟨16, 16, .rwl, 0x5A80⟩]),
  (0x510, [⟨0, 12, .ro, 0⟩]), (0x514, [⟨0, 32, .ro, 0⟩]), (0x518, [⟨0, 32, .ro, 0⟩]), (0x51C, [⟨0, 8, .rs, 0⟩, ⟨8, 8, .rs, 0⟩, ⟨16, 8, .rs, 0⟩, ⟨24, 8, .rs, 0⟩]),
  (0x600, [⟨0, 7, .rwl, 10⟩, ⟨8, 6, .rwl, 20⟩, ⟨24, 8, .rwl, 8⟩]), (0x604, [⟨0, 7, .rwl, 25⟩, ⟨8, 4, .rwl, 2⟩, ⟨12, 10, .rwl, 100⟩, ⟨22, 7, .rwl, 16⟩]),
  (0x608, [⟨0, 32, .ro, 0⟩]), (0x60C, [⟨0, 29, .ro, 0⟩]), (0x610, [⟨0, 29, .ro, 0⟩]), (0x614, [⟨0, 32, .ro, 0⟩]),
  (0x618, [⟨0, 2, .rwl, 0⟩, ⟨2, 1, .rwl, 1⟩, ⟨3, 1, .rwl, 0⟩, ⟨4, 2, .rwl, 1⟩]), (0x61C, [⟨0, 32, .ro, 0⟩]),
  (0x620, [⟨0, 8, .rs, 0⟩, ⟨8, 8, .rs, 0⟩, ⟨16, 8, .rs, 0⟩, ⟨24, 8, .rs, 0⟩]),
  (0x700, [⟨0, 18, .ro, 0⟩, ⟨18, 1, .w1c, 0⟩, ⟨19, 7, .ro, 0⟩]), (0x704, [⟨0, 32, .rs, 0⟩]), (0x708, [⟨0, 16, .rs, 0⟩, ⟨16, 8, .rs, 0⟩, ⟨24, 1, .ro, 0⟩]),
  (0x710, [⟨0, 32, .ro, 0⟩]), (0x714, [⟨0, 32, .ro, 0⟩]), (0x718, [⟨0, 32, .ro, 0⟩]), (0x71C, [⟨0, 32, .ro, 0⟩]),
  (0x800, [⟨0, 32, .ro, 0⟩]), (0x804, [⟨0, 32, .ro, 0⟩]), (0x808, [⟨0, 32, .ro, 0⟩]), (0x80C, [⟨0, 32, .ro, 0⟩]), (0x810, [⟨0, 32, .ro, 0⟩]), (0x814, [⟨0, 32, .ro, 0⟩])]

/-- A row of the fault catalogue: class, default reaction and floor (15 R507, R518). -/
structure CatRow where
  cls : Nat
  react : Nat
  floor : Nat
  deriving DecidableEq, Repr

/-- The fault catalogue (15 R518); none for a reserved source. -/
def catalogue (n : Nat) : Option CatRow :=
  if n < 512 then
    match n % 4 with
    | 0 => some ⟨1, 1, 0⟩
    | 1 => some ⟨1, 1, 0⟩
    | 2 => some ⟨1, 2, 2⟩
    | _ => some ⟨0, 0, 0⟩
  else if n < 576 then
    match n % 8 with
    | 0 => some ⟨0, 0, 0⟩
    | 1 => some ⟨2, 3, 3⟩
    | 2 => some ⟨0, 0, 0⟩
    | 3 => some ⟨2, 3, 3⟩
    | 4 => some ⟨2, 1, 1⟩
    | 5 => some ⟨1, 1, 0⟩
    | 6 => some ⟨1, 1, 1⟩
    | _ => some ⟨2, 3, 3⟩
  else if n < 592 then some ⟨3, 1, 1⟩
  else if n < 624 then some ⟨3, 1, 0⟩
  else if n < 627 then
    match n with
    | 624 => some ⟨1, 1, 1⟩
    | 625 => some ⟨1, 2, 2⟩
    | _ => some ⟨0, 0, 0⟩
  else if n < 636 then some ⟨3, 1, 1⟩
  else if 651 ≤ n ∧ n ≤ 658 then some ⟨1, 1, 0⟩
  else tget none [(636, some ⟨3, 1, 1⟩), (637, some ⟨0, 0, 0⟩), (638, some ⟨3, 4, 4⟩), (639, some ⟨3, 1, 0⟩), (640, some ⟨3, 4, 4⟩), (641, some ⟨3, 1, 1⟩),
    (642, some ⟨3, 1, 0⟩), (643, some ⟨3, 1, 1⟩), (644, some ⟨3, 1, 1⟩), (645, some ⟨3, 1, 1⟩), (646, some ⟨3, 1, 1⟩), (647, some ⟨0, 0, 0⟩),
    (648, some ⟨3, 1, 0⟩), (649, some ⟨1, 1, 1⟩), (650, some ⟨1, 1, 1⟩), (659, some ⟨3, 1, 1⟩), (660, some ⟨0, 1, 1⟩), (661, some ⟨0, 0, 0⟩)] n

/-- Fields of FLT_SRC n (15). -/
def fltSrcFields (n : Nat) : List Fld :=
  match catalogue n with
  | none => []
  | some c => [⟨0, 2, .ro, c.cls⟩, ⟨4, 3, .rwl, c.react⟩, ⟨8, 3, .ro, c.floor⟩, ⟨12, 3, .rwl, 0⟩, ⟨16, 8, .ro, 0⟩, ⟨24, 1, .ro, 0⟩]

def portReg (p off : Nat) : Nat := 0x3000000 + p * 0x10000 + off
def fnReg (f off : Nat) : Nat := 0x1000000 + f * 0x4000 + off
def bedReg (b off : Nat) : Nat := 0x2000000 + b * 0x100000 + off
def evrReg (f r off : Nat) : Nat := fnReg f (0x1000 + 16 * r + off)
def pfnReg (p : Nat) : Nat := 0x10400 + 4 * p
def sliceReg (f : Nat) : Nat := 0x10800 + 4 * f
def watchReg (i : Nat) : Nat := 0x110100 + 4 * i
def fltReg (n : Nat) : Nat := 0x160000 + 4 * n
def fltCntReg (n : Nat) : Nat := 0x161000 + 4 * n
def teleTempReg (i : Nat) : Nat := 0x170020 + 4 * i
def graftReg (i : Nat) : Nat := 0x150000 + 8 * i

/-- The fields that an offset of PF BAR0 defines; none where it is unimplemented (00 R23; 03 R98; 18). -/
def fields (off : Nat) : List Fld :=
  if off % 4 ≠ 0 then []
  else if off < 0x1000 then tget [] globalRegs off
  else if off < 0x1100 then (if 0x1080 ≤ off ∧ off < 0x10C0 then [⟨0, 32, .ro, 0⟩] else tget [] bootRegs off)
  else if off < 0x10400 then []
  else if off < 0x10600 then [⟨0, 8, .rwl, (off - 0x10400) / 4 + 1⟩, ⟨8, 1, .rwl, 0⟩, ⟨9, 1, .rwl, 0⟩, ⟨10, 1, .rwl, 1⟩]
  else if off < 0x10800 then []
  else if off < 0x10A04 then [⟨0, 10, .rwl, 0⟩, ⟨16, 10, .rwl, 512⟩, ⟨31, 1, .ro, 0⟩]
  else if off < 0x100000 then []
  else if off < 0x180000 then
    if 0x110100 ≤ off ∧ off < 0x110200 then [⟨0, 12, .rwl, 0⟩, ⟨15, 1, .rwl, 0⟩]
    else if 0x140000 ≤ off ∧ off < 0x143FFC then [⟨0, 26, .ro, 0⟩]
    else if 0x150000 ≤ off ∧ off < 0x150040 then
      (if off % 8 = 0 then [⟨0, 2, .ro, 0⟩, ⟨8, 8, .rs, 0⟩, ⟨16, 16, .rs, 0⟩] else [⟨0, 32, .ro, 0⟩])
    else if 0x160000 ≤ off ∧ off < 0x161000 then fltSrcFields ((off - 0x160000) / 4)
    else if 0x161000 ≤ off ∧ off < 0x162000 then [⟨0, 32, .rs, 0⟩]
    else if 0x162000 ≤ off ∧ off < 0x162080 then [⟨0, 32, .w1c, 0⟩]
    else if 0x162080 ≤ off ∧ off < 0x162100 then [⟨0, 32, .ro, 0⟩]
    else if 0x162100 ≤ off ∧ off < 0x162180 then [⟨0, 32, .w1c, 0⟩]
    else if 0x162180 ≤ off ∧ off < 0x162200 then [⟨0, 32, .ro, 0⟩]
    else if 0x170020 ≤ off ∧ off < 0x170044 then [⟨0, 8, .ro, 0⟩, ⟨8, 8, .rc, 0⟩, ⟨16, 8, .rwl, 159⟩, ⟨24, 1, .ro, 0⟩]
    else if 0x170060 ≤ off ∧ off < 0x1700A0 then [⟨0, 15, .ro, 0⟩]
    else tget [] coreRegs off
  else if off < 0x1000000 then []
  else if off < 0x1204000 then
    let f := (off - 0x1000000) / 0x4000
    let o := (off - 0x1000000) % 0x4000
    if o = 0x14 then [⟨0, 9, .rwl, if f = 0 then 4 else 32⟩, ⟨16, 1, .rwl, 0⟩, ⟨24, 8, .rwl, 64⟩]
    else if o < 0x1000 then tget [] fnRegs o
    else if o < 0x1000 + 16 * (if f = 0 then 256 else 16) then tget [] evrRegs (o % 16)
    else []
  else if off < 0x2000000 then []
  else if off < 0x2800000 then tget [] bedRegs ((off - 0x2000000) % 0x100000)
  else if off < 0x3000000 then []
  else if off < 0x3800000 then tget [] portRegs ((off - 0x3000000) % 0x10000)
  else []

/-- The reset value of a register: its fields' reset values in place. -/
def resetVal (off : Nat) : Nat := ((fields off).map (fun f => f.reset * 2 ^ f.lo)).sum

/-- The stored word of a register. -/
def State.rget (s : State) (off : Nat) : Nat := tget (resetVal off) s.regs off
def State.rput (s : State) (off v : Nat) : State := { s with regs := tput (resetVal off) s.regs off v }
/-- A field of a stored word. -/
def State.fld (s : State) (off lo w : Nat) : Nat := bits (s.rget off) lo w
def State.fldPut (s : State) (off lo w v : Nat) : State := s.rput off (setBits (s.rget off) lo w v)
/-- A count that holds at its maximum (00 R25, RS). -/
def State.rsAdd (s : State) (off lo w n : Nat) : State := s.fldPut off lo w (satAdd w (s.fld off lo w) n)

/-- What a write leaves in one field, by its access code and the lock (00 R25; 18 R599). -/
def Fld.write (f : Fld) (locked : Bool) (old w : Nat) : Nat :=
  let o := bits old f.lo f.w
  let n := bits w f.lo f.w
  match f.acc with
  | .rw => n
  | .rwl => if locked then o else n
  | .w1c => if f.w = 1 ∧ n = 1 then 0 else o
  | .rs => if n = 0 then 0 else o
  | .ro | .wo | .rc => o

/-- A write of a stored word, field by field. -/
def writeWord (fs : List Fld) (locked : Bool) (old w : Nat) : Nat :=
  fs.foldl (fun v f => setBits v f.lo f.w (f.write locked old w)) (old % two32)

/-- A write after the lock that reaches an RWL field is counted once (18 R600); in the boot block a WO field too (02 R54). -/
def State.countBlocked (s : State) (off : Nat) (vf : Bool) : State :=
  { s.rsAdd 0x44 0 16 1 with blockedLast := off % 2 ^ 26 + (if vf then 2 ^ 26 else 0) }

/-- Whether a write to an offset reaches a field that the lock freezes. -/
def reachesLocked (off : Nat) : Bool := (fields off).any (fun f => f.acc == .rwl)

/-- A register write that only acts on stored fields. -/
def State.plainWrite (s : State) (off w : Nat) : State :=
  let s := if s.lock && reachesLocked off then s.countBlocked off false else s
  s.rput off (writeWord (fields off) s.lock (s.rget off) w)

/-! ### Sleeping blocks -/

/-- Block number of a BAR0 offset (13 R467); none outside the blocks of R98. -/
def blockOf (off : Nat) : Option Nat :=
  if off < 0x1000 then some 0
  else if off < 0x1100 then some 1
  else if 0x10000 ≤ off ∧ off < 0x20000 then some 0x10
  else if 0x100000 ≤ off ∧ off < 0x1000000 then some (0x100 + (off - 0x100000) / 0x10000)
  else if 0x1000000 ≤ off ∧ off < 0x1204000 then some (0x200 + (off - 0x1000000) / 0x4000)
  else if 0x2000000 ≤ off ∧ off < 0x2800000 then some (0x300 + (off - 0x2000000) / 0x100000)
  else if 0x3000000 ≤ off ∧ off < 0x3800000 then some (0x400 + (off - 0x3000000) / 0x10000)
  else none

/-- Whether sowing is complete (02 R47). -/
def State.served (s : State) : Bool := s.boot.st == .served

/-- Whether a block's handshakes are stopped or its power is off (02 R47; 13 R468; 15 R511). -/
def State.asleep (s : State) (blk : Nat) : Bool :=
  if !s.served then !(blk == 0 || blk == 1)
  else if s.mode.pwr == .dormant then !(blk == 0 || blk == 1 || blk == 0x101)
  else if 0x300 ≤ blk ∧ blk < 0x308 then (s.bed (blk - 0x300)).isolating || (s.bed (blk - 0x300)).retired
  else if 0x400 ≤ blk ∧ blk < 0x480 then (s.bed ((blk - 0x400) / 16)).isolating || (s.bed ((blk - 0x400) / 16)).retired
  else false

/-- Whether a BAR0 offset is answered with the sleep word. -/
def State.offAsleep (s : State) (off : Nat) : Bool :=
  match blockOf off with
  | none => false
  | some b => s.asleep b

/-- The sleep word of a block (00 R24). -/
def sleepWord (blk : Nat) : Nat := 0x5EED0000 + blk % 4096

/-- SLEEPHIT records an access answered with the sleep word (00 R24; 13). -/
def State.sleepHit (s : State) (blk : Nat) : State :=
  ((s.fldPut 0x110008 0 12 blk).fldPut 0x110008 12 1 1).rsAdd 0x110008 16 16 1

/-! ### Settings, as the part acts on them -/

/-- A field where 0 selects a default and other values act as the nearer limit. -/
def sel0 (x dflt lo hi : Nat) : Nat := if x = 0 then dflt else clamp lo hi x

def State.portFunc (s : State) (p : Nat) : Nat := s.fld (pfnReg p) 0 8
def State.vfPower (s : State) (p : Nat) : Bool := bit (s.rget (pfnReg p)) 8
def State.pfCapture (s : State) (p : Nat) : Bool := bit (s.rget (pfnReg p)) 9
def State.pfCopy (s : State) (p : Nat) : Bool := bit (s.rget (pfnReg p)) 10
/-- Whether a function exists (03 R103). -/
def State.fnExists (s : State) (f : Nat) : Bool := f == 0 || (s.pcie.vfEn && decide (f ≤ s.pcie.numVfs) && decide (f ≤ 128))
/-- The function that owns a port's events: the PF for a port of a VF that does not exist (03 R103). -/
def State.portOwner (s : State) (p : Nat) : Nat := if s.fnExists (s.portFunc p) then s.portFunc p else 0
/-- The ports of a function. -/
def State.fnPorts (s : State) (f : Nat) : List Nat := ports.filter (fun p => s.portFunc p == f)

/-- Trough slice in bytes: reserve and limit (03). -/
def State.sliceReserve (s : State) (f : Nat) : Nat := tget 0 s.grants (f * 4) * 65536
def State.sliceLimit (s : State) (f : Nat) : Nat := clamp 1 512 (s.fld (sliceReg f) 16 10) * 65536

def State.groups (s : State) (f : Nat) : Nat := s.fld (fnReg f 0x10) 0 9
def State.bellBase (s : State) (f : Nat) : Nat := s.rget (fnReg f 0x0) + s.rget (fnReg f 0x4) * two32
def State.prodBase (s : State) (f : Nat) : Nat := s.rget (fnReg f 0x8) + s.rget (fnReg f 0xC) * two32
def State.dozeEn (s : State) (f : Nat) : Bool := bit (s.rget (fnReg f 0x14)) 16
def State.dozeIdle (s : State) (f : Nat) : Nat := max 1 (s.fld (fnReg f 0x14) 24 8)
def State.cmdBase (s : State) (f : Nat) : Nat := s.rget (fnReg f 0x20) + s.rget (fnReg f 0x24) * two32
def State.cmdEnable (s : State) (f : Nat) : Bool := bit (s.rget (fnReg f 0x28)) 0
def State.cmdSeg (s : State) (f : Nat) : Nat := (s.fld (fnReg f 0x28) 4 4 + 1) * 128

def State.evrEnable (s : State) (f r : Nat) : Bool := bit (s.rget (evrReg f r 0x8)) 0
/-- Records of an event ring (04). -/
def State.evrSize (s : State) (f r : Nat) : Nat := 128 * 2 ^ min 8 (s.fld (evrReg f r 0x8) 4 4)
def State.evrVec (s : State) (f r : Nat) : Nat := s.fld (evrReg f r 0x8) 16 11
def State.evrHold (s : State) (f r : Nat) : Nat := s.fld (evrReg f r 0xC) 0 10
def State.evrBase (s : State) (f r : Nat) : Nat := s.rget (evrReg f r 0) + s.rget (evrReg f r 4) * two32
/-- Vectors of a function's MSI-X table (03 R107). -/
def vectors (f : Nat) : Nat := if f = 0 then 2048 else 16
/-- Event rings of a function (04). -/
def ringsOf (f : Nat) : Nat := if f = 0 then 256 else 16

/-- Slots, contexts and guests of a function: reserve granted and limit (05 R170, R171; 09 R313). -/
def State.slotReserve (s : State) (f : Nat) : Nat := tget 0 s.grants (f * 4 + 1)
def State.slotLimit (s : State) (f : Nat) : Nat := clamp 1 16384 (s.fld (fnReg f 0x30) 16 15)
def State.ctxReserve (s : State) (f : Nat) : Nat := tget 0 s.grants (f * 4 + 2) * 256
def State.ctxLimit (s : State) (f : Nat) : Nat := clamp 1 1024 (s.fld (fnReg f 0x34) 16 11) * 256
def State.guestReserve (s : State) (f : Nat) : Nat := tget 0 s.grants (f * 4 + 3)
def State.guestLimit (s : State) (f : Nat) : Nat := clamp 1 128 (s.fld (fnReg f 0x38) 16 8)

def State.nakLimit (s : State) (p : Nat) : Nat := max 1 (s.fld (portReg p 0x200) 0 4)
def State.isoHold (s : State) (p : Nat) : Nat := max 1 (s.fld (portReg p 0x200) 16 8)
def State.descEn (s : State) (p : Nat) : Bool := bit (s.rget (portReg p 0x218)) 0
def State.inEn (s : State) (p : Nat) : Bool := bit (s.rget (portReg p 0x218)) 1
def State.outEn (s : State) (p : Nat) : Bool := bit (s.rget (portReg p 0x218)) 2
def State.depthCap (s : State) (p : Nat) : Nat := s.fld (portReg p 0x218) 4 4
def State.usb2En (s : State) (p : Nat) : Bool := bit (s.rget (portReg p 0x100)) 0
def State.ssEn (s : State) (p : Nat) : Bool := bit (s.rget (portReg p 0x100)) 1
/-- MAX_SPEED: 0 and 5 – 7 act as 4 (08). -/
def State.maxSpeed (s : State) (p : Nat) : Nat :=
  let x := s.fld (portReg p 0x100) 4 3
  if x = 0 ∨ 5 ≤ x then 4 else x
def State.autoReset (s : State) (p : Nat) : Bool := bit (s.rget (portReg p 0x100)) 8
def State.autoWarm (s : State) (p : Nat) : Bool := bit (s.rget (portReg p 0x100)) 9
def State.wakeEn (s : State) (p : Nat) : Bool := bit (s.rget (portReg p 0x100)) 10
def State.resumeMs (s : State) (p : Nat) : Nat := clamp 20 50 (s.fld (portReg p 0x100) 16 8)
def State.resetMs (s : State) (p : Nat) : Nat := clamp 50 100 (s.fld (portReg p 0x100) 24 8)
def State.u1Timeout (s : State) (p : Nat) : Nat := min 127 (s.fld (portReg p 0x104) 0 8)
def State.u2Timeout (s : State) (p : Nat) : Nat := min 254 (s.fld (portReg p 0x104) 8 8)
def State.l1En (s : State) (p : Nat) : Bool := bit (s.rget (portReg p 0x104)) 16
def State.besl (s : State) (p : Nat) : Nat := s.fld (portReg p 0x104) 20 4
def State.l1Idle (s : State) (p : Nat) : Nat := max 1 (s.fld (portReg p 0x104) 24 4)
def State.l1Wake (s : State) (p : Nat) : Bool := bit (s.rget (portReg p 0x104)) 28
def State.roleCfg (s : State) (p : Nat) : Nat := s.fld (portReg p 0x300) 0 2
def State.devU1 (s : State) (p : Nat) : Bool := bit (s.rget (portReg p 0x300)) 2
def State.devU2 (s : State) (p : Nat) : Bool := bit (s.rget (portReg p 0x300)) 3
def State.devL1 (s : State) (p : Nat) : Bool := bit (s.rget (portReg p 0x300)) 4

/-- Port profiles (10). -/
inductive Profile | disabled | typec | typea | soldered
  deriving DecidableEq, Repr
def State.profile (s : State) (p : Nat) : Profile :=
  match s.fld (portReg p 0x400) 0 2 with
  | 1 => .typec
  | 2 => .typea
  | 3 => .soldered
  | _ => .disabled
def State.brgEnable (s : State) (p : Nat) : Bool := bit (s.rget (portReg p 0x420)) 26
def State.brgSwap (s : State) (p : Nat) : Bool := bit (s.rget (portReg p 0x420)) 25
def State.brgBase (s : State) (p : Nat) : Nat := s.rget (portReg p 0x424) + s.rget (portReg p 0x428) * two32
/-- Baud rate of the bridge (10). -/
def State.baud (s : State) (p : Nat) : Nat := sel0 (s.fld (portReg p 0x420) 0 22) 115200 9600 3000000
def State.vid (s : State) (p : Nat) : Nat := s.fld (portReg p 0x50C) 0 16
def State.pid (s : State) (p : Nat) : Nat := s.fld (portReg p 0x50C) 16 16
/-- Gate ramp in 0.1 V/ms, inrush limit in mA, retry limit (0: unlimited) (12). -/
def State.rampRate (s : State) (p : Nat) : Nat := clamp 1 100 (s.fld (portReg p 0x600) 0 7)
def State.inrushMa (s : State) (p : Nat) : Nat := clamp 2 60 (s.fld (portReg p 0x600) 8 6) * 50
def State.retryLimit (s : State) (p : Nat) : Nat := s.fld (portReg p 0x600) 24 8
/-- OCP margin in percent, short-circuit multiple in hundredths, timer in 0.1 ms, retry off-time in ms (12). -/
def State.ocpMargin (s : State) (p : Nat) : Nat := clamp 5 100 (s.fld (portReg p 0x604) 0 7)
def State.scMult (s : State) (p : Nat) : Nat := 150 + 25 * min 10 (s.fld (portReg p 0x604) 8 4)
def State.ocTimer (s : State) (p : Nat) : Nat := clamp 1 1000 (s.fld (portReg p 0x604) 12 10)
def State.retryOffMs (s : State) (p : Nat) : Nat := clamp 1 100 (s.fld (portReg p 0x604) 22 7) * 100
def State.indMode (s : State) (p : Nat) : Nat := s.fld (portReg p 0x618) 0 2

def State.autoRaise (s : State) : Bool := bit (s.rget 0x100008) 4
/-- Tempo margin (13): 0 selects 256, 1 – 3 act as 4. -/
def State.margin (s : State) : Nat := sel0 (s.fld 0x100008 8 8) 16 4 255 * 16
def State.drowseEn (s : State) : Bool := bit (s.rget 0x110000) 0
def State.dormantEn (s : State) : Bool := bit (s.rget 0x110000) 1
def State.drowseSweep (s : State) : Nat := clamp 8 64 (s.fld 0x110000 24 7)
/-- Floor of the sweep period in ns: of the mode, and in Drowse DROWSE_SWEEP (04 R161; 13 R456). -/
def State.sweepFloor (s : State) : Nat :=
  if s.mode.pwr = .drowse then s.drowseSweep * 1000
  else match s.mode.mode with
    | .bloom => 250
    | .steady => 1000
    | .fallow => 8000
/-- Effective sweep period in ns (04 R161; 01 R42). -/
def State.sweepPeriod (s : State) (f : Nat) : Nat := max (clamp 1 256 (s.fld (fnReg f 0x14) 0 9) * 250) s.sweepFloor
def State.rotEnable (s : State) : Bool := bit (s.rget 0x130000) 0
def State.rotPeriod (s : State) : Nat := max 1 (s.fld 0x130000 8 8)
def State.scrubEn (s : State) : Bool := bit (s.rget 0x163020) 0
def State.marchEn (s : State) : Bool := bit (s.rget 0x163020) 1
def State.adcCalEn (s : State) : Bool := bit (s.rget 0x163020) 2
def State.pinForce (s : State) : Bool := bit (s.rget 0x163004) 1
def State.injPin (s : State) : Bool := bit (s.rget 0x163004) 2
def State.injEn (s : State) : Bool := bit (s.rget 0x163010) 0
def State.injWireEn (s : State) : Bool := bit (s.rget 0x163010) 1
def State.ptmUse (s : State) : Bool := bit (s.rget 0x170008) 0
def State.slewPpm (s : State) : Nat := clamp 1 200 (s.fld 0x170008 16 8)
/-- Warning level of a die in °C + 64 (16). -/
def State.warnLevel (s : State) (i : Nat) : Nat := min 184 (s.fld (teleTempReg i) 16 8)
/-- The reaction of a source: REACT, at least its FLOOR, 5 – 7 act as 4 (15 R507). -/
def State.reactOf (s : State) (n : Nat) : Nat := max (min 4 (s.fld (fltReg n) 4 3)) (((catalogue n).map (·.floor)).getD 0)
def State.injReactOf (s : State) (n : Nat) : Nat := min 4 (s.fld (fltReg n) 12 3)

end Sys2Proof.Machine
end

