-- ==== Sys2Proof/Machine/Flags.lean ====
section
/-! DEFINITION. The codes and packed words of the host-visible structures: completion codes (04 R144), event types
(04 R143), the event record (04 R142) and the DETAIL words that several commands share. -/

namespace Sys2Proof.Machine

open Sys2Proof

/-! ### Completion codes (04 R144) -/

def ccSuccess : Nat := 0x01
def ccShort : Nat := 0x02
def ccStall : Nat := 0x03
def ccBabble : Nat := 0x04
def ccXact : Nat := 0x05
def ccSplit : Nat := 0x06
def ccMissed : Nat := 0x07
def ccIsoNoBuffer : Nat := 0x08
def ccHostMem : Nat := 0x09
def ccDescriptor : Nat := 0x0A
def ccStopped : Nat := 0x0B
def ccResetAborted : Nat := 0x0C
def ccBusReset : Nat := 0x0D
def ccDetached : Nat := 0x0E
def ccBandwidth : Nat := 0x10
def ccResource : Nat := 0x11
def ccContext : Nat := 0x12
def ccParam : Nat := 0x13
def ccFunction : Nat := 0x14
def ccState : Nat := 0x15
def ccBusy : Nat := 0x16
def ccBusySched : Nat := 0x17
def ccToken : Nat := 0x18
def ccNonce : Nat := 0x19
def ccSig : Nat := 0x1A
def ccOtp : Nat := 0x1B
def ccUnknown : Nat := 0x1C
def ccAborted : Nat := 0x1D

/-! ### Event types (04 R143) -/

def evTransfer : Nat := 1
def evCommand : Nat := 2
def evPort : Nat := 3
def evPd : Nat := 4
def evPower : Nat := 5
def evFault : Nat := 6
def evCapture : Nat := 7
def evTempo : Nat := 8
def evMode : Nat := 9
def evResidual : Nat := 10

/-- The eight words of an event record (04 R142). -/
def EvRec.words (e : EvRec) (gen : Bool) : List Nat :=
  [e.ptr % two32, e.ptr / two32 % two32, e.count % 2 ^ 24 + e.code % 256 * 2 ^ 24, e.cookie % two32, e.time % two32, e.time / two32 % two32,
   e.detail % two32, b2n gen + e.ty % 16 * 16 + e.ep % 32 * 256 + e.src % 65536 * 65536]

/-- DETAIL of a TRANSFER event (04 R143). -/
def xferDetail (ed noTd : Bool) (stream : Nat) : Nat := b2n ed + b2n noTd * 2 + stream % 1024 * 65536
/-- DETAIL of a COMMAND event (04 R143). -/
def cmdDetail (opcode result : Nat) : Nat := opcode % 256 + result % 2 ^ 24 * 256

/-! ### Codes of states (02; 05 R173, R177; 08 R277; 09 R314; 10 R344; 12 R424; 13) -/

def SowState.code : SowState → Nat
  | .awaiting => 0 | .receiving => 1 | .checking => 2 | .starting => 3 | .served => 4 | .refused => 5 | .uprooted => 6
def Life.code : Life → Nat
  | .seedling => 1 | .planted => 2 | .uprooted => 3
def SlotSt.code : SlotSt → Nat
  | .free => 0 | .dflt => 1 | .addressed => 2 | .configured => 3
def EpSt.code : EpSt → Nat
  | .closed => 0 | .idle => 1 | .running => 2 | .paused => 3 | .halted => 4 | .faulted => 5
def LinkSt.code : LinkSt → Nat
  | .off => 0 | .disconnected => 1 | .attached => 2 | .resetting => 3 | .enabled => 4 | .suspended => 5 | .resuming => 6 | .error => 7 | .withheld => 8
def GuestSt.code : GuestSt → Nat
  | .free => 0 | .ready => 1 | .dflt => 2 | .addressed => 3
def TcSt.code : TcSt → Nat
  | .disabled => 0 | .errorRecovery => 1 | .unattachedSnk => 2 | .attachWaitSnk => 3 | .attachedSnk => 4 | .unattachedSrc => 5 | .attachWaitSrc => 6
  | .attachedSrc => 7 | .trySrc => 8 | .tryWaitSnk => 9 | .trySnk => 10 | .tryWaitSrc => 11 | .unorientedDebug => 12 | .orientedDebug => 13
  | .debugSnk => 14 | .audio => 15 | .drying => 16 | .fixed => 17
def PathSt.code : PathSt → Nat
  | .off => 0 | .ramp => 1 | .on => 2 | .trip => 3 | .cool => 4 | .latched => 5
def Mode.code : Mode → Nat
  | .steady => 0 | .bloom => 1 | .fallow => 2
def PwrSt.code : PwrSt → Nat
  | .active => 0 | .drowse => 1 | .dormant => 2
def speedCode : Speed → Nat
  | .low => 0 | .full => 1 | .high => 2 | .gen1 => 3 | .gen2 => 4
def PdoKind.code : PdoKind → Nat
  | .fixed => 0 | .pps => 1 | .avs => 2
def ResetBy.code : ResetBy → Nat
  | .action => 0 | .autoReset => 1 | .autoWarm => 2 | .flr => 3

end Sys2Proof.Machine
end

