-- ==== Sys2Proof/Machine/Events.lean ====
section
/-! DEFINITION. Event records and commands: posting a record to an event ring (04 R142 – R152), MSI-X messages (03 R108),
the delivery of each event type (04 R143), command completion (04 R140), and the two ways a command waits (04 R139, R150). -/

namespace Sys2Proof.Machine

open Sys2Proof

/-- The timebase in ns: the local count, and the alignment under PTM_USE (16 R552, R553). -/
def State.now (s : State) : Nat := if s.ptmUse then ((s.time.local_ : Int) + s.time.offset).toNat % 2 ^ 64 else s.time.local_ % 2 ^ 64

/-- Sends one message of a vector, or sets its PBA bit while it is masked (03 R108). -/
def msixSend (f v : Nat) (s : State) : State :=
  let c := s.cfgFn f
  if c.msixEn && !c.msixMask && !(s.vec f v).mask then s.emit (.msix f v) else s.vecOn f v (fun x => { x with pba := true })

/-- A record has been written to a ring: message or pending mark (04 R152 rules 1, 2). -/
def evrSignal (f r : Nat) (s : State) : State :=
  if (s.evr f r).timer then s.evrOn f r (fun e => { e with mark := true })
  else msixSend f (s.evrVec f r) (s.evrOn f r (fun e => { e with timer := true }))

/-- Room in a ring: W is not equal to C + N (04 R147). -/
def State.evrRoom (s : State) (f r : Nat) : Bool := (s.evr f r).w != add32 (s.evr f r).c (s.evrSize f r)
/-- A ring that is full (04 R150). -/
def State.evrFull (s : State) (f r : Nat) : Bool := s.evrEnable f r && !s.evrRoom f r

/-- Writes a record at the ring's next position, with the generation of its lap (04 R145), and signals it. -/
def writeRec (f r : Nat) (e : EvRec) (s : State) : State :=
  let w := (s.evr f r).w
  let n := s.evrSize f r
  let s := s.emit (.record f r (w % n) (w / n % 2 == 0) { e with time := s.now })
  evrSignal f r (s.evrOn f r (fun x => { x with w := add32 x.w 1 }))

/-- The count of a function's unsent records rises (04 R151, R614). -/
def unsentAdd (f : Nat) (s : State) : State := s.rsAdd (fnReg f 0x18) 16 16 1
/-- A record falls due for a ring: it is counted as unsent when the ring is disabled (04 R151, R614; DESIGN CHOICE, notes/assumptions/71.md:
so are TRANSFER, RESIDUAL and COMMAND records for a disabled ring 0, of which the rules say nothing), written when there
is room, and else waits (04 R150). A function under FLR gets none (03 R116); a function in D3hot gets its records on its return to D0,
with PME when PME_En is set (13 R458). -/
def post (f r : Nat) (e : EvRec) (s : State) : State :=
  if s.pcie.flr.contains f then s
  else if !s.evrEnable f r then unsentAdd f s
  else if (s.cfgFn f).d3 then
    let s := if (s.cfgFn f).pmeEn && (s.evr f r).wait.isEmpty then s.emit (.pme f) else s
    s.evrOn f r (fun x => { x with wait := x.wait ++ [e] })
  else if (s.evr f r).wait.isEmpty && s.evrRoom f r then writeRec f r e s
  else { s.evrOn f r (fun x => { x with wait := x.wait ++ [e] }) with blocked := s.blocked ++ [(f, r)] }

/-- Writes the records that wait for a ring, as far as its room goes (04 R150). -/
def flushWait (f r : Nat) : Nat → State → State
  | 0, s => s
  | n + 1, s =>
    match (s.evr f r).wait with
    | [] => s
    | e :: es =>
      if s.evrRoom f r && !(s.cfgFn f).d3 then flushWait f r n (writeRec f r e (s.evrOn f r (fun x => { x with wait := es }))) else s

/-- Writes what waits for a ring, as far as its room goes. -/
def flushRing (f r : Nat) (s : State) : State := flushWait f r (s.evr f r).wait.length s

/-! ### Delivery by type (04 R143) -/

/-- PORT and POWER events: the port's owner, and the PF under PF_COPY. -/
def postPort (p : Nat) (e : EvRec) (s : State) : State :=
  let o := s.portOwner p
  let s1 := post o 0 { e with src := p } s
  if o != 0 && s.pfCopy p then post 0 0 { e with src := p } s1 else s1
/-- PD events: the port's owner. -/
def postPd (p : Nat) (e : EvRec) (s : State) : State := post (s.portOwner p) 0 { e with ty := evPd, src := p } s
/-- FAULT events: the function concerned and the PF. -/
def postFault (f : Nat) (e : EvRec) (s : State) : State :=
  let s1 := post f 0 { e with ty := evFault } s
  if f = 0 then s1 else post 0 0 { e with ty := evFault } s1
/-- TEMPO and MODE events: the PF. -/
def postPf (e : EvRec) (s : State) : State := post 0 0 e s

/-! ### Commands -/

/-- The COMMAND event of a command: its code, RESULT and target (04 R142, R143). -/
def cmdDone (h : CmdHdr) (opcode code result src : Nat) (s : State) : State :=
  post h.fn 0 { ty := evCommand, ptr := h.ptr.toNat, code, cookie := h.cookie.toNat, detail := cmdDetail opcode result, src } s

/-- Starts a command in progress. -/
def opStart (o : Op) (s : State) : State := { s with ops := s.ops ++ [o] }
/-- Ends the commands in progress that satisfy a test. -/
def opDrop (t : Op → Bool) (s : State) : State := { s with ops := s.ops.filter (fun o => !t o) }
/-- The first command in progress that satisfies a test. -/
def State.opFind (s : State) (t : Op → Bool) : Option Op := s.ops.find? t

/-- A STOP or FLUSH of a capture waits for its packet boundary (16 R542, R549). -/
def Capture.busy (c : Capture) : Bool := (match c.stop with | some (some _) => true | _ => false) || c.flush.isSome
/-- The descriptor and opcode of a command of the command ring (04 R137). -/
def ringCommand : Instr → Option (CmdHdr × Nat)
  | .noOp h _ _ => some (h, 0x1)
  | .openSlot h _ => some (h, 0x10)
  | .assignAddress h _ => some (h, 0x11)
  | .setEndpoints h _ _ => some (h, 0x12)
  | .clearHalt h _ => some (h, 0x13)
  | .pauseEndpoint h _ => some (h, 0x14)
  | .moveCursor h _ => some (h, 0x15)
  | .closeSlot h _ => some (h, 0x16)
  | .snapshotContext h _ => some (h, 0x17)
  | .portEnable h _ | .portDisable h _ | .portReset h _ | .portSuspend h _ | .portResume h _ | .treeSleep h _ | .treeWake h _ | .portTest h _
  | .ssRetry h _ | .powerOff h _ | .powerCycle h _ | .guestOpen h _ | .guestEndpoints h _ _ | .guestClose h _ | .guestConnect h _ | .guestDisconnect h _
  | .guestWake h _ | .guestEpPause h _ | .guestEpMove h _ | .guestEpHalt h _ | .guestEpUnhalt h _ | .roleSet h _ | .guestSnapshot h _ => some (h, 0x20)
  | .portLimit h _ | .shedClass h _ | .bedBudget h _ | .devBudget h _ | .indLevel h _ => some (h, 0x21)
  | .sendCaps h _ | .pdRequestRdo h _ | .drSwap h _ | .prSwap h _ | .vconnSwap h _ | .softReset h _ | .hardReset h _ | .getSourceCaps h _
  | .getSinkCaps h _ | .discover h _ | .eprEnter h _ | .eprExit h _ | .getStatus h _ => some (h, 0x22)
  | .sendVdm h _ _ => some (h, 0x23)
  | .setMode h _ => some (h, 0x30)
  | .rotateNext h _ | .rotateEngine h _ | .rotateUpdate h _ | .updateCancel h _ => some (h, 0x31)
  | .selfTestTender h _ | .selfTestBank h _ | .selfTestAdc h _ | .selfTestBed h _ | .selfTestKeeper h _ => some (h, 0x32)
  | .captureStart h _ | .captureStop h _ | .captureFlush h _ => some (h, 0x33)
  | .readAlmanacSlots h _ | .readAlmanacInfo h _ => some (h, 0x34)
  | .lifecyclePlant h _ _ | .lifecycleUproot h _ _ | .lifecycleReturn h _ _ | .lifecycleRevoke h _ _ | .lifecycleRaiseFloor h _ _ => some (h, 0x35)
  | .unknownCommand h _ op _ => some (h, op.toNat)
  | _ => none

/-- The command that a waiting bundle is, if it is one. -/
def Job.ring : Job → Option (CmdHdr × Nat)
  | .cmd c => ringCommand c
  | _ => none
/-- The function of a waiting bundle; 129 where it has none. -/
def Job.fn : Job → Nat
  | .cmd c => match ringCommand c with | some (h, _) => h.fn.val | none => 129
  | .pauseEnd k | .hand k _ => keyFn k
  | .detach key => key / 16384
/-- A command that stands in its ring: 32 commands of its function are in progress, or the ring has stopped (04 R139, R141). -/
def Waiting.inRing (w : Waiting) : Bool := w.keys.any (fun k => match k with | .limit _ => true | _ => false)
/-- A command of a function that has started and waits: for its target, or for room in an event ring (04 R139, R140). -/
def Waiting.started (w : Waiting) (f : Nat) : Bool :=
  (match w.job.ring with | some (h, _) => h.fn.val == f | none => false) && !w.keys.contains (.limit f)
/-- COMMAND records of a function that wait for room: the commands have not completed (04 R140). -/
def State.recordsDue (s : State) (f : Nat) : Nat := ((s.evr f 0).wait.filter (fun e => e.ty == evCommand)).length
/-- Commands of a function in progress (04 R139): those of ports and endpoints, SET MODE, ROTATE, SELF-TEST, CAPTURE. -/
def State.inProgress (s : State) (f : Nat) : Nat :=
  (s.ops.filter (fun o => o.h.fn.val == f)).length + ((s.waiting ++ s.aside).filter (fun w => w.started f)).length + s.recordsDue f + (s.eng.tests.filter (fun t => t.h.fn.val == f)).length
    + (s.caps.filter (fun c => c.2.fn == f && c.2.busy)).length
    + (if f ≠ 0 then 0 else
        b2n (match s.mode.chg with | some c => (match c.by_ with | .command .. => true | _ => false) | none => false)
        + b2n (match s.eng.rot with | some r => (match r.by_ with | .command _ => true | _ => false) | none => false)
        + (match s.eng.upd with | some u => 1 + u.cancels.length | none => 0))
/-- A rotation is in progress (14 R475): a mode change requested meanwhile waits until it has ended. -/
def State.rotates (s : State) : Bool := match s.eng.rot with | some r => r.step != .waiting | none => false
/-- Whether what a command waits for has not yet come about (04 R139, R150; 13 R463, R466). -/
def State.keyBusy (s : State) : WaitKey → Bool
  | .evr f r => s.evrEnable f r && (!(s.evr f r).wait.isEmpty || !s.evrRoom f r)
  | .port p => s.ops.any (fun o => o.port == p) || (s.cap p).busy
  | .slot f b => b != 0 && s.ops.any (fun o => o.h.fn.val == f && o.bell == b)
  | .limit f => (s.fn f).stopped || decide (Config.commandsInProgress ≤ s.inProgress f)
  | .mode => s.mode.chg.isSome || s.mode.pwr == .dormant || s.rotates
  | .ep _ | .portHeld _ | .slotHeld _ _ | .epHeld _ => false
/-- The target that a key stands for. -/
def WaitKey.target : WaitKey → WaitKey
  | .portHeld p => .port p
  | .slotHeld f b => .slot f b
  | .epHeld k => .ep k
  | k => k
/-- Keys of one target among two lists; rings with room to come are no target. -/
def sameTarget (a b : List WaitKey) : Bool :=
  a.any (fun x => b.any (fun y => x.target == y.target && (match x with | .evr .. => false | _ => true)))
/-- A command waits in the ring: 32 commands of its function are in progress, an earlier one waits for that, or the ring has stopped
(04 R139, R141, R606). -/
def State.mustWait (s : State) (f : Nat) : Bool := s.keyBusy (.limit f) || s.waiting.any (fun w => w.keys.contains (.limit f))
/-- A command waits behind what concerns its target (04 R139). -/
def State.behind (s : State) (keys : List WaitKey) : Bool := keys.any s.keyBusy || s.waiting.any (fun w => sameTarget w.keys keys)
/-- A bundle of an endpoint waits for room (04 R150). -/
def State.epWaits (s : State) (r : Nat) : Bool := (s.waiting ++ s.aside).any (fun w => w.keys.contains (.epHeld r))

/-- One commit bundle: when a record of it finds no room, the bundle waits uncommitted as a whole (04 R150), and its
targets with it (04 R139). -/
def jobFor (keys : List WaitKey) (j : Job) (g : State → State) (s : State) : State :=
  let s' := g { s with blocked := [] }
  if s'.blocked.isEmpty then s'
  else { s with blocked := [], waiting := s.waiting ++ [⟨s'.blocked.map (fun b => WaitKey.evr b.1 b.2) ++ keys, j⟩] }
def bundleFor (keys : List WaitKey) (c : Instr) (g : State → State) (s : State) : State := jobFor keys (.cmd c) g s
def bundle (c : Instr) (g : State → State) (s : State) : State := bundleFor [] c g s
/-- A bundle within another step: it waits on its own, and the rest of the step goes on (05 R197). -/
def subBundle (keys : List WaitKey) (j : Job) (g : State → State) (s : State) : State := { jobFor keys j g s with blocked := s.blocked }
/-- A bundle whose handshake cannot wait: when a record of it finds no room, the other course is taken (01 R34; 04 R150; 05 R201). -/
def bundleElse (g alt : State → State) (s : State) : State :=
  let s' := g { s with blocked := [] }
  if s'.blocked.isEmpty then s' else { alt { s with blocked := [] } with blocked := [] }

/-- A bundle of one endpoint (04 R150; 05 R190, R198): it waits behind an earlier one of the endpoint that waits for room. -/
def epBundle (k : Nat) (c : Instr) (g : State → State) (s : State) : State :=
  let key := WaitKey.epHeld (k - keyStream k)
  if s.waiting.any (fun w => w.keys.contains key) then { s with waiting := s.waiting ++ [⟨[key], .cmd c⟩] } else bundleFor [key] c g s

/-- A happening that does not wait: records of it that find no room wait for their ring (04 R150). -/
def happen (g : State → State) (s : State) : State := { g s with blocked := [] }

/-- A ring command can arrive: no command ring runs before SOW_STATE is SERVED (02 R47) or for a function that does not exist, and a
completion that arrives for a function under FLR is discarded (03 R116). -/
def State.ringRuns (s : State) (h : CmdHdr) : Bool := s.served && s.fnExists h.fn.val && !s.pcie.flr.contains h.fn.val
/-- A ring command starts: it waits while an earlier command of the same target or 32 commands of its function are in
progress (04 R139), and else runs as one bundle. -/
def command (c : Instr) (h : CmdHdr) (keys : List WaitKey) (g : State → State) (s : State) : State :=
  if !s.ringRuns h then s
  else if s.mustWait h.fn then { s with waiting := s.waiting ++ [⟨.limit h.fn :: keys, .cmd c⟩] }
  else if s.behind keys then { s with waiting := s.waiting ++ [⟨keys, .cmd c⟩] }
  else bundleFor keys c g s
/-- A ring command that waits for no command of its target, since it ends them; while its own bundle waits for room, later commands of the
target wait behind it (04 R139). -/
def commandOver (c : Instr) (h : CmdHdr) (held : List WaitKey) (g : State → State) (s : State) : State :=
  if !s.ringRuns h then s
  else if s.mustWait h.fn then { s with waiting := s.waiting ++ [⟨[.limit h.fn], .cmd c⟩] }
  else bundleFor held c g s

/-- Commands in progress, and commands that wait for them, end with COMMAND-ABORTED in the order they started (04 R144). -/
def abortOps (t : Op → Bool) (opcode src : Nat) (s : State) : State :=
  forEach (s.ops.filter t) (fun o s =>
    if s.ops.contains o then cmdDone o.h opcode ccAborted 0 (if 65536 ≤ o.bell then 0xFFFF else src) (opDrop (fun x => x.h == o.h) s) else s) s
/-- SOURCE of a waiting command that a CLOSE SLOT ends: the port for TREE-SLEEP and TREE-WAKE, and else the slot (04 R142). -/
def Job.source (src : Nat) : Job → Nat
  | .cmd (.treeSleep _ q) | .cmd (.treeWake _ q) => bits q.p0.toNat 0 7
  | _ => src
/-- The commands of a target that have started and wait end with COMMAND-ABORTED (05 R186); one that still stands in its ring has not started. -/
def abortWaiting (key : WaitKey) (src : Nat) (s : State) : State :=
  let ends := fun (w : Waiting) => w.keys.contains key && !w.inRing
  forEach ((s.aside ++ s.waiting).filter ends)
    (fun w s => match w.job.ring with | some (h, op) => cmdDone h op ccAborted 0 (w.job.source src) s | none => s)
    { s with waiting := s.waiting.filter (fun w => !ends w), aside := s.aside.filter (fun w => !ends w) }

/-- Whether a function may act on a port: its owner, or the PF where the caller says so (03 R111, R113). -/
def State.owns (s : State) (f p : Nat) : Bool := s.portFunc p == f

end Sys2Proof.Machine
end

