-- ==== Sys2Proof/Machine/AlmOps.lean ====
section
/-! DEFINITION. The almanac (16 R554 – R559): slots, pinning, the rate limit, records and their images. -/

namespace Sys2Proof.Machine

open Sys2Proof

/-- The latest temperature of a die in °C + 64: beds 0 – 7, and the core as 8 (16 R562, TELE_TEMP). -/
def State.dieTemp (s : State) (i : Nat) : Nat := (tget (0, 0) s.tele.temp (if i = 8 then 0 else i + 1)).1
/-- Nanoseconds in a minute. -/
def minuteNs : Nat := 60000000000
/-- Bytes 0x00 – 0x33 of a slot (16 R555). -/
def AlmRec.head (r : AlmRec) : List Byte :=
  leBytes 4 r.seq ++ leBytes 4 (r.source % 65536 + r.kind % 256 * 65536 + b2n r.pinned * 2 ^ 24 + b2n r.injected * 2 ^ 25) ++ leBytes 8 r.time
    ++ leBytes 4 r.boot ++ leBytes 4 (r.unit % 65536 + r.cause % 256 * 65536 + r.func % 256 * 2 ^ 24) ++ leBytes 4 r.info ++ leBytes 4 r.count
    ++ leBytes 4 (r.repeats % 65536) ++ leBytes 4 0 ++ leBytes 8 r.lastTime ++ leBytes 4 r.detail
/-- The 64 bytes of a valid slot (16 R555). -/
def AlmRec.bytes (r : AlmRec) : List Byte := r.head ++ leBytes 4 (Config.crc32 r.head).toNat ++ leBytes 4 r.seq ++ leBytes 4 0
/-- A slot as every interface reads it: an invalid one as 64 zero bytes (16 R555). -/
def State.almSlot (s : State) (k : Nat) : List Byte :=
  let r : AlmRec := tget {} s.alm.slots (k % 8192)
  if r.seq = 0 then List.replicate 64 0 else r.bytes
def State.almValid (s : State) (k : Nat) : Bool := (tget ({} : AlmRec) s.alm.slots (k % 8192)).seq != 0
/-- The summary (16 R559). -/
def State.almInfo (s : State) : List Byte :=
  let a := s.alm
  leBytes 4 a.nextSeq ++ leBytes 4 a.boot ++ leBytes 8 (a.nextSlot % 8192 + a.lifeUsed % 16 * 65536 + a.faultUsed % 64 * 2 ^ 24) ++ leBytes 8 a.writes
    ++ leBytes 8 a.coalesced ++ List.replicate 32 0

/-- SMB_ALERT_N is driven low (16 R561). -/
def smbAlert (s : State) : State := { s with smb := { s.smb with alert := true } }
/-- The next ring slot. -/
def nextRing (k : Nat) : Nat := if k < 8191 then k + 1 else 64
/-- A new record goes to a pinned slot while its range has room, and else to the ring (16 R556, R558). -/
def almPut (r : AlmRec) (pin : Bool) (s : State) : Nat × State :=
  let a := s.alm
  let life := pin && r.kind == 5 && decide (a.lifeUsed < 15)
  let fault := pin && r.kind == 1 && decide (a.faultUsed < 48)
  let k := if life then 1 + a.lifeUsed else if fault then 16 + a.faultUsed else a.nextSlot
  let r := { r with seq := a.nextSeq, pinned := life || fault, boot := a.boot }
  (k, { s with alm := { a with
    slots := tput {} a.slots k r, nextSeq := min (a.nextSeq + 1) (two32 - 1), writes := a.writes + 1,
    lifeUsed := if life then a.lifeUsed + 1 else a.lifeUsed, faultUsed := if fault then a.faultUsed + 1 else a.faultUsed,
    nextSlot := if life || fault then a.nextSlot else nextRing a.nextSlot } })
/-- A coalescing update of the latest record of a source (16 R556, R557). -/
def almCoalesce (k : Nat) (s : State) : State :=
  let a := s.alm
  let r : AlmRec := tget {} a.slots k
  { s with alm := { a with
    slots := tput {} a.slots k { r with repeats := min 65535 (r.repeats + 1), lastTime := s.now }, coalesced := a.coalesced + 1, writes := a.writes + 1, journal := none } }
/-- A record falls due (16 R557): its source may write 16 in each window of 60 minutes that its first record opens. -/
def almRecord (r : AlmRec) (pin : Bool) (s : State) : State :=
  let r := { r with time := s.now, lastTime := s.now }
  let w : AlmWin := tget ⟨0, 0, 0⟩ s.alm.windows r.source
  let t := s.time.local_
  let live := w.n != 0 && decide (t < w.start + 60 * minuteNs)
  if live && decide (16 ≤ w.n) then almCoalesce w.slot s
  else
    let (k, s) := almPut r pin s
    let w := if live then { w with n := w.n + 1, slot := k } else ⟨t, 1, k⟩
    { s with alm := { s.alm with windows := tput ⟨0, 0, 0⟩ s.alm.windows r.source w } }
/-- Records other than faults (16 R558): SOURCE is 0x1000 + KIND. -/
def almEvent (kind cause detail unit : Nat) (s : State) : State :=
  almRecord { source := 0x1000 + kind, kind, cause, detail, unit } (kind == 5) s
/-- At start, the boot ROM completes a journalled update (16 R556). -/
def almJournal (s : State) : State :=
  match s.alm.journal with
  | none => s
  | some (k, r) => { s with alm := { s.alm with slots := tput {} s.alm.slots k r, journal := none } }

end Sys2Proof.Machine
end

