-- ==== Sys2Proof/Machine/DspOps.lean ====
section
/-! DEFINITION. The dispatcher (14 R493 – R503): eligibility, claims, hold-off groups, assertions and the entry of a handler. -/

namespace Sys2Proof.Machine

open Sys2Proof

/-- Whether a dispatcher source exists (14 R493). -/
def dspExists (n : Nat) : Bool := decide (n < 3376)
/-- Trigger of a source: level or edge (14 R493). -/
def dspLevel (n : Nat) : Bool :=
  if n < 3072 then [3, 13, 14, 16, 18, 23].contains (n % 24)
  else decide (n < 3096) || n == 3099 || n == 3100 || (decide (3111 ≤ n) && decide (n < 3120))
/-- K0 and K1 act as one processor with one stack (14 R503). -/
def procOf (pr : Nat) : Nat := if pr = 10 then 9 else pr
/-- Whether a source's target mask names a processor; either keeper stands for both (14 R494, R503). -/
def DspSrc.aimsAt (d : DspSrc) (pr : Nat) : Bool :=
  if procOf pr = 9 then bit d.targets.toNat 9 || bit d.targets.toNat 10 else bit d.targets.toNat pr
/-- Priority at the top of a processor's stack; 0 when it is empty (14 R495). -/
def State.topPrio (s : State) (pr : Nat) : Nat := ((s.proc (procOf pr)).stack.head?.map (·.2)).getD 0
/-- Whether a source is eligible for a processor (14 R495). -/
def State.eligible (s : State) (pr n : Nat) : Bool :=
  let d := s.dspSrc n
  d.pending && !d.held && decide (s.topPrio pr < d.prio) && d.aimsAt pr
/-- The offered source of a processor: the highest priority, and of equal ones the lowest number (14 R495). -/
def bestOf (s : State) (pr : Nat) : List Nat → Option Nat → Option Nat
  | [], b => b
  | n :: l, b =>
    if s.eligible pr n then
      bestOf s pr l (match b with | none => some n | some m => if (s.dspSrc m).prio < (s.dspSrc n).prio then some n else some m)
    else bestOf s pr l b
def State.offered (s : State) (pr : Nat) : Option Nat := bestOf s pr (s.dsp.srcs.map (·.1)) none

/-- A source that has become pending: its group offers it at once and starts its timer, or holds it (14 R502). -/
def dspPend (n : Nat) (s : State) : State :=
  let g := (s.dspSrc n).group
  let h := s.holdoff g
  if h.running then s.dspSrcOn n (fun d => { d with pending := true, held := true })
  else s.holdoffOn g (fun h => { h with running := decide (0 < h.len) }) |>.dspSrcOn n (fun d => { d with pending := true, held := false })
/-- A source asserts (14 R496): an edge that finds it pending or in service counts in ASSERTS and sets it pending once more. -/
def dspAssert (n : Nat) (s : State) : State :=
  let d := s.dspSrc n
  if !dspExists n then s
  else if dspLevel n then (if d.pending || d.inService then s else dspPend n s)
  else
    let s := if d.pending || d.inService then s.rsAdd 0x144000 24 8 1 else s
    if d.pending then s else dspPend n s

/-- A processor reads its claim register (14 R496): the number won, or 4,095. -/
def dspClaim (pr : Nat) (s : State) : Nat × State :=
  match s.offered pr with
  | none => (4095, s)
  | some n =>
    (n, (s.dspSrcOn n (fun d => { d with pending := false, inService := true })).procOn (procOf pr)
      (fun x => { x with stack := (n, (s.dspSrc n).prio) :: x.stack }))

/-- A source of higher priority becomes eligible during a processor's entry to a handler: the entry is retargeted (14 R500). -/
def dspRetarget (pr n : Nat) (s : State) : State :=
  match (s.proc (procOf pr)).stack with
  | [] => s
  | (m, _) :: rest =>
    if s.eligible pr n then
      let s := s.dspSrcOn n (fun d => { d with pending := false, inService := true })
      let s := s.dspSrcOn m (fun d => { d with inService := false, pending := true })
      s.procOn (procOf pr) (fun x => { x with stack := (n, (s.dspSrc n).prio) :: rest })
    else s

end Sys2Proof.Machine
end

