-- ==== Sys2Proof/Machine/CapOps.lean ====
section
/-! DEFINITION. Captures (16 R534 – R549): the sieve of a port, its lost items, the level crossing, the exporter's capture ring,
and the end of a capture. -/

namespace Sys2Proof.Machine

open Sys2Proof

/-- Size of a sieve in words (16 R536). -/
def Capture.words (c : Capture) : Nat := 8192 * 2 ^ c.size
/-- Readable words (16 R539). -/
def Capture.count (c : Capture) : Nat := ((c.recs.map (fun r => r.bytes.length)).sum) / 8
/-- The level in words; LEVEL 0 selects 8 sixteenths (16 R536). -/
def Capture.levelWords (c : Capture) : Nat := c.words * (if c.level = 0 then 8 else c.level) / 16
/-- Words of the largest record a packet can make (16 R539). -/
def Capture.maxRec (c : Capture) : Nat := if c.snap = 0 then 133 else min 133 (2 + c.snap)
/-- Units of 64 KiB that a sieve takes of the 128 of the capture memory. -/
def Capture.units (c : Capture) : Nat := 2 ^ c.size
/-- The lowest free run of units (16 R537). -/
def State.sieveRun (s : State) (n : Nat) : Option Nat :=
  let live := s.caps.filter (fun x => x.2.running)
  firstBelow (fun b => decide (b + n ≤ 128) && live.all (fun x => decide (x.2.memBase + x.2.units ≤ b) || decide (b + n ≤ x.2.memBase))) 129
/-- Ports captured at once, at most (13 R441). -/
def captureLimit : Mode → Nat
  | .bloom => 128
  | .steady => 32
  | .fallow => 0
def State.captures (s : State) : Nat := (s.caps.filter (fun x => x.2.running)).length

/-- A CAPTURE event (16 R548), to the capturing function. -/
def capEvent (p kind cause value : Nat) (s : State) : State :=
  post (s.cap p).fn 0 { ty := evCapture, ptr := (s.cap p).prod + s.rget (portReg p 0x704) * two32, count := value % 2 ^ 24, detail := kind + cause * 256, src := p } s
/-- Items are lost (16 R545): LOST rises and holds, with one event when it reaches its maximum. -/
def capLost (p n : Nat) (s : State) : State :=
  let s := s.rsAdd (portReg p 0x704) 0 32 n
  if s.rget (portReg p 0x704) = two32 - 1 ∧ !(s.cap p).lostSat then capEvent p 4 0 0 (s.capOn p (fun c => { c with lostSat := true })) else s

/-! ### Records -/

/-- Zero-pads to a multiple of 8. -/
def pad8 (bs : List Byte) : List Byte := bs ++ List.replicate ((8 - bs.length % 8) % 8) 0
/-- The 16 bytes before DATA (16 R535). -/
def capHead (len kind speed dir err trunc wireLen code time : Nat) : List Byte :=
  leBytes 4 (len + kind * 65536 + speed % 8 * 2 ^ 24 + dir * 2 ^ 27 + err * 2 ^ 28 + trunc * 2 ^ 29) ++ leBytes 4 (wireLen % 65536 + code % 256 * 65536) ++ leBytes 8 time
/-- A captured packet as its record (16 R535). -/
def Capture.record (c : Capture) (r : CapPacket) : List Byte :=
  let keep := if c.snap = 0 then r.data else r.data.take (8 * c.snap)
  let body := pad8 keep
  capHead (16 + body.length) r.kind.val r.speed.toNat (b2n r.dir) (b2n r.err) (b2n (decide (keep.length < r.data.length))) r.wireLen.toNat r.code.toNat c.beginTime ++ body
/-- A Gap record (16 R534, R547 rule 2). -/
def gapRecord (n time : Nat) : List Byte := capHead 24 5 0 0 0 0 0 0 time ++ pad8 (leBytes 4 (min n (two32 - 1)))
/-- Whether a record is captured: its kind is named, and NO_SOF does not drop it (16 R536). -/
def Capture.takes (c : Capture) (r : CapPacket) : Bool :=
  decide (1 ≤ r.kind.val) && decide (r.kind.val ≤ 4) && bit c.kinds (r.kind.val - 1) && !(c.noSof && r.sof)
/-- The oldest items are dropped until a number of words is free; the incoming packet is dropped in place of a claimed item
(16 R539, R540). -/
def makeRoom (p n : Nat) : Nat → State → State
  | 0, s => s
  | k + 1, s =>
    let c := s.cap p
    if c.count + n ≤ c.words then s
    else if c.claimed then capLost p 1 (s.capOn p (fun c => { c with dropThis := true }))
    else makeRoom p n k (capLost p 1 (s.capOn p (fun c => { c with recs := c.recs.tail })))
/-- COUNT has risen: a crossing of LEVEL is latched and its source asserts (16 R541). -/
def levelCheck (p before : Nat) (s : State) : State :=
  let c := s.cap p
  if before < c.levelWords ∧ c.levelWords ≤ c.count ∧ !c.crossed then dspAssert (24 * p + 14) (s.capOn p (fun c => { c with crossed := true })) else s

/-! ### The exporter -/

/-- Bytes written at a ring offset; a record of the sieve is no USB data of R89, and goes without Relaxed Ordering (DEDUCED,
notes/assumptions/71.md). -/
def ringWrite (p : Nat) (bs : List Byte) (s : State) : State :=
  let c := s.cap p
  (s.emit (.hostWrite c.fn (c.ring + c.prod % c.ringSize) bs)).capOn p (fun c => { c with prod := add32 c.prod bs.length })
/-- Whether bytes fit in the capture ring (16 R547 rule 5). -/
def Capture.fits (c : Capture) (n : Nat) : Bool := decide (sub32 (add32 c.prod n) c.cons ≤ c.ringSize)
/-- A PAD record to the end of the ring (16 R547 rule 3). -/
def padRecord (n time : Nat) : List Byte := ((capHead n 0 0 0 0 0 0 0 time) ++ List.replicate (n - 16) 0).take n
/-- One record moves into the ring, with the PAD before it; none while the ring has no room. -/
def ringPut (p : Nat) (bs : List Byte) (s : State) : Option State :=
  let c := s.cap p
  let left := c.ringSize - c.prod % c.ringSize
  let pad := if left < bs.length then left else 0
  if !c.fits (pad + bs.length) then none
  else some (ringWrite p bs (if pad = 0 then s else ringWrite p (padRecord pad s.now) s))
/-- Whether the ADDRESS filter keeps a record (16 R547 rule 1). -/
def Capture.keeps (c : Capture) (r : CapRec) : Bool :=
  if !c.addrEn || (r.kind != 1 && r.kind != 2) then true
  else match r.addr with
    | some a => a == c.address
    | none => if r.follows then c.lastKept else true
/-- A GAP record moves into the ring before the next record, for the bytes lost since the last one (16 R547). -/
def exportGap (p lost : Nat) (s : State) : State :=
  let c := s.cap p
  if c.lostSeen < lost then
    match ringPut p (gapRecord (lost - c.lostSeen) s.now) s with
    | some t => t.capOn p (fun c => { c with lostSeen := lost })
    | none => s
  else s
/-- The first record of the sieve moves into the ring or is filtered out; none when the sieve is empty or the ring has no room. -/
def exportOne (p : Nat) (s : State) : Bool × State :=
  let c := s.cap p
  match c.recs with
  | [] => (false, s.capOn p (fun c => { c with claimed := false }))
  | r :: rest =>
    let s := s.capOn p (fun c => { c with claimed := true })
    if !c.keeps r then
      (true, (s.capOn p (fun c => { c with recs := rest, claimed := false, lastKept := if r.kind = 1 then false else c.lastKept })).rsAdd (portReg p 0x708) 0 16 1)
    else
      let lost := s.rget (portReg p 0x704)
      let s := exportGap p lost s
      if (s.cap p).lostSeen < lost then (false, s)
      else match ringPut p r.bytes s with
        | some t => (true, t.capOn p (fun c => { c with recs := rest, claimed := false, lastKept := if r.kind = 1 then true else c.lastKept }))
        | none => (false, s)
/-- The exporter moves records in sieve order as far as the ring has room (16 R547). -/
def exportRecs (p : Nat) : Nat → State → State
  | 0, s => s
  | n + 1, s => if (exportOne p s).1 then exportRecs p n (exportOne p s).2 else (exportOne p s).2
/-- CAP_PROD is written when it has moved (16 R547 rule 4); the advance is remembered (R548). -/
def capProd (p before : Nat) (s : State) : State :=
  let c := s.cap p
  if c.prod = before then s else (s.emit (.hostWrite c.fn c.ctl (leBytes 4 c.prod))).capOn p (fun c => { c with prevProd := c.prod })

/-! ### Ends -/

/-- A STOP takes effect (16 R549): the exporter moves what the ring has room for, the rest is discarded, STOPPED is written, the
sieve is freed, and the number discarded is answered. -/
def capStop (p cause : Nat) (s : State) : Nat × State :=
  let before := (s.cap p).prod
  let s := capProd p before (exportRecs p ((s.cap p).recs.length + 1) s)
  let n := (s.cap p).recs.length
  let s := capEvent p 2 cause n s
  (n, s.capOn p (fun c => { lostSat := c.lostSat }))
/-- A capture ends for a cause other than a command (13 R448; 15 R511): a STOP that waits for it completes. -/
def capEnd (p cause : Nat) (s : State) : State :=
  let c := s.cap p
  if !c.running then s
  else
    let (n, s) := capStop p cause s
    let s := match c.stop with | some (some h) => cmdDone h 0x33 ccSuccess n p s | _ => s
    match c.flush with | some h => cmdDone h 0x33 ccSuccess 0 p s | none => s
/-- A capture ends without an event (16 R549). -/
def capDrop (p : Nat) (s : State) : State := s.capOn p (fun c => { lostSat := c.lostSat })

end Sys2Proof.Machine
end

