-- ==== Sys2Proof/Machine/Endpoint.lean ====
section
/-! DEFINITION. The transfer engine of one endpoint or stream: reading ring positions (04 R124 – R133), retiring
descriptors with their records (04 R134, R135, R610), the states of R178, pruning and revocation (07 R256, R268), packets
and their destinations (07 R258 – R266), and holdings (07 R247 – R250, R269). -/

namespace Sys2Proof

def EpRef.key (e : EpRef) : Nat := Machine.epKey e.fn.val e.bell.val e.ep.val e.stream.val
def SlotRef.key (r : SlotRef) : Nat := Machine.slotKey r.fn.val r.bell.val
/-- EP0 of a slot. -/
def SlotRef.ep0 (r : SlotRef) : Nat := Machine.epKey r.fn.val r.bell.val 0 0
/-- Fields of a transfer descriptor (04 R131). -/
def Desc.len (d : Desc) : Nat := d.w2.toNat % 2 ^ 24
def Desc.gen (d : Desc) : Bool := d.w7.toNat % 2 == 1
def Desc.ty (d : Desc) : Nat := Machine.bits d.w7.toNat 8 4
def Desc.flags (d : Desc) : Nat := Machine.bits d.w7.toNat 16 4

end Sys2Proof

namespace Sys2Proof.Machine

open Sys2Proof

/-! ### Naming -/
/-- The endpoint's own context beside a stream's. -/
def epRoot (k : Nat) : Nat := k - keyStream k
/-- Speed of the device or guest of an endpoint. -/
def State.epSpeed (s : State) (k : Nat) : Nat :=
  if (s.ep k).guest then (s.guest (s.ep k).port).speed else (s.slot (keySlot k)).speed
def isSsSpeed (v : Nat) : Bool := v == 3 || v == 4
def State.isSs (s : State) (k : Nat) : Bool := isSsSpeed (s.epSpeed k)
/-- The state that holds an endpoint or stream: Paused, Halted, Closed and Faulted of the endpoint hold its streams (05 R179). -/
def State.epHold (s : State) (k : Nat) : EpSt := (s.ep (epRoot k)).st
/-- The endpoint lets its rings execute. -/
def State.epLive (s : State) (k : Nat) : Bool := s.epHold k == .idle || s.epHold k == .running
/-- GONE of the slot (05 R176); a guest has none. -/
def State.epGone (s : State) (k : Nat) : Bool := !(s.ep k).guest && (s.slot (keySlot k)).gone

/-- Whether the part receives on the endpoint: IN for a device, OUT for a guest (07; 09 R320). -/
def Ep.rx (e : Ep) : Bool := if e.guest then 2 ≤ e.ty && e.ty ≤ 4 else 5 ≤ e.ty && e.ty ≤ 7
def Ep.isIso (e : Ep) : Bool := e.ty == 2 || e.ty == 5
def Ep.isInt (e : Ep) : Bool := e.ty == 4 || e.ty == 7
def Ep.isBulk (e : Ep) : Bool := e.ty == 3 || e.ty == 6
def Ep.periodic (e : Ep) : Bool := e.isIso || e.isInt
/-- DIR IN of a DATA or STATUS descriptor (04 R132). -/
def Td.dirIn (t : Td) : Bool := t.flags % 2 == 1
/-- Whether the descriptor at the head moves data toward the part; a SETUP moves its packet to the device, or from the external host. -/
def Ep.headRx (e : Ep) : Bool :=
  match e.tds with
  | [] => e.rx
  | t :: _ => if e.ty == 1 then (if t.ty == 2 then e.guest else if e.guest then !t.dirIn else t.dirIn) else e.rx

/-- The endpoint's context and its stream contexts. -/
def State.epAll (s : State) (r : Nat) : List Nat := (s.eps.filter (fun x => epRoot x.1 == r)).map (·.1)

/-! ### Bundles, records -/

/-- COMMIT_SEQ advances by one in each bundle (05 R199). -/
def epBump (k : Nat) (s : State) : State := s.epOn k (fun e => { e with commit := add32 e.commit 1 })
/-- The event records that a step has sent since, oldest first. -/
def newRecs (a b : State) : List Out := ((b.out.take (b.out.length - a.out.length)).filter (fun o => match o with | .record .. => true | _ => false)).reverse
/-- A record of an endpoint's bundle: PEND is set, and both stages hold the record until it has left (05 R202). -/
def epPost (k r : Nat) (e : EvRec) (s : State) : State :=
  let s1 := if s.evrEnable (keyFn k) r then s.epOn k (fun e => { e with pend := true }) else s
  let s2 := post (keyFn k) r e s1
  match newRecs s1 s2 with
  | [] => s2
  | l => s2.epOn k (fun e => { e with stage := e.stage ++ l })
/-- A TRANSFER record of an endpoint (04 R142, R143). -/
def xferPost (k code ptr count cookie : Nat) (ed noTd : Bool) (s : State) : State :=
  let r := (s.ep (epRoot k)).evr
  epPost k r { ty := evTransfer, ptr, count, code, cookie, detail := xferDetail ed noTd (keyStream k), ep := keyEp k, src := keyBell k } s
/-- The RESIDUAL record of an endpoint or stream that holds residual (07 R263). -/
def residualPost (k : Nat) (s : State) : State :=
  let e := s.ep k
  if e.pkts.isEmpty then s
  else
    epPost k (s.ep (epRoot k)).evr { ty := evResidual, ptr := e.cur.addr, count := (e.pkts.map List.length).sum, code := ccSuccess,
                                     detail := xferDetail false false (keyStream k), ep := keyEp k, src := keyBell k } s
/-- The COMMAND record of a bundle that changes contexts: they hold it staged as well, and PEND is set in them (05 R202). -/
def epCmdDone (ks : List Nat) (h : CmdHdr) (opcode code result src : Nat) (s : State) : State :=
  let s1 := cmdDone h opcode code result src s
  match newRecs s s1 with
  | [] => s1
  | l => forEach ks (fun k s => s.epOn k (fun e => { e with pend := true, stage := e.stage ++ l })) s1
/-- RESIDUAL of a context (07 R260). -/
def Ep.residual (e : Ep) : Nat := (e.pkts.map List.length).sum

/-! ### Reading positions -/

/-- The cursor after a position that holds a LINK (04 R125) or another descriptor. -/
def Cursor.next (c : Cursor) (d : Desc) : Cursor :=
  if d.ty = 6 then
    { addr := d.q0.toNat, gen := if d.flags % 2 = 1 then !c.gen else c.gen, count := add32 c.count 1, pos := 0, len := (d.w4.toNat % 16 + 1) * 128 }
  else { c with addr := c.addr + 32, count := add32 c.count 1, pos := c.pos + 1 }

/-- Whether a transfer ends legally at a descriptor (04 R133 rule 3; 09 R324). -/
def rdEnd (chain : Bool) (ctl guest : Bool) (r : RdSt) : Option RdSt :=
  if !ctl || chain then some { r with chain }
  else if r.stage == 0 then some { r with chain }
  else if guest then some { r with chain := false, ans := r.stage == 1 }
  else if r.stage == 3 then some { r with chain } else none

/-- The reading state after a descriptor, or none where it breaks R132 or R133 (04; 09 R320, R324). An IMM descriptor whose LENGTH is above 8
breaks neither and is taken as it stands (DESIGN CHOICE, notes/assumptions/71.md: R131 gives 0 – 8 and no code for more). -/
def rdNext (e : Ep) (ty flags len : Nat) (imm chain : Bool) : Option RdSt :=
  let r := if e.rd.chain then e.rd else { ans := e.rd.ans }
  let r := { r with count := r.count + 1, bytes := r.bytes + (if ty == 1 || ty == 2 || ty == 3 || ty == 5 then len else 0) }
  let dirIn := flags % 2 == 1
  let sends := if e.guest then dirIn else !dirIn
  if r.count > 256 || r.bytes > 16777215 then none
  else if ty == 7 || ty == 8 then (if imm then none else rdEnd chain (e.ty == 1) e.guest r)
  else if ty == 1 then (if (e.isBulk || e.isInt) && (!imm || !e.rx) then rdEnd chain false e.guest r else none)
  else if ty == 5 then (if e.isIso && !imm then rdEnd chain false e.guest r else none)
  else if e.ty ≠ 1 then none
  else if ty == 2 then
    if e.guest then (if !chain && flags == 0 && !imm && !r.ans && r.stage == 0 then rdEnd chain true true { r with stage := 1 } else none)
    else
      let ds := bits flags 0 2
      if r.stage == 0 && ds != 1 then rdEnd chain true false { r with stage := 1, data := ds } else none
  else if ty == 3 then
    if e.guest then
      (if r.ans && (r.stage == 0 || (r.stage == 2 && (r.data == 3) == dirIn)) && (!imm || sends) && chain then
        some { r with chain, stage := 2, data := if dirIn then 3 else 2 }
      else none)
    else if (r.stage == 1 || r.stage == 2) && r.data != 0 && (r.data == 3) == dirIn && (!imm || sends) then
      rdEnd chain true false { r with stage := 2 }
    else none
  else if ty == 4 then
    if imm then none
    else if e.guest then
      (if r.ans && ((r.stage == 0 && dirIn) || (r.stage == 2 && (r.data != 3) == dirIn)) then rdEnd chain true true { r with stage := 3 } else none)
    else if ((r.data == 0 && r.stage == 1) || (r.data != 0 && r.stage == 2)) && (r.data != 3) == dirIn then rdEnd chain true false { r with stage := 3 }
    else none
  else none

/-- A covered position that fails is kept until DEQ reaches it (04 R610, second row). -/
def posBad (k code count cookie : Nat) (s : State) : State :=
  s.epOn k (fun e => { e with bad := some { addr := e.fetch.addr, code, count, cookie } })

/-- The reading state under SKIP: the position only belongs to the transfer that ended, or ends it (04 R610). -/
def rdSkip (e : Ep) (chain : Bool) : RdSt := { ans := e.rd.ans, chain }
/-- A covered position with the right GEN is taken: a LINK is passed, another descriptor joins the covered ones, and one
that breaks a rule is kept as bad (04 R124 – R133); under SKIP the positions of the ended transfer are not judged (04 R610). -/
def posAccept (k : Nat) (d : Desc) (from_ : Nat) (s : State) : State :=
  let e := s.ep k
  let nx := e.fetch.next d
  let w := d.w7.toNat
  if d.ty = 6 then
    if d.q0.toNat % 4096 ≠ 0 ∨ bit w 4 then posBad k ccDescriptor 0 d.w3.toNat s
    else if e.tds.isEmpty then epBump k (s.epOn k (fun e => { e with cur := nx, fetch := nx }))
    else s.epOn k (fun e => { e with fetch := nx, tds := e.tds.dropLast ++ (e.tds.getLast?.toList.map (fun t => { t with next := nx })) })
  else
    let ty := d.ty
    let len := if ty == 1 || ty == 2 || ty == 3 || ty == 5 then d.len else 0
    if e.fetch.pos + 1 = e.fetch.len then posBad k ccDescriptor len d.w3.toNat s
    else
      match if e.skip then some (rdSkip e (bit w 1)) else rdNext e ty d.flags d.len (bit w 4) (bit w 1) with
      | none => posBad k ccDescriptor len d.w3.toNat s
      | some r =>
        s.epOn k (fun e => { e with
          fetch := nx, rd := r
          tds := e.tds ++ [{ addr := e.fetch.addr, buf := d.q0.toNat, len, cookie := d.w3.toNat, param := d.w4.toNat, chain := bit w 1, eoc := bit w 2,
                             eos := bit w 3, imm := bit w 4, ty, flags := d.flags, next := nx, rd := r, from_ }] })

/-- Positions the producer index covers from a cursor on (04 R126). -/
def Ep.coveredFrom (e : Ep) (c : Cursor) : Nat := sub32 e.prod e.cur.count - sub32 c.count e.cur.count
/-- The next position to read: after the copies fetched ahead (07 R251). -/
def Ep.readCursor (e : Ep) : Cursor := e.ahead.foldl (fun c a => c.next a.d) e.fetch

/-! ### Retiring -/

/-- The descriptor at the head retires: the cursor passes it and the LINKs after it. -/
def retireHead (k : Nat) (s : State) : State :=
  s.epOn k (fun e =>
    match e.tds with
    | [] => e
    | t :: ts =>
      { e with tds := ts, cur := t.next, curRd := t.rd, done := 0, moved := if t.chain then e.moved + e.done else 0, begun := e.begun && t.chain })

/-- The descriptor at the head completes: a SUCCESS record when EOC is set, and always for a guest's setup transfer
(04 R134; 09 R324). -/
def completeHead (k count : Nat) (s : State) : State :=
  match (s.ep k).tds with
  | [] => s
  | t :: _ =>
    let s := if t.eoc || ((s.ep k).guest && t.ty == 2) then xferPost k ccSuccess t.addr count t.cookie false false s else s
    retireHead k s

/-- What remains after a transfer's last covered descriptor, the cursor there, its reading state, and that descriptor's
EOC and CHAIN. -/
def dropXfer : List Td → Option (List Td × Td)
  | [] => none
  | t :: ts => if t.chain then (match dropXfer ts with | some r => some r | none => some ([], t)) else some (ts, t)

/-- The transfer at DEQ ends: its descriptors retire without events, and SKIP is set when its last is not yet covered (04 R610). -/
def retireXfer (k : Nat) (s : State) : State :=
  s.epOn k (fun e =>
    match dropXfer e.tds with
    | none => { e with skip := e.skip || e.curRd.chain, done := 0, moved := 0, begun := false }
    | some (ts, t) => { e with tds := ts, cur := t.next, curRd := t.rd, skip := t.chain, done := 0, moved := 0, begun := false })

/-- Packets whose transmission has started cannot be pruned (07 R265). -/
def Ep.started (e : Ep) : Nat := if e.headRx || e.pingOn then 0 else if e.split then 1 else if e.wire then max 1 e.inflight else 0
/-- Copies and staging are discarded; the engine reads again from DEQ (07 R252, R268). -/
def Ep.dropCopies (e : Ep) : Ep :=
  { e with ahead := [], tds := [], bad := none, fetch := e.cur, rd := e.curRd, staged := e.staged.take e.started }

/-- A credit is consumed, or `n` credits are revoked: both copies of the ledger follow (07 R256, R257). -/
def Ep.ledConsume (e : Ep) : Ep :=
  let l := { e.led with consumed := e.led.consumed + 1 }
  { e with credits := e.credits.tail, led := l, ledCopy := l }
def Ep.ledRevoke (e : Ep) (keep : Nat) : Ep :=
  let l := { e.led with revoked := e.led.revoked + (e.credits.length - keep) }
  { e with credits := e.credits.take keep, led := l, ledCopy := l }
/-- Credits with a token in flight. -/
def Ep.tokens (e : Ep) : Nat := if e.wire then max 1 e.inflight else 0
/-- Credits without a token in flight are revoked at once; one with a token settles at its packet's commit point, and a split at its last
complete-split (07 R256). -/
def Ep.revoke (e : Ep) (why : RevWhy) : Ep :=
  let e := { e with revFrom := { e.led with consumed := e.led.consumed - b2n e.inSplit } }
  if e.wire || e.split then { e.ledRevoke e.tokens with rev := some why } else e.ledRevoke 0
/-- Credits that a ledger shows as outstanding. -/
def Ledger.standing (l : Ledger) : Nat := l.granted - l.consumed - l.revoked
/-- Nothing of an endpoint is on the wire any more. -/
def Ep.offWire (e : Ep) : Ep := { e with wire := false, split := false, inflight := 0, left := 0, inSplit := false, cs := false, pingOn := false }
/-- An endpoint that stops keeps no credit, no staging and no place in an interval (07 R268; 06 R235). -/
def Ep.stopped (e : Ep) : Ep :=
  { (e.offWire.ledRevoke 0).dropCopies with
    rev := none, staged := [], waiting := false, ping := false, failRun := 0, stopping := false, inStream := false, empty := 0, isoOn := false, isoLast := false, isoMore := 0,
    isoGot := 0, noPing := false }

/-- Endpoints of a port that stop while a split of theirs is outstanding: the sequencer still carries out its complete-splits (07 R256, R266). -/
def State.splitsLeft (s : State) (p : Nat) : List Nat :=
  (s.eps.filter (fun x => x.2.port == p && !x.2.guest && x.2.split && (x.2.stopping || x.2.rev.isSome))).map (·.1)
/-- Removes the entries of endpoints that satisfy a test from every window of a bus (07 R267). -/
def pruneWin (p : Nat) (t : Nat → Bool) (s : State) : State :=
  let more := (s.splitsLeft p).filter t
  s.busOn p (fun b => { b with
    windows := b.windows.map (fun w => { w with periodic := w.periodic.filter (fun x => !t x.key), async := w.async.filter (fun k => !t k) })
    todo := b.todo.filter (fun x => !t x.key), turn := b.turn.filter (fun k => !t k) ++ more })

/-- Entry to Halted (07 R267, R268): run-ahead of the endpoint and of every stream of it is pruned, and its window entries go. -/
def epHaltState (k : Nat) (s : State) : State :=
  let r := epRoot k
  let s := forEach (s.epAll r) (fun x s => s.epOn x (fun e => { e.stopped with begun := false, dataEnd := false })) (pruneWin (s.ep r).port (fun x => epRoot x == r) s)
  let s := if keyStream k = 0 then s else epBump k (s.epOn k (fun e => { e with st := .idle }))
  epBump r (s.epOn r (fun e => { e with st := .halted }))

/-- A transfer ends by an error that retires it (04 R134, R610, first row): the record, then Halted (05 R178). -/
def epError (k code : Nat) (s : State) : State :=
  let e := s.ep k
  let s := match e.tds with
    | t :: _ => xferPost k code t.addr (t.len - e.done) t.cookie false false s
    | [] => xferPost k code e.cur.addr 0 0 false true s
  epHaltState k (retireXfer k s)

/-- A transfer ends at a position that broke a rule or whose read failed (04 R610, second row). -/
def epBad (k : Nat) (b : BadPos) (s : State) : State :=
  epHaltState k ((xferPost k b.code b.addr b.count b.cookie false false s).epOn k (fun e => { e with done := 0, skip := false }))
/-- BABBLE ends a transfer and is counted (06 R221; 07 R262; 05 R204). -/
def babbleEnd (k : Nat) (s : State) : State := epError k ccBabble (s.epOn (epRoot k) (fun e => { e with babble := min 255 (e.babble + 1) }))

/-- Whether EOC is set on the covered last descriptor of the transfer at DEQ. -/
def xferEoc : List Td → Option Bool
  | [] => none
  | t :: ts => if t.chain then xferEoc ts else some t.eoc

/-- Bytes left in the descriptors of the transfer at DEQ that move data in the present stage. -/
def xferLens : Nat → List Td → List Nat
  | _, [] => []
  | done, t :: ts =>
    let rest := if t.chain then xferLens 0 ts else []
    if t.ty == 1 || t.ty == 3 || t.ty == 5 then (t.len - done) :: rest else if t.ty == 4 || t.ty == 2 then [] else rest
/-- Whether the last data descriptor of the transfer at DEQ is covered. -/
def xferWhole : List Td → Bool
  | [] => false
  | t :: ts => if t.ty == 4 || !t.chain then true else xferWhole ts
/-- The lengths left after a packet of `n` bytes. -/
def dropBytes : List Nat → Nat → List Nat
  | [], _ => []
  | h :: t, n => if n < h then (h - n) :: t else if n = h then t else dropBytes t (n - h)
def Ep.lens (e : Ep) : List Nat := xferLens e.done e.tds
/-- Setup packet fields of the control transfer in progress. -/
def Ep.wLength (e : Ep) : Nat := bits e.setup 48 16
def Ep.wIndex (e : Ep) : Nat := bits e.setup 32 16
def Ep.wValue (e : Ep) : Nat := bits e.setup 16 16

/-- A short packet of `n` bytes would fill its descriptor exactly, and the covered descriptors do not yet tell whether a NORMAL or DATA
descriptor of the transfer follows (04 R134). -/
def Ep.endUnsure (e : Ep) (n : Nat) : Bool := e.lens.sum == n && !xferWhole e.tds
/-- A short packet of `n` bytes ends the transfer at DEQ (04 R134): the record rules of the short packet, then the rest retires;
a control transfer goes on with its STATUS. A packet that fills its descriptor exactly completes it when no NORMAL or DATA descriptor follows in
the transfer; where NOOP or EVENT-DATA descriptors follow, they then run as in any transfer (DESIGN CHOICE, notes/assumptions/71.md: R134 states
neither case for them). -/
def shortEnd (k : Nat) : Nat → Nat → State → State
  | 0, _, s => s
  | fuel + 1, n, s =>
    let e := s.ep k
    match e.tds with
    | [] => s
    | t :: ts =>
      if t.ty == 7 then shortEnd k fuel n (completeHead k 0 s)
      else if t.ty == 8 then shortEnd k fuel n (retireHead k (xferPost k ccSuccess t.buf e.moved t.cookie true false s))
      else if t.len - e.done < n then
        shortEnd k fuel (n - (t.len - e.done)) (completeHead k 0 (s.epOn k (fun e => { e with done := t.len })))
      else
        let left := t.len - e.done - n
        let more := xferLens 0 (if t.chain then ts else []) ≠ [] || !xferWhole e.tds
        if left = 0 && !more then completeHead k 0 (s.epOn k (fun e => { e with done := t.len }))
        else
          let due := t.eos || xferEoc e.tds == some true
          let s := if due then xferPost k ccShort t.addr left t.cookie false false s else s
          let later := !due && xferEoc e.tds == none
          if e.ty == 1 then
            s.epOn k (fun e => { e with dataEnd := true, moved := e.moved + e.done + n, done := 0, owed := if later then some (t.addr, left, t.cookie) else e.owed })
          else
            let s := retireXfer k s
            if later then s.epOn k (fun e => { e with owed := some (t.addr, left, t.cookie) }) else s

/-- A DATA descriptor of a guest's answer that breaks R327: its direction, or a data stage where wLength is 0. -/
def Ep.answerBad (e : Ep) (t : Td) : Bool :=
  e.guest && e.ty == 1 && t.ty == 3 && e.done == 0 && (t.dirIn != bit e.setup 7 || e.wLength == 0)
/-- The data stage of a guest's answer has moved wLength bytes while a DATA descriptor stands at DEQ (09 R327). -/
def Ep.answerFull (e : Ep) (t : Td) : Bool := e.guest && e.ty == 1 && t.ty == 3 && e.wLength != 0 && decide (e.wLength ≤ e.moved + e.done)
/-- A STATUS with STALL set (09 R327). -/
def Ep.answerStall (e : Ep) (t : Td) : Bool := e.guest && e.ty == 1 && t.ty == 4 && bit t.flags 1

/-- Whether the SETUP at the head is SET_ADDRESS, and allowed (05 R175). -/
def setAddressBad (s : State) (k : Nat) (t : Td) : Bool :=
  let sl := s.slot (keySlot k)
  !(s.ep k).guest && t.buf % 256 == 0 && bits t.buf 8 8 == 5 &&
    (!(sl.st == .dflt) || sl.address == 0 || bits t.buf 16 16 != sl.address)

/-- What the part does at DEQ without the bus: retiring under SKIP (04 R610), NOOP and EVENT-DATA (04 R133, R135), a
position kept as bad, a refused SET_ADDRESS (05 R175), the stages of a guest's answer (09 R327), and Running to Idle (05 R178). The own context of
an endpoint with streams stays Running when they have drained (DESIGN CHOICE, notes/assumptions/71.md: R178 compares CONS, which it does not have). -/
def settle (k : Nat) : Nat → State → State
  | 0, s => s
  | n + 1, s =>
    let e := s.ep k
    if e.skip then
      match e.tds with
      | [] => (match e.bad with | some b => epBad k b s | none => s)
      | t :: _ =>
        let s := epBump k (retireHead k s)
        if t.chain then settle k n s
        else
          let s := match e.owed with
            | some (p, c, ck) => if t.eoc then xferPost k ccShort p c ck false false s else s
            | none => s
          settle k n (s.epOn k (fun e => { e with skip := false, owed := none }))
    else if e.dataEnd && e.tds.any (fun _ => true) then
      match e.tds with
      | [] => s
      | t :: _ =>
        if t.ty == 4 then
          let s := match e.owed with
            | some (p, c, ck) => if xferEoc e.tds == some true then xferPost k ccShort p c ck false false s else s
            | none => s
          settle k n (s.epOn k (fun e => { e with dataEnd := false, owed := none }))
        else settle k n (s.epOn k (fun e => { e with tds := e.tds.tail, cur := t.next, curRd := t.rd, done := 0 }))
    else if !s.epLive k then s
    else
      match e.tds with
      | [] =>
        match e.bad with
        | some b => epBad k b s
        | none => if e.cur.count = e.prod ∧ e.st = .running then s.epOn k (fun e => { e with st := .idle }) else s
      | t :: _ =>
        if t.ty == 7 then settle k n (epBump k (completeHead k 0 s))
        else if t.ty == 8 then settle k n (epBump k (retireHead k (xferPost k ccSuccess t.buf e.moved t.cookie true false s)))
        else if e.answerBad t then epBad k { addr := t.addr, code := ccDescriptor, count := t.len, cookie := t.cookie } s
        else if e.answerFull t then settle k n (epBump k (if t.dirIn then completeHead k (t.len - e.done) s else shortEnd k (e.tds.length + 1) 0 s))
        else if e.answerStall t then settle k n ((epBump k (completeHead k 0 s)).epOn k (fun e => { e with stallAll := true }))
        else if t.ty == 2 && setAddressBad s k t then epBad k { addr := t.addr, code := ccDescriptor, count := t.len, cookie := t.cookie } s
        else s
/-- `settle` with fuel for every covered descriptor. -/
def epSettle (k : Nat) (s : State) : State := settle k (3 * (s.ep k).tds.length + 4) s

/-- First bus interval whose window has not passed its load point (06 R233), in the count of microframes since the bus started. -/
def State.firstOpen (s : State) (p : Nat) : Nat :=
  let b := s.bus p
  b.mf + (if b.windows.any (fun w => w.mf == b.mf + 1 && w.st != .built) then 2 else 1)
/-- Copies fetched ahead that the producer index now covers are taken (04 R127). -/
def takeAhead (k from_ : Nat) : List Ahead → State → State
  | [], s => s
  | a :: as, s =>
    if 0 < (s.ep k).coveredFrom (s.ep k).fetch && (s.ep k).bad.isNone then
      takeAhead k from_ as (epSettle k (posAccept k a.d from_ (s.epOn k (fun e => { e with ahead := as }))))
    else s

/-- A producer index is handed over (05 R178): Idle and Paused start running, unless GONE is set (R176); the value is
recorded in every state but Closed. -/
def handOver (k prod : Nat) (s : State) : State :=
  let e := s.ep k
  if e.st == .closed || s.epHold k == .closed then s
  else
    let s := s.epOn k (fun e => { e with prod })
    let go := prod ≠ e.cur.count ∧ !s.epGone k
    let s := if go ∧ !e.guest then s.sideOn e.port .usb2 (fun x => { x with lpmBar := false }) else s
    let s := if go ∧ s.epHold k = .paused then epBump (epRoot k) (s.epOn (epRoot k) (fun e => { e with st := .running }))
             else if go ∧ s.epHold k = .idle then epBump (epRoot k) (s.epOn (epRoot k) (fun e => { e with st := .running })) else s
    let s := if go ∧ keyStream k ≠ 0 ∧ (s.ep k).st = .idle ∧ s.epHold k = .running then epBump k (s.epOn k (fun e => { e with st := .running })) else s
    epSettle k (takeAhead k (s.firstOpen (s.ep k).port) (s.ep k).ahead s)

/-! ### Moving bytes -/

/-- The length of the next packet to stage or send, when it can be formed (07 R265; 09 R321, R327); an isochronous packet is of the descriptor
at DEQ, whose interval comes next (07 R246). -/
def Ep.nextTx (e : Ep) : Option Nat :=
  let own := if e.isIso then (match e.tds with | t :: _ => [t.len - e.done] | [] => []) else e.lens
  let l := (e.staged.map List.length).foldl dropBytes own
  let tot := if e.guest && e.ty == 1 then min l.sum (e.wLength - e.moved - e.done - (e.staged.map List.length).sum) else l.sum
  match l with
  | [] => none
  | h :: _ => if h = 0 then some 0 else if tot = 0 then none else if e.mps ≤ tot then some e.mps else if e.isIso || xferWhole e.tds then some tot else none

/-- Whether the descriptor at the head needs a zero-length packet after its last byte (09 R321, R327). -/
def Ep.needsZlp (e : Ep) (t : Td) : Bool :=
  e.guest && !e.headRx && e.mps != 0 && (e.moved + t.len) % e.mps == 0 && e.moved + t.len != 0 &&
    (if e.ty == 1 then decide (e.moved + t.len < e.wLength) && !(t.chain && xferLens 0 (e.tds.drop 1) != []) else t.flags % 2 == 1 && !t.chain)

/-- `n` bytes count as moved: descriptors fill and complete in order (04 R134; 05 R177 TD_DONE). -/
def moveBytes (k : Nat) : Nat → Nat → State → State
  | 0, _, s => s
  | fuel + 1, n, s =>
    let e := s.ep k
    match e.tds with
    | [] => s
    | t :: _ =>
      if t.ty == 7 then moveBytes k fuel n (completeHead k 0 s)
      else if t.ty == 8 then moveBytes k fuel n (retireHead k (xferPost k ccSuccess t.buf e.moved t.cookie true false s))
      else if t.ty == 4 || t.ty == 2 then s
      else if n < t.len - e.done then s.epOn k (fun e => { e with done := e.done + n })
      else
        let r := n - (t.len - e.done)
        let s := s.epOn k (fun e => { e with done := t.len })
        let s := if n ≠ 0 && r = 0 && e.needsZlp t then s else completeHead k 0 s
        if r = 0 then s else moveBytes k fuel r s

/-- The bytes of a packet that starts `off` bytes after the head's beginning: an IMM descriptor's come from its ADDR (04 R131). -/
def immBytes : Nat → List Td → List Byte → List Byte
  | _, [], bs => bs
  | off, t :: ts, bs =>
    if bs.isEmpty then []
    else if t.ty == 1 || t.ty == 3 || t.ty == 5 then
      if t.len ≤ off then immBytes (off - t.len) ts bs
      else
        let n := t.len - off
        let part := bs.take n
        (if t.imm then (((leBytes 8 t.buf).drop off).take part.length ++ part.drop (8 - off)).take part.length else part) ++ immBytes 0 ts (bs.drop n)
    else immBytes off ts bs
/-- Writes received bytes to the buffers of the transfer at DEQ in order (07 R258), with Relaxed Ordering as the function enables it (03 R89). -/
def bufWrites (f : Nat) (ro : Bool) (done : Nat) : List Td → List Byte → List Out
  | [], _ => []
  | t :: ts, bs =>
    if bs.isEmpty then []
    else if t.ty == 1 || t.ty == 3 || t.ty == 5 then
      let n := t.len - done
      (if n = 0 then [] else [Out.dataWrite f (t.buf + done) ro (bs.take n)]) ++ bufWrites f ro 0 ts (bs.drop n)
    else bufWrites f ro 0 ts bs

end Sys2Proof.Machine
end

