-- ==== Sys2Proof/Machine/Admission.lean ====
section
/-! DEFINITION. Admission of periodic endpoints (06 R211 – R215, R223, R224, R609; 03 R119, R121; 13 R442): costs, the plan
of 32 bus intervals, translators, window entries, upstream share and trough reservations. -/

namespace Sys2Proof.Machine

open Sys2Proof

/-- A periodic endpoint as admission sees it; `tt` names its translator (0: none). -/
structure Per where
  key : Nat
  fn : Nat
  ty : Nat
  mps : Nat
  burst : Nat
  mult : Nat
  interval : Nat
  phase : Nat
  ys : List Nat
  admitNo : Nat
  speed : Nat
  tt : Nat
  deriving DecidableEq, Repr

/-- Payload with worst-case bit stuffing (06 R211). -/
def stuffed (n : Nat) : Nat := ceilDiv (n * 7) 6
def Per.iso (e : Per) : Bool := e.ty == 2 || e.ty == 5
def Per.inDir (e : Per) : Bool := 5 ≤ e.ty
/-- Cost of one transaction at high speed (06 R211). -/
def Per.hsCost (e : Per) : Nat := (if e.iso then 38 else 55) + stuffed e.mps
/-- Cost in full-speed byte-times; a low-speed one counts as eight (06 R211). -/
def Per.fsCost (e : Per) : Nat := let c := (if e.iso then 14 else 20) + stuffed e.mps; if e.speed = 0 then 8 * c else c
/-- Cost of a service interval on a SuperSpeed bus (06 R212). -/
def Per.ssCost (e : Per) : Nat := (e.mult + 1) * ((e.burst + 1) * (e.mps + 36) + 32)
/-- Bytes an endpoint can move in one service interval (06 R215). -/
def Per.bytes (e : Per) : Nat :=
  if isSsSpeed e.speed then e.mps * (e.burst + 1) * (e.mult + 1) else if e.speed = 2 then e.mps * (e.mult + 1) else e.mps

/-- The translator of a slot: hub bell and, for a multi-TT hub, its port (06, Split transactions). -/
def State.ttId (s : State) (f : Nat) (sl : Slot) : Nat :=
  if sl.ttHub = 0 then 0 else (f * 16384 + sl.ttHub) * 128 + (if (s.slot (slotKey f sl.ttHub)).multiTt then sl.ttPort else 0)

/-- An endpoint context as a periodic endpoint. -/
def State.per (s : State) (k : Nat) : Per :=
  let e := s.ep k
  let sl := s.slot (keySlot k)
  { key := k, fn := keyFn k, ty := e.ty, mps := e.mps, burst := e.burst, mult := e.mult, interval := e.interval, phase := e.phase, ys := e.ys, admitNo := e.admitNo,
    speed := sl.speed, tt := s.ttId (keyFn k) sl }

/-- Periodic device endpoints that hold a reservation (06, Admission). -/
def State.pers (s : State) : List Per :=
  (s.eps.filter (fun x => !x.2.guest && x.2.periodic && x.2.st != .closed)).map (fun x => s.per x.1)
/-- Those of one port, in order of admission. -/
def State.portPers (s : State) (p : Nat) : List Per :=
  sortBy (fun a => a.admitNo) ((s.eps.filter (fun x => !x.2.guest && x.2.periodic && x.2.st != .closed && x.2.port == p)).map (fun x => s.per x.1))

/-- Period within a plan of `n` intervals (06 R213). -/
def Per.period (e : Per) (n : Nat) : Nat := min n (2 ^ e.interval)
/-- Whether an endpoint is due in an interval of the plan. -/
def Per.due (e : Per) (n i : Nat) : Bool := i % e.period n == e.phase % e.period n

/-- Endpoints of one translator due in a frame of the plan, with the microframe Y that each was placed in (06 R223). -/
def ttPlace (l : List Per) (tt fr : Nat) : List (Per × Nat) := (l.filter (fun e => e.tt == tt && e.due 4 fr)).map (fun e => (e, e.ys.getD (fr % 4) 0))
/-- The microframes Y of a new endpoint, frame by frame of the plan, after those placed before it in the frame (06 R214, R223, R609). -/
def placeYs (l : List Per) (e : Per) : List Nat :=
  let n := if e.tt = 0 then 32 else 4
  (List.range n).map (fun fr => (((l.filter (fun x => x.tt == e.tt && x.due n fr)).map Per.fsCost).sum) / 188)

/-- High-speed costs of a split sequence at its microframes, counted from the frame's start plus 8 (06 R224). -/
def splitCosts (e : Per) (y : Nat) : List (Nat × Nat) :=
  let o := (if e.iso then 38 else 55) + 4
  if e.ty = 2 then (List.range (max 1 (ceilDiv e.mps 188))).map (fun i => (8 + y + i - 1, o + stuffed (min 188 (e.mps - 188 * i))))
  else (8 + y - 1, if e.ty = 4 then o + stuffed e.mps else o) :: [1, 2, 3].map (fun i => (8 + y + i, o + stuffed e.mps))

/-- Costs of all split sequences of a high-speed bus, by microframe of the plan. -/
def ttCosts (l : List Per) : List (Nat × Nat) :=
  (List.range 4).flatMap (fun fr =>
    ((l.map (·.tt)).dedup.filter (· ≠ 0)).flatMap (fun tt =>
      (ttPlace l tt fr).flatMap (fun (e, y) => (splitCosts e y).map (fun (m, c) => ((8 * fr + m + 24) % 32, c)))))

/-- Full-speed payload that the start-splits of a transaction placed at Y start, by microframe (06 R223, R224). IN transactions start none
(DEDUCED, notes/assumptions/72.md). -/
def startedBytes (e : Per) (y : Nat) : List (Nat × Nat) :=
  if e.inDir then [] else if e.ty = 2 then (List.range (max 1 (ceilDiv e.mps 188))).map (fun i => (y + i, min 188 (e.mps - 188 * i))) else [(y, e.mps)]
/-- Condition 2 of R215: every translator within 1,350 per frame, each transaction placed at Y ≤ 5, at most 188 bytes
started per microframe (06 R223). -/
def ttOk (l : List Per) : Bool :=
  (List.range 4).all (fun fr =>
    ((l.map (·.tt)).dedup.filter (· ≠ 0)).all (fun tt =>
      let pl := ttPlace l tt fr
      let st := pl.flatMap (fun (e, y) => startedBytes e y)
      decide ((pl.map (fun (e, _) => e.fsCost)).sum ≤ 1350) && pl.all (fun (_, y) => decide (y ≤ 5))
        && (List.range 16).all (fun m => decide (((st.filter (·.1 == m)).map (·.2)).sum ≤ 188))))

/-- Load of a bus in one interval of the plan, and its limit (06 R211, R212). -/
def busLoad (speed : Nat) (l : List Per) (tc : List (Nat × Nat)) (i : Nat) : Nat :=
  let direct := l.filter (fun e => e.tt == 0 && e.due 32 i)
  if isSsSpeed speed then (direct.map Per.ssCost).sum
  else if speed = 2 then (direct.map (fun e => (e.mult + 1) * e.hsCost)).sum + ((tc.filter (·.1 == i)).map (·.2)).sum
  else (direct.map Per.fsCost).sum
def busLimit (speed : Nat) : Nat := if speed = 4 then 136363 else if speed = 3 then 56250 else if speed = 2 then 6000 else 1350

/-- Periodic entries of one side in microframe `n` of the plan: one for each transaction, burst, start-split and complete-split; on a full- or
low-speed root bus each in its microframe Y (06 R215 condition 3, R609). -/
def windowEntries (speed : Nat) (l : List Per) (tc : List (Nat × Nat)) (n : Nat) : Nat :=
  if speed = 2 || isSsSpeed speed then
    ((l.filter (fun e => e.tt == 0 && e.due 32 (n % 32))).map (fun e => e.mult + 1)).sum + (tc.filter (·.1 == n % 32)).length
  else (l.filter (fun e => e.due 32 (n / 8 % 32) && e.ys.getD (n / 8 % 32) 0 == n % 8)).length

/-- Conditions 1 and 2 of R215 for one bus. -/
def busOk (speed : Nat) (l : List Per) : Bool :=
  let tc := ttCosts l
  ttOk l && (List.range 32).all (fun i => decide (busLoad speed l tc i ≤ busLimit speed))

/-- The phase with the lowest peak load, the lowest among equals (06 R214). -/
def bestPhase (speed : Nat) (l : List Per) (e : Per) : Nat :=
  let n := e.period (if e.tt = 0 then 32 else 4)
  let peak := fun ph => let e' := { e with phase := ph }; let l' := l ++ [{ e' with ys := placeYs l e' }]; let tc := ttCosts l'; ((List.range 32).map (busLoad speed l' tc)).foldl max 0
  ((List.range n).foldl (fun (b, bp) ph => let q := peak ph; if q < bp then (ph, q) else (b, bp)) (0, peak 0)).1

/-- The R119 figure in kbit/s for the link's present rate and width and the Max Payload Size, in each direction (03 R119,
R121; 13 R442 in Fallow). -/
def State.upFigure (s : State) (inDir : Bool) : Nat :=
  let base := match s.pcie.mps, inDir with
    | 0, true => 839100000 | 0, false => 863100000 | 1, true => 888500000 | 1, false => 901700000
    | 2, true => 915400000 | 2, false => 922400000 | _, true => 929500000 | _, false => 933100000
  let x := base * s.pcie.width / 16 / 2 ^ (6 - min 6 s.pcie.rate)
  if s.mode.mode = .fallow then x * 8125 / 10000 else x
/-- Reserved rate of a periodic endpoint in kbit/s (06 R215 condition 4). -/
def Per.kbps (e : Per) : Nat :=
  let n := e.period (if e.tt = 0 then 32 else 4)
  if e.speed < 2 then ceilDiv (e.bytes * 8) n else ceilDiv (e.bytes * 64) n

/-- Conditions 4 and 5 of R215 for the whole part and one function. -/
def State.partOk (s : State) (all : List Per) (f : Nat) : Bool :=
  [true, false].all (fun d => decide (2 * ((all.filter (fun e => e.inDir == d)).map Per.kbps).sum ≤ s.upFigure d))
    && decide ((all.map Per.bytes).sum ≤ 8 * 1048576)
    && decide (((all.filter (fun e => e.fn == f)).map Per.bytes).sum ≤ s.sliceLimit f)

/-- Whether the present link, rate and width carry the reservations in force (03 R121). -/
def State.capacityShort (s : State) : Bool :=
  [true, false].any (fun d => decide (s.upFigure d < ((s.pers.filter (fun e => e.inDir == d)).map Per.kbps).sum))

/-! ### Run-ahead depth and holdings (07) -/

/-- The mode and reduction under which a bus runs: those of the window it carries out (01 R44). -/
def State.depthMode (s : State) (p : Nat) : Mode × Bool :=
  match (s.bus p).windows.find? (fun w => w.mf == (s.bus p).mf) with
  | some w => (w.mode, w.reduced)
  | none => (s.mode.mode, s.mode.reduced)
/-- A port that behaves as in Fallow (07 R250). -/
def State.likeFallow (s : State) (p : Nat) : Bool := (s.depthMode p).1 == .fallow || !(s.descEn p || s.inEn p || s.outEn p)
/-- Bytes of one service interval of a periodic endpoint (06 R215). -/
def Ep.reserve (e : Ep) : Nat := if e.periodic && !e.guest then e.mps * (e.burst + 1) * (e.mult + 1) else 0
/-- Most bytes an endpoint may hold (07 R247, R248, DEPTH_CAP), never less than a packet or a periodic endpoint's reservation (01 R38; DESIGN
CHOICE, notes/assumptions/72.md). -/
def State.depth (s : State) (e : Ep) : Nat :=
  let d :=
    if s.likeFallow e.port then max 2 (e.burst + 1) * e.mps
    else match s.depthMode e.port with
      | (.bloom, false) => 65536
      | (.bloom, true) => 16384
      | (_, false) => 16384
      | (_, true) => 4096
  let d := if s.depthCap e.port = 0 then d else min d (s.depthCap e.port * 4096)
  max (max d e.mps) e.reserve
/-- Positions the engine may read beyond the producer index (07 R247, R248, DESC_EN). -/
def State.fetchDepth (s : State) (p : Nat) : Nat :=
  if s.likeFallow p || !s.descEn p then 0
  else match s.depthMode p with
    | (.bloom, false) => 32
    | (.bloom, true) => 8
    | (_, false) => 8
    | (_, true) => 2
/-- Periodic trough reservations of the part or of one function (06 R215). -/
def State.reserved (s : State) (f : Option Nat) : Nat := (s.eps.map (fun x => if f.all (· == keyFn x.1) then x.2.reserve else 0)).sum
/-- What the working pool leaves to holdings that stand outside the reservations (03 R106). -/
def State.poolRoom (s : State) : Nat := Config.workingPool - s.reserved none
/-- The present global run-ahead budget; in Fallow there is none, and the working pool bounds the holdings (03 R106; 07 R247, R248). -/
def State.globalBudget (s : State) : Nat :=
  match s.mode.mode, s.mode.reduced with
  | .bloom, false => 16 * 1048576
  | .bloom, true => 8 * 1048576
  | .steady, false => 8 * 1048576
  | .steady, true => 2 * 1048576
  | .fallow, _ => s.poolRoom
/-- Holdings of an endpoint or stream (07 R269); the credit of an outstanding split still keeps its space. -/
def Ep.holds (e : Ep) : Nat := (e.credits.length + b2n e.inSplit) * e.mps + e.residual + (e.staged.map List.length).sum
/-- Holdings beyond a periodic endpoint's reservation (07, The trough budget). -/
def Ep.charged (e : Ep) : Nat := e.holds - e.reserve
/-- What a function holds, with its periodic reservations counted whole (01 R38; 03 R114). -/
def State.fnHolds (s : State) (f : Nat) : Nat := ((s.eps.filter (fun x => keyFn x.1 == f)).map (fun x => x.2.reserve + x.2.charged)).sum
/-- Holdings of the part beyond the reservations, and those of them that count against the global budget: not those of a port that behaves as
in Fallow in another mode (07 R250). -/
def State.allHolds (s : State) : Nat := (s.eps.map (fun x => x.2.charged)).sum
def State.allCharged (s : State) : Nat := (s.eps.map (fun x => if s.likeFallow x.2.port then 0 else x.2.charged)).sum
/-- Unused reserves of the other functions (03 R106). -/
def State.otherReserves (s : State) (f : Nat) : Nat :=
  ((List.range 129).map (fun g => if g = f then 0 else s.sliceReserve g - s.fnHolds g)).sum
/-- Whether an endpoint may hold `n` more bytes (01 R38; 03 R106, R114; 07 R249, R250, R269): a periodic endpoint within its reservation always
may; beyond it, and for every other endpoint, the function's LIMIT, its reserve or the working pool with the reserves of the others kept free, and
the global budget bind. -/
def State.mayHold (s : State) (k n : Nat) : Bool :=
  let e := s.ep k
  let f := keyFn k
  decide (e.holds + n ≤ s.depth e)
    && (decide (e.holds + n ≤ e.reserve)
      || (decide (s.fnHolds f + n ≤ s.sliceLimit f)
        && (decide (s.fnHolds f + n ≤ s.sliceReserve f)
          || (decide (s.allHolds + n + s.otherReserves f ≤ s.poolRoom) && (s.likeFallow e.port || decide (s.allCharged + n ≤ s.globalBudget))))))
/-- Endpoints whose covered demand stands below two packets are granted to first, when the budget or the function's LIMIT leaves less room than that
(07 R270). -/
def State.yields (s : State) (k : Nat) : Bool :=
  let f := keyFn k
  decide (2 * (s.ep k).mps ≤ (s.ep k).holds) && decide ((s.ep k).reserve < (s.ep k).holds + (s.ep k).mps)
    && s.eps.any (fun x => x.1 != k && !x.2.tds.isEmpty && x.2.st == .running && decide (x.2.holds < 2 * x.2.mps) && s.epLive x.1
        && ((keyFn x.1 == f && decide (s.sliceLimit f < s.fnHolds f + 2 * x.2.mps + (s.ep k).mps))
            || (!s.likeFallow x.2.port && decide (s.globalBudget < s.allCharged + 2 * x.2.mps + (s.ep k).mps))))

end Sys2Proof.Machine
end

