-- ==== Sys2Proof/Machine/BusOps.lean ====
section
/-! DEFINITION. Starting transactions on a port's bus (06 R216 – R219, R225, R227; 07 R253, R254; 08 R297): which endpoint may send a
token now, what the token and packet are, and the round robin of the asynchronous section. -/

namespace Sys2Proof.Machine

open Sys2Proof

/-! ### Routes -/

/-- Tiers of a route string, from the root (05 R173). -/
def tiers (r : Nat) : List Nat := (List.range 5).map (fun i => bits r (4 * i) 4)
/-- No non-zero tier above a zero one (05 R180). -/
def routeOk (r : Nat) : Bool := ((tiers r).dropWhile (· != 0)).all (· == 0)
/-- The number of non-zero tiers. -/
def depthOf (r : Nat) : Nat := ((tiers r).filter (· != 0)).length
/-- Whether the route of a hub begins another (05 R180; 08 R297). -/
def beginsRoute (hub r : Nat) : Bool := r % 16 ^ depthOf hub == hub
/-! ### Trees -/

/-- The side of a port that a speed belongs to (08 R276). -/
def sideOf (speed : Nat) : Side := if isSsSpeed speed then .ss else .usb2
/-- Whether a slot lies in the tree of another (08 R297). -/
def inTree (x y : Slot) : Bool := x.port == y.port && sideOf x.speed == sideOf y.speed && beginsRoute x.route y.route
/-- Whether a slot sleeps under a tree mark (08 R297). -/
def State.treeAsleep (s : State) (key : Nat) : Bool := s.slots.any (fun x => x.2.tree && x.2.st != .free && inTree x.2 (s.slot key))

/-! ### Toggles -/

/-- The number a packet must carry: the data toggle, or the sequence number on SuperSpeed (05 R191); the STATUS packet is DATA1 (06 R238). -/
def State.nextTog (s : State) (k : Nat) : Nat :=
  let r := s.ep (epRoot k)
  if s.isSs k then r.seq else if r.ty == 1 && (match r.tds with | t :: _ => t.ty == 4 | [] => false) then 1 else b2n r.toggle
/-- The toggle or sequence number advances by one packet (05 R191). -/
def advanceTog (k : Nat) (s : State) : State :=
  s.epOn (epRoot k) (fun e => if s.isSs k then { e with seq := (e.seq + 1) % 32 } else { e with toggle := !e.toggle })

/-! ### Tokens -/

/-- Where a token of an endpoint goes: a slot in Default is addressed at 0 (05 R174). -/
def State.busTok (s : State) (k : Nat) : BusTok :=
  let sl := s.slot (keySlot k)
  { dev := if sl.st == .dflt then 0 else sl.address, ep := keyEp k, stream := keyStream k }
/-- A token, packet or handshake toward the device of an endpoint. -/
def State.send (s : State) (k : Nat) (x : HostTok) : State := s.emit (.bus (s.ep k).port (sideOf (s.epSpeed k)) (.host (s.busTok k) x))

/-- Whether an endpoint is of the receiving direction now: its own, or the stage of the control transfer at DEQ. -/
def Ep.receives (e : Ep) : Bool := if e.ty = 1 then !e.tds.isEmpty && e.headRx else e.rx
/-- A transfer that has not begun has residual to be delivered, or to end it, before a new credit is used (07 R261, R262). -/
def Ep.residualFirst (e : Ep) : Bool :=
  !e.pkts.isEmpty && !e.tds.isEmpty && !e.begun && !e.isIso && !e.lens.isEmpty && (xferWhole e.tds || decide ((e.pkts.headD []).length ≤ e.lens.sum))
/-- A credit stands for the next token, or was consumed by the start-split that failed and is issued again (07 R254; 06 R226). -/
def Ep.creditReady (e : Ep) : Bool := !e.credits.isEmpty || e.inSplit
/-- Bulk and control traffic is held back while the link cannot carry the reservations of the periodic endpoints (01 R37; 03 R121). -/
def State.throttled (s : State) (k : Nat) : Bool := !(s.ep k).periodic && s.capacityShort
/-- Whether a token of an endpoint may be sent (05 R174, R176, R179, R196; 06 R207, R218, R228; 07 R256, R261, R267; 08 R289, R291, R297; 04 R150;
15 R509, R510; 17 R576). -/
def State.tokenMay (s : State) (k : Nat) : Bool :=
  let e := s.ep k
  let r := s.ep (epRoot k)
  let l := s.link e.port
  let x := l.side (sideOf (s.epSpeed k))
  s.sup.refclk && !e.guest && e.st != .closed && e.st != .faulted && s.epLive k && !s.epGone k && e.rev.isNone && !e.stopping && !e.skip && !e.dataEnd && !e.snoop && !e.waiting
    && !r.waiting && e.valid && !e.wire && !e.split && !e.skipUf && !e.residualFirst && x.st == .enabled && !x.suspending && !x.quiet && !x.l1 && !x.lpm && !l.held
    && !(s.bed (bedOf e.port)).isolating && !(s.slot (keySlot k)).recovery && !s.treeAsleep (keySlot k) && !s.epWaits (epRoot k)
/-- The translator of an endpoint (06, Split transactions); 0: none. -/
def State.ttOf (s : State) (k : Nat) : Nat := s.ttId (keyFn k) (s.slot (keySlot k))
/-- Bulk and control splits outstanding at a translator (06 R225). -/
def State.ttBusy (s : State) (tt : Nat) : Nat := (s.eps.filter (fun x => x.2.split && !x.2.periodic && !x.2.guest && s.ttOf x.1 == tt)).length
/-- A transaction of a device occupies the wire of a side; one whose result waits for room has left it (04 R150). -/
def State.wireBusy (s : State) (p : Nat) (sd : Side) : Bool :=
  s.eps.any (fun x => x.2.port == p && !x.2.guest && (x.2.wire || x.2.cs) && sideOf (s.epSpeed x.1) == sd && !s.epWaits (epRoot x.1))

/-- Packets that a start of an endpoint asks for or sends: up to MAX_BURST + 1 on SuperSpeed, and one elsewhere (06 R227). -/
def State.burstOf (s : State) (k : Nat) : Nat := if s.isSs k then (s.ep (epRoot k)).burst + 1 else 1
/-- An IN token behind credits: on SuperSpeed it invites as many packets as credits stand, within the burst (06 R227; 07 R253, R254). -/
def startIn (k : Nat) (s : State) : State :=
  let e := s.ep k
  let n := min e.credits.length (s.burstOf k)
  (s.epOn k (fun e => { e with wire := true, begun := e.begun || !e.tds.isEmpty, inflight := n, left := s.burstOf k - n })).send k (.in_ (s.nextTog k) (if s.isSs k then n else 0))
/-- Sends staged packets one after another, with their numbers. -/
def sendData (k : Nat) : Nat → List (List Byte) → State → State
  | _, [], s => s
  | tog, pk :: ps, s => sendData k ((tog + 1) % 32) ps (s.send k (.data tog pk))
/-- OUT packets that are staged: one, or a burst on SuperSpeed (06 R219, R227). -/
def startOut (k : Nat) (s : State) : State :=
  let e := s.ep k
  let pks := e.staged.take (s.burstOf k)
  let s := s.epOn k (fun e => { e with wire := true, begun := true, inflight := pks.length })
  sendData k (s.nextTog k) pks (if s.isSs k then s else s.send k .out)
/-- A bulk or control start-split (06 R224, R225): the credit of an IN packet is consumed at its issue (07 R254). -/
def startSplit (k : Nat) (pk : List Byte) (s : State) : State :=
  let e := s.ep k
  let s := s.epOn k (fun e => { (if e.receives && !e.inSplit then e.ledConsume else e) with
    split := true, begun := e.begun || !e.tds.isEmpty, inSplit := e.receives, cs := false, csAfter := (s.bus e.port).mf })
  s.send k (.startSplit .none (if e.receives then [] else pk))
/-- Starts one transaction of an endpoint when it may be sent: an IN token behind a credit, a SETUP, a status packet, staged packets,
or a PING (06 R218, R219, R227, R238; 07 R253). -/
def startXact (k : Nat) (s : State) : State :=
  let e := s.ep k
  let tt := s.ttOf k
  if !s.tokenMay k || s.throttled k || (tt != 0 && !e.periodic && decide (2 ≤ s.ttBusy tt)) then s
  else if e.receives then
    if tt ≠ 0 then (if e.creditReady then startSplit k [] s else s) else if e.credits.isEmpty then s else startIn k s
  else if e.st ≠ .running then s
  else match e.tds with
    | [] => s
    | t :: _ =>
      if tt ≠ 0 then
        if t.ty = 2 then startSplit k (leBytes 8 t.buf) s
        else if t.ty = 4 then startSplit k [] s
        else (match e.staged with | [] => s | pk :: _ => startSplit k pk s)
      else if t.ty = 2 then
        ((s.epOn k (fun e => { e with wire := true, begun := true })).send k .setup).send k (.data 0 (leBytes 8 t.buf))
      else if t.ty = 4 then
        let s := s.epOn k (fun e => { e with wire := true, begun := true })
        (if s.isSs k then s else s.send k .out).send k (.data (s.nextTog k) [])
      else if e.staged.isEmpty then s
      else if e.ping then (s.epOn k (fun e => { e with wire := true, pingOn := true })).send k .ping
      else startOut k s
/-- A complete-split of the bulk or control split outstanding, in a later microframe than the last (06 R224). -/
def completeSplit (k : Nat) (s : State) : State := (s.epOn k (fun e => { e with cs := true, csAfter := (s.bus e.port).mf })).send k .completeSplit
/-- Whether an asynchronous entry has something to send now. -/
def State.asyncReady (s : State) (k : Nat) : Bool :=
  let e := s.ep k
  if e.split then !e.cs && !e.guest && decide (e.csAfter < (s.bus e.port).mf) && (s.link e.port).u2.st == .enabled && s.sup.refclk && !s.epWaits (epRoot k)
  else
    s.tokenMay k && !s.throttled k && (s.ttOf k == 0 || decide (s.ttBusy (s.ttOf k) < 2))
      && (if e.receives then e.creditReady else e.st == .running && (match e.tds with | [] => false | t :: _ => t.ty == 2 || t.ty == 4 || !e.staged.isEmpty))

end Sys2Proof.Machine
end

