-- ==== Sys2Proof/Machine/Operands.lean ====
section
/-! DEFINITION. The operand words of commands (04 R136), the fields of PARAM0 that the PORT ACTION, SLOT, PD, power, capture and engine
commands take, and the order of a command's checks. -/

namespace Sys2Proof.Machine

open Sys2Proof

/-- PARAM0 – PARAM2 as numbers (04 R136). -/
def p0 (q : Params) : Nat := q.p0.toNat
def p1 (q : Params) : Nat := q.p1.toNat
def p2 (q : Params) : Nat := q.p2.toNat
/-- The first error of a list of checks. -/
def firstErr : List (Bool × Nat) → Option Nat
  | [] => none
  | (bad, code) :: l => if bad then some code else firstErr l

/-- PORT ACTION (08 R305). -/
def paPort (q : Params) : Nat := bits (p0 q) 0 7
def paAll (q : Params) : Bool := bit (p0 q) 7
def paSlot (q : Params) : Nat := bits (p0 q) 16 16
def paSides (q : Params) : Nat := bits (p0 q) 32 2
def paWarm (q : Params) : Bool := bit (p0 q) 34
/-- SOURCE of a PORT ACTION (08 R305). -/
def paSrc (q : Params) : Nat := if paAll q then 0xFFFF else paPort q
/-- PD REQUEST and SEND VDM (11 R409, R411). -/
def prPort (q : Params) : Nat := bits (p0 q) 0 7
def svPort (q : Params) : Nat := bits (p0 q) 0 7
def svSop (q : Params) : Nat := bits (p0 q) 8 2
def svCount (q : Params) : Nat := bits (p0 q) 16 3
/-- SET POWER POLICY (12 R439). -/
def ppNum (q : Params) : Nat := bits (p0 q) 0 7
/-- CAPTURE CONTROL (16 R537). -/
def capPort (q : Params) : Nat := bits (p0 q) 0 7
/-- UNIT of ROTATE and SELF-TEST (14 R480, R485). -/
def opUnit (q : Params) : Nat := bits (p0 q) 8 8

end Sys2Proof.Machine
end

