-- ==== Sys2Proof/Machine/SlotOps.lean ====
section
/-! DEFINITION. Shared operations on slots and endpoints: bell indices and pools (05 R169 – R172, R180), records as bytes
(05 R173, R177; 09 R314), stopping an endpoint (05 R178, R187; 07 R263), ending transactions and revocations (05 R188;
07 R256), closing (05 R186), window pruning (07 R267) and a software reset of a port's slots (06 R241). -/

namespace Sys2Proof.Machine

open Sys2Proof

/-! ### Bell indices and pools -/

def State.slotOpen (s : State) (f b : Nat) : Bool := decide (b < 16384) && (s.slot (slotKey f b)).st != .free
/-- The port whose guest function holds a bell index of a function. -/
def State.guestPort (s : State) (f b : Nat) : Option Nat :=
  (s.guests.find? (fun x => x.2.st != .free && x.2.owner == f && x.2.bell == b)).map (·.1)
def State.bellHeld (s : State) (f b : Nat) : Bool := s.slotOpen f b || (s.guestPort f b).isSome
/-- The lowest free bell index of a function (05 R180). -/
def State.freeBell (s : State) (f : Nat) : Option Nat := firstBelow (fun b => decide (1 ≤ b) && !s.bellHeld f b) (64 * s.groups f)

/-- Open slots of a port, by key. -/
def State.portSlots (s : State) (p : Nat) : List Nat := (s.slots.filter (fun x => x.2.st != .free && x.2.port == p)).map (·.1)
def State.sideSlots (s : State) (p : Nat) (sd : Side) : List Nat := (s.portSlots p).filter (fun k => sideOf (s.slot k).speed == sd)
/-- The contexts of a slot or guest bell index, streams among them. -/
def State.slotEps (s : State) (key : Nat) : List Nat := (s.eps.filter (fun x => keySlot x.1 == key)).map (·.1)
/-- The endpoints of a slot, without streams. -/
def State.slotRoots (s : State) (key : Nat) : List Nat := (s.slotEps key).filter (fun k => keyStream k == 0)

/-- Contexts of one slot or guest: its run and the runs of its stream endpoints (05 R172). -/
def State.ctxOf (s : State) (key count : Nat) : Nat :=
  count + ((s.slotRoots key).map (fun k => if (s.ep k).streams then 2 ^ ((s.ep k).stLog + 1) - 1 else 0)).sum
/-- The runs of the context pool: of slots, of guest functions, and the second runs of endpoints with streams (05 R172). -/
def State.ctxRuns (s : State) : List (Nat × Nat) :=
  (s.slots.filter (fun x => x.2.st != .free)).map (fun x => (x.2.ctxBase, x.2.ctxCount)) ++ (s.guests.filter (fun x => x.2.st != .free)).map (fun x => (x.2.ctxBase, x.2.ctxCount))
    ++ (s.eps.filter (fun x => x.2.streams)).map (fun x => (x.2.base, 2 ^ (x.2.stLog + 1) - 1))
/-- Every run lies within the pool, and no two overlap. -/
def runsOk : List (Nat × Nat) → Bool
  | [] => true
  | (b, n) :: l => decide (b + n ≤ Config.contextPool) && l.all (fun x => decide (b + n ≤ x.1) || decide (x.1 + x.2 ≤ b)) && runsOk l
/-- All runs stand one after another. -/
def packRuns (s : State) : State :=
  let (slots, a) := s.slots.foldl (fun (l, a) x => if x.2.st == .free then (l ++ [x], a) else (l ++ [(x.1, { x.2 with ctxBase := a })], a + x.2.ctxCount)) (([] : Tbl Slot), 0)
  let (guests, a) := s.guests.foldl (fun (l, a) x => if x.2.st == .free then (l ++ [x], a) else (l ++ [(x.1, { x.2 with ctxBase := a })], a + x.2.ctxCount)) (([] : Tbl Guest), a)
  let (eps, _) := s.eps.foldl (fun (l, a) x => if x.2.streams then (l ++ [(x.1, { x.2 with base := a })], a + 2 ^ (x.2.stLog + 1) - 1) else (l ++ [x], a)) (([] : Tbl Ep), a)
  { s with slots, guests, eps }
/-- A new or longer run begins where the part puts it, a free value; when it does not fit there, runs are moved (05 R172, which lets the part move
a run between two bundles). -/
def fixRuns (s : State) : State := if runsOk s.ctxRuns then s else packRuns s
def State.slotsHeld (s : State) (f : Nat) : Nat := (s.slots.filter (fun x => x.1 / 16384 == f && x.2.st != .free)).length
def State.guestsHeld (s : State) (f : Nat) : Nat := (s.guests.filter (fun x => x.2.owner == f && x.2.st != .free)).length
def State.ctxHeld (s : State) (f : Nat) : Nat :=
  ((s.slots.filter (fun x => x.1 / 16384 == f && x.2.st != .free)).map (fun x => s.ctxOf x.1 x.2.ctxCount)).sum
    + ((s.guests.filter (fun x => x.2.owner == f && x.2.st != .free)).map (fun x => s.ctxOf (slotKey f x.2.bell) x.2.ctxCount)).sum

/-- Whether a function may take `n` more records of a pool (05 R171). -/
def poolFits (held reserve : Nat → Nat) (limit size f n : Nat) : Bool :=
  n == 0 || (decide (held f + n ≤ limit) && (decide (held f + n ≤ reserve f)
    || decide (((List.range 129).map held).sum + n + ((List.range 129).map (fun g => if g = f then 0 else reserve g - held g)).sum ≤ size)))
def State.slotFits (s : State) (f : Nat) : Bool := poolFits s.slotsHeld s.slotReserve (s.slotLimit f) Config.slotPool f 1
def State.ctxFits (s : State) (f n : Nat) : Bool := poolFits s.ctxHeld s.ctxReserve (s.ctxLimit f) Config.contextPool f n
def State.guestFits (s : State) (f : Nat) : Bool := poolFits s.guestsHeld s.guestReserve (s.guestLimit f) Config.guestPool f 1

/-! ### Records as bytes -/

/-- A slot record (05 R173). -/
def slotBytes (f b : Nat) (x : Slot) : List Byte :=
  leBytes 4 (x.st.code + b2n x.gone * 4 + b2n x.noSnoop * 8 + x.speed * 16 + b2n x.isHub * 128 + x.port * 256 + b2n x.multiTt * 32768
      + x.address * 65536 + x.hubPorts * 2 ^ 24)
    ++ leBytes 4 (x.route + x.ttPort * 2 ^ 20 + x.ctxCount * 2 ^ 27) ++ leBytes 4 (x.ttHub + f * 65536) ++ leBytes 4 x.ctxBase ++ leBytes 4 b
    ++ leBytes 4 x.seq ++ leBytes 8 0
/-- An endpoint context or a stream context (05 R177). -/
def State.ctxBytes (s : State) (k : Nat) : List Byte :=
  let e := s.ep k
  let r := s.ep (epRoot k)
  let own := keyStream k = 0
  let ends := fun n => if own then n else 0
  let table := own && e.streams
  if e.st = .closed then leBytes 32 0
  else
    leBytes 8 ((if table then 0 else b2n e.cur.gen) + b2n r.toggle * 2 + e.st.code * 4 + (if table then e.cur.addr / 4096 * 4096 else e.cur.addr / 32 * 32))
      ++ leBytes 4 (if table then e.base else e.cur.count) ++ leBytes 4 e.commit
      ++ leBytes 4 ((if table then 0 else e.done) + r.seq * 2 ^ 24 + ends e.ty * 2 ^ 29)
      ++ leBytes 4 ((if table then 0 else e.residual) + ends e.xactErr * 2 ^ 24)
      ++ leBytes 4 (ends (e.mps + e.burst * 2 ^ 11 + e.mult * 2 ^ 15 + e.interval * 2 ^ 17 + e.retry * 2 ^ 21 + b2n e.streams * 2 ^ 25 + e.stLog * 2 ^ 26)
        + b2n e.pend * 2 ^ 30 + (if table then 0 else b2n e.skip) * 2 ^ 31)
      ++ leBytes 4 (ends (e.evr + e.splitErr * 2 ^ 8 + e.iface * 2 ^ 16 + e.babble * 2 ^ 24))
/-- A guest record (09 R314). -/
def guestBytes (p : Nat) (g : Guest) : List Byte :=
  leBytes 4 (g.st.code + b2n g.connectReq * 4 + b2n g.present * 8 + b2n g.suspended * 16 + g.speed * 32 + p * 256 + b2n g.held * 2 ^ 15 + g.address * 2 ^ 16
      + g.owner * 2 ^ 24)
    ++ leBytes 4 (g.bell + g.dropped * 65536) ++ leBytes 8 (if g.held then g.setup else 0) ++ leBytes 4 (g.ctxBase + g.ctxCount * 2 ^ 18)
    ++ leBytes 4 g.seq ++ leBytes 4 g.discarded ++ leBytes 4 0

def slotBump (key : Nat) (s : State) : State := s.slotOn key (fun x => { x with seq := add32 x.seq 1 })

/-! ### Stopping an endpoint -/

/-- A transfer is in progress: it has begun, or some of its descriptors have retired (05 R187; 09 R331). It has begun once a token of it has been
sent, whatever the answer, and a covered transfer of which nothing has been sent is not in progress (DESIGN CHOICE, notes/assumptions/71.md). -/
def Ep.inXfer (e : Ep) : Bool := !e.skip && (e.curRd.chain || ((e.begun || e.done != 0) && !e.tds.isEmpty))
/-- The record that stops the transfer in progress (05 R187; 04 R134). -/
def stopPost (k code : Nat) (s : State) : State :=
  let e := s.ep k
  if !e.inXfer then s
  else match e.tds with
    | t :: _ => xferPost k code t.addr (t.len - e.done) t.cookie false false s
    | [] => xferPost k code e.cur.addr 0 0 false true s
/-- The MISSED-SERVICE record of intervals passed unserved, when the endpoint is next served or enters Paused (06 R236). -/
def missedPost (k : Nat) (s : State) : State :=
  if (s.ep k).missed = 0 then s
  else (xferPost k ccMissed 0 (s.ep k).missed 0 false false s).epOn k (fun e => { e with missed := 0 })

/-- The first moment of a pause, reset or detach: credits are revoked and staging is pruned as far as no transmission has
started (07 R256, R265, R268), the endpoint's window entries go (07 R267), and nothing of it is claimed any more (07 R258). -/
def stopStart (r : Nat) (why : RevWhy) (s : State) : State :=
  pruneWin (s.ep r).port (fun k => epRoot k == r)
    (forEach (s.epAll r) (fun k s => s.epOn k (fun e => { e.revoke why with ahead := [], staged := e.staged.take e.started, stopping := true })) s)

/-- An endpoint enters Paused (05 R178): the stopping record of each ring, then the RESIDUAL records (07 R263). -/
def pauseNow (r code : Nat) (s : State) : State :=
  let ks := s.epAll r
  let s := forEach ks (fun k s => stopPost k code (missedPost k s)) s
  let s := forEach ks residualPost s
  let s := forEach ks (fun k s => s.epOn k Ep.stopped) s
  epBump r (s.epOn r (fun e => { e with st := .paused }))

/-- Empty isochronous intervals are reported when the next descriptor is served (06 R235; 09 R328, R329). -/
def isoEmptyPost (k : Nat) (s : State) : State :=
  if (s.ep k).empty = 0 then s
  else (xferPost k ccIsoNoBuffer 0 (s.ep k).empty 0 false false s).epOn k (fun e => { e with empty := 0 })

/-- Whether a transaction or split of an endpoint is outstanding. -/
def State.epBusy (s : State) (r : Nat) : Bool := (s.epAll r).any (fun k => (s.ep k).wire || (s.ep k).split)

/-- Whether a command in progress is a pause of an endpoint. -/
def Op.pauses (o : Op) (r : Nat) : Bool :=
  o.h.fn.val == keyFn r && o.bell == keyBell r && (match o.kind with | .pause e => e == keyEp r | .guestPause e => e == keyEp r | _ => false)
/-- SOURCE and opcode of the COMMAND record of a pause. -/
def Op.pauseSrc (o : Op) : Nat := if o.port = 128 then o.bell else o.port
def Op.pauseCode (o : Op) : Nat := if o.port = 128 then 0x14 else 0x20

/-- A pause completes (05 R187, R188; 09 R323): the bundle that enters Paused and the COMMAND record, or the COMMAND record
alone when the endpoint has halted. -/
def pauseFinish (r : Nat) (s : State) : State :=
  match s.opFind (fun o => o.pauses r) with
  | none => s
  | some o =>
    let live := (s.ep r).st == .idle || (s.ep r).st == .running
    let ks := if live then s.epAll r else []
    let s := if live then pauseNow r ccStopped s else s
    epCmdDone ks o.h o.pauseCode ccSuccess 0 o.pauseSrc (opDrop (fun x => x.pauses r) s)
/-- The keys under which the bundle of an endpoint waits: its own, and its slot's or port's (05 R190, R198). -/
def State.epKeys (s : State) (r : Nat) : List WaitKey :=
  [.epHeld r, if (s.ep r).guest then .portHeld (s.ep r).port else .slotHeld (keyFn r) (keyBell r)]
/-- A pause completes as a bundle of its own (05 R188). -/
def pauseTry (r : Nat) (s : State) : State := subBundle (s.epKeys r) (.pauseEnd r) (pauseFinish r) s

/-- After a transaction's result: a snooped reset goes on (05 R192), and a pause whose endpoint has halted or has settled completes (05 R187,
R188; 07 R256). -/
def afterXact (k : Nat) (s : State) : State :=
  let r := epRoot k
  let s := if !(s.ep k).wire && !(s.ep k).split then s.epOn k (fun e => { e with rev := match e.rev with | some .snoop | some .hold => none | x => x }) else s
  if !s.epWaits r && (s.opFind (fun o => o.pauses r)).isSome && (!s.epBusy r || (s.ep r).st == .halted) then pauseTry r s else s
/-- A context is closed: everything it held goes (05 R178). -/
def epClose (r : Nat) (s : State) : State :=
  forEach (s.epAll r) (fun k s => s.epPut k {}) (pruneWin (s.ep r).port (fun k => epRoot k == r) s)

/-- Residual held by a slot's or guest's contexts, saturated (05 R186). -/
def State.slotResidual (s : State) (key : Nat) : Nat := min 16777215 (((s.slotEps key).map (fun k => (s.ep k).residual)).sum)

/-- The lowest address that no other slot of the root port holds (05 R175). -/
def State.freeAddress (s : State) (p : Nat) : Option Nat :=
  firstBelow (fun a => decide (1 ≤ a) && !(s.portSlots p).any (fun k => (s.slot k).address == a)) 128

/-! ### Halting by an error -/

/-- A transfer that is in progress ends with an error code and its endpoint halts (05 R178; 08 R301). -/
def haltXfer (k code : Nat) (s : State) : State := afterXact k (epError k code s)

/-! ### Software reset of a port (06 R241) -/

/-- Step 4 for one endpoint: the records and states of the bundle. -/
def resetEp (r : Nat) (s : State) : State :=
  let live := (s.ep r).st == .idle || (s.ep r).st == .running
  if keyEp r = 0 then
    let s := if live && (s.ep r).inXfer then retireXfer r (stopPost r ccResetAborted s) else s
    epBump r (s.epOn r (fun e => { e.stopped with snoop := false, dataEnd := false, owed := none }))
  else if live then pauseNow r ccResetAborted s
  else forEach (s.epAll r) (fun k s => s.epOn k (fun e => { e.offWire.ledRevoke 0 with rev := none, stopping := false })) s
/-- Step 4 for one slot: the slot goes to Default, its address stays reserved (05 R174), and its tree mark clears (08 R297). -/
def resetSlot (key : Nat) (s : State) : State :=
  let s := forEach (s.slotRoots key) resetEp s
  slotBump key (s.slotOn key (fun x => { x with st := if x.st == .free then .free else .dflt, tree := false, recovery := false }))

/-- A detach of one slot (05 R174, R178; 07 R263): GONE, and its Idle and Running endpoints enter Paused with DETACHED; a pause in
progress on it ends with COMMAND-ABORTED (05 R176). -/
def detachSlot (key : Nat) (s : State) : State :=
  let f := key / 16384
  let b := key % 16384
  let s := forEach (s.slotRoots key) (fun r s =>
    if (s.ep r).st == .idle || (s.ep r).st == .running then pauseNow r ccDetached s
    else forEach (s.epAll r) (fun k s => s.epOn k (fun e => { e.offWire.ledRevoke 0 with rev := none, stopping := false })) s) s
  let s := slotBump key (s.slotOn key (fun x => { x with gone := true, tree := false }))
  abortOps (fun o => o.h.fn.val == f && o.bell == b && o.port == 128) 0x14 b s
/-- At a detach the bed revokes credits and prunes entries itself (07 R267, R268); the slot's bundle follows, as a bundle of its own. -/
def detachTry (key : Nat) (s : State) : State :=
  let s := forEach (s.slotRoots key) (fun r s => stopStart r .detach (forEach (s.epAll r) (fun k s => s.epOn k Ep.offWire) s)) s
  subBundle [.slotHeld (key / 16384) (key % 16384)] (.detach key) (detachSlot key) s

end Sys2Proof.Machine
end

