-- ==== Sys2Proof/Machine/PortOps.lean ====
section
/-! DEFINITION. Shared operations on a port: its events (08 R309; 10 R373; 11 R412; 12 R440), USB service and detach (08 R275,
R278, R285, R288), the power budget (11 R380; 12 R433 – R435), the power path (12 R420 – R428), Type-C detach (10 R345, R349) and
the PD state at a contract's end (11 R399, R400). -/

namespace Sys2Proof.Machine

open Sys2Proof

/-! ### Events -/

/-- DETAIL of a PORT event (08 R309). -/
def State.linkDetail (s : State) (p : Nat) (sd : Side) (coincident : Bool) : Nat :=
  let l := s.link p
  l.u2.st.code + l.ss.st.code * 16 + l.u2.speed * 256 + l.ss.speed * 4096 + (if sd = .ss then 65536 else 0) + b2n coincident * 131072
/-- A PORT event of a side (08 R309; 09 R338). -/
def portEvent (p change value : Nat) (sd : Side) (coincident : Bool) (s : State) : State :=
  postPort p { ty := evPort, ptr := change, count := value, detail := s.linkDetail p sd coincident } s
/-- PRT_TC_STATUS [14:0] (10). -/
def Tc.status (t : Tc) : Nat :=
  t.st.code + b2n t.orient * 32 + b2n t.source * 64 + b2n t.dfp * 128 + t.rp * 256 + b2n t.vconnOn * 1024 + b2n t.quarantine * 2048 + b2n t.bridge * 4096
    + b2n t.sinkTxNg * 8192 + b2n t.wetLast * 16384
/-- A Type-C happening as a PORT event (10 R373). -/
def tcEvent (p change detail : Nat) (s : State) : State := portEvent p change ((s.tc p).status + detail * 65536) .usb2 false s
/-- A PD event (11 R412). -/
def pdEvent (p kind data0 data1 value cause : Nat) (s : State) : State :=
  let t := s.tc p
  postPd p { ty := evPd, ptr := data0 % two32 + data1 % two32 * two32, count := value % 2 ^ 24,
             detail := kind + cause * 256 + b2n t.source * 65536 + b2n t.dfp * 131072 + b2n t.vconnOn * 262144 } s
/-- A POWER event of a port (12 R440). -/
def powerEvent (p kind value cause : Nat) (s : State) : State :=
  let x := s.path p
  postPort p { ty := evPower, ptr := x.mv / 20 % 65536 + x.ma / 10 % 65536 * 65536, count := value, detail := kind + cause * 256 + x.st.code * 65536 } s
/-- EARLYWARN, on PF ring 0 (12 R436, R440). -/
def earlyWarnEvent (b cause : Nat) (s : State) : State :=
  postPf { ty := evPower, count := b, detail := 7 + cause * 256, src := 0x8000 + b } s

/-- A lasting condition ends: the source's line returns to 01 (15 R505). -/
def lineQuiet (n : Nat) (s : State) : State := s.fltSrcOn n (fun x => { x with line := if x.line = .fault then .quiet else x.line })

/-! ### USB service -/

/-- Attached states of a connector (10 R344). -/
def TcSt.attached : TcSt → Bool
  | .attachedSnk | .attachedSrc | .unorientedDebug | .orientedDebug | .debugSnk | .audio => true
  | _ => false
/-- Whether a side may be in USB service (08 R275; 10 R351, R354, R355). -/
def State.serviceable (s : State) (p : Nat) (sd : Side) : Bool :=
  let l := s.link p
  let t := s.tc p
  s.fnExists (s.portFunc p) && !l.disabled && !l.device
    && (match sd with | .usb2 => s.usb2En p | .ss => s.ssEn p && decide (3 ≤ s.maxSpeed p))
    && (match s.profile p with
        | .typec => t.st.attached && t.st != .audio && t.dfp && (sd == .usb2 || t.st != .unorientedDebug)
        | .typea | .soldered => (s.path p).st == .on
        | .disabled => false)
/-- The bus counts only while a side is neither OFF nor DISCONNECTED (08 R288). -/
def busCheck (p : Nat) (s : State) : State :=
  let quiet := fun (x : SideSt) => x.st == .off || x.st == .disconnected
  if quiet (s.link p).u2 && quiet (s.link p).ss then s.busOn p (fun b => { b with running := false, windows := [], todo := [], turn := [] }) else s
/-- A side enters ENABLED: the bus starts from interval 0 when it was not counting (08 R288); the latched PRT_FRAME_TIME stays (06 R237). -/
def busStart (p : Nat) (s : State) : State :=
  if (s.bus p).running then s else s.busPut p { interval := 0, running := true, start := s.now, mf := 0, nextMf := 1, latch := (s.bus p).latch }
/-- A device stands on a side (08 R278). -/
def LinkSt.holdsDevice : LinkSt → Bool
  | .attached | .resetting | .enabled | .suspended | .resuming | .error => true
  | _ => false
/-- SuperSpeed sides in ATTACHED to ERROR (08 R284). -/
def State.ssUp (s : State) : Nat := (s.links.filter (fun x => x.2.ss.st.holdsDevice)).length
/-- Withheld ports of cause 2 return in ascending port order as the Fallow limit leaves room (08 R284). -/
def returnWithheld (n : Nat) (s : State) : State :=
  let ps := ((s.links.filter (fun x => x.2.ss.st == .withheld && x.2.ss.cause == 2)).map (·.1)).take n
  forEach ps (fun p s => s.sideOn p .ss (fun x => { x with st := .disconnected, cause := 0 })) s
def fallowReturn (s : State) : State := if s.mode.mode = .fallow then returnWithheld (32 - s.ssUp) s else s

/-- Whether a port operation in progress concerns a side (08 R308). -/
def State.opOnSide (s : State) (p : Nat) (sd : Side) (o : Op) : Bool :=
  let x := (s.link p).side sd
  o.port == p && (match o.kind with
    | .reset => x.st == .resetting || x.quiet
    | .suspend => x.suspending
    | .resume => x.st == .resuming
    | .treeSleep => sideOf (s.slot (slotKey o.h.fn o.bell)).speed == sd
    | _ => false)
/-- A side loses its device or its service (08 R278, R285, R308): its slots are set GONE, operations on it are aborted, its
windows are pruned, and a DETACH event is written when a device was attached. -/
def dropSide (p : Nat) (sd : Side) (goal : LinkSt) (s : State) : State :=
  let x := (s.link p).side sd
  let keys := s.sideSlots p sd
  let n := (keys.filter (fun k => !(s.slot k).gone)).length
  let held := x.st.holdsDevice || (x.st == .withheld && goal == .disconnected)
  let t := s
  let s := forEach keys detachTry s
  let s := abortOps (fun o => t.opOnSide p sd o) 0x20 p s
  let s := pruneWin p (fun k => keys.contains (keySlot k)) s
  let s := s.sideOn p sd (fun _ => { st := goal, maxSpeed := s.maxSpeed p })
  let s := s.linkOn p (fun l => { l with test := 0 })
  let s := if held then portEvent p 0x02 n sd false s else s
  let s := busCheck p s
  if sd = .ss then fallowReturn s else s
/-- A side follows R275: it enters service into DISCONNECTED, or leaves it into OFF (08 R278). -/
def refreshSide (p : Nat) (sd : Side) (s : State) : State :=
  let x := (s.link p).side sd
  if s.serviceable p sd then
    if x.st = .off then s.sideOn p sd (fun _ => { st := .disconnected, maxSpeed := s.maxSpeed p }) else s
  else if x.st = .off then s else dropSide p sd .off s
/-- Both sides follow R275, USB 2.0 first (08 R309). In the device role the guest rules govern the sides (09 R338). -/
def refreshSides (p : Nat) (s : State) : State :=
  if (s.link p).device then s else refreshSide p .ss (refreshSide p .usb2 s)

/-! ### Budgets (11 R380; 12 R433) -/

/-- Default reservation in mW of an Rp level 1 – 3 (12 R433). -/
def rpPower (rp : Nat) : Nat := match rp with | 1 => 4500 | 2 => 7500 | 3 => 15000 | _ => 0
/-- The fixed holding of a TYPEA or SOLDERED port, in mW (12 R433). -/
def State.fixedPower (s : State) (p : Nat) : Nat :=
  let h := s.hook p
  match s.profile p with
  | .typea => 250 * h.fixedI
  | .soldered => 5 * h.fixedV * h.fixedI
  | _ => 0
/-- What a port holds in the budget, in mW (12 R433, R437; 11 R385, R395): nothing while it is shed, waits, or is held at OFF by a
thermal shutdown or for VDD_HV (15 R519; 17 R570). -/
def State.holding (s : State) (p : Nat) : Nat :=
  let t := s.tc p
  let d := s.pd p
  let x := s.path p
  if x.shed || x.waitBudget || x.hold.any (fun h => decide (4 ≤ h)) then 0
  else match s.profile p with
    | .typec =>
      if t.source && t.st.attached && t.st != .audio then
        (if d.con.isSome || d.next.isSome then max d.grant d.oldGrant else max (rpPower t.rpHeld) d.oldGrant)
      else d.grant
    | .disabled => 0
    | _ => if t.powerOff || t.retired || !s.served then 0 else s.fixedPower p
/-- The bed budget in force in mW, with a warning's cut (12 R436). -/
def State.bedEffective (s : State) (b : Nat) : Nat :=
  let x := s.bed b
  if x.cut then min x.cutMw (x.bedW * x.cutPct * 10) else x.bedW * 1000
/-- The device budget in watts (12 R415, R439). -/
def State.devBudgetW (s : State) : Nat := if s.budget.devW = 0 then (bedsAll.map (fun b => (s.bed b).bedW)).sum else s.budget.devW
def State.bedHeld (s : State) (b : Nat) : Nat := ((portsOf b).map s.holding).sum
def State.devHeld (s : State) : Nat := (ports.map s.holding).sum
/-- The power available to a port, in mW (11 R380). -/
def State.available (s : State) (p : Nat) : Nat :=
  let own := s.holding p
  let a := min (s.bedEffective (bedOf p) - (s.bedHeld (bedOf p) - own)) (s.devBudgetW * 1000 - (s.devHeld - own))
  if (s.path p).limit % 65536 = 0 then a else min a ((s.path p).limit % 65536 * 1000)
/-- RP_LEVEL in force, as an Rp level 1 – 3 (10). -/
def State.rpLevel (s : State) (p : Nat) : Nat := min 2 (bits (s.tc p).cfg.toNat 6 2) + 1
/-- The highest Rp level whose reservation fits (12 R434). -/
def State.rpFits (s : State) (p : Nat) : Option Nat :=
  ([3, 2, 1].filter (fun l => decide (l ≤ s.rpLevel p) && decide (rpPower l ≤ s.available p))).head?

/-! ### The power path -/

/-- FB DAC code for a target in mV (12 R420). -/
def fbCode (h : Hook) (mv : Nat) : Nat := if h.rt = 0 then 0 else min 4095 (((mv - h.v0) * 160 + h.rt) / (2 * h.rt))
/-- Over-current threshold in mA for a contract current (12 R422). -/
def State.ocpOf (s : State) (p ma : Nat) : Nat := clamp 100 6000 (ceilDiv (ma * (100 + s.ocpMargin p)) 2500 * 25)
/-- Short-circuit threshold in mA over a base current (12 R422). -/
def State.scOf (s : State) (p ma : Nat) : Nat :=
  let x := s.scMult p * ma / 100
  if (s.hook p).rsense = 0 then x else min x (1500000 / (s.hook p).rsense)
/-- Current of an Rp level in mA (12 R422). -/
def rpMa (rp : Nat) : Nat := match rp with | 1 => 900 | 2 => 1500 | 3 => 3000 | _ => 0
/-- Target and contract current of a port as it stands (12 R422). -/
def State.pathGoal (s : State) (p : Nat) : Nat × Nat :=
  match s.profile p with
  | .typea => (5000, (s.hook p).fixedI * 50)
  | .soldered => ((s.hook p).fixedV * 100, (s.hook p).fixedI * 50)
  | _ =>
    match (s.pd p).con with
    | some c => (c.mv, if c.kind = .pps then c.ma + 150 else c.ma)
    | none => (5000, rpMa (s.tc p).rpHeld)

/-- Whether hardware-only protection is in force on a path (12 R427; 15 R510). -/
def State.hwOnly (s : State) (p : Nat) : Bool :=
  s.flt.safeHold || s.eng.swapping || (s.bed (bedOf p)).isolating || (!s.served && s.boot.held.any (fun x => x.1 == p))
/-- A port persists (02 R70, R71): before sowing has completed, bed hardware alone holds its contract. -/
def State.persisting (s : State) (p : Nat) : Bool := !s.served && s.boot.held.any (fun x => x.1 == p)
/-- The safe state of a port (02 R48). What the supply, a hot die and a retired unit hold stays, and so does its shed class. -/
def portSafe (p : Nat) (s : State) : State :=
  let x := s.path p
  (((s.tcPut p { retired := (s.tc p).retired }).pdPut p {}).pathPut p {
    hold := x.hold.filter (fun h => decide (4 ≤ h)), forceOff := x.forceOff, chainAside := x.chainAside, shedClass := x.shedClass }).linkPut p {}
/-- A port's persistence ends (02 R72; 17 R574): causes 1 detach, 2 Hard Reset, 3 eFuse trip, 4 HOLD_LIMIT. -/
def persistEnd (p cause : Nat) (s : State) : State :=
  let d3cold := s.sup.perst && !s.sup.low.isEmpty && (cause == 1 || cause == 3)
  let s := portSafe p s
  { s with
    boot := { s.boot with held := terase s.boot.held p, persistEnds := s.boot.persistEnds ++ [(p, cause)] },
    sup := { s.sup with wakeN := s.sup.wakeN || d3cold } }
/-- Orders a path on (12 R424): from OFF it ramps to a target. -/
def pathRamp (p mv ma : Nat) (sink : Bool) (s : State) : State :=
  s.pathOn p (fun x => { x with
    st := .ramp, sinking := sink, target := mv, fb := if sink then 0 else fbCode (s.hook p) mv, disch := false, pg := false, ocTimer := false,
    ocp := s.ocpOf p ma, sc := s.scOf p (s.inrushMa p), shed := false, waitBudget := false, queued := none, next := none })
/-- The gate goes off and the path enters OFF (12 R424); LATCHED stays unless `unlatch`. -/
def pathOff (p : Nat) (unlatch : Bool) (s : State) : State :=
  let s := if unlatch && (s.path p).st == .latched then lineQuiet (4 * p) s else s
  let s := s.pathOn p (fun x => { x with
    pg := false, ocTimer := false, disch := true, queued := none, next := none, slewing := false, retrying := false, target := 0, fb := 0, sinking := false, gateOff := false,
    st := if x.st = .latched ∧ !unlatch then .latched else .off, retries := if unlatch then 0 else x.retries })
  match s.profile p with
  | .typea | .soldered => refreshSides p s
  | _ => s
/-- The Rp level presented and held outside an explicit contract (10 R363; 12 R434). -/
def rpHold (p l : Nat) (s : State) : State := s.tcOn p (fun t => { t with rp := l, rpHeld := l })
/-- A path goes on when the port's reservation is held, and else waits with a BUDGET-WAIT event (12 R434); none does before sowing is
complete (02 R48). -/
def pathSeek (p : Nat) (s : State) : State :=
  let x := s.path p
  if !s.served ∨ x.st ≠ .off ∨ !x.hold.isEmpty ∨ x.forceOff ∨ x.shed ∨ (s.tc p).retired then s
  else if s.hwOnly p then
    let s := s.pathOn p (fun x => { x with queued := some .sourceOn })
    if s.profile p = .typec then rpHold p ((s.rpFits p).getD 1) s else s
  else match s.profile p with
    | .typec =>
      (match s.rpFits p with
       | some l => pathRamp p 5000 (rpMa l) false ((rpHold p l s).pathOn p (fun x => { x with waitBudget := false }))
       | none =>
         let s := rpHold p 1 s
         if x.waitBudget then s
         else powerEvent p 4 4500 0 { s.pathOn p (fun x => { x with waitBudget := true }) with budget := { s.budget with waitOrder := s.budget.waitOrder ++ [p] } })
    | .disabled => s
    | _ =>
      let s0 := s.pathOn p (fun x => { x with waitBudget := true })
      if s.fixedPower p ≤ s0.available p then
        let s := s.pathOn p (fun x => { x with waitBudget := false })
        pathRamp p (s.pathGoal p).1 (s.pathGoal p).2 false s
      else if x.waitBudget then s
      else powerEvent p 4 (s.fixedPower p) 0 { s0 with budget := { s.budget with waitOrder := s.budget.waitOrder ++ [p] } }
/-- Power has been released: waiting ports are served in the order of their BUDGET-WAIT events (12 R435). -/
def serveWaiting (s : State) : State :=
  forEach s.budget.waitOrder (fun p s =>
    if !(s.path p).waitBudget then { s with budget := { s.budget with waitOrder := s.budget.waitOrder.filter (· != p) } }
    else
      let t := pathSeek p s
      if (t.path p).waitBudget then s else { t with budget := { t.budget with waitOrder := t.budget.waitOrder.filter (· != p) } }) s

/-! ### PD and Type-C ends -/

/-- Commands of PD on a port end with a code and an ANSWER (11 R409, R411). -/
def pdOps (p : Nat) (o : Op) : Bool := o.port == p && (match o.kind with | .pd .. | .vdm .. => true | _ => false)
def Op.pdOpcode (o : Op) : Nat := match o.kind with | .vdm .. => 0x23 | _ => 0x22
def pdAbort (p : Nat) (s : State) : State :=
  forEach (s.ops.filter (pdOps p)) (fun o s => cmdDone o.h o.pdOpcode ccAborted 0 p s) (opDrop (pdOps p) s)
/-- EPR mode ends (11 R399, R412). -/
def eprLeave (p : Nat) (s : State) : State :=
  if (s.pd p).epr then pdEvent p 14 0 0 0 0 (s.pdOn p (fun d => { d with epr := false })) else s
/-- A CONTRACT-VOID event when an explicit contract was in force (11 R400), and the end of the contract and of EPR mode. -/
def voidContract (p cause : Nat) (s : State) : State :=
  let d := s.pd p
  let s := match d.con with | some c => if cause = 0 then s else pdEvent p 2 c.rdo 0 0 cause s | none => s
  let s := if d.con.isSome && (s.tc p).source then s.tcOn p (fun t => { t with rp := t.rpHeld, sinkTxNg := false }) else s
  eprLeave p (s.pdOn p (fun d => { d with con := none, next := none, transition := false, grant := 0, oldGrant := 0, waitSince := none, ppsCl := false }))
/-- Trellis mode ends (11 R407, R412). -/
def trellisEnd (p : Nat) (s : State) : State :=
  if (s.pd p).trellis = .no then s
  else
    let s := if (s.pd p).trellis = .entered then pdEvent p 12 0 0 0 0 s else s
    s.pdOn p (fun d => { d with trellis := .no, trellisPeer := none, helloAcked := false })
/-- Whether the UART bridge is connected (10 R356). -/
def State.bridgeWanted (s : State) (p : Nat) : Bool :=
  let t := s.tc p
  s.brgEnable p && s.brgBase p != 0 && (match s.profile p with
    | .typec => bits t.cfg.toNat 12 2 == 1 && (t.st == .unorientedDebug || t.st == .orientedDebug || t.st == .debugSnk || (s.pd p).trellis == .entered)
    | .soldered => s.fld (portReg p 0x400) 12 2 == 2
    | _ => false)
/-- The bridge connects or disconnects, with its event (10 R356, R373). -/
def refreshBridge (p : Nat) (s : State) : State :=
  let w := s.bridgeWanted p
  if w = (s.tc p).bridge then s else tcEvent p 0x35 (b2n w) (s.tcOn p (fun t => { t with bridge := w }))
/-- The Unattached state of a port's role, with the settings it takes up (10 R343, R345). -/
def enterUnattached (p : Nat) (s : State) : State :=
  let cfg := s.rget (portReg p 0x400)
  let src := bits cfg 2 2 == 0
  s.tcPut p { st := if src then .unattachedSrc else .unattachedSnk, source := src, rp := if src then min 2 (bits cfg 6 2) + 1 else 0, cfg := BitVec.ofNat 32 cfg, guard := BitVec.ofNat 32 (s.rget (portReg p 0x404)),
              moist := BitVec.ofNat 32 (s.rget (portReg p 0x408)), pdCfg := BitVec.ofNat 32 (s.rget (portReg p 0x500)), pdSrc := BitVec.ofNat 32 (s.rget (portReg p 0x504)),
              pdSnk := BitVec.ofNat 32 (s.rget (portReg p 0x508)), pdIdent := BitVec.ofNat 32 (s.rget (portReg p 0x50C)), wetLast := (s.tc p).wetLast, cc1 := (s.tc p).cc1, cc2 := (s.tc p).cc2, retired := (s.tc p).retired }
/-! ### The device role -/

/-- The side on which a guest is presented (09 R315). -/
def Guest.side (g : Guest) : Side := if 3 ≤ g.speedMax then .ss else .usb2
def guestBump (p : Nat) (s : State) : State := s.guestOn p (fun g => { g with seq := add32 g.seq 1 })
/-- Guest operations in progress on a port end with COMMAND-ABORTED (09 R331, R335). -/
def guestAbort (p : Nat) (s : State) : State :=
  abortOps (fun o => o.port == p && (match o.kind with | .guestWake | .guestPause _ => true | _ => false)) 0x20 p s
/-- An endpoint of a guest goes to Paused: a transfer in progress of a live one ends with a code (09 R331, R333). -/
def guestPause (r code : Nat) (s : State) : State :=
  if (s.ep r).st == .idle || (s.ep r).st == .running then pauseNow r code s
  else if (s.ep r).st == .halted then epBump r (s.epOn r (fun e => { e with st := .paused })) else s
/-- A guest leaves PRESENT (09 R333). -/
def guestGone (p cause : Nat) (s : State) : State :=
  let g := s.guest p
  if !g.present then s
  else
    let s := forEach (s.slotRoots (slotKey g.owner g.bell)) (guestPause · ccDetached) s
    let s := guestAbort p s
    let s := guestBump p (s.guestOn p (fun g => { g with present := false, st := .ready, suspended := false, resetting := false, newAddr := none, addrSent := false, stallSetup := false }))
    let s := s.linkOn p (fun l => l.sidePut g.side { st := .disconnected, maxSpeed := s.maxSpeed p })
    portEvent p 0x24 cause g.side false s
/-- The sides of a port follow R275; a guest on a port whose FUNC names a VF that does not exist leaves PRESENT (03 R103), with cause 4 (DESIGN CHOICE,
notes/assumptions/71.md). -/
def refreshPort (p : Nat) (s : State) : State :=
  refreshSides p (if (s.link p).device && !s.fnExists (s.portFunc p) then guestGone p 4 s else s)
/-- Whether a port is to be in the device role (09 R311). -/
def State.deviceWanted (s : State) (p : Nat) : Bool :=
  match s.profile p with
  | .typec => (s.roleCfg p == 1 || s.roleCfg p == 2) && (s.tc p).st.attached && (s.tc p).st != .audio && !(s.tc p).dfp
  | .soldered => s.roleCfg p == 1 && (s.link p).roleSet
  | _ => false
/-- The role changes (09 R337): the old role ends, a change on a live port writes ROLE-CHANGE, and the new role begins. -/
def refreshRole (p cause : Nat) (live : Bool) (s : State) : State :=
  let w := s.deviceWanted p
  if w = (s.link p).device then refreshSides p s
  else if w then
    let s := dropSide p .ss .off (dropSide p .usb2 .off s)
    let s := s.linkOn p (fun l => { l with device := true, u2 := { st := .disconnected, maxSpeed := s.maxSpeed p }, ss := { st := .disconnected, maxSpeed := s.maxSpeed p } })
    if live then portEvent p 0x25 1 .usb2 false s else s
  else
    let s := guestGone p cause s
    let s := s.linkOn p (fun l => { l with device := false, u2 := { maxSpeed := s.maxSpeed p }, ss := { maxSpeed := s.maxSpeed p } })
    refreshSides p (if live then portEvent p 0x25 0 .usb2 false s else s)

/-- The attachment of a connector ends (10 R345, R349, R369; 09 R333 is the caller's): PD, bridge, power path, USB sides and
events. `goal` is the connection state that follows; `q` the detail of a QUARANTINE event (0 detach, 3 release, 4 POWER-OFF)
and `gone` the cause a guest's departure carries (09 R333). -/
def tcDetach (p q gone : Nat) (goal : State → State) (s : State) : State :=
  let quar := (s.tc p).quarantine
  let att := (s.tc p).st.attached
  let s := voidContract p 0 (pdAbort p (trellisEnd p s))
  let s := s.pdPut p {}
  let s := if (s.tc p).bridge then tcEvent p 0x35 0 (s.tcOn p (fun t => { t with bridge := false })) else s
  let s := goal s
  let s := pathOff p true s
  let s := s.pathOn p (fun x => { x with shed := false, waitBudget := false, hold := x.hold.filter (fun h => decide (4 ≤ h)) })
  let s := if quar then tcEvent p 0x33 q (lineQuiet (4 * p + 1) s) else s
  let s := if att then tcEvent p 0x31 0 s else s
  serveWaiting (refreshRole p gone false s)

end Sys2Proof.Machine
end

