-- ==== Sys2Proof/Machine/LinkOps.lean ====
section
/-! DEFINITION. Shared link operations: resets (06 R241; 08 R281, R282), errors (08 R301, R302), resumes (08 R293 – R296) and
trees (08 R297). -/

namespace Sys2Proof.Machine

open Sys2Proof

/-- Sides in order, USB 2.0 first (08 R309). -/
def sides : List Side := [.usb2, .ss]
/-- RESULT of a RESET or RESUME (08 R305). -/
def State.speedResult (s : State) (p : Nat) : Nat := (s.link p).u2.speed + (s.link p).ss.speed * 16
/-- A PORT ACTION in progress of a kind on a port. -/
def portOp (p : Nat) (k : OpKind) (o : Op) : Bool := o.port == p && o.kind == k
/-- A PORT ACTION in progress completes with SUCCESS and the speeds. -/
def portOpDone (p : Nat) (k : OpKind) (result : Nat) (s : State) : State :=
  match s.opFind (portOp p k) with
  | some o => cmdDone o.h 0x20 ccSuccess result p (opDrop (portOp p k) s)
  | none => s
/-- A port's part of a SUSPEND or RESUME ends: the COMMAND record comes with the last port of the command; `bell` holds 65,536
and the number of ports under ALL (08 R305, R307). -/
def longDone (p : Nat) (kind : OpKind) (result : Nat) (s : State) : State :=
  match s.opFind (portOp p kind) with
  | none => s
  | some o =>
    let s := opDrop (portOp p kind) s
    if s.ops.any (fun x => x.h == o.h && x.kind == kind) then s
    else if 65536 ≤ o.bell then cmdDone o.h 0x20 ccSuccess (o.bell - 65536) 0xFFFF s
    else cmdDone o.h 0x20 ccSuccess result p s
def LinkSt.resettable : LinkSt → Bool
  | .attached | .enabled | .error => true
  | _ => false

/-- Steps 1 – 2 of R241 on a side: its slots stop, and the reset waits for the wire. -/
def startReset (p : Nat) (sd : Side) (by_ : ResetBy) (warm : Bool) (s : State) : State :=
  let roots := (s.sideSlots p sd).flatMap s.slotRoots
  let s := forEach roots (fun r s => stopStart r .reset s) s
  s.sideOn p sd (fun x => { x with quiet := true, resetBy := by_, warm, suspending := false, quiesced := false })
/-- Steps 4 – 5 of R241 on a side: one bundle per slot, then the reset signalling (08 R281). -/
def driveReset (p : Nat) (sd : Side) (s : State) : State :=
  let warm := ((s.link p).side sd).warm
  let s := forEach (s.sideSlots p sd) resetSlot s
  let s := s.sideOn p sd (fun x => { x with st := .resetting, quiet := false, l1 := false, lpm := false, ulink := 0, recovering := false, coincident := false })
  s.emit (.bus p sd (if sd = .ss ∧ !warm then .hotReset else .reset warm))
/-- The speed a side reaches after a reset, within MAX_SPEED (08 R280, PRT_LINK_CFG). -/
def reachedSpeed (maxSpeed : Nat) (sd : Side) (sp : Speed) : Nat :=
  match sd, sp with
  | .usb2, .high => if maxSpeed = 1 then 1 else 2
  | .ss, .gen2 => if maxSpeed = 3 then 3 else 4
  | _, x => speedCode x
def speedOnSide (sp : Speed) (sd : Side) : Bool := match sp with | .gen1 | .gen2 => sd == .ss | _ => sd == .usb2

/-- A side goes to ERROR (08 R300 – R302): transfers in progress end with TRANSACTION-ERROR, and AUTO_WARM starts a Warm Reset. A RESUME or
SUSPEND whose side goes to ERROR ends with COMMAND-ABORTED when the other side is not under it, and else with that side; a reset that waits for
the wire goes on (DESIGN CHOICE, notes/assumptions/71.md: R291, R293 and R302 give no outcome). -/
def errorSide (p : Nat) (sd : Side) (change value : Nat) (s : State) : State :=
  let roots := (s.sideSlots p sd).flatMap s.slotRoots
  let s := forEach roots (fun r s =>
    if (s.ep r).st == .running then
      forEach ((s.epAll r).filter (fun k => (s.ep k).inXfer)) (fun k s => if (s.ep r).st == .running then haltXfer k ccXact s else s) s
    else s) s
  let s := pruneWin p (fun k => sideOf (s.epSpeed k) == sd) s
  let x := (s.link p).side sd
  let s := s.sideOn p sd (fun x => { x with st := .error, l1 := false, lpm := false, suspending := false, quiesced := false, recovering := false, coincident := false })
  let s := portEvent p change value sd false s
  let s := if x.st == .resuming && !sides.any (fun d => ((s.link p).side d).st == .resuming) then abortOps (portOp p .resume) 0x20 p s else s
  let s := if x.suspending && !sides.any (fun d => ((s.link p).side d).suspending) then abortOps (portOp p .suspend) 0x20 p s else s
  if sd = .ss ∧ s.autoWarm p ∧ !x.quiet then startReset p .ss .autoWarm true s else s

/-- A side starts to resume (08 R293, R294). -/
def startResume (p : Nat) (sd : Side) (by_ : ResumeBy) (s : State) : State :=
  let s := s.sideOn p sd (fun x => { x with st := .resuming, resumeBy := by_, coincident := false, recovering := false, wakeVal := 0, wakeLatched := false })
  s.emit (.bus p sd (if sd = .ss then .lfpsExit else .resumeK))
/-- A side's resume ends (08 R293 – R295): its event, and the COMMAND record with the last side of a RESUME. -/
def endResume (p : Nat) (sd : Side) (s : State) : State :=
  let x := (s.link p).side sd
  let s := s.sideOn p sd (fun x => { x with st := .enabled, ulink := 0, recovering := false, coincident := false, wakeVal := 0 })
  let s := busStart p s
  let s := match x.resumeBy with
    | .remote => if x.coincident then portEvent p 0x05 0 sd true s else portEvent p 0x06 x.wakeVal sd false s
    | .bed => portEvent p 0x05 1 sd x.coincident s
    | .action => portEvent p 0x05 0 sd x.coincident s
  if sides.any (fun d => ((s.link p).side d).st == .resuming) then s else longDone p .resume (s.speedResult p) s

end Sys2Proof.Machine
end

