-- ==== Sys2Proof/Machine/FaultOps.lean ====
section
/-! DEFINITION. The fault collector (15 R504 – R530): records, their reactions and how each of them ends. -/

namespace Sys2Proof.Machine

open Sys2Proof

/-! ### What a record names -/

/-- The port a record names (15 R518); a broken line of sources 624 – 626 names none. -/
def FltRec.port (r : FltRec) : Option Nat :=
  if r.src < 512 then some (r.src / 4) else if 624 ≤ r.src ∧ r.src ≤ 626 ∧ r.cause ≠ 255 then some (r.unit % 128) else none
/-- The bed a record names (15 R518). -/
def FltRec.bed (r : FltRec) : Option Nat := if 512 ≤ r.src ∧ r.src < 576 then some ((r.src - 512) / 8) else none
/-- The bed that a BED-ISOLATE of a record isolates (15 R507). -/
def FltRec.isoBed (r : FltRec) : Option Nat := match r.bed with | some b => some b | none => r.port.map bedOf
def srcClass (n : Nat) : Nat := ((catalogue n).map (·.cls)).getD 0
/-- The function concerned (15 R518). -/
def State.fltFunc (s : State) (r : FltRec) : Nat :=
  match r.port with
  | some p => s.portOwner p
  | none => if r.src = 649 ∨ r.src = 650 then r.func else 0
/-- The dispatcher source a NOTIFY raises (15 R508). -/
def FltRec.summary (r : FltRec) : Nat :=
  match r.port, r.bed with
  | some p, _ => 24 * p + 23
  | none, some b => 3088 + b
  | none, none => 3111

/-- A FAULT event (15 R508). -/
def faultEvent (r : FltRec) (phase : Nat) (absorbed : Bool) (s : State) : State :=
  let f := s.fltFunc r
  postFault f { ty := evFault, ptr := r.cause % 256 + r.unit % 256 * 256 + f * 65536 + r.info % two32 * two32, count := s.rget (fltCntReg r.src) % 2 ^ 24,
                detail := srcClass r.src + r.react * 4 + b2n r.wire * 32 + b2n r.injected * 64 + b2n r.real * 128 + b2n (s.fltSrc r.src).sat * 256
                  + b2n absorbed * 512 + phase * 1024, src := r.src } s
/-- The fault count rises (15, FLT_CNT): at its maximum it holds and sets FLT_SAT. -/
def fltCount (n : Nat) (s : State) : State :=
  let s := s.rsAdd (fltCntReg n) 0 32 1
  if s.rget (fltCntReg n) = two32 - 1 then s.fltSrcOn n (fun x => { x with sat := true }) else s

/-! ### Reactions -/

/-- FAULT_N goes low and HELD is set (15 R516). -/
def faultPin (r : FltRec) (s : State) : State :=
  if r.real || s.injPin then { s.fldPut 0x163004 0 1 1 with flt := { s.flt with pulse := true } } else s
/-- FAULT_N is driven low (15 R516, R520). -/
def State.faultN (s : State) : Bool := s.flt.pulse || s.flt.rebuilding || bit (s.rget 0x163004) 0 || s.pinForce

/-- Endpoints of a port, host slots and guest alike. -/
def State.portRoots (s : State) (p : Nat) : List Nat :=
  (s.portSlots p).flatMap s.slotRoots ++ (if (s.guest p).st == .free then [] else s.slotRoots (slotKey (s.guest p).owner (s.guest p).bell))
/-- PORT-HOLD, steps 1 and 2 (15 R509): no new token is issued and IN credits are revoked. The window entries stay only to count the intervals that
pass unserved (06 R236), and lead to nothing on the bus. -/
def portHold (p : Nat) (r : FltRec) (s : State) : State :=
  let s := s.linkOn p (fun l => { l with held := true })
  let s := forEach (s.portRoots p) (fun k s => forEach (s.epAll k) (fun k s => s.epOn k (fun e => if e.rev.isNone then e.revoke .hold else e)) s) s
  { s with flt := { s.flt with portHolds := s.flt.portHolds ++ [(p, r)] } }
/-- PORT-HOLD ends (15 R509, steps 3 and 4). -/
def portHoldEnd (p : Nat) (s : State) : State :=
  let s := s.linkOn p (fun l => { l with held := false })
  let s := forEach (s.portRoots p) (fun k s => forEach (s.epAll k)
    (fun k s => s.epOn k (fun e => if e.rev = some .hold then { e.offWire.ledRevoke 0 with rev := none } else e)) s) s
  { s with flt := { s.flt with portHolds := s.flt.portHolds.filter (fun x => x.1 != p) } }

/-- A RESET that still waits for the wire has been aborted: the endpoints of the side go on, but for those that a PAUSE stops (08 R304; 06 R241). -/
def resetDropped (p : Nat) (sd : Side) (s : State) : State :=
  let x := (s.link p).side sd
  if x.quiet && x.resetBy == .action then
    forEach ((s.sideSlots p sd).flatMap s.slotRoots) (fun r s =>
      if (s.opFind (fun o => o.pauses r)).isSome || s.epWaits r then s else forEach (s.epAll r) (fun k s => s.epOn k (fun e => { e with stopping := false })) s)
      (s.sideOn p sd (fun x => { x with quiet := false }))
  else s
/-- A side at the start of a bed isolation (08 R304): RESETTING is marked for ERROR, RESUMING and an unfinished SUSPEND are treated
as ENABLED, and a SuperSpeed link in U0 – U2 is sent to U3. -/
def isolateSide (p : Nat) (sd : Side) (s : State) : State :=
  let x := (s.link p).side sd
  let s := if (s.link p).device then s else resetDropped p sd s
  if (s.link p).device then s
  else match x.st with
    | .enabled | .resuming =>
      let s := s.sideOn p sd (fun x => { x with st := .enabled, suspending := false, quiesced := false, lpm := false, l1 := false, recovering := false, coincident := false,
                                                ulink := if sd = .ss then 3 else 0 })
      if sd = .ss then s.emit (.bus p .ss .u3) else s
    | _ => s
/-- The wire is lost to the port's transactions while its bed restarts; staging and ledgers are kept (07 R257), and a revocation that runs has
settled. -/
def isolateWire (p : Nat) (s : State) : State :=
  forEach (s.portRoots p) (fun k s => forEach (s.epAll k) (fun k s =>
    afterXact k (s.epOn k (fun e => { (if e.rev.isSome then e.offWire.ledRevoke 0 else e.offWire) with rev := none }))) s) s
/-- BED-ISOLATE, steps 1 and 2 (15 R510; 08 R304): actions in progress on the bed's links are aborted, and its blocks sleep. -/
def isolateBed (b : Nat) (r : FltRec) (s : State) : State :=
  let s := s.bedOn b (fun x => { x with isolating := true })
  let s := forEach (portsOf b) (fun p s =>
    let s := abortOps (fun o => o.port == p && (o.kind == .reset || o.kind == .suspend || o.kind == .resume)) 0x20 p s
    let s := if (s.link p).held then portHoldEnd p s else s
    isolateWire p (isolateSide p .ss (isolateSide p .usb2 (pruneWin p (fun _ => true) s)))) s
  { s with flt := { s.flt with isolations := s.flt.isolations ++ [(b, r)] } }
/-- A port of a retired bed goes to the safe state through a detach (15 R511), and its capture stops (16 R548). -/
def retirePort (p : Nat) (s : State) : State :=
  let s := s.tcOn p (fun t => { t with retired := true })
  let s := if (s.link p).held then portHoldEnd p s else s
  let s := match s.profile p with
    | .typec => tcDetach p 0 2 (fun s => s.tcOn p (fun t => { st := .disabled, retired := true, cc1 := t.cc1, cc2 := t.cc2, wetLast := t.wetLast })) s
    | .disabled => s
    | _ => refreshSides p (pathOff p true (guestGone p 2 s))
  capEnd p 3 s
/-- A bed ordered into isolation for the third time within 10 minutes is retired (15 R511). -/
def retireBed (b : Nat) (r : FltRec) (s : State) : State :=
  let s := s.bedOn b (fun x => { x with retired := true, isolating := false })
  let s := forEach (portsOf b) retirePort s
  faultEvent r 3 false (serveWaiting s)
def orderIsolate (b : Nat) (r : FltRec) (s : State) : State :=
  let t := s.time.local_
  let times := (s.bed b).isoTimes.filter (fun x => decide (t < x + 10 * minuteNs)) ++ [t]
  let s := s.bedOn b (fun x => { x with isoTimes := times })
  if 3 ≤ times.length then retireBed b r s else isolateBed b r s
/-- SAFE-HOLD is entered, and the collector is rebuilt from its shadow (15 R512, R520). A rotation that has not reached its migration
point stops (14 R475). -/
def safeHoldEnter (r : FltRec) (s : State) : State :=
  { s with flt := { s.flt with safeHold := true, rebuilding := true, safeRec := r },
           eng := match s.eng.rot with
             | some x => if x.step = .copying then { s.eng with rot := some { x with step := .waiting } } else s.eng
             | none => s.eng }

/-- The reaction taken: PORT-HOLD without a port and BED-ISOLATE without a bed or port act as NOTIFY (15 R507). -/
def FltRec.taken (r : FltRec) : Nat :=
  match r.react with
  | 2 => if r.port.isSome then 2 else 1
  | 3 => if r.isoBed.isSome then 3 else 1
  | x => x
/-- A reaction in progress covers the record's (15 R515). -/
def State.covered (s : State) (r : FltRec) : Bool :=
  match r.react with
  | 2 => (match r.port with | some p => s.flt.portHolds.any (fun x => x.1 == p) || (s.bed (bedOf p)).isolating || (s.bed (bedOf p)).retired | none => false)
  | 3 => (match r.isoBed with | some b => (s.bed b).isolating || (s.bed b).retired | none => false)
  | 4 => s.flt.safeHold
  | _ => false
/-- The reaction of a record (15 R507, R508, R515). -/
def fltReact (r : FltRec) (s : State) : State :=
  let r := { r with react := r.taken }
  if r.react = 0 then (if r.phase = 0 then s else faultEvent r r.phase false s)
  else
    let absorbed := s.covered r
    let s := faultPin r (dspAssert r.summary (faultEvent r r.phase absorbed s))
    if absorbed then s
    else match r.react with
      | 2 => (match r.port with | some p => portHold p r s | none => s)
      | 3 => (match r.isoBed with | some b => orderIsolate b r s | none => s)
      | 4 => safeHoldEnter r s
      | _ => s

/-! ### Records -/

/-- The almanac record of a fault of class D, B or S (15 R507; 16 R558), and SMB_ALERT_N at a new record of class B or S and at a THERMAL warning
(16 R561). -/
def faultAlm (r : FltRec) (s : State) : State :=
  let c := srcClass r.src
  if c = 0 then s
  else
    let fresh := decide (2 ≤ c) && !s.alm.pinnedSrcs.contains r.src
    let done := s.alm.coalesced
    let s := almRecord { source := r.src, kind := 1, injected := r.injected, unit := r.unit, cause := r.cause, func := s.fltFunc r, info := r.info,
                         count := s.rget (fltCntReg r.src) } fresh s
    let s := if fresh then { s with alm := { s.alm with pinnedSrcs := s.alm.pinnedSrcs ++ [r.src] } } else s
    let hot := (decide (512 ≤ r.src) && decide (r.src < 576) && r.src % 8 == 6 && r.cause == 1) || (r.src == 659 && r.cause == 1)
    if (2 ≤ c ∧ s.alm.coalesced = done) ∨ hot then smbAlert s else s
/-- The collector acknowledges a source and forms one record (15 R505, R517, R528, R529). -/
def fltRecord (r : FltRec) (s : State) : State :=
  let n := r.src
  let mine := s.inj.filter (fun x => x.src == n)
  let r := { r with injected := r.injected || !mine.isEmpty, wire := r.wire || mine.any (·.wire) }
  let k := mine.length
  let s := { s with inj := s.inj.filter (fun x => x.src != n) }
  let react := max (if r.real then s.reactOf n else 0) (if r.injected then s.injReactOf n else 0)
  let r := { r with react }
  let before := (s.fltSrc n).sat
  let s := if r.real then fltCount n s else s
  let s := if r.injected then s.rsAdd 0x163018 0 16 (max 1 k) else s
  let s := if r.real && r.injected then s.rsAdd 0x163018 16 16 1 else s
  let s := s.fltSrcOn n (fun x => { x with status := true, lastCause := r.cause, wire := x.wire || r.wire, safe := if r.real then r.taken == 4 else x.safe })
  let s := if r.real then faultAlm r s else s
  let s := fltReact r s
  if !before && (s.fltSrc n).sat && r.taken == 0 then faultEvent r 0 false s else s
/-- A cause arises on a source (15 R505): a further cause of a live source is only counted, a line that goes live during a rebuild
waits for its acknowledgement (R520), and else one record is formed. -/
def fltCause (r : FltRec) (line : Line) (s : State) : State :=
  let n := r.src
  if (catalogue n).isNone then s
  else if (s.fltSrc n).line ≠ .quiet then
    let before := (s.fltSrc n).sat
    let s := fltCount n s
    if !before && (s.fltSrc n).sat then faultEvent { r with react := 0 } 0 false s else s
  else if s.flt.rebuilding then
    { s.fltSrcOn n (fun x => { x with line := .fault }) with flt := { s.flt with deferred := s.flt.deferred ++ [{ r with react := b2n (line = .quiet) }] } }
  else fltRecord r (s.fltSrcOn n (fun x => { x with line }))
/-- A unit reports a cause on its line; the line of a single happening returns to 01 at the acknowledgement (15 R505). -/
def raiseFault (n cause unit info f : Nat) (lasting : Bool) (s : State) : State :=
  fltCause { src := n, cause, unit, func := f, info, real := true } (if lasting then .fault else .quiet) s
/-- Lines that went live during a rebuild are acknowledged in ascending source order (15 R520). -/
def fltDeferred (s : State) : State :=
  forEach (sortBy (·.src) s.flt.deferred) (fun r s =>
    if s.flt.rebuilding then { s with flt := { s.flt with deferred := s.flt.deferred ++ [r] } }
    else fltRecord r (if r.react = 1 then s.fltSrcOn r.src (fun x => { x with line := .quiet }) else s)) { s with flt := { s.flt with deferred := [] } }
/-- An acknowledgement of the injections pending at it (15 R527, R528, R530). -/
def injAck (s : State) : State :=
  if s.flt.rebuilding then s
  else match s.inj with
    | [] => s
    | x :: _ => fltRecord { src := x.src, cause := x.cause, unit := x.unit, wire := x.wire, injected := true } s

end Sys2Proof.Machine
end

