-- ==== Sys2Proof/Machine/EngOps.lean ====
section
/-! DEFINITION. Rotations, retirement and firmware updates of the tender engines (14 R470 – R484; 01 R43). -/

namespace Sys2Proof.Machine

open Sys2Proof

/-- The number that stands for no spare (14 R474, ROT_STATUS). -/
def noSpare : Nat := 15
def engOn (g : Eng → Eng) (s : State) : State := { s with eng := g s.eng }
/-- A rotation happening of R475 is in progress, or the spare is under test (14 R473 step 1, R485). -/
def State.rotHeld (s : State) : Bool :=
  s.eng.tests.any (fun t => t.op == .tender && t.unit == s.eng.spare) || s.flt.safeHold || s.mode.chg.isSome || bedsAll.any (fun b => (s.bed b).isolating) || s.eng.swapping || s.mode.pwr == .dormant || s.mode.leaving.isSome || s.otp.mark.isSome
/-- The active engine whose latest passed self-test ended earliest (14 R472). -/
def State.nextOut (s : State) : Option Nat := s.eng.order.find? (fun e => s.eng.active.contains e)
/-- A rotation of an engine is ordered. -/
def rotOrder (out : Nat) (by_ : RotBy) (s : State) : State := engOn (fun e => { e with rot := some { out_ := out, by_, step := .waiting, test := out } }) s
/-- The rotation that falls due while none is in progress: the update's own, an automatic one, or one that a TENDER test needs
(14 R472, R482, R484, R485). -/
def State.rotWanted (s : State) : Option (Nat × RotBy) :=
  match s.eng.upd with
  | some u =>
    (match u.step with
     | .rotating => (s.eng.order.find? (fun e => s.eng.active.contains e && !u.newEngines.contains e)).map (·, RotBy.update)
     | .abandoning => (s.eng.order.find? (fun e => s.eng.active.contains e && u.newEngines.contains e)).map (·, RotBy.abandon)
     | _ => none)
  | none =>
    match s.eng.tests.find? (fun t => t.op == .tender && s.eng.active.contains t.unit) with
    | some t => some (t.unit, .test)
    | none => if s.eng.rotDue then s.nextOut.map (·, RotBy.auto) else none
/-- Rotations that waited start as soon as nothing holds them and a spare exists (14 R475). -/
def rotServe (s : State) : State :=
  if s.rotHeld then s
  else match s.eng.rot with
    | some r =>
      if r.step ≠ .waiting then s
      else if s.eng.spare = noSpare then
        let s := engOn (fun e => { e with rot := none }) s
        match r.by_ with
        | .command h => cmdDone h 0x31 ccBusy 0 0 s
        | _ => s
      else engOn (fun e => { e with rot := some { r with step := .copying } }) s
    | none =>
      if s.eng.spare = noSpare then s
      else match s.rotWanted with
        | some (out, by_) =>
          engOn (fun e => { e with rot := some { out_ := out, by_, step := .copying, test := out }, rotDue := e.rotDue && by_ != .auto }) s
        | none => s

/-- The dispatcher targets and the priority stack of an engine move to another (01 R43; 14 R473). -/
def dspMove (out into : Nat) (s : State) : State :=
  let srcs := s.dsp.srcs.map (fun x =>
    if bit x.2.targets.toNat out then (x.1, { x.2 with targets := BitVec.ofNat 11 (setBits (setBits x.2.targets.toNat out 1 0) into 1 1) }) else x)
  let st := s.proc out
  let s := { s with dsp := { s.dsp with srcs } }
  (s.procOn out (fun _ => {})).procOn into (fun _ => st)
/-- The threads of an engine go on on the spare, which becomes active; no spare stands until one is refilled (14 R473, R478). -/
def engMove (out : Nat) (s : State) : State :=
  dspMove out s.eng.spare (engOn (fun e => { e with active := sortBy id (e.spare :: e.active.filter (· != out)), spare := noSpare }) s)
/-- A self-test has passed (14 R472). -/
def engPassed (t : Nat) (s : State) : State := engOn (fun e => { e with order := e.order.filter (· != t) ++ [t] }) s

/-- The update is abandoned (14 R484): engines with new firmware are reloaded through further rotations. -/
def updAbandon (s : State) : State :=
  match s.eng.upd with
  | none => s
  | some u => engOn (fun e => { e with upd := some { u with step := .abandoning, late := u.late || u.step == .swapping, newEngines := if e.rot.isNone then u.newEngines.filter (· != e.spare) else u.newEngines } }) s
/-- A rotation ends: the engine under test is the spare; one that the migration never reached begins again (14 R473, R476). -/
def rotFinish (r : Rot) (s : State) : State :=
  let s := engOn (fun e => { e with
    spare := r.test, rot := none,
    upd := e.upd.map (fun u => match u.step with
      | .rotating => { u with newEngines := u.newEngines.filter (· != r.test) ++ [r.test] }
      | .abandoning => { u with newEngines := u.newEngines.filter (· != r.test) }
      | _ => u) }) s
  if r.moved then
    let s := s.rsAdd 0x130008 0 16 1
    match r.by_ with
    | .command h => cmdDone h 0x31 ccSuccess (r.out_ * 256) 0 s
    | _ => s
  else if s.eng.active.contains r.out_ then rotOrder r.out_ r.by_ s
  else s
/-- An engine is retired (14 R474; 15 R519): a TENDER record of cause 4 with PHASE 3; what needed a spare ends. -/
def engRetire (t : Nat) (s : State) : State :=
  let s := fltCause { src := 627 + t, cause := 4, unit := t, real := true, phase := 3 } .quiet s
  let r := s.eng.rot
  let s := engOn (fun e => { e with
    retired := sortBy id (t :: e.retired.filter (· != t)), active := e.active.filter (· != t), spare := if e.spare = t then noSpare else e.spare,
    rot := match e.rot with | some x => if x.test = t then none else some x | none => none }) s
  let s := match r with
    | some x =>
      if x.test = t then
        (match x.by_ with
         | .command h => if x.moved then cmdDone h 0x31 ccSuccess (x.out_ * 256) 0 (s.rsAdd 0x130008 0 16 1) else cmdDone h 0x31 ccBusy 0 0 s
         | .update => updAbandon s
         | _ => s)
      else s
    | none => s
  match s.eng.upd with
  | some u => (match u.step with | .loading _ => if s.eng.spare = noSpare then updAbandon s else s | _ => s)
  | none => s
/-- An engine fails its self-test: the TENDER source is raised with cause 4 and the test runs once more, or the engine is retired
(14 R474). -/
def engFailed (t : Nat) (again : Bool) (s : State) : State :=
  if again then engRetire t s else (raiseFault (627 + t) 4 t 0 0 false s).rsAdd 0x130008 24 8 1

/-- A fault before the migration point: the migration is abandoned, the outgoing engine resumes, and the spare is self-tested
(14 R476). -/
def rotAbandon (r : Rot) (s : State) : State :=
  (engOn (fun e => { e with spare := noSpare, rot := some { r with step := .selfTest, test := e.spare, moved := false } }) s).rsAdd 0x130008 16 8 1
/-- An engine fails as a whole (14 R478, R474): its threads restart on the spare, and it is self-tested; without a spare it serves no
more. -/
def engLost (t : Nat) (s : State) : State :=
  if s.eng.spare = t then
    engOn (fun e => { e with spare := noSpare, rot := some { out_ := t, by_ := .auto, step := .selfTest, test := t } }) s
  else if !s.eng.active.contains t then s
  else if s.eng.spare = noSpare then engOn (fun e => { e with active := e.active.filter (· != t), retired := sortBy id (t :: e.retired) }) s
  else
    let by_ := match s.eng.rot with | some r => if r.out_ = t then r.by_ else .auto | none => .auto
    engOn (fun e => { e with rot := some { out_ := t, by_, step := .selfTest, test := t, moved := true } }) (engMove t s)
/-- A fault of a thread or engine (14 R476, R478). -/
def threadFault (t : Nat) (lost : Bool) (s : State) : State :=
  match s.eng.rot with
  | some r =>
    if r.step = .copying ∧ (t = s.eng.spare ∨ (t = r.out_ ∧ !lost)) then rotAbandon r s
    else if r.step = .copying ∧ t = r.out_ then engLost t (s.rsAdd 0x130008 16 8 1)
    else if lost ∧ r.step ≠ .waiting ∧ s.eng.active.contains t ∧ s.eng.spare ≠ noSpare then
      engOn (fun e => { e with rot := match e.rot with | some x => some { x with by_ := r.by_ } | none => none }) (engLost t s)
    else if lost then engLost t s else s
  | none => if lost then engLost t s else s

end Sys2Proof.Machine
end

