-- ==== Sys2Proof/Machine/ModeOps.lean ====
section
/-! DEFINITION. Mode changes, TEMPO and MODE events and device power states (13 R441 – R466, R469). -/

namespace Sys2Proof.Machine

open Sys2Proof

/-! ### The constants of R441 -/

/-- VDD_CORE in mV, and the tempo floor. -/
def Mode.mv : Mode → Nat
  | .steady => 850 | .bloom => 950 | .fallow => 750
def Mode.floorOf : Mode → Nat
  | .steady => 3200 | .bloom => 3800 | .fallow => 2600
/-- Order of speed, and the next slower mode. -/
def Mode.rank : Mode → Nat
  | .fallow => 0 | .steady => 1 | .bloom => 2
def Mode.slower : Mode → Option Mode
  | .bloom => some .steady | .steady => some .fallow | .fallow => none
def modeOn (g : ModeSt → ModeSt) (s : State) : State := { s with mode := g s.mode }

/-! ### Events (13 R469) -/

/-- A TEMPO event: at most one of each kind per 100 ms (13 R453). -/
def tempoEvent (kind : Nat) (s : State) : State :=
  let m := s.mode
  let t := s.time.local_
  let last := tget 0 m.lastTempo kind
  if last ≠ 0 ∧ t < last - 1 + 100000000 then s
  else
    postPf { ty := evTempo, ptr := m.index % 65536 + m.floor % 65536 * 65536 + m.vout % 65536 * two32 + s.dieTemp 8 % 256 * 2 ^ 48, detail := kind }
      (modeOn (fun m => { m with lastTempo := tput 0 m.lastTempo kind (t + 1) }) s)
/-- A MODE event with the modes and power states after and before; the next one after a brown-out has kind BROWN-OUT (13 R461). -/
def modeEvent (kind cause : Nat) (old : Mode) (oldPwr : PwrSt) (withheld stopped : Nat) (s : State) : State :=
  let m := s.mode
  let brown := m.brownPend
  postPf { ty := evMode, ptr := m.mode.code + old.code * 4 + m.pwr.code * 16 + oldPwr.code * 64 + withheld % 256 * 256 + stopped % 256 * 65536,
           detail := if brown then 5 else kind + cause * 256 } (modeOn (fun m => { m with brownPend := false }) s)

/-! ### Mode changes -/

/-- VOUT_COMMAND (13 R445); nothing is commanded while VOUT_MODE is not linear (17 R571). -/
def voutTo (mv : Nat) (s : State) : State :=
  if s.sup.voutLinear then modeOn (fun m => { m with voutTarget := mv, badReads := 0, regSilent := false }) (s.emit (.vout mv)) else s
/-- A mode comes into force: rake floor, depths and limits follow it (13 R445 step 4, R446 step 2). -/
def modeTake (g : Mode) (s : State) : State :=
  modeOn (fun m => { m with mode := g, floor := g.floorOf, reduced := m.reduced && decide (m.mode.rank ≤ g.rank), lowRun := 0, belowRun := 0 }) s
/-- COMMAND event of a SET MODE. -/
def setModeDone (h : CmdHdr) (code result : Nat) (s : State) : State := cmdDone h 0x30 code result 0 s
/-- SuperSpeed sides above the 32 that Fallow allows, the highest port numbers first (13 R447). -/
def State.withholds (s : State) : List Nat :=
  let ps := (s.links.filter (fun x => x.2.ss.st.holdsDevice)).map (·.1)
  ps.reverse.take (ps.length - 32)
/-- A side withheld: a detach, then WITHHELD (13 R447). -/
def withholdSide (p : Nat) (s : State) : State :=
  let s := dropSide p .ss .disconnected s
  portEvent p 0x09 2 .ss false (s.sideOn p .ss (fun x => { x with st := .withheld, cause := 2 }))
/-- Captures above a limit, the ones begun most recently first (13 R448). -/
def State.capsOver (s : State) (limit : Nat) : List Nat :=
  let live := s.caps.filter (fun x => x.2.running)
  ((sortBy (fun x => x.2.startNo) live).reverse.take (live.length - limit)).map (·.1)
/-- Steps 1 and 2 of a change to a slower mode (13 R446 – R448). -/
def modeSlower (g : Mode) (by_ : ModeBy) (s : State) : State :=
  let ws := if g = .fallow then s.withholds else []
  let cs := s.capsOver (captureLimit g)
  let old := s.mode.mode
  let s := forEach ws withholdSide s
  let s := forEach cs (fun p s => capEnd p 2 s) s
  modeOn (fun m => { m with chg := some { goal := g, old, by_, phase := .drain, withheld := ws.length, stopped := cs.length } }) (modeTake g s)
/-- Step 1 of a change to a faster mode (13 R445). -/
def modeFaster (g : Mode) (by_ : ModeBy) (s : State) : State :=
  voutTo g.mv (modeOn (fun m => { m with chg := some { goal := g, old := m.mode, by_, phase := .settle } }) s)
/-- An automatic change that waited in the queue begins, but during a rotation (13 R463; 14 R475). -/
def modeServe (s : State) : State :=
  if s.mode.chg.isSome ∨ s.mode.pwr = .dormant ∨ s.rotates then s
  else
    let q := s.mode.queued
    let s := modeOn (fun m => { m with queued := none }) s
    match q with
    | some .stepDown => (match s.mode.mode.slower with | some g => modeSlower g .stepDown s | none => s)
    | some .raise => if s.mode.stepped && s.autoRaise && !s.flt.safeHold && decide (s.mode.mode.rank < s.mode.steppedFrom.rank) then modeFaster s.mode.steppedFrom .raise s else s
    | _ => s
/-- A change has ended: what waited for it follows (13 R463; 14 R475). -/
def modeEnd (s : State) : State := rotServe (modeServe (modeOn (fun m => { m with chg := none }) s))
/-- A change toward a faster mode fails: the old target is requested again (13 R445, R454, R464, R465). -/
def fasterFails (c : ModeChg) (cause : Nat) (s : State) : State :=
  let s := voutTo c.old.mv s
  match c.by_ with
  | .command h _ => setModeDone h ccState (cause * 65536) s
  | .raise => if cause = 5 then modeEvent 3 5 s.mode.mode s.mode.pwr 0 0 s else s
  | .stepDown => s
/-- A change toward a faster mode is complete (13 R445 steps 4 and 5, R454). -/
def fasterDone (c : ModeChg) (s : State) : State :=
  let s := modeOn (fun m => { m with stepped := false }) (modeTake c.goal s)
  match c.by_ with
  | .command h _ => modeEvent 1 0 c.old s.mode.pwr 0 0 (setModeDone h ccSuccess c.goal.code s)
  | .raise => modeEvent 3 0 c.old s.mode.pwr 0 0 s
  | .stepDown => s
/-- The last step of a change to a slower mode; the regulator has settled, or not (13 R446). -/
def slowerDone (c : ModeChg) (settled : Bool) (s : State) : State :=
  let ev := fun (s : State) =>
    if settled then modeEvent (match c.by_ with | .stepDown => 2 | _ => 1) 0 c.old s.mode.pwr c.withheld c.stopped s
    else modeEvent 6 2 c.old s.mode.pwr c.withheld c.stopped s
  match c.by_ with
  | .command h _ =>
    ev (setModeDone h ccSuccess (c.goal.code + min 255 c.withheld * 256 + min 255 c.stopped * 65536) (modeOn (fun m => { m with stepped := false }) s))
  | _ => ev (modeOn (fun m => { m with stepped := true, steppedFrom := c.old }) s)
/-- The part steps down one mode (13 R451, R452, R463, R464): at once, in place of a change toward a faster mode, or behind another. -/
def stepDown (s : State) : State :=
  match s.mode.mode.slower with
  | none => s
  | some g =>
    if s.mode.pwr = .dormant then modeOn (fun m => { m with queued := some .stepDown }) s
    else match s.mode.chg with
      | none => modeSlower g .stepDown s
      | some c =>
        match c.phase with
        | .settle | .confirm =>
          let s := modeOn (fun m => { m with chg := none }) s
          let s := match c.by_ with | .command h _ => setModeDone h ccState (3 * 65536) s | _ => s
          modeSlower g .stepDown s
        | _ => modeOn (fun m => { m with queued := some .stepDown }) s

/-! ### Device power states (13 R456 – R466) -/

/-- The device power state changes, with its MODE event (13 R456). -/
def pwrTo (g : PwrSt) (cause : Nat) (s : State) : State :=
  let old := s.mode.pwr
  modeEvent 4 cause s.mode.mode old 0 0 (modeOn (fun m => { m with pwr := g, lastWake := if cause = 0 then m.lastWake else cause }) s)
def State.ringFullAny (s : State) : Bool := s.fns.any (fun x => x.2.evrs.any (fun r => s.evrFull x.1 r.1))
def LinkSt.calm : LinkSt → Bool
  | .off | .disconnected | .suspended => true
  | _ => false
/-- The Drowse conditions (13 R456). -/
def State.mayDrowse (s : State) : Bool :=
  s.links.all (fun x => x.2.u2.st.calm && x.2.ss.st.calm) && s.guests.all (fun x => !x.2.present || x.2.suspended)
    && s.ops.isEmpty && s.waiting.isEmpty && s.aside.isEmpty && !s.ringFullAny && s.captures == 0 && s.mode.chg.isNone && s.eng.tests.isEmpty && s.eng.upd.isNone && !s.eng.swapping
    && !s.flt.safeHold && (match s.eng.rot with | some r => (match r.by_ with | .command _ => false | _ => true) | none => true)
/-- The Dormant conditions beside them (13 R456). -/
def State.mayDormant (s : State) : Bool :=
  let fs := (List.range 129).filter s.fnExists
  s.mayDrowse && (fs.all (fun f => (s.cfgFn f).d3) || fs.all (fun f => s.groups f == 0 || (s.fn f).doze == .dozing))
    && s.pds.all (fun x => match x.2.con with | some c => !c.epr && c.kind != .pps | none => true) && s.mode.retention && !s.rotates
/-- A wake cause (13 R457, R458, R466): Drowse ends at once, an entry to Dormant ends, and an exit from Dormant begins. -/
def wake (cause : Nat) (s : State) : State :=
  match s.mode.pwr with
  | .active => s
  | .drowse => modeServe (pwrTo .active cause (modeOn (fun m => { m with entering := false }) s))
  | .dormant =>
    if s.mode.leaving.isSome then s
    else voutTo s.mode.mode.mv (modeOn (fun m => { m with leaving := some cause, cfLp := false }) s)

end Sys2Proof.Machine
end

