-- ==== Sys2Proof/Machine/PathOps.lean ====
section
/-! DEFINITION. Operations of the power path (12 R420 – R438): trips and retries, changes of contract, orders, shedding and restoring. -/

namespace Sys2Proof.Machine

open Sys2Proof

/-- The retry count as PRT_PWR_STATUS and the events show it. -/
def Path.retryCount (x : Path) : Nat := min 255 x.retries
/-- The base target of a path: vSafe5V, or the fixed output of a TYPEA or SOLDERED port (12 R424). -/
def State.baseGoal (s : State) (p : Nat) : Nat × Nat :=
  match s.profile p with
  | .typea => (5000, (s.hook p).fixedI * 50)
  | .soldered => ((s.hook p).fixedV * 100, (s.hook p).fixedI * 50)
  | _ => (5000, if (s.tc p).source then rpMa (s.tc p).rpHeld else rpMa (s.tc p).rp)

/-- The TRIP event: its CURRENT is the value that tripped, which no command carries, a free value (12 R440; notes/assumptions/3.md). -/
def tripEvent (p cause : Nat) (s : State) : State :=
  let x := s.path p
  let n := s.free
  postPort p { ty := evPower, ptr := x.mv / 20 % 65536 + Config.freeNat n % 65536 * 65536, count := x.retryCount, detail := 1 + cause * 256 + x.st.code * 65536 } { s with free := n + 1 }
/-- A protection trips the path (12 R423, R424; 11 R400); one of a persisting port ends its persistence (02 R71, R72). -/
def pathTrip (p cause : Nat) (s : State) : State :=
  let x := s.path p
  if x.st ≠ .ramp ∧ x.st ≠ .on then s
  else if s.persisting p then persistEnd p 3 s
  else
    let s := s.pathOn p (fun x => { x with
      st := .trip, retries := x.retries + 1, pg := false, ocTimer := false, disch := true, lastTrip := cause, queued := none, next := none,
      slewing := false, retrying := false, gateOff := false })
    let s := s.rsAdd (portReg p 0x620) 0 8 1
    let s := if cause = 2 then s.rsAdd (portReg p 0x620) 8 8 1 else s
    let s := tripEvent p cause s
    let s := voidContract p 2 s
    let s := s.pdOn p (fun d => { d with capsDue := d.attached && (s.tc p).source, offered := [], awaits := none })
    let s := match s.profile p with | .typea | .soldered => refreshSides p s | _ => s
    raiseFault (4 * p) cause p 0 0 false (serveWaiting s)

/-- The off-time has ended (12 R424, R425): a retry, or LATCHED. -/
def coolEnd (p : Nat) (s : State) : State :=
  let x := s.path p
  let n := s.retryLimit p
  if n = 0 ∨ x.retries < n then
    let g := s.baseGoal p
    (pathRamp p g.1 g.2 x.sinking s).pathOn p (fun x => { x with retrying := true })
  else
    let s := s.pathOn p (fun x => { x with st := .latched, queued := none })
    let s := s.rsAdd (portReg p 0x620) 16 8 1
    let s := powerEvent p 2 x.retryCount x.lastTrip s
    raiseFault (4 * p) 6 p 0 0 true s

/-- A change of contract or target in ON (12 R421, R422, R432): the set-point slews, and the higher OCP of the two applies until
power-good is asserted at the new target. -/
def pathTarget (p mv ma : Nat) (s : State) : State :=
  s.pathOn p (fun x =>
    if x.st ≠ .on then x
    else { x with
      next := some (mv, ma), ocp := max x.ocp (s.ocpOf p ma), sc := s.scOf p (max x.ocp (s.ocpOf p ma)), fb := if x.sinking then 0 else fbCode (s.hook p) mv,
      slewing := decide (x.target ≠ mv), disch := decide (mv < x.target), pg := x.pg && decide ((max x.target mv - min x.target mv) * 20 ≤ mv), target := mv })
/-- The thresholds of a new contract apply (12 R422). -/
def pathSettle (p : Nat) (s : State) : State :=
  s.pathOn p (fun x =>
    match x.next with
    | some (_, ma) => { x with next := none, slewing := false, disch := false, ocp := s.ocpOf p ma, sc := s.scOf p (s.ocpOf p ma) }
    | none => { x with slewing := false, disch := false })

/-- An order toward a state or target is carried out (12 R424, R428). -/
def pathDo (p : Nat) (o : PathOrder) (s : State) : State :=
  let x := s.path p
  match o with
  | .off => pathOff p false s
  | .sourceOn => if x.st = .off then pathSeek p s else s
  | .sinkOn =>
    if x.st = .off ∧ x.hold.isEmpty ∧ !x.forceOff ∧ (s.hook p).sinkEn ∧ (s.tc p).st.attached ∧ !(s.tc p).source then
      (if s.hwOnly p then s.pathOn p (fun x => { x with queued := some .sinkOn })
       else let g := s.pathGoal p; pathRamp p g.1 g.2 true s)
    else s
  | .target mv ma => pathTarget p mv ma s
/-- Whether an order is in progress on a path (12 R428). -/
def Path.orderBusy (x : Path) : Bool := x.st == .ramp || x.slewing
/-- The queued order is taken once the order in progress has ended (12 R428). -/
def pathQueued (p : Nat) (s : State) : State :=
  let x := s.path p
  match x.queued with
  | some o => if x.orderBusy || s.hwOnly p then s else pathDo p o (s.pathOn p (fun x => { x with queued := none }))
  | none => s
/-- Hardware-only protection has ended on a port: a path in TRIP goes on to COOL, and a transition that waited proceeds (12 R427;
15 R514). -/
def pathResume (p : Nat) (s : State) : State :=
  let x := s.path p
  if s.hwOnly p then s
  else if x.st = .trip ∧ x.gateOff then s.pathOn p (fun x => { x with st := .cool, gateOff := false })
  else if x.st = .cool ∧ x.queued.isSome then coolEnd p (s.pathOn p (fun x => { x with queued := none }))
  else pathQueued p s

/-! ### IND (12 R431; 02 R48) -/

/-- What an IND pin shows: high impedance, a driven level, or a sunk LED current in mA that is steady (0) or blinks at a rate in Hz. -/
inductive IndOut | hiZ | low | high | led (ma hz : Nat)
  deriving DecidableEq, Repr
/-- An active or inactive level by OD and POL: an open-drain output only drives low. -/
def indLevelOut (od pol active : Bool) : IndOut := if active = pol then (if od then .hiZ else .high) else .low
/-- An inactive pin outside PG and GPIO modes. -/
def indOff (od : Bool) : IndOut := if od then .hiZ else .low
/-- The IND pin of a port. -/
def State.indPin (s : State) (p : Nat) : IndOut :=
  let w := s.rget (portReg p 0x618)
  let od := bit w 2
  if !s.served ∨ s.profile p = .disabled then indOff od
  else match s.indMode p with
    | 1 => indLevelOut od (bit w 3) (s.path p).pg
    | 2 =>
      let ma := match bits w 4 2 with | 0 => 2 | 1 => 4 | 2 => 8 | _ => 12
      (match (s.path p).st with
       | .on => .led ma 0
       | .cool => .led ma 1
       | .latched => .led ma 4
       | _ => .hiZ)
    | 3 => indLevelOut od (bit w 3) (s.path p).indLevel
    | _ => indOff od

/-! ### Shedding (12 R436 – R438) -/

/-- A port is marked shed (12 R437). -/
def markShed (p : Nat) (s : State) : State :=
  let s := s.pathOn p (fun x => { x with shed := true })
  let s := s.rsAdd (bedReg (bedOf p) 0x8) 16 16 1
  let s := { s with budget := { s.budget with shedOrder := s.budget.shedOrder ++ [p] } }
  powerEvent p 5 (s.path p).shedClass 0 s
/-- The bed removes the gate of a class-0 port without a message (12 R437). -/
def shedHardware (p : Nat) (s : State) : State :=
  if (s.path p).shedClass ≠ 0 ∨ (s.path p).shed ∨ ((s.path p).st = .off ∧ s.holding p = 0) then s
  else markShed p (pathOff p false s)
/-- Ports of classes 1 – 6 that policy may shed, the next first: the lowest class, and the highest number within it. -/
def State.shedNext (s : State) (b : Nat) : Option Nat :=
  let ps := (portsOf b).reverse.filter (fun p => decide (1 ≤ (s.path p).shedClass) && decide ((s.path p).shedClass ≤ 6) && !(s.path p).shed && decide (0 < s.holding p))
  (sortBy (fun p => (s.path p).shedClass) ps).head?

end Sys2Proof.Machine
end

