-- ==== Sys2Proof/Machine/PdOps.lean ====
section
/-! DEFINITION. Operations of Power Delivery (11): offers (R381 – R383, R613), messages and their retries (R377 – R379; 10 R362, R363),
the answers to requests (R384, R385), resets (R399, R400), quarantine (10 R365 – R367), and trellis mode (R407). The message, PDO,
RDO and VDM layouts are those of the USB PD Specification, Revision 3.2 (notes/assumptions/10.md). -/

namespace Sys2Proof.Machine

open Sys2Proof

/-! ### Settings in force since the last Unattached entry (10 R343) -/

def State.pdCfgBit (s : State) (p i : Nat) : Bool := bit (s.tc p).pdCfg.toNat i
def State.ppsEn (s : State) (p : Nat) : Bool := s.pdCfgBit p 0
def State.avsEn (s : State) (p : Nat) : Bool := s.pdCfgBit p 1
def State.eprEn (s : State) (p : Nat) : Bool := s.pdCfgBit p 2
def State.cableDisc (s : State) (p : Nat) : Bool := s.pdCfgBit p 3
def State.drSwapCfg (s : State) (p : Nat) : Nat := bits (s.tc p).pdCfg.toNat 4 2
def State.prSwapCfg (s : State) (p : Nat) : Bool := s.pdCfgBit p 6
def State.vconnSwapCfg (s : State) (p : Nat) : Bool := s.pdCfgBit p 7
def State.trellisEn (s : State) (p : Nat) : Bool := s.pdCfgBit p 8
def State.alertEn (s : State) (p : Nat) : Bool := s.pdCfgBit p 9
def State.vconnEn (s : State) (p : Nat) : Bool := bit (s.tc p).cfg.toNat 8
def State.pdEn (s : State) (p : Nat) : Bool := bit (s.tc p).cfg.toNat 14
def State.isDrp (s : State) (p : Nat) : Bool := bits (s.tc p).cfg.toNat 2 2 == 2
/-- CUR_MAX in mA (11, PRT_PD_SRC). -/
def State.curMax (s : State) (p : Nat) : Nat := sel0 (bits (s.tc p).pdSrc.toNat 16 7) 60 10 100 * 50
/-- SNK_MAX in mV and SNK_OP in mA (11, PRT_PD_SNK). -/
def State.snkMax (s : State) (p : Nat) : Nat := sel0 (bits (s.tc p).pdSnk.toNat 0 10) 50 50 480 * 100
def State.snkOp (s : State) (p : Nat) : Nat := sel0 (bits (s.tc p).pdSnk.toNat 16 7) 10 1 100 * 50

/-- PD policy runs on the port: attached with PD_EN, not in quarantine, and not held by bed hardware alone (02 R71; 10 R340, R367; 11 R375). -/
def State.pdLive (s : State) (p : Nat) : Bool := (s.pd p).attached && !(s.tc p).quarantine && !s.persisting p
/-- An explicit contract at Revision 3.x (10 R363). -/
def Pd.con3 (d : Pd) : Bool := d.con.isSome && d.rev3

/-! ### Grafts (14 R486, R490) -/

/-- The running graft of a kind that implements a hook for a port: HOOKS bits follow the order of R490. -/
def State.graftFor (s : State) (kind hook p : Nat) : Option Nat :=
  firstBelow (fun g => let x := s.graft g; x.st == 1 && x.kind == kind && bit x.hooks hook && x.mask.getLsbD p) 8
/-- An answer of a graft that the part changed (14 R490, CLIPPED). -/
def graftClip (g : Nat) (s : State) : State := s.rsAdd (graftReg g) 16 16 1
/-- The answer to a request or swap: 0 Accept, 1 Wait, 2 Reject. A graft may only narrow the default answer; what it answers is
free (14 R490). -/
def graftNarrow (hook p dflt : Nat) (s : State) : Nat × State :=
  match s.graftFor 1 hook p with
  | none => (dflt, s)
  | some g =>
    let a := Config.freeNat s.free % 3
    let s := { s with free := s.free + 1 }
    let r := max dflt a
    (r, if r = a then s else graftClip g s)

/-! ### Offers (11 R381 – R383, R613) -/

/-- The cable limits in mA and mV, and whether the cable is EPR-capable at 5 A (11 R382). -/
def State.cableMa (s : State) (p : Nat) : Nat := if (s.pd p).cableKnown ∧ bits (s.pd p).cableVdo 5 2 = 2 then 5000 else 3000
def State.cableMv (s : State) (p : Nat) : Nat :=
  if (s.pd p).cableKnown then (match bits (s.pd p).cableVdo 9 2 with | 1 => 30000 | 2 => 40000 | 3 => 50000 | _ => 20000) else 20000
def State.cableEpr (s : State) (p : Nat) : Bool := (s.pd p).cableKnown && bits (s.pd p).cableVdo 5 2 == 2 && bit (s.pd p).cableVdo 17
/-- I(V) in mA (11 R381). -/
def State.offerMa (s : State) (p mv : Nat) : Nat :=
  min (min (s.curMax p) (s.cableMa p)) (min ((s.hook p).iCeil * 50) (s.available p * 1000 / mv / 50 * 50))
def pdoFixed (flags mv ma : Nat) : Nat := flags + mv / 50 * 1024 + ma / 10
def pdoPps (hi lo ma : Nat) : Nat := 0xC0000000 + hi / 100 * 2 ^ 17 + lo / 100 * 256 + ma / 50
def pdoAvs (hi pdp : Nat) : Nat := 0xD0000000 + hi / 100 * 2 ^ 17 + 150 * 256 + pdp
/-- Flag bits of the fixed 5 V object (11 R613, R381). -/
def State.flags5 (s : State) (p : Nat) : Nat :=
  b2n (s.isDrp p) * 2 ^ 29 + b2n (s.usb2En p || s.ssEn p) * 2 ^ 26 + b2n (s.drSwapCfg p != 0) * 2 ^ 25 + b2n (s.eprEn p) * 2 ^ 23
/-- The SPR objects (11 R381). -/
def State.sprOffers (s : State) (p : Nat) : List Nat :=
  let src := (s.tc p).pdSrc.toNat
  let top := min ((s.hook p).vCeil * 100) (s.cableMv p)
  let fixed := [(9000, 1), (15000, 2), (20000, 3)].filter (fun x => bit src x.2 && decide (x.1 ≤ top) && decide (500 ≤ s.offerMa p x.1))
  let ranges := ([11000, 16000, 21000].take (min 2 (bits src 8 2) + 1)).filter (fun v => decide (v ≤ top) && decide (1000 ≤ s.offerMa p v))
  pdoFixed (s.flags5 p) 5000 (s.offerMa p 5000) :: fixed.map (fun x => pdoFixed 0 x.1 (s.offerMa p x.1))
    ++ (if s.ppsEn p && (s.pd p).rev3 then ranges.map (fun v => pdoPps v 3300 (s.offerMa p v)) else [])
/-- The EPR objects (11 R381, R382). -/
def State.eprOffers (s : State) (p : Nat) : List Nat :=
  let src := (s.tc p).pdSrc.toNat
  let top := min ((s.hook p).vCeil * 100) (s.cableMv p)
  let fixed := [(28000, 4), (36000, 5), (48000, 6)].filter (fun x => bit src x.2 && decide (x.1 ≤ top))
  let avs := if s.avsEn p then (match fixed.getLast? with | some x => [pdoAvs x.1 (min 240 (s.available p / 1000))] | none => []) else []
  if s.cableEpr p then fixed.map (fun x => pdoFixed 0 x.1 (s.offerMa p x.1)) ++ avs else []
/-- Objects of a Source_Capabilities, or of an EPR_Source_Capabilities with the EPR objects from position 8. -/
def State.offers (s : State) (p : Nat) (epr : Bool) : List Nat :=
  let l := s.sprOffers p
  if epr then l ++ List.replicate (7 - l.length) 0 ++ s.eprOffers p else l
/-- What an object is, but for its current: the kind and voltage bits that a graft's object must share with an allowed one. -/
def pdoShape (o : Nat) : Nat := if bits o 30 2 = 3 then (if bits o 28 2 = 1 then o / 256 else o / 128) else bits o 10 10
def pdoAmps (o : Nat) : Nat := if bits o 30 2 = 3 then (if bits o 28 2 = 1 then o % 256 else o % 128) else o % 1024
def pdoWith (o a : Nat) : Nat := o - pdoAmps o + min a (pdoAmps o)
/-- A graft's offers (14 R490): objects that R381 forbids are dropped, currents are limited, and fixed 5 V stays first. -/
def graftOffers (p : Nat) (l : List Nat) (s : State) : List Nat × State :=
  match s.graftFor 1 0 p with
  | none => (l, s)
  | some g =>
    let a := Config.graftObjs s.free
    let s := { s with free := s.free + 1 }
    let r := l.head?.toList ++ (l.tail.filterMap (fun o => if o = 0 then some 0 else (a.find? (fun x => pdoShape x == pdoShape o)).map (fun x => pdoWith o (pdoAmps x))))
    (r, if r = a then s else graftClip g s)

/-! ### Messages -/

def Pd.sop (d : Pd) : Sop → SopSt
  | .sop0 => d.s0
  | .sop1 => d.s1
  | .sop2 => d.s2
def Pd.sopPut (d : Pd) (x : Sop) (v : SopSt) : Pd :=
  match x with
  | .sop0 => { d with s0 := v }
  | .sop1 => { d with s1 := v }
  | .sop2 => { d with s2 := v }
def sopCode : Sop → Nat
  | .sop0 => 0
  | .sop1 => 1
  | .sop2 => 2
def sopOf (n : Nat) : Sop := match n with | 1 => .sop1 | 2 => .sop2 | _ => .sop0

/-- A message of the part's own sequence (10 R363): as source under a 3.x contract it presents SinkTxNG and waits. -/
def pdOwn (p : Nat) (m : PdTx) (s : State) : State :=
  let d := s.pd p
  if !s.pdLive p then s
  else
    let m := { m with sinkTx := d.con3 }
    let s := s.pdOn p (fun d => { d with txq := d.txq ++ [m] })
    if d.con3 && (s.tc p).source then s.tcOn p (fun t => { t with rp := 2, sinkTxNg := true }) else s
/-- A reply goes before the sequences that wait for the sink (10 R363). -/
def insReply (m : PdTx) : List PdTx → List PdTx
  | [] => [m]
  | x :: l => if x.sinkTx && !x.onWire then m :: x :: l else x :: insReply m l
def pdReply (p : Nat) (m : PdTx) (s : State) : State :=
  if !s.pdLive p then s else s.pdOn p (fun d => { d with txq := insReply m d.txq })
/-- A message on SOP. -/
def msg (ty : Nat) (objs : List Nat) (use : MsgUse) : PdTx := { sop := .sop0, ty, ext := false, objs, use }
/-- The source returns to SinkTxOk when no sequence of its own is under way (10 R363). -/
def seqEnd (p : Nat) (s : State) : State :=
  let d := s.pd p
  if (s.tc p).source && d.con3 && d.txq.isEmpty && d.awaits.isNone && d.next.isNone && !d.transition && d.swap = .none then
    s.tcOn p (fun t => { t with rp := 3, sinkTxNg := false })
  else s

/-! ### PD REQUEST and SEND VDM in progress (11 R409 – R411) -/

/-- OP of the PD REQUEST that a message serves. -/
def MsgUse.op : MsgUse → Nat
  | .caps => 1 | .request => 2 | .swapReq .dr => 3 | .swapReq .pr => 4 | .swapReq .vconn => 5 | .softReset _ => 6 | .getSrc => 8 | .getSnk => 9 | .discover => 10
  | .eprEnter => 11 | .eprExit => 12 | .getStatus => 13 | .vdmReq => 16 | _ => 0
def opServes (p : Nat) (u : MsgUse) (o : Op) : Bool :=
  o.port == p && (match o.kind with
    | .pd op _ _ => op != 0 && op == u.op
    | .vdm .. => u == .vdmReq
    | _ => false)
/-- RESULT of a swap whose request was sent again after a drop (11 R409, RETRY). -/
def State.swapAgain (s : State) (p : Nat) (u : MsgUse) : Nat :=
  match u with
  | .swapReq _ => if (s.pd p).reSent then 16 else 0
  | _ => 0
/-- The request that a message serves completes with SUCCESS and its ANSWER; a block goes to its output address first (11 R409, R410). -/
def pdOpDone (p : Nat) (u : MsgUse) (answer : Nat) (block : Option (List Byte)) (s : State) : State :=
  match s.opFind (opServes p u) with
  | none => s
  | some o =>
    let out := match o.kind with
      | .pd _ out _ => out
      | .vdm out _ => out
      | _ => 0
    let s := match block with
      | some b => if out = 0 then s else s.emit (.hostWrite o.h.fn out b)
      | none => s
    cmdDone o.h o.pdOpcode ccSuccess (answer + s.swapAgain p u) p (opDrop (fun x => x.h == o.h) s)
/-- Every PD command in progress on a port ends without an answer. -/
def pdOpsEnd (p answer : Nat) (s : State) : State :=
  forEach (s.ops.filter (pdOps p)) (fun o s => cmdDone o.h o.pdOpcode ccSuccess answer p s) (opDrop (pdOps p) s)

/-! ### Capabilities -/

/-- Source_Capabilities, or EPR_Source_Capabilities in EPR, built from the present budget (11 R381, R386). -/
def sendCaps (p : Nat) (s : State) : State :=
  if !(s.tc p).source then s
  else
    let epr := (s.pd p).epr
    let (l, s) := graftOffers p (s.offers p epr) s
    let s := s.pdOn p (fun d => { d with capsDue := false, waitSince := none, awaits := if d.awaits = some .caps then none else d.awaits })
    pdOwn p { sop := .sop0, ty := if epr then 0x11 else 1, ext := epr, objs := l, use := .caps } s
/-- Source_Capabilities that fall due are sent while the path is on with power-good and cable discovery has ended (11 R399, R400, R406). -/
def capsCheck (p : Nat) (s : State) : State :=
  let d := s.pd p
  if d.capsDue && d.cableDone && (s.path p).st == .on && (s.path p).pg && s.pdLive p && d.txq.isEmpty then sendCaps p s else s

/-! ### Resets (11 R399, R400) -/

/-- The power role changes (10 R345): the connection state moves between Attached.SRC and Attached.SNK. -/
def setPowerRole (p : Nat) (src : Bool) (s : State) : State :=
  s.tcOn p (fun t => { t with source := src, rp := if src then t.rp else 0, st := match t.st with | .attachedSrc | .attachedSnk => if src then .attachedSrc else .attachedSnk | x => x })
/-- The VCONN source changes (10 R352). -/
def setVconn (p : Nat) (on : Bool) (s : State) : State :=
  s.tcOn p (fun t => { t with vconnSrc := on, vconnOn := on && bit t.cfg.toNat 8 && !t.vconnTripped })
/-- Soft_Reset of an SOP* (11 R379, R400): the IDs return to 0 and its sequence ends. -/
def softEnds (p : Nat) (x : Sop) (last : Option Nat) (s : State) : State :=
  let s := s.pdOn p (fun d => (d.sopPut x { last }))
  if x = .sop0 then
    s.pdOn p (fun d =>
      let undone := d.next.isSome
      { d with
        txq := [], awaits := none, next := none, swap := .none, rePending := false, yields := false, waitSince := none,
        grant := if undone then (if d.con.isSome then d.oldGrant else 0) else d.grant, oldGrant := if undone then 0 else d.oldGrant })
  else s
/-- A Soft_Reset is sent (11 R400): at once, or as a sequence of its own when a command orders it (10 R363). -/
def softReset (p : Nat) (x : Sop) (asCmd : Bool) (s : State) : State :=
  if !s.pdLive p then s
  else
    let s := if asCmd then s else pdOpsEnd p 5 s
    let s := softEnds p x none s
    let s := s.rsAdd (portReg p 0x51C) 8 8 1
    let s := pdEvent p 4 0 0 (sopCode x) 2 s
    let m : PdTx := { sop := x, ty := 0xD, ext := false, objs := [], use := .softReset asCmd }
    if asCmd && x = .sop0 then pdOwn p m s else pdReply p m s

/-- A Hard Reset, sent or received (11 R399): `cause` 1 received, 2 sent; `void` the CONTRACT-VOID cause. Its signalling, when sent,
waits for the line (10 R362). -/
def hardReset (p cause void : Nat) (s : State) : State :=
  let d := s.pd p
  let t := s.tc p
  let swapping := d.swap != .none
  let s := s.rsAdd (portReg p 0x51C) 0 8 1
  let s := pdAbort p s
  let s := pdEvent p 3 0 0 0 (if swapping then 3 else cause) s
  let s := voidContract p void s
  let s := trellisEnd p s
  let s := s.pdOn p (fun d => { attached := d.attached, rev3 := d.rev3, hardResets := d.hardResets + 1, hardPending := d.hardPending || cause == 2, sinkWait := !t.atSource, cableKnown := d.cableKnown, cableVdo := d.cableVdo,
                                cableTries := d.cableTries, cableDone := d.cableDone, partner := d.partner, partnerEpr := d.partnerEpr })
  let s := setVconn p t.atVconn s
  let s := if t.source = t.atSource then s else setPowerRole p t.atSource s
  let s := if t.dfp = t.atDfp then s else refreshRole p 5 true (s.tcOn p (fun t => { t with dfp := t.atDfp }))
  refreshBridge p (serveWaiting s)
/-- A Hard Reset is signalled by the part. -/
def hardSend (p void : Nat) (s : State) : State := if s.pdLive p then hardReset p 2 void s else s
/-- The port goes to ErrorRecovery (10 R345; 11 R399): the attachment ends. -/
def errorRecovery (p q : Nat) (s : State) : State :=
  tcDetach p q 3 (fun s => s.tcOn p (fun t => { st := .errorRecovery, cfg := t.cfg, guard := t.guard, moist := t.moist, cc1 := t.cc1, cc2 := t.cc2, wetLast := t.wetLast })) s

/-! ### Flood and quarantine (10 R365 – R367) -/

/-- The flood count (10 R366). -/
def Tc.flood (t : Tc) : Nat := t.buckets.sum
def Tc.floodLimit (t : Tc) : Nat := sel0 (bits t.guard.toNat 0 10) 64 8 1023
def Tc.drops (t : Tc) : Bool := bit t.guard.toNat 10
/-- Quarantine is entered (10 R367). -/
def quarantine (p : Nat) (s : State) : State :=
  let d := s.pd p
  let s := if d.con.isSome || d.swap != .none then hardReset p 2 3 s
    else s.pdOn p (fun d => { d with txq := [], awaits := none, next := none, grant := if d.next.isSome then 0 else d.grant })
  let s := pdOpsEnd p 5 s
  let s := s.tcOn p (fun t => { t with quarantine := true })
  let drop := (s.tc p).drops
  let s := if drop then (pathOff p false s).pathOn p (fun x => { x with hold := 3 :: x.hold })
    else if (s.tc p).source then s
    else s.pathOn p (fun x => if x.st = .on then { x with ocp := s.ocpOf p (rpMa (s.tc p).rp), sc := s.scOf p (s.ocpOf p (rpMa (s.tc p).rp)) } else x)
  let s := tcEvent p 0x33 (if drop then 2 else 1) s
  let s := s.rsAdd (portReg p 0x418) 12 8 1
  raiseFault (4 * p + 1) 1 p 0 0 true (serveWaiting s)
/-- A flood item (10 R365 – R367): counted in the present bucket; the count above FLOOD_LIMIT enters quarantine at that item. -/
def floodItem (p : Nat) (s : State) : State :=
  if !(s.tc p).st.attached then s
  else
    let s := s.rsAdd (portReg p 0x414) 0 16 1
    let s := s.tcOn p (fun t => { t with buckets := (t.buckets.headD 0 + 1) :: t.buckets.tail })
    let t := s.tc p
    if !t.quarantine && !bit t.guard.toNat 11 && decide (t.floodLimit < t.flood) then quarantine p s else s

/-! ### Trellis mode (11 R407, R408) -/

/-- The header of a structured VDM, version 2.0: command type 0 request, 1 ACK, 2 NAK, 3 BUSY. -/
def vdmHdr (svid objPos ctype cmd : Nat) : Nat := svid * 65536 + 0x8000 + 0x2000 + objPos * 256 + ctype * 64 + cmd
def vdmSvid (h : Nat) : Nat := bits h 16 16
def vdmType (h : Nat) : Nat := bits h 6 2
def vdmCmd (h : Nat) : Nat := bits h 0 5
/-- The HELLO objects of a port (11 R408). -/
def State.helloObjs (s : State) (p : Nat) : List Nat := [p + 0x10 * 256, s.otp.uid.toNat % two32]
/-- A request of the trellis sequence. -/
def trellisSend (p cmd svid pos : Nat) (use : MsgUse) (s : State) : State := pdOwn p (msg 0xF [vdmHdr svid pos 0 cmd] use) s
/-- The DFP starts the sequence under an explicit 3.x contract (11 R407). -/
def trellisStart (p : Nat) (s : State) : State :=
  let d := s.pd p
  if s.trellisEn p && (s.tc p).dfp && d.con3 && d.trellis = .no then
    trellisSend p 1 0xFF00 0 .trellisReq (s.pdOn p (fun d => { d with trellis := .identity }))
  else s
/-- Enter Mode has been acknowledged: each end sends HELLO once (11 R407). -/
def trellisHello (p : Nat) (s : State) : State :=
  pdOwn p (msg 0xF (vdmHdr 0x1EF7 1 0 0x10 :: s.helloObjs p) .hello) (s.pdOn p (fun d => { d with trellis := .hello, trellisPeer := none, helloAcked := false }))
/-- The TRELLIS event, once the partner's HELLO has come and the own one is acknowledged (11 R407). -/
def trellisCheck (p : Nat) (s : State) : State :=
  let d := s.pd p
  match d.trellisPeer with
  | some (a, b) =>
    if d.trellis = .hello ∧ d.helloAcked then refreshBridge p (pdEvent p 12 a b 1 0 (s.pdOn p (fun d => { d with trellis := .entered }))) else s
  | none => s
def trellisLeave (p : Nat) (s : State) : State := refreshBridge p (trellisEnd p s)

/-! ### Contracts (11 R384, R385) -/

/-- What a Request asks of an object: the voltage in mV, the current in mA, and the kind; none where it is invalid (11 R384). -/
def askOf (rdo obj : Nat) : Option (Nat × Nat × PdoKind) :=
  if obj = 0 then none
  else if bits obj 30 2 = 0 then
    let ma := bits rdo 10 10 * 10
    let top := bits obj 0 10 * 10
    if top < ma ∨ (!bit rdo 26 ∧ top < bits rdo 0 10 * 10) then none else some (bits obj 10 10 * 50, ma, .fixed)
  else if bits obj 30 2 = 3 ∧ bits obj 28 2 = 0 then
    let mv := bits rdo 9 12 * 20
    let ma := bits rdo 0 7 * 50
    if bits obj 0 7 * 50 < ma ∨ mv < bits obj 8 8 * 100 ∨ bits obj 17 8 * 100 < mv then none else some (mv, ma, .pps)
  else if bits obj 30 2 = 3 ∧ bits obj 28 2 = 1 then
    let mv := bits rdo 9 12 * 25
    let ma := bits rdo 0 7 * 50
    if bits obj 0 8 * 1000000 / max 1 mv < ma ∨ mv < bits obj 8 8 * 100 ∨ bits obj 17 9 * 100 < mv ∨ mv % 100 ≠ 0 then none else some (mv, ma, .avs)
  else none
/-- The contract that a Request makes with the latest capabilities sent. -/
def Pd.asks (d : Pd) (rdo : Nat) : Option Contract :=
  let pos := bits rdo 28 4
  if pos = 0 then none
  else match d.offered[pos - 1]? with
    | none => none
    | some obj => (askOf rdo obj).map (fun (mv, ma, kind) => { epr := d.epr, kind, rdo, obj, mv, ma })
/-- The power of a contract in mW (11 R384). -/
def Contract.mw (c : Contract) : Nat := c.mv * c.ma / 1000
/-- The current that a contract's thresholds rest on (12 R422). -/
def Contract.fuseMa (c : Contract) : Nat := if c.kind = .pps then c.ma + 150 else c.ma
/-- The contract takes effect at the GoodCRC for its Accept (11 R385). -/
def contractEffect (p : Nat) (s : State) : State :=
  match (s.pd p).next with
  | none => s
  | some c => s.pdOn p (fun d => { d with con := some c, next := none, transition := true, waitSince := none, hardResets := 0, awaits := none })
/-- PS_RDY has been acknowledged: the higher grant of the two is released and the CONTRACT event is written (11 R385, R412). -/
def contractDone (p : Nat) (s : State) : State :=
  let d := s.pd p
  match d.con with
  | none => s
  | some c =>
    let s := s.pdOn p (fun d => { d with transition := false, oldGrant := 0 })
    let s := pdEvent p 1 c.rdo c.obj d.grant (b2n c.epr) s
    let s := pdOpDone p .caps 1 none s
    trellisStart p (serveWaiting s)

end Sys2Proof.Machine
end

