-- ==== Sys2Proof/Machine/Path.lean ====
section
/-! DEFINITION. Happenings of the power path: orders, ramps, protections, retries, power-good and trim (12 R420 – R432), the PPS current
limit (11 R389), VBUS at vSafe0V (11 R395), and early warning, shedding and restoring (12 R436 – R438). -/

namespace Sys2Proof.Machine

open Sys2Proof

/-! ### Orders and ramps -/

def doPathOrder (p : Nat) (o : PathOrder) (s : State) : State :=
  let x := s.path p
  if !s.served then s
  else match o with
  | .off => pathOff p false s
  | _ => if x.orderBusy || s.hwOnly p then s.pathOn p (fun x => { x with queued := some o }) else pathDo p o s
/-- PATH_ORDER: one order at a time; a further one waits in a queue of one, and one toward OFF takes effect at once (12 R424, R428; 15 R513). -/
def execPathOrder (p : Port) (o : PathOrder) (s : State) : Host.Outcome State Fault Refusal := .next (happen (doPathOrder p o) s)

def doRampComplete (p : Nat) (s : State) : State :=
  let x := s.path p
  if x.st ≠ .ramp then s
  else
    let s := s.pathOn p (fun x => { x with st := .on, retrying := false, sc := s.scOf p x.ocp })
    let s := if x.retrying then powerEvent p 3 x.retryCount 0 s else s
    let s := match s.profile p with
      | .typea | .soldered => refreshSides p s
      | _ => s
    pathQueued p s
/-- RAMP_COMPLETE: RAMP to ON with the thresholds for ON (12 R422, R424, R440). -/
def execRampComplete (p : Port) (s : State) : Host.Outcome State Fault Refusal := .next (happen (doRampComplete p) s)

/-! ### Protections -/

def doOcTimerStart (p : Nat) (s : State) : State :=
  let x := s.path p
  if x.st ≠ .on ∨ x.ocTimer then s
  else
    let s := if x.pg then s.rsAdd (portReg p 0x620) 24 8 1 else s
    s.pathOn p (fun x => { x with ocTimer := true, pg := false })
/-- OC_TIMER_START: the over-current timer starts and power-good is withdrawn (12 R423, R430). -/
def execOcTimerStart (p : Port) (s : State) : Host.Outcome State Fault Refusal := .next (doOcTimerStart p s)
def doOcTimerReset (p : Nat) (s : State) : State := s.pathOn p (fun x => { x with ocTimer := false })
/-- OC_TIMER_RESET: the current has stayed below OCP for 100 µs (12 R423). -/
def execOcTimerReset (p : Port) (s : State) : Host.Outcome State Fault Refusal := .next (doOcTimerReset p s)
def doOcTimerExpire (p : Nat) (s : State) : State := if (s.path p).st = .on ∧ (s.path p).ocTimer then pathTrip p 1 s else s
/-- OC_TIMER_EXPIRE: TRIP by the over-current timer (12 R423). -/
def execOcTimerExpire (p : Port) (s : State) : Host.Outcome State Fault Refusal := .next (happen (doOcTimerExpire p) s)
def doShortCircuit (p : Nat) (s : State) : State := pathTrip p 2 s
/-- SHORT_CIRCUIT: TRIP by the short-circuit comparator (12 R423). -/
def execShortCircuit (p : Port) (s : State) : Host.Outcome State Fault Refusal := .next (happen (doShortCircuit p) s)
def doRampTimeout (p : Nat) (s : State) : State := if (s.path p).st = .ramp then pathTrip p 3 s else s
/-- RAMP_TIMEOUT: TRIP by the ramp timeout (12 R423). -/
def execRampTimeout (p : Port) (s : State) : Host.Outcome State Fault Refusal := .next (happen (doRampTimeout p) s)
def doOverVoltage (p : Nat) (s : State) : State := pathTrip p 4 s
/-- OVER_VOLTAGE: TRIP by over-voltage (12 R423). -/
def execOverVoltage (p : Port) (s : State) : Host.Outcome State Fault Refusal := .next (happen (doOverVoltage p) s)
def doReverseCurrent (p : Nat) (s : State) : State := if (s.path p).st = .on ∧ !(s.path p).sinking then pathTrip p 5 s else s
/-- REVERSE_CURRENT: TRIP by reverse current as source (12 R423). -/
def execReverseCurrent (p : Port) (s : State) : Host.Outcome State Fault Refusal := .next (happen (doReverseCurrent p) s)

def doGateOffConfirmed (p : Nat) (s : State) : State :=
  s.pathOn p (fun x => if x.st ≠ .trip then x else if s.hwOnly p then { x with gateOff := true } else { x with st := .cool, gateOff := false })
/-- GATE_OFF_CONFIRMED: TRIP to COOL, or held in TRIP under hardware-only protection (12 R424, R427). -/
def execGateOffConfirmed (p : Port) (s : State) : Host.Outcome State Fault Refusal := .next (doGateOffConfirmed p s)
def doCoolExpire (p : Nat) (s : State) : State :=
  if (s.path p).st ≠ .cool then s
  else if s.hwOnly p then s.pathOn p (fun x => { x with queued := some .sourceOn })
  else coolEnd p s
/-- COOL_EXPIRE: the off-time ends with a retry or LATCHED (12 R424, R425). -/
def execCoolExpire (p : Port) (s : State) : Host.Outcome State Fault Refusal := .next (happen (doCoolExpire p) s)
def doOnStableExpire (p : Nat) (s : State) : State := s.pathOn p (fun x => if x.st = .on then { x with retries := 0 } else x)
/-- ON_STABLE_EXPIRE: after 60 s in ON the retry count resets (12 R426). -/
def execOnStableExpire (p : Port) (s : State) : Host.Outcome State Fault Refusal := .next (doOnStableExpire p s)

/-! ### Trim, power-good, current limit -/

/-- Codes between the measured VBUS and the target, at most 4 (12 R420, R421). -/
def trimCodes (h : Hook) (a b : Nat) : Nat := if h.rt = 0 then 0 else min 4 (((max a b - min a b) * 160 + h.rt) / (2 * h.rt))
def doFbTrimTick (p : Nat) (s : State) : State :=
  let n := trimCodes (s.hook p) (s.path p).mv (s.path p).target
  if s.hwOnly p then s
  else s.pathOn p (fun x =>
    if x.st ≠ .on ∨ x.sinking ∨ (s.pd p).ppsCl then x
    else { x with fb := if x.mv < x.target then min 4095 (x.fb + n) else x.fb - n })
/-- FB_TRIM_TICK: the code moves by at most 4 toward the target (12 R421; 11 R388, R389). -/
def execFbTrimTick (p : Port) (s : State) : Host.Outcome State Fault Refusal := .next (doFbTrimTick p s)

/-- What waits for power-good is sent: PS_RDY of a transition or of a PR_Swap, or Source_Capabilities that are due (12 R429; 11 R385, R396, R399). -/
def pgServe (p : Nat) (s : State) : State :=
  let d := s.pd p
  let ready := d.txq.any (fun m => m.use == .psRdy)
  if (s.path p).sinking || ready then s
  else if d.transition then pdReply p (msg 6 [] .psRdy) s
  else match d.swap with
    | .transit .pr _ => if (s.tc p).source then pdReply p (msg 6 [] .psRdy) s else s
    | _ => capsCheck p s
def doPowerGoodAssert (p : Nat) (s : State) : State :=
  let x := s.path p
  if x.st ≠ .on ∨ x.ocTimer then s
  else
    let s := pathSettle p (s.pathOn p (fun x => { x with pg := true }))
    pathQueued p (pgServe p s)
/-- POWER_GOOD_ASSERT: power-good is asserted unless the over-current timer runs, and the new thresholds apply (12 R422, R429, R430). -/
def execPowerGoodAssert (p : Port) (s : State) : Host.Outcome State Fault Refusal := .next (happen (doPowerGoodAssert p) s)

/-- The PPS limit holds VBUS at what the load gives: a free code from that of 3.3 V to the present one (11 R389). -/
def ppsCode (lo hi n : Nat) : Nat := if hi ≤ lo then hi else lo + Config.freeNat n % (hi - lo + 1)
def doPpsCurrentLimit (p ma : Nat) (s : State) : State :=
  match (s.pd p).con with
  | none => s
  | some c =>
    if c.kind ≠ .pps ∨ !(s.tc p).source ∨ (s.path p).st ≠ .on ∨ s.hwOnly p then s
    else if c.ma < ma then
      let code := ppsCode (fbCode (s.hook p) 3300) (s.path p).fb s.free
      let s := s.pathOn p (fun x => { x with fb := code })
      { s.pdOn p (fun d => { d with ppsCl := true }) with free := s.free + 1 }
    else if (s.pd p).ppsCl then (s.pathOn p (fun x => { x with fb := fbCode (s.hook p) x.target })).pdOn p (fun d => { d with ppsCl := false })
    else s
/-- PPS_CURRENT_LIMIT: the set-point is lowered while the sink draws more than the operating current, and restored when the demand falls
(11 R389). -/
def execPpsCurrentLimit (p : Port) (ma : Nat) (s : State) : Host.Outcome State Fault Refusal := .next (doPpsCurrentLimit p ma s)

def doVbusSafe0vReached (p : Nat) (s : State) : State :=
  let d := s.pd p
  let s := s.pathOn p (fun x => { x with mv := 0 })
  match d.swap with
  | .transit .pr _ =>
    if (s.tc p).source && !(d.txq.any (fun m => m.use == .psRdy)) then
      let s := s.pdOn p (fun d => { d with grant := 0, oldGrant := 0 })
      pdReply p (msg 6 [] .psRdy) (serveWaiting (setPowerRole p false s))
    else s
  | _ => s
/-- VBUS_SAFE0V_REACHED: a port that stopped being source releases its grant, presents Rd and sends PS_RDY (11 R395, R396; 12 R435). -/
def execVbusSafe0vReached (p : Port) (s : State) : Host.Outcome State Fault Refusal := .next (happen (doVbusSafe0vReached p) s)

/-! ### Early warning -/

/-- Whether a port sends Alerts (11 R402). -/
def State.alerts (s : State) (p : Nat) : Bool := s.alertEn p && (s.pd p).con3 && (s.tc p).source
/-- An Alert with an ADO bit (11 R402). -/
def sendAlert (p ado : Nat) (s : State) : State := if s.alerts p then pdOwn p (msg 6 [ado] (.alert ado)) s else s
/-- Steps 4, 5 and 7 of R436: the budget cut, the Alerts and the EARLYWARN event. -/
def warnCut (b : Nat) (s : State) : State :=
  let s := s.bedOn b (fun x => { x with cut := true, cutMw := x.bedW * x.cutPct * 10 })
  let s := forEach (portsOf b) (fun p s => sendAlert p (2 ^ 29) s) s
  earlyWarnEvent b 1 s
def State.earlyWarn (s : State) : Bool := bedsAll.any (fun b => (s.bed b).warn)
/-- Warning threshold of a channel; 0 when unused (12 R416). -/
def BedSt.threshold (x : BedSt) (ch : Nat) : Nat := x.warnMv.getD ch 0
def doEarlywarnEntry (b ch : Nat) (s : State) : State :=
  let x := s.bed b
  if x.threshold ch = 0 then s
  else
    let s := s.bedOn b (fun x => { x with low := x.low.set ch true })
    if x.warn then s
    else
      let s := s.bedOn b (fun x => { x with warn := true, restoring := false })
      let s := { s with budget := { s.budget with earlyWarnN := true } }
      let s := s.rsAdd (bedReg b 0x8) 0 16 1
      let s := forEach (portsOf b).reverse shedHardware s
      if s.flt.safeHold then s else warnCut b s
/-- EARLYWARN_ENTRY: a bed enters warning (12 R436; 11 R402); steps 4 – 7 wait in SAFE-HOLD. -/
def execEarlywarnEntry (b : Bed) (ch : Fin 2) (s : State) : Host.Outcome State Fault Refusal := .next (happen (doEarlywarnEntry b ch) s)

/-- A port is shed by policy: under an explicit contract through a Hard Reset toward vSafe0V (12 R437). -/
def shedPort (p : Nat) (s : State) : State :=
  let s := if (s.pd p).con.isSome && (s.tc p).source then (hardSend p 1 s).pathOn p (fun x => { x with hold := 1 :: x.hold.filter (· != 1) }) else s
  serveWaiting (markShed p (pathOff p false s))
def doShedNext (b : Nat) (s : State) : State :=
  if (s.bed b).cut && !s.flt.safeHold && decide (s.bedEffective b < s.bedHeld b) then
    match s.shedNext b with
    | some p => shedPort p s
    | none => s
  else s
/-- SHED_NEXT: policy sheds the next port of classes 1 – 6 while the bed holds more than its effective budget (12 R436, R437). -/
def execShedNext (b : Bed) (s : State) : Host.Outcome State Fault Refusal := .next (happen (doShedNext b) s)

def doEarlywarnRestoreExpire (b : Nat) (s : State) : State :=
  if !(s.bed b).warn then s
  else
    let cut := (s.bed b).cut
    let shed := (portsOf b).any (fun p => (s.path p).shed)
    let s := s.bedOn b (fun x => { x with low := [false, false], warn := false, cut := false, cutMw := 0, restoring := shed })
    let s := { s with budget := { s.budget with earlyWarnN := s.earlyWarn } }
    serveWaiting (if cut then earlyWarnEvent b 0 s else s)
/-- EARLYWARN_RESTORE_EXPIRE: the bed leaves warning (12 R436, R438). -/
def execEarlywarnRestoreExpire (b : Bed) (s : State) : Host.Outcome State Fault Refusal := .next (happen (doEarlywarnRestoreExpire b) s)

/-- The shed port that is restored next: the latest shed whose bed is restoring (12 R438). -/
def State.restoreNext (s : State) : Option Nat :=
  s.budget.shedOrder.reverse.find? (fun p => (s.path p).shed && (s.bed (bedOf p)).restoring && !(s.bed (bedOf p)).warn)
def doRestoreNext (s : State) : State :=
  match s.restoreNext with
  | none => s
  | some p =>
    let s := s.pathOn p (fun x => { x with shed := false })
    let s := { s with budget := { s.budget with shedOrder := s.budget.shedOrder.filter (· != p) } }
    let s := s.bedOn (bedOf p) (fun x => { x with restoring := (portsOf (bedOf p)).any (fun q => (s.path q).shed) })
    let s := if (s.path p).shedClass = 0 ∧ (s.pd p).con.isSome ∧ (s.path p).st ≠ .latched
      then (hardSend p 1 s).pathOn p (fun x => { x with hold := 1 :: x.hold.filter (· != 1) }) else pathSeek p s
    powerEvent p 6 (s.path p).shedClass 0 s
/-- RESTORE_NEXT: shed ports are restored in the reverse of their shedding order (12 R438). -/
def execRestoreNext (s : State) : Host.Outcome State Fault Refusal := .next (happen doRestoreNext s)

end Sys2Proof.Machine
end

