-- ==== Sys2Proof/Machine/TypeC.lean ====
section
/-! DEFINITION. Type-C connections (10 R339 – R360, R366 – R373): terminations, debounces and attach, DRP and Try timers, ErrorRecovery,
the moisture guard, VCONN trips, flood buckets and quarantine release, and the UART bridge. The states and transitions the manual
leaves to it are those of the USB Type-C Specification, Release 2.3 (notes/assumptions/11.md). -/

namespace Sys2Proof

/-- What a CC pin shows (10 R351). -/
def CcSee.isRd : CcSee → Bool
  | .rd => true
  | _ => false
def CcSee.isRa : CcSee → Bool
  | .ra => true
  | _ => false
/-- Level of an Rp seen, 1 – 3; 0 when none is. -/
def CcSee.level : CcSee → Nat
  | .rp l => l.val
  | _ => 0

end Sys2Proof

namespace Sys2Proof.Machine

open Sys2Proof

/-! ### What the CC pins show -/

def Tc.debugEn (t : Tc) : Bool := bit t.cfg.toNat 9
def Tc.audioEn (t : Tc) : Bool := bit t.cfg.toNat 10
def Tc.moistEn (t : Tc) : Bool := bit t.cfg.toNat 11
def Tc.tryRole (t : Tc) : Nat := if bits t.cfg.toNat 2 2 = 2 then bits t.cfg.toNat 4 2 else 0
/-- Rd on exactly one pin: a sink (10 R351). -/
def Tc.seesSink (t : Tc) : Bool := t.cc1.isRd != t.cc2.isRd
/-- Rd on both pins with DEBUG_EN (10 R354). -/
def Tc.seesDebugSink (t : Tc) : Bool := t.debugEn && t.cc1.isRd && t.cc2.isRd
/-- Ra on both pins with AUDIO_EN (10 R355). -/
def Tc.seesAudio (t : Tc) : Bool := t.audioEn && t.cc1.isRa && t.cc2.isRa
/-- Rp on exactly one pin: a source. -/
def Tc.seesSource (t : Tc) : Bool := (t.cc1.level != 0) != (t.cc2.level != 0)
/-- Rp on both pins with DEBUG_EN (10 R354). -/
def Tc.seesDebugSource (t : Tc) : Bool := t.debugEn && t.cc1.level != 0 && t.cc2.level != 0
/-- What starts AttachWait.SRC and AttachWait.SNK. -/
def Tc.waitsSrc (t : Tc) : Bool := t.seesSink || t.seesDebugSink || t.seesAudio
def Tc.waitsSnk (t : Tc) : Bool := t.seesSource || t.seesDebugSource
/-- The pin in use as source and as sink: CC2 gives ORIENT 1 (10 R351); of two Rp levels the higher marks it (10 R354). -/
def Tc.srcOrient (t : Tc) : Bool := t.cc2.isRd && !t.cc1.isRd
def Tc.snkOrient (t : Tc) : Bool := decide (t.cc1.level < t.cc2.level)
def Tc.seenRp (t : Tc) : Nat := max t.cc1.level t.cc2.level

/-! ### Unattached and attach -/

/-- An Unattached state is entered with the settings in force from now on (10 R343); a DRP port takes the role given, any other its own. -/
def enterUnatt (p : Nat) (src : Bool) (s : State) : State :=
  let old := s.tc p
  let s := enterUnattached p s
  if s.isDrp p then
    s.tcOn p (fun t => { t with st := if src then .unattachedSrc else .unattachedSnk, source := src, rp := if src then s.rpLevel p else 0, reading := old.reading })
  else s.tcOn p (fun t => { t with reading := old.reading })

/-- TC-ATTACH (10 R351 – R355): orientation, roles, VCONN, PD, the power path, the USB sides and the bridge. -/
def tcAttach (p : Nat) (st : TcSt) (src : Bool) (s : State) : State :=
  let t := s.tc p
  let o := if src then t.srcOrient else t.snkOrient
  let other := if o then t.cc1 else t.cc2
  let cable := src && st == .attachedSrc && other.isRa
  let vconn := cable && bit t.cfg.toNat 8
  let pdOk := s.pdEn p && st != .audio && st != .unorientedDebug
  let disc := pdOk && src && vconn && s.cableDisc p
  let s := s.tcOn p (fun t => { t with
    st, orient := o, source := src, dfp := src, atSource := src, atDfp := src, atVconn := cable, vconnSrc := cable, vconnOn := vconn,
    rp := if src then t.rp else t.seenRp, attachDue := false, buckets := [0, 0, 0, 0, 0, 0, 0, 0] })
  let s := s.linkOn p (fun l => { l with lane := o && st != .unorientedDebug })
  let s := s.pdPut p { attached := pdOk, capsDue := src, cableDone := !disc, cableTries := b2n disc }
  let s := tcEvent p 0x30 0 s
  let s := if src && st != .audio then pathSeek p s else s
  let s := if disc then pdOwn p { sop := .sop1, ty := 0xF, ext := false, objs := [vdmHdr 0xFF00 0 0 1], use := .cable } s else s
  refreshBridge p (refreshRole p 5 false s)

/-- Attach detection in an Unattached or AttachWait state, from what the CC pins show. -/
def ccLook (p : Nat) (s : State) : State :=
  let t := s.tc p
  let back := fun (src : Bool) => enterUnatt p src s
  match t.st with
  | .unattachedSrc => if t.waitsSrc then s.tcOn p (fun t => { t with st := .attachWaitSrc }) else s
  | .unattachedSnk => if t.waitsSnk then s.tcOn p (fun t => { t with st := .attachWaitSnk }) else s
  | .attachWaitSrc => if t.waitsSrc then s else back false
  | .unorientedDebug =>
    if t.cc1.isRd && t.cc2.isRd then s
    else if t.cc1.isRd || t.cc2.isRd || (t.cc1.level != t.cc2.level) then
      let o := if t.cc1.isRd || t.cc2.isRd then t.srcOrient else t.snkOrient
      refreshSides p ((s.tcOn p (fun t => { t with st := .orientedDebug, orient := o })).linkOn p (fun l => { l with lane := o }))
    else s
  | .attachedSnk | .debugSnk =>
    let l := if t.orient then t.cc2.level else t.cc1.level
    if l = 0 then s else s.tcOn p (fun t => { t with rp := l })
  | _ => s

def doCcTerminationChange (p : Nat) (cc1 cc2 : CcSee) (s : State) : State :=
  let s := s.tcOn p (fun t => { t with cc1, cc2, attachDue := false })
  if (s.tc p).reading || (s.bed (bedOf p)).isolating || s.persisting p then s else ccLook p s
/-- CC_TERMINATION_CHANGE: the CC pins show something else (10 R345, R350, R363, R370). -/
def execCcTerminationChange (p : Port) (cc1 cc2 : CcSee) (s : State) : Host.Outcome State Fault Refusal :=
  .next (happen (doCcTerminationChange p cc1 cc2) s)

/-- The debounce has ended (10 R346): the state advances, or the port attaches. -/
def ccAdvance (p : Nat) (s : State) : State :=
  let t := s.tc p
  match t.st with
  | .attachWaitSrc =>
      if t.seesDebugSink then tcAttach p .unorientedDebug true s
      else if t.seesAudio then tcAttach p .audio true s
      else if t.seesSink then
        (if t.tryRole = 2 then s.tcOn p (fun t => { t with st := .trySnk, source := false, rp := 0 }) else tcAttach p .attachedSrc true s)
      else s
  | .attachWaitSnk =>
      if t.seesDebugSource then tcAttach p .debugSnk false s
      else if t.seesSource then
        (if t.tryRole = 1 then s.tcOn p (fun t => { t with st := .trySrc, source := true, rp := s.rpLevel p }) else tcAttach p .attachedSnk false s)
      else s
  | .trySrc | .tryWaitSrc => if t.seesSink then tcAttach p .attachedSrc true s else s
  | .trySnk | .tryWaitSnk => if t.seesSource then tcAttach p .attachedSnk false s else s
  | _ => s
def doCcAttachDebounce (p : Nat) (s : State) : State :=
  if (s.bed (bedOf p)).isolating || (s.tc p).reading then s
  else if (s.bed (bedOf p)).testing then s.tcOn p (fun t => { t with attachDue := true })
  else ccAdvance p s
/-- CC_ATTACH_DEBOUNCE: tCCDebounce or tTryCCDebounce ends, and the connection advances (10 R346, R348, R351, R354, R355). -/
def execCcAttachDebounce (p : Port) (s : State) : Host.Outcome State Fault Refusal := .next (happen (doCcAttachDebounce p) s)

/-- A detach is declared (10 R345, R349). -/
def tcDetached (p gone : Nat) (s : State) : State := tcDetach p 0 gone (enterUnatt p false) s
def doCcDetachDebounce (p : Nat) (s : State) : State :=
  if s.persisting p then persistEnd p 1 s
  else if (s.bed (bedOf p)).isolating then s
  else match (s.tc p).st with
    | .attachedSrc | .unorientedDebug | .orientedDebug | .audio => tcDetached p 3 s
    | .attachWaitSnk => enterUnatt p true s
    | .tryWaitSnk => enterUnatt p false s
    | _ => s
/-- CC_DETACH_DEBOUNCE: the partner has been absent for its debounce (10 R349, R366; 02 R72; 12 R424, R435). -/
def execCcDetachDebounce (p : Port) (s : State) : Host.Outcome State Fault Refusal := .next (happen (doCcDetachDebounce p) s)

def doVbusSinkDisconnect (p : Nat) (s : State) : State :=
  let d := s.pd p
  let directed := d.sinkWait || (match d.swap with | .transit .pr _ => true | _ => false)
  if (s.bed (bedOf p)).isolating || directed then s
  else match (s.tc p).st with
    | .attachedSnk | .debugSnk => tcDetached p 2 s
    | _ => s
/-- VBUS_SINK_DISCONNECT: VBUS below vSinkDisconnect outside a transition that PD directs (10 R349). -/
def execVbusSinkDisconnect (p : Port) (s : State) : Host.Outcome State Fault Refusal := .next (happen (doVbusSinkDisconnect p) s)

/-! ### Toggling, Try, ErrorRecovery -/

def doDrpPeriodExpire (p : Nat) (s : State) : State :=
  match (s.tc p).st with
  | .unattachedSnk => if s.isDrp p then enterUnatt p true s else s
  | .unattachedSrc => if s.isDrp p then enterUnatt p false s else s
  | _ => s
/-- DRP_PERIOD_EXPIRE: a DRP port toggles between Unattached.SRC and Unattached.SNK (10 R347). -/
def execDrpPeriodExpire (p : Port) (s : State) : Host.Outcome State Fault Refusal := .next (happen (doDrpPeriodExpire p) s)

def doTryTimerExpire (p : Nat) (s : State) : State :=
  let t := s.tc p
  match t.st with
  | .trySrc => if t.seesSink then s else s.tcOn p (fun t => { t with st := .tryWaitSnk, source := false, rp := 0 })
  | .trySnk => if t.seesSource then s else s.tcOn p (fun t => { t with st := .tryWaitSrc, source := true, rp := s.rpLevel p })
  | .tryWaitSrc => if t.seesSink then s else enterUnatt p false s
  | .tryWaitSnk => if t.seesSource then s else enterUnatt p false s
  | _ => s
/-- TRY_TIMER_EXPIRE: tDRPTry or tDRPTryWait ends (10 R346, R348). -/
def execTryTimerExpire (p : Port) (s : State) : Host.Outcome State Fault Refusal := .next (happen (doTryTimerExpire p) s)

def doErrorRecoveryExpire (p : Nat) (s : State) : State := if (s.tc p).st = .errorRecovery then enterUnatt p true s else s
/-- ERROR_RECOVERY_EXPIRE: tErrorRecovery ends (10 R346). -/
def execErrorRecoveryExpire (p : Port) (s : State) : Host.Outcome State Fault Refusal := .next (happen (doErrorRecoveryExpire p) s)

/-! ### Moisture (10 R370 – R372) -/

def doMoistureReadingStart (p : Nat) (s : State) : State :=
  let t := s.tc p
  if t.moistEn && !(s.bed (bedOf p)).isolating && (t.st == .unattachedSnk || t.st == .unattachedSrc || t.st == .drying) then s.tcOn p (fun t => { t with reading := true }) else s
/-- MOISTURE_READING_START: a reading begins (10 R370). -/
def execMoistureReadingStart (p : Port) (s : State) : Host.Outcome State Fault Refusal := .next (doMoistureReadingStart p s)

/-- A resistance on CC below the threshold that is no Rd and no Ra (10 R371). -/
def ccWet (thr r : Nat) : Bool := decide (r < thr) && !(decide (4100 ≤ r) && decide (r ≤ 6100)) && !(decide (800 ≤ r) && decide (r ≤ 1200))
/-- Wet threshold in ohms (10, PRT_MOIST). -/
def Tc.thresh (t : Tc) : Nat := sel0 (bits t.moist.toNat 0 7) 20 10 100 * 10000
/-- Whether a reading is wet (10 R371). -/
def Tc.wet (t : Tc) (m : MoistReading) : Bool :=
  decide (m.sbu1 < t.thresh) || decide (m.sbu2 < t.thresh) || (!bit t.moist.toNat 7 && (ccWet t.thresh m.cc1 || ccWet t.thresh m.cc2))
def doMoistureReadingDone (p : Nat) (m : MoistReading) (s : State) : State :=
  let t := s.tc p
  let w := t.wet m
  if !t.reading then s
  else
    let s := s.tcOn p (fun t => { t with reading := false, wetLast := w })
    match t.st with
    | .drying =>
      if w then s.tcOn p (fun t => { t with dry := 0 })
      else if 2 ≤ t.dry then tcEvent p 0x32 0 (enterUnatt p false s)
      else s.tcOn p (fun t => { t with dry := t.dry + 1 })
    | .unattachedSnk | .unattachedSrc =>
      if w then tcEvent p 0x32 1 ((s.tcOn p (fun t => { t with st := .drying, dry := 0, rp := 0 })).rsAdd (portReg p 0x418) 26 6 1)
      else ccLook p s
    | _ => s
/-- MOISTURE_READING_DONE: a wet reading leads to DRYING, the third dry one in a row ends it (10 R345, R371, R372). -/
def execMoistureReadingDone (p : Port) (m : MoistReading) (s : State) : Host.Outcome State Fault Refusal :=
  .next (happen (doMoistureReadingDone p m) s)

/-! ### VCONN trips (10 R353) -/

/-- The CABLE event of a cable that is not identified (11 R406). -/
def cableLost (p : Nat) (s : State) : State :=
  let d := s.pd p
  if !d.attached || (!d.cableKnown && d.cableDone) then s
  else
    let s := pdEvent p 11 0 0 0 0 (s.pdOn p (fun d => { d with cableKnown := false, cableVdo := 0, cableDone := true, txq := d.txq.filter (fun m => m.use != .cable) }))
    capsCheck p s
/-- VCONN trips: it stays off until the next detach. -/
def vconnTrip (p kind : Nat) (s : State) : State :=
  if !(s.tc p).vconnOn then s
  else
    let s := s.tcOn p (fun t => { t with vconnOn := false, vconnTripped := true })
    let s := s.rsAdd (portReg p 0x418) 20 6 1
    let s := tcEvent p 0x34 kind s
    cableLost p (raiseFault (4 * p + 1) (kind + 1) p 0 0 false s)
/-- VCONN_OC_TRIP (10 R353). -/
def execVconnOcTrip (p : Port) (s : State) : Host.Outcome State Fault Refusal := .next (happen (vconnTrip p 1) s)
/-- VCONN_SHORT_TRIP (10 R353). -/
def execVconnShortTrip (p : Port) (s : State) : Host.Outcome State Fault Refusal := .next (happen (vconnTrip p 2) s)

/-! ### Flood buckets and quarantine release (10 R366, R369) -/

def doFloodBucketRoll (p : Nat) (s : State) : State := s.tcOn p (fun t => { t with buckets := 0 :: t.buckets.take 7 })
/-- FLOOD_BUCKET_ROLL: a new bucket opens and the eighth before it leaves the window (10 R366). -/
def execFloodBucketRoll (p : Port) (s : State) : Host.Outcome State Fault Refusal := .next (doFloodBucketRoll p s)
def doQuarantineReleaseExpire (p : Nat) (s : State) : State :=
  let t := s.tc p
  if !t.quarantine || bits t.guard.toNat 16 8 == 0 then s
  else if t.flood ≤ t.floodLimit then errorRecovery p 3 s
  else s
/-- QUARANTINE_RELEASE_EXPIRE: the port goes to ErrorRecovery, or the minutes are counted again (10 R369). -/
def execQuarantineReleaseExpire (p : Port) (s : State) : Host.Outcome State Fault Refusal :=
  .next (happen (doQuarantineReleaseExpire p) s)

/-! ### The UART bridge (10 R357 – R360) -/

/-- Whether the part transmits on SBU1 (10 R357). -/
def State.txOnSbu1 (s : State) (p : Nat) : Bool := (!((s.tc p).orient && (s.tc p).st != .unorientedDebug)) != s.brgSwap p
/-- A write into the bridge block; none for a VF under FLR (03 R116). -/
def brgWrite (p off : Nat) (bs : List Byte) (s : State) : State :=
  if s.pcie.flr.contains (s.portOwner p) then s else s.emit (.hostWrite (s.portOwner p) (s.brgBase p + off) bs)
/-- Bytes written into RX_BUF, around its end (10 R358). -/
def brgRx (p pos : Nat) (bs : List Byte) (s : State) : State :=
  let room := 4096 - pos % 4096
  let s := if bs.isEmpty then s else brgWrite p (0x2000 + pos % 4096) (bs.take room) s
  if bs.length ≤ room then s else brgWrite p 0x2000 (bs.drop room) s
def doBridgePoll (p : Nat) (txProd rxCons : Nat) (tx : List Byte) (s : State) : State :=
  if !(s.tc p).bridge || s.pcie.flr.contains (s.portOwner p) then s
  else
    let b := s.brg p
    let n := sub32 txProd b.txProd
    let s := s.brgOn p (fun b => { b with txProd, rxCons, txBytes := b.txBytes ++ tx.take n, rxBytes := [], rxWritten := b.rxProd })
    if b.rxBytes.isEmpty then s
    else
      let s := brgWrite p 0x80 (leBytes 4 b.rxProd) (brgRx p b.rxWritten b.rxBytes s)
      if rxCons = b.rxWritten then portEvent p 0x36 (sub32 b.rxProd rxCons % 8192) .usb2 false s else s
/-- BRIDGE_POLL: the poll of the bridge block, every 1 ms (10 R360); none for a VF under FLR (03 R116). -/
def execBridgePoll (p : Port) (txProd rxCons : Word) (tx : List Byte) (s : State) : Host.Outcome State Fault Refusal :=
  .next (happen (doBridgePoll p txProd.toNat rxCons.toNat tx) s)
def doUartByteReceived (p : Nat) (b : Byte) (bad : Bool) (s : State) : State :=
  let x := s.brg p
  if !(s.tc p).bridge then s
  else if bad then s.rsAdd (portReg p 0x42C) 16 16 1
  else if 4096 < sub32 (add32 x.rxProd 1) x.rxCons then s.rsAdd (portReg p 0x42C) 0 16 1
  else s.brgOn p (fun x => { x with rxProd := add32 x.rxProd 1, rxBytes := x.rxBytes ++ [b] })
/-- UART_BYTE_RECEIVED (10 R360). -/
def execUartByteReceived (p : Port) (b : Byte) (bad : Bool) (s : State) : Host.Outcome State Fault Refusal := .next (doUartByteReceived p b bad s)
def doUartByteSent (p : Nat) (s : State) : State :=
  match (s.brg p).txBytes with
  | [] => s
  | b :: rest =>
    if !(s.tc p).bridge then s
    else
      let n := add32 (s.brg p).txCons 1
      let s := (s.emit (.uart p (s.txOnSbu1 p) b)).brgOn p (fun x => { x with txBytes := rest, txCons := n })
      brgWrite p 0x40 (leBytes 4 n) s
/-- UART_BYTE_SENT: a byte has gone out, and TX_CONS is written (10 R357, R360). -/
def execUartByteSent (p : Port) (s : State) : Host.Outcome State Fault Refusal := .next (doUartByteSent p s)

end Sys2Proof.Machine
end

