-- ==== Sys2Proof/Machine/UnitOps.lean ====
section
/-! DEFINITION. Built-in actions of fault sources and the recoveries of core units (15 R519, R522, R523, R533; 05 R178, R203;
01 R40, R41): paths held at OFF, retired banks, lost ring engines, Faulted contexts, keeper restarts. -/

namespace Sys2Proof.Machine

open Sys2Proof

/-! ### Paths that the bed turns to OFF -/

/-- A path goes to OFF without a message: its contract is void; LATCHED stays (15 R519; 17 R570). -/
def pathKill (p : Nat) (s : State) : State :=
  match (s.path p).st with
  | .ramp | .on | .trip | .cool =>
    let s := voidContract p 0 s
    let s := s.pdOn p (fun d => { d with capsDue := d.attached && (s.tc p).source, offered := [], awaits := none })
    pathOff p false s
  | _ => s
/-- The paths of a port are held at OFF for a cause: 4 thermal shutdown, 5 VDD_HV (15 R519; 17 R570). -/
def hvDown (hold p : Nat) (s : State) : State :=
  serveWaiting ((pathKill p s).pathOn p (fun x => { x with hold := hold :: x.hold.filter (· != hold), queued := none }))
/-- The cause has ended: a port that is not under POWER-OFF and not LATCHED resumes its profile's attach behaviour (15 R519; 17 R570). -/
def hvUp (hold p : Nat) (s : State) : State :=
  let s := s.pathOn p (fun x => { x with hold := x.hold.filter (· != hold) })
  if (s.path p).st = .latched ∨ !(s.path p).hold.isEmpty ∨ (s.tc p).powerOff ∨ (s.tc p).retired then s
  else match s.profile p with
    | .typec => if (s.tc p).st.attached then ccLook p (tcDetach p 0 2 (enterUnattached p) s) else s
    | .disabled => s
    | _ => pathSeek p s

/-- EFUSE-CHAIN (15 R519): the disagreeing copy is set aside, and a second disagreement turns the path to OFF for good. -/
def chainDisagrees (p : Nat) (s : State) : State :=
  if (s.path p).chainAside then serveWaiting ((pathKill p s).pathOn p (fun x => { x with forceOff := true }))
  else s.pathOn p (fun x => { x with chainAside := true })

/-- A command that only the PF may give: PARAMETER-ERROR, FUNCTION-REFUSED (03 R112), what the state refuses, then its effect. -/
def pfCmd (c : Instr) (h : CmdHdr) (opcode : Nat) (keys : List WaitKey) (bad : Bool) (check : State → Option (Nat × Nat)) (ok : State → State) (s : State) : State :=
  command c h keys (fun s =>
    if bad then cmdDone h opcode ccParam 0 0 s
    else if h.fn.val ≠ 0 then cmdDone h opcode ccFunction 0 0 s
    else match check s with
      | some e => cmdDone h opcode e.1 e.2 0 s
      | none => ok s) s

/-! ### Records of built-in recoveries -/

def unitsOn (g : Units → Units) (s : State) : State := { s with units := g s.units }
/-- A built-in recovery has ended: PHASE 1 when the source's reaction is NOTIFY or heavier (15 R519). -/
def recovered (n cause unit : Nat) (s : State) : State :=
  if s.reactOf n = 0 then s else faultEvent { src := n, cause, unit, real := true, react := FltRec.taken { src := n, cause, unit, react := s.reactOf n } } 1 false s

/-! ### The trough (15 R523, R532, R533) -/

/-- A bank is retired, with PHASE 3; a march of another bank is abandoned first. -/
def bankRetire (k cause : Nat) (s : State) : State :=
  if s.units.retiredBanks.contains k then s
  else
    let s := unitsOn (fun u => { u with
      fallowOn := false, fallowMoved := false, retiredBanks := sortBy id (k :: u.retiredBanks), rebuildingBank := some k, rebuilt := u.rebuilt.filter (fun x => x.1 != k) }) s
    fltCause { src := 592 + k, cause, unit := k, real := true, phase := 3 } .quiet s
/-- A word of a bank has been rebuilt from its parity group; the second within 24 h retires the bank. -/
def wordRebuilt (k : Nat) (s : State) : State :=
  let t := s.time.local_
  let again := s.units.rebuilt.any (fun x => x.1 == k && decide (t < x.2 + 24 * 60 * minuteNs))
  let s := unitsOn (fun u => { u with rebuilt := u.rebuilt.filter (fun x => x.1 != k) ++ [(k, t)] }) s
  if again then bankRetire k 2 s else s

/-! ### Contexts (05 R178, R179, R203) -/

/-- One copy of a context is lost: Faulted until it is rebuilt; nothing of it executes on the bus. -/
def epFault (k : Nat) (s : State) : State :=
  let e := s.ep k
  if e.st = .closed ∨ e.st = .faulted then s
  else
    let s := pruneWin e.port (fun j => j == k || (keyStream k == 0 && epRoot j == k)) s
    let s := if keyStream k = 0 then forEach (s.epAll k) (fun j s => s.epOn j (fun x => x.offWire.ledRevoke 0)) s else s
    s.epOn k (fun x => { x.offWire.ledRevoke 0 with st := .faulted, was := x.st, wasProd := x.prod, rev := none })

/-! ### Ring engines, keepers, thermal -/

/-- A ring engine is lost: its endpoints are handed to the other engines (01 R40), and those in a bundle, whose records have not left, are Faulted
(05 R178, R202). -/
def ringLost (k : Nat) (s : State) : State :=
  if s.units.ringLost.contains k then s
  else
    let s := unitsOn (fun u => { u with ringLost := sortBy id (k :: u.ringLost) }) s
    let keys := (s.eps.filter (fun x => keyBell x.1 % 16 == k && (x.2.st == .idle || x.2.st == .running))).map (·.1)
    forEach keys (fun k s => if (s.ep k).pend || s.epWaits (epRoot k) then epFault k s else handOver k (s.ep k).prod s) s
/-- The keeper pair restarts from its last bundle (15 R522; 14, FW_STATUS). -/
def keeperRestart (s : State) : State := s.rsAdd 0x13000C 16 8 1
/-- The core die's shutdown: SAFE-HOLD and a step-down (15 R519). -/
def coreHot (r : FltRec) (s : State) : State :=
  let s := if s.flt.safeHold then s else safeHoldEnter r s
  stepDown (s.fltSrcOn r.src (fun x => { x with safe := true }))

/-- A sieve is emptied: its items count in LOST, and SIEVE-RESET is written; CROSSED stays until the exporter has found the sieve below LEVEL
(16 R541, R543, R548; 15 R518). -/
def sieveReset (p : Nat) (s : State) : State :=
  if !(s.cap p).running then s
  else
    let n := (s.cap p).recs.length
    let s := s.capOn p (fun c => { c with recs := [], claimed := false })
    capEvent p 3 0 0 (if n = 0 then s else capLost p n s)
/-- The keepers write the copies of PWR_CFG, CF_WATCH and the power-persist setting into the cold frame (13 R460, R462). -/
def coldCopies (s : State) : State :=
  let w := (List.range 64).filterMap (fun i => let v := s.rget (watchReg i); if v = 0 then none else some (i, v))
  { modeOn (fun m => { m with pwrCopy := BitVec.ofNat 32 (s.rget 0x110000), watchCopy := w, retention := true, rewriteDue := false }) s with
    boot := { s.boot with persistCopy := s.boot.persist } }

/-- The latest ring record, whose verify failed, is written again to the next slot before the failure itself is recorded (01 R42; 15 R518,
R522). -/
def almRewrite (s : State) : State :=
  let last := if s.alm.nextSlot ≤ 64 then 8191 else s.alm.nextSlot - 1
  let r : AlmRec := tget {} s.alm.slots last
  if r.seq = 0 then s
  else { s with alm := { s.alm with slots := tput {} (terase s.alm.slots last) s.alm.nextSlot r, nextSlot := nextRing s.alm.nextSlot, writes := s.alm.writes + 1 } }

/-- The built-in action of a source, taken whatever its reaction (15 R518, R519, R522). -/
def builtIn (r : FltRec) (s : State) : State :=
  let n := r.src
  if 512 ≤ n ∧ n < 576 then
    let b := (n - 512) / 8
    if n % 8 = 4 then chainDisagrees (16 * b + r.info % 16) s
    else if n % 8 = 6 ∧ r.cause = 2 then forEach (portsOf b) (hvDown 4) (s.bedOn b (fun x => { x with hot := true }))
    else s
  else if 576 ≤ n ∧ n < 592 then (if r.cause = 2 then recovered n 2 (n - 576) (ringLost (n - 576) s) else recovered n r.cause (n - 576) s)
  else if 592 ≤ n ∧ n < 624 then (if r.cause = 1 then wordRebuilt (n - 592) s else s)
  else if n = 624 then forEach (s.slotEps (slotKey (s.portOwner (r.unit % 128)) (r.info % 16384))) epFault s
  else if n = 626 then sieveReset (r.unit % 128) s
  else if 627 ≤ n ∧ n < 636 then
    (if r.cause = 1 ∨ r.cause = 3 then recovered n r.cause (n - 627) (threadFault (n - 627) (r.cause == 3) s)
     else if r.cause = 2 then recovered n 2 (n - 627) s else s)
  else if n = 636 then recovered 636 r.cause 0 (keeperRestart s)
  else if n = 641 then stepDown (tempoEvent 4 s)
  else if n = 643 then modeOn (fun m => { m with rewriteDue := true }) s
  else if n = 646 then s.cfgFnOn 0 (fun c => { c with aerCor := c.aerCor ||| BitVec.ofNat 32 (2 ^ 14) })
  else if n = 659 ∧ r.cause = 2 then coreHot r s
  else s
/-- A unit reports a fault (15 R505, R519): its record and reaction, then the source's built-in action; a bank that is retired has one
record, with PHASE 3. -/
def unitFault (r : FltRec) (lasting : Bool) (s : State) : State :=
  let r := { r with real := true }
  if (catalogue r.src).isNone then s
  else if 592 ≤ r.src ∧ r.src < 624 ∧ (r.cause = 2 ∨ r.cause = 3) then bankRetire (r.src - 592) r.cause s
  else builtIn r (fltCause r (if lasting then .fault else .quiet) (if r.src = 644 then almRewrite s else s))
/-- A unit reports a single happening. -/
def unitOnce (n cause unit info : Nat) (s : State) : State := unitFault { src := n, cause, unit, info } false s

end Sys2Proof.Machine
end

