-- ==== Sys2Proof/Machine/Almanac.lean ====
section
/-! DEFINITION. READ ALMANAC, the SMBus target, the timebase and telemetry (16 R551 – R563). -/

namespace Sys2Proof.Machine

open Sys2Proof

/-! ### READ ALMANAC (16 R559) -/

def raCount (q : Params) : Nat := max 1 (bits (p0 q) 16 8)
def raBad (q : Params) : Bool := bits (p0 q) 13 3 != 0 || bits (p0 q) 25 39 != 0 || decide (128 < raCount q) || p1 q % 64 != 0 || p2 q != 0
/-- The slots FIRST to FIRST + COUNT − 1, wrapping. -/
def raSlots (q : Params) : List Nat := (List.range (raCount q)).map (fun i => (bits (p0 q) 0 13 + i) % 8192)
def doReadAlmanacSlots (c : Instr) (h : CmdHdr) (q : Params) (s : State) : State :=
  pfCmd c h 0x34 [] (raBad q) (fun _ => none)
    (fun s => cmdDone h 0x34 ccSuccess ((raSlots q).filter s.almValid).length 0 (s.emit (.hostWrite 0 (p1 q) ((raSlots q).flatMap s.almSlot)))) s
/-- READ ALMANAC with INFO 0 (16 R559). -/
def execReadAlmanacSlots (h : CmdHdr) (q : Params) (s : State) : Host.Outcome State Fault Refusal := .next (doReadAlmanacSlots (.readAlmanacSlots h q) h q s)
def doReadAlmanacInfo (c : Instr) (h : CmdHdr) (q : Params) (s : State) : State :=
  pfCmd c h 0x34 [] (raBad q) (fun _ => none) (fun s => cmdDone h 0x34 ccSuccess 0 0 (s.emit (.hostWrite 0 (p1 q) s.almInfo))) s
/-- READ ALMANAC with INFO 1 (16 R559). -/
def execReadAlmanacInfo (h : CmdHdr) (q : Params) (s : State) : Host.Outcome State Fault Refusal := .next (doReadAlmanacInfo (.readAlmanacInfo h q) h q s)

/-! ### The SMBus target (16 R561, R563) -/

/-- The target answers from PERST_N release (16 R561). -/
def smbReply (bs : List Byte) (s : State) : State := if s.sup.perst then s else s.emit (.smbus bs)
/-- The identity block; field sizes and padding: notes/assumptions/5.md. -/
def State.smbIdentity (s : State) : List Byte :=
  leBytes 2 0x1EF7 ++ leBytes 2 0x5A80 ++ leBytes 1 0x10 ++ leBytes 16 s.otp.uid.toNat ++ leBytes 1 s.otp.life.code ++ leBytes 1 s.otp.floor ++ List.replicate 9 0
/-- SMBUS_IDENTITY (16 R561). -/
def execSmbusIdentity (s : State) : Host.Outcome State Fault Refusal := .next (smbReply s.smbIdentity s)
def State.smbStatus (s : State) : Nat := s.boot.st.code + s.mode.pwr.code * 16 + b2n s.flt.safeHold * 64 + b2n s.faultN * 128
/-- SMBUS_STATUS (16 R561). -/
def execSmbusStatus (s : State) : Host.Outcome State Fault Refusal := .next (smbReply (leBytes 2 s.smbStatus) s)
/-- SMBUS_ALMANAC_INFO (16 R561). -/
def execSmbusAlmanacInfo (s : State) : Host.Outcome State Fault Refusal := .next (smbReply s.almInfo s)
def doSmbusAlmanacSelect (n : Nat) (s : State) : State := if s.sup.perst || decide (8192 ≤ n) then s else { s with smb := { s.smb with slot := n } }
/-- SMBUS_ALMANAC_SELECT (16 R561): a number that no slot has selects nothing. -/
def execSmbusAlmanacSelect (w : BitVec 16) (s : State) : Host.Outcome State Fault Refusal := .next (doSmbusAlmanacSelect w.toNat s)
def doSmbusAlmanacRead (s : State) : State :=
  if s.sup.perst then s else { smbReply (s.almSlot s.smb.slot) s with smb := { s.smb with slot := (s.smb.slot + 1) % 8192 } }
/-- SMBUS_ALMANAC_READ (16 R561). -/
def execSmbusAlmanacRead (s : State) : Host.Outcome State Fault Refusal := .next (doSmbusAlmanacRead s)
def doSmbusTelemetrySelect (n : Nat) (s : State) : State := if s.sup.perst || decide (9 ≤ n) then s else { s with smb := { s.smb with page := n } }
/-- SMBUS_TELEMETRY_SELECT (16 R561): a number that no page has selects nothing. -/
def execSmbusTelemetrySelect (pg : Byte) (s : State) : Host.Outcome State Fault Refusal := .next (doSmbusTelemetrySelect pg.toNat s)
/-- Page 0: nine temperatures, tempo index, VOUT, core power, 16 rails (16 R563). -/
def State.telePage0 (s : State) : List Byte :=
  (List.range 9).map (fun i => BitVec.ofNat 8 (tget ((0, 0) : Nat × Nat) s.tele.temp i).1) ++ leBytes 2 s.mode.index ++ leBytes 2 s.tele.vout ++ leBytes 2 s.tele.power
    ++ (List.range 16).flatMap (fun i => leBytes 2 (tget 0 s.tele.rail i)) ++ List.replicate 17 0
/-- Page b + 1: VBUS in 20 mV units and current in 10 mA units of each port of bed b (16 R563). -/
def State.telePageBed (s : State) (b : Nat) : List Byte := (portsOf b).flatMap (fun p => leBytes 2 ((s.path p).mv / 20) ++ leBytes 2 ((s.path p).ma / 10))
/-- SMBUS_TELEMETRY_READ (16 R561, R563). -/
def execSmbusTelemetryRead (s : State) : Host.Outcome State Fault Refusal :=
  .next (smbReply (if s.smb.page = 0 then s.telePage0 else s.telePageBed (s.smb.page - 1)) s)
/-- SMBUS_ALERT_RESPONSE (16 R561): SMB_ALERT_N is released. -/
def execSmbusAlertResponse (s : State) : Host.Outcome State Fault Refusal := .next (if s.sup.perst then s else { s with smb := { s.smb with alert := false } })

/-! ### The timebase (16 R552, R553) -/

def timeOn (g : Time → Time) (s : State) : State := { s with time := g s.time }
/-- PTM is in use (16 R553). -/
def State.ptmOn (s : State) : Bool := s.ptmUse && s.pcie.ptmEn
/-- PTM_DIALOGUE (16 R553). -/
def execPtmDialogue (s : State) : Host.Outcome State Fault Refusal :=
  .next (if s.ptmOn && s.served then timeOn (fun t => { t with asked := true }) (s.emit .ptmRequest) else s)
/-- The timebase steps to the host's time (16 R553 rules 1, 3). -/
def tbStep (host : Nat) (s : State) : State :=
  timeOn (fun t => { t with offset := (host : Int) - (t.local_ : Int), epoch := min 255 (t.epoch + 1), aligned := true, rejects := 0, stepNext := false, slew := 0 }) s
def doPtmResponse (host : Nat) (s : State) : State :=
  if !s.ptmOn || !s.time.asked then s
  else
    let err : Int := (host : Int) - (s.now : Int)
    let held : Int := if 32767 < err then 32767 else if err < -32767 then -32767 else err
    let s := timeOn (fun t => { t with asked := false, errorNs := held }) s
    if s.time.stepNext then tbStep host s
    else if 1000000 < err.natAbs then
      let n := s.time.rejects + 1
      let s := unitOnce 642 2 0 0 (timeOn (fun t => { t with rejects := n }) s)
      if 3 ≤ n then tbStep host s else s
    else timeOn (fun t => { t with aligned := true, rejects := 0, slew := err }) s
/-- PTM_RESPONSE (16 R553; 06 R287). -/
def execPtmResponse (hostTime : BitVec 64) (s : State) : Host.Outcome State Fault Refusal := .next (happen (doPtmResponse hostTime.toNat) s)

/-! ### Telemetry (16 R562) -/

/-- A die has cooled below its warning level. -/
def bedCalm (i v : Nat) (s : State) : State := if i ≠ 0 ∧ v < s.warnLevel i then s.bedOn (i - 1) (fun x => { x with warm := false }) else s
def doTelemetryRefresh (t : TeleSample) (s : State) : State :=
  if s.mode.pwr = .dormant then s
  else match t with
    | .temp i v =>
      let pk := (tget ((0, 0) : Nat × Nat) s.tele.temp i.val).2
      bedCalm i.val v.toNat { s with tele := { s.tele with temp := tput (0, 0) s.tele.temp i.val (v.toNat, max pk v.toNat) } }
    | .rail i mv => { s with tele := { s.tele with rail := tput 0 s.tele.rail i.val mv.toNat } }
    | .core mv pw => { s with tele := { s.tele with vout := mv.toNat, power := pw.toNat } }
    | .port p mv ma => s.pathOn p (fun x => { x with mv := mv.toNat, ma := ma.toNat })
/-- TELEMETRY_REFRESH (16 R562, R566): the values are those after the user calibration. -/
def execTelemetryRefresh (t : TeleSample) (s : State) : Host.Outcome State Fault Refusal := .next (doTelemetryRefresh t s)

end Sys2Proof.Machine
end

