-- ==== Sys2Proof/Machine/Pd.lean ====
section
/-! DEFINITION. Power Delivery (11): the protocol layer (10 R361 – R368; 11 R377 – R379), requests and contracts (R384 – R386), EPR
(R387, R390), the part as sink (R391, R392), role swaps (R394 – R397), resets (R399 – R401), alerts and status (R402, R403),
structured VDMs and trellis mode (R404 – R408), and the answers to the part's own requests (R409). -/

namespace Sys2Proof.Machine

open Sys2Proof

/-! ### The protocol layer -/

/-- Control messages the part takes from a partner, by type (11 R374). -/
def ctrlKnown (ty : Nat) : Bool := decide (2 ≤ ty) && decide (ty ≤ 0x18) && ty != 2 && ty != 5
def dataKnown (ty : Nat) : Bool := (decide (1 ≤ ty) && decide (ty ≤ 0xC)) || ty == 0xF
def extKnown (ty : Nat) : Bool := (decide (1 ≤ ty) && decide (ty ≤ 0x12)) || ty == 0x1E
/-- An answer of the partner is awaited. -/
def Pd.awaiting (d : Pd) : Bool := d.awaits.isSome
/-- PS_RDY is awaited (11 R385, R396). -/
def Pd.awaitsRdy (d : Pd) : Bool := d.awaits == some .psRdy || d.transition
/-- A message on SOP that is unexpected in the port's present state (10 R365). -/
def State.unexpected (s : State) (p ty n : Nat) (ext : Bool) : Bool :=
  let d := s.pd p
  let src := (s.tc p).source
  if ext then (ty == 0x11 && src)
  else if n = 0 then
    ty == 0xD || ((ty == 3 || ty == 4 || ty == 0xC || ty == 0x10) && !d.awaiting) || (ty == 6 && !d.awaitsRdy)
  else
    (ty == 1 && src && d.awaits != some .getSrc) || ((ty == 2 || ty == 9) && (!src || d.offered.isEmpty || d.next.isSome || d.transition)) || (ty == 4 && d.awaits != some .getSnk)
/-- A header whose object count the packet does not carry, or a reserved type (10 R365). -/
def badHeader (m : PdRx) (ty n : Nat) (ext : Bool) : Bool :=
  m.objs.length != n || (if ext then n == 0 || !extKnown ty else if n = 0 then !ctrlKnown ty else !dataKnown ty)

def doPdMessageReceived (p : Nat) (m : PdRx) (s : State) : State :=
  let h := m.hdr.toNat
  let ty := bits h 0 5
  let n := bits h 12 3
  let ext := bit h 15
  let id := bits h 9 3
  let d := s.pd p
  let t := s.tc p
  let again := (d.sop m.sop).last == some id
  let seen := fun (s : State) => s.pdOn p (fun d => d.sopPut m.sop { d.sop m.sop with last := some id, stored := some (h, m.objs.map (·.toNat)) })
  if s.persisting p then (if m.good then s.emit (.cc p (.goodCrc m.sop id)) else s)
  else if !t.st.attached || (s.bed (bedOf p)).isolating then s
  else if m.sop ≠ .sop0 ∧ !t.vconnSrc then s.rsAdd (portReg p 0x418) 0 12 1
  else if !m.good then floodItem p s
  else if !d.attached then s
  else if t.quarantine then (if again then s else floodItem p (seen s))
  else if m.sop ≠ .sop0 ∧ !(d.awaiting && d.awaitSop == m.sop) then floodItem p s
  else
    let s := s.emit (.cc p (.goodCrc m.sop id))
    if again then s
    else
      let s := seen s
      let s := if m.sop = .sop0 ∧ bits h 6 2 = 1 then s.pdOn p (fun d => { d with rev3 := false }) else s
      if badHeader m ty n ext || (m.sop == .sop0 && s.unexpected p ty n ext) then floodItem p s else s
/-- PD_MESSAGE_RECEIVED: a packet is acknowledged and stored once, and flood items are counted (10 R361, R364 – R368; 11 R375, R377,
R378; 02 R71). -/
def execPdMessageReceived (p : Port) (m : PdRx) (s : State) : Host.Outcome State Fault Refusal :=
  .next (happen (doPdMessageReceived p m) s)

/-- The stored message of an SOP* is consumed by policy (11 R378). -/
def consume (p : Nat) (x : Sop) (s : State) : State := s.pdOn p (fun d => d.sopPut x { d.sop x with stored := none })

/-- A message that starts a sequence of the part's own (10 R363; 11 R398). -/
def MsgUse.opens : MsgUse → Bool
  | .caps | .swapReq _ | .getSrc | .getSnk | .getStatus | .discover | .cable | .vdmReq | .trellisReq | .hello | .eprEnter | .eprExit | .alert _ | .softReset true => true
  | _ => false
/-- In trellis mode, whether this end starts first after both were stopped: the lower port number, and of equal ones the lower UID (11 R398). -/
def State.startsFirst (s : State) (p : Nat) : Bool :=
  match (s.pd p).trellis, (s.pd p).trellisPeer with
  | .entered, some (v1, v2) => decide (p < v1 % 128) || (p == v1 % 128 && decide (s.otp.uid.toNat % two32 ≤ v2))
  | _, _ => true
/-- Whether the message at the front may go out now (10 R363; 11 R398): the part's own sequences wait for tSinkTx as source, for SinkTxOk as
sink, and for the end of the sequence of a partner that starts first. -/
def State.mayStart (s : State) (p : Nat) (m : PdTx) : Bool := !m.onWire && !((s.pd p).yields && m.use.opens) && (!m.sinkTx || (!(s.tc p).source && (s.tc p).rp == 3))
/-- A message goes onto the wire. -/
def pdEmit (p : Nat) (m : PdTx) (s : State) : State :=
  let id := ((s.pd p).sop m.sop).tx
  let s := s.pdOn p (fun d => { d with
    txq := { m with onWire := true, sinkTx := false } :: d.txq.tail, offered := if m.use = .caps then m.objs else d.offered,
    offeredEpr := if m.use = .caps then m.ext else d.offeredEpr })
  s.emit (.cc p (.msg m.sop id m.ty m.ext m.objs))
/-- Hard Reset signalling goes onto the wire. -/
def hardEmit (p : Nat) (s : State) : State := (s.pdOn p (fun d => { d with hardPending := false })).emit (.cc p .hardReset)
def doCcLineIdle (p : Nat) (s : State) : State :=
  let d := s.pd p
  if (s.bed (bedOf p)).isolating then s
  else if d.hardPending then hardEmit p s
  else match d.txq with
    | [] => s
    | m :: _ => if s.pdLive p && s.mayStart p m then pdEmit p m s else s
/-- CC_LINE_IDLE: the line is idle, and what waits is transmitted (10 R362, R363). -/
def execCcLineIdle (p : Port) (s : State) : Host.Outcome State Fault Refusal := .next (doCcLineIdle p s)

/-- Trellis discovery ends without entry (11 R407). -/
def trellisFail (p : Nat) (s : State) : State :=
  if (s.pd p).trellis = .entered ∨ (s.pd p).trellis = .hello then s else s.pdOn p (fun d => { d with trellis := .no })
/-- A transmission has failed after nRetryCount repeats (11 R379, R385): what Revision 3.2 provides for the message concerned. -/
def pdFailed (p : Nat) (m : PdTx) (s : State) : State :=
  match m.use with
  | .softReset _ => hardSend p 1 s
  | .caps =>
    let s := pdOpDone p .caps 5 none s
    if (s.pd p).con.isSome then softReset p .sop0 false s
    else s.pdOn p (fun d => { d with capsCount := d.capsCount + 1, capsDue := decide (d.capsCount + 1 < 50) })
  | .cable => s
  | .vdmReq | .vdmAns | .discover => pdOpDone p m.use 5 none s
  | .trellisReq | .hello | .enterMode | .exitMode => trellisFail p s
  | u =>
    let s := pdOpDone p u 5 none s
    if m.sop = .sop0 then softReset p .sop0 false s else s
/-- An attempt has failed: the message is sent again with the same MessageID, at most nRetryCount times (11 R376, R379). -/
def txFail (p : Nat) (s : State) : State :=
  match (s.pd p).txq with
  | [] => s
  | m :: rest =>
    if m.tries < 2 then s.pdOn p (fun d => { d with txq := { m with tries := m.tries + 1, onWire := false } :: rest })
    else seqEnd p (pdFailed p m (s.pdOn p (fun d => { d with txq := rest })))
def doCcIdleTimeout (p : Nat) (s : State) : State :=
  let d := s.pd p
  if (s.bed (bedOf p)).isolating then s
  else if d.hardPending then hardEmit p s
  else match d.txq with
    | [] => s
    | m :: _ => if s.pdLive p && s.mayStart p m then txFail p (s.rsAdd (portReg p 0x414) 16 8 1) else s
/-- CC_IDLE_TIMEOUT: no idle within 1 ms; Hard Reset goes out regardless, any other message counts as failed (10 R362). -/
def execCcIdleTimeout (p : Port) (s : State) : Host.Outcome State Fault Refusal := .next (happen (doCcIdleTimeout p) s)
def State.onWire (s : State) (p : Nat) : Bool := ((s.pd p).txq.head?.map (·.onWire)).getD false
def doCcCollision (p : Nat) (s : State) : State :=
  if s.onWire p then
    let opens := ((s.pd p).txq.head?.map (·.use.opens)).getD false
    txFail p ((s.rsAdd (portReg p 0x414) 24 8 1).pdOn p (fun d => { d with yields := d.yields || (opens && !s.startsFirst p) }))
  else s
/-- CC_COLLISION: a transmission is stopped by another talker (10 R362; 11 R397, R398). -/
def execCcCollision (p : Port) (s : State) : Host.Outcome State Fault Refusal := .next (happen (doCcCollision p) s)
def doTreceiveExpire (p : Nat) (s : State) : State := if s.onWire p then txFail p s else s
/-- TRECEIVE_EXPIRE: no GoodCRC within tReceive (11 R379, R385). -/
def execTreceiveExpire (p : Port) (s : State) : Host.Outcome State Fault Refusal := .next (happen (doTreceiveExpire p) s)
def doSinktxWaitExpire (p : Nat) (s : State) : State :=
  if (s.tc p).source then s.pdOn p (fun d => { d with txq := d.txq.map (fun m => { m with sinkTx := false }) }) else s
/-- SINKTX_WAIT_EXPIRE: tSinkTx ends, and the source's own sequence may start (10 R363). -/
def execSinktxWaitExpire (p : Port) (s : State) : Host.Outcome State Fault Refusal := .next (doSinktxWaitExpire p s)

/-! ### Role swaps -/

def swapCode : SwapKind → Nat
  | .dr => 1
  | .pr => 2
  | .vconn => 3
def swapTy : SwapKind → Nat
  | .dr => 9
  | .pr => 0xA
  | .vconn => 0xB
/-- A swap has ended: its SWAP event, and the answer of a PD REQUEST (11 R409, R412). -/
def swapEnd (p : Nat) (k : SwapKind) (byMe : Bool) (s : State) : State :=
  let s := s.pdOn p (fun d => { d with swap := .none, yields := false, awaits := if d.awaits = some .psRdy then none else d.awaits })
  let s := pdEvent p 5 0 0 (if byMe then 1 else 2) (swapCode k) s
  let s := if byMe then (pdOpDone p (.swapReq k) 1 none s).pdOn p (fun d => { d with reSent := false }) else s
  capsCheck p (seqEnd p s)
/-- The data role changes (11 R396; 09 R337). -/
def dataSwap (p : Nat) (byMe : Bool) (s : State) : State :=
  let s := refreshRole p 5 true (s.tcOn p (fun t => { t with dfp := !t.dfp }))
  trellisStart p (refreshBridge p (swapEnd p .dr byMe s))
/-- A PR_Swap or VCONN_Swap has been accepted and is carried out (11 R395, R396): the source goes to vSafe0V, a sink opens its path, and
the new VCONN source turns VCONN on and reports it. -/
def swapStart (p : Nat) (k : SwapKind) (byMe : Bool) (s : State) : State :=
  match k with
  | .dr => dataSwap p byMe s
  | .pr =>
    let held := if (s.tc p).source then s.holding p else (s.pd p).grant
    let src := (s.tc p).source
    let s := eprLeave p s
    let s := s.pdOn p (fun d => { d with
      swap := .transit .pr byMe, con := none, next := none, transition := false, grant := if src then 0 else held, oldGrant := if src then held else 0, ppsCl := false,
      awaits := if src then none else some .psRdy })
    pathOff p false (s.tcOn p (fun t => { t with sinkTxNg := false }))
  | .vconn =>
    let s := s.pdOn p (fun d => { d with swap := .transit .vconn byMe, awaits := if (s.tc p).vconnSrc then some .psRdy else none })
    if (s.tc p).vconnSrc then s else pdReply p (msg 6 [] .psRdy) (setVconn p true s)

def doDrSwapAcceptAcked (p : Nat) (s : State) : State :=
  match (s.pd p).txq with
  | m :: rest =>
    if m.onWire ∧ m.use = .swapAccept .dr then
      dataSwap p false (s.pdOn p (fun d => ({ d with txq := rest }).sopPut m.sop { d.sop m.sop with tx := ((d.sop m.sop).tx + 1) % 8 }))
    else s
  | [] => s
/-- DR_SWAP_ACCEPT_ACKED: the GoodCRC for a DR_Swap Accept changes the data role (11 R396; 09 R337). -/
def execDrSwapAcceptAcked (p : Port) (s : State) : Host.Outcome State Fault Refusal := .next (happen (doDrSwapAcceptAcked p) s)

/-! ### GoodCRC -/

/-- EPR mode is entered (11 R387, R412). -/
def eprEnter (p : Nat) (s : State) : State := pdEvent p 14 0 0 1 0 (s.pdOn p (fun d => { d with epr := true }))
/-- A request of the part has been acknowledged; its answer is awaited. -/
def await (p : Nat) (m : PdTx) (s : State) : State := s.pdOn p (fun d => { d with awaits := some m.use, awaitSop := m.sop })
/-- A message has been acknowledged by GoodCRC: what follows, by its use (11 R379, R385, R387, R396, R402, R407, R409). -/
def pdSent (p : Nat) (m : PdTx) (s : State) : State :=
  match m.use with
  | .caps => await p m (s.pdOn p (fun d => { d with capsCount := 0, cableDone := true }))
  | .accept => contractEffect p s
  | .reject => pdOpDone p .caps 2 none s
  | .wait => pdOpDone p .caps 3 none s
  | .psRdy =>
    (match (s.pd p).swap with
     | .transit .pr me => if (s.tc p).source then swapEnd p .pr me (s.pdOn p (fun d => { d with capsDue := true })) else s.pdOn p (fun d => { d with awaits := some .psRdy })
     | .transit .vconn me => swapEnd p .vconn me s
     | _ => if (s.pd p).transition then contractDone p s else s)
  | .swapReq k => await p m (s.pdOn p (fun d => { d with swap := .mine k }))
  | .swapAccept k => swapStart p k false s
  | .swapAnswer => s.pdOn p (fun d => { d with swap := match d.swap with | .theirs _ => .none | x => x })
  | .alert ado => pdEvent p 9 ado 0 0 0 s
  | .vdmReq => if vdmCmd (m.objs.headD 0) = 6 then pdOpDone p .vdmReq 0 none s else await p m s
  | .softReset _ | .request | .hello | .trellisReq | .discover | .cable | .eprEnter | .getSrc | .getSnk | .getStatus => await p m s
  | .enterMode => trellisHello p s
  | .exitMode => trellisLeave p s
  | .eprAck => pdReply p (msg 0xA [3 * 2 ^ 24] .eprOk) s
  | .eprOk => sendCaps p (eprEnter p s)
  | .eprExit =>
    let s := pdOpDone p .eprExit 0 none (eprLeave p s)
    if (s.tc p).source then sendCaps p s else s
  | .eprFail | .status | .vdmAns | .keepAlive | .notSupported | .other => s

/-- The sequence of a partner that starts first has ended with the part's answer (11 R398). -/
def yieldEnd (p : Nat) (u : MsgUse) (s : State) : State :=
  s.pdOn p (fun d => { d with yields := d.yields && (u.opens || d.swap != .none || d.next.isSome || d.transition) })
def doGoodcrcReceived (p : Nat) (x : Sop) (id : Nat) (s : State) : State :=
  let d := s.pd p
  match d.txq with
  | m :: rest =>
    if m.onWire ∧ m.sop = x ∧ (d.sop x).tx = id then
      capsCheck p (seqEnd p (yieldEnd p m.use (pdSent p m (s.pdOn p (fun d => ({ d with txq := rest }).sopPut x { d.sop x with tx := (id + 1) % 8 })))))
    else s
  | [] => s
/-- GOODCRC_RECEIVED: the transmit MessageID advances, and the acknowledged message takes its effect (11 R379, R385). -/
def execGoodcrcReceived (p : Port) (sop : Sop) (id : BitVec 3) (s : State) : Host.Outcome State Fault Refusal :=
  .next (happen (doGoodcrcReceived p sop id.toNat) s)

/-! ### The part as source -/

/-- The answer to a Request (11 R384; 15 R513): 0 Accept, 1 Wait, 2 Reject, and the contract it would make. -/
def State.requestAnswer (s : State) (p rdo : Nat) : Nat × Option Contract :=
  match (s.pd p).asks rdo with
  | none => (2, none)
  | some c =>
    if (c.kind == .pps && !s.ppsEn p) || (c.kind == .avs && !s.avsEn p) then (2, some c)
    else if s.flt.safeHold then (if ((s.pd p).con.map (·.rdo)) == some rdo then 0 else 1, some c)
    else if s.available p < c.mw then (1, some c)
    else (0, some c)
/-- The grant and the contract record are committed before the Accept (11 R385). -/
def acceptRequest (p : Nat) (c : Contract) (s : State) : State :=
  let old := s.holding p
  let s := s.pdOn p (fun d => { d with next := some c, grant := c.mw, oldGrant := old, waitSince := none })
  pdReply p (msg 3 [] .accept) s
def doRequestReceived (p rdo : Nat) (s : State) : State :=
  let d := s.pd p
  if !s.pdLive p || !(s.tc p).source || d.offered.isEmpty then s
  else
    let s := consume p .sop0 s
    if d.transition then hardSend p 1 s
    else if d.next.isSome then softReset p .sop0 false s
    else
      let s := s.pdOn p (fun d => { d with awaits := if d.awaits = some .caps then none else d.awaits })
      let (dflt, c) := s.requestAnswer p rdo
      let (a, s) := graftNarrow 1 p dflt s
      match c, a with
      | some c, 0 => acceptRequest p c s
      | some c, 1 =>
        let s := s.rsAdd (portReg p 0x51C) 16 8 1
        let s := s.pdOn p (fun d => { d with waitSince := some (d.waitSince.getD s.time.local_) })
        pdReply p (msg 0xC [] .wait) (pdEvent p 6 rdo 0 c.mw 0 s)
      | _, _ => pdReply p (msg 4 [] .reject) s
/-- REQUEST_RECEIVED: the answer to a Request, with the grant and the contract record committed before an Accept (11 R384 – R386;
15 R513; 14 R490). -/
def execRequestReceived (p : Port) (rdo : Word) (s : State) : Host.Outcome State Fault Refusal :=
  .next (happen (doRequestReceived p rdo.toNat) s)

def doSrcTransitionExpire (p : Nat) (s : State) : State :=
  let d := s.pd p
  match d.con with
  | some c =>
    if !d.transition || !(s.tc p).source then s
    else if s.hwOnly p && (s.path p).target != c.mv then s.pathOn p (fun x => { x with queued := some (.target c.mv c.fuseMa) })
    else
      let s := pathTarget p c.mv c.fuseMa s
      let x := s.path p
      if x.pg && !x.slewing then pgServe p (pathSettle p s) else s
  | none => s
/-- SRC_TRANSITION_EXPIRE: tSrcTransition after the contract took effect, the set-point and the thresholds move (11 R385; 12 R421, R422). -/
def execSrcTransitionExpire (p : Port) (s : State) : Host.Outcome State Fault Refusal := .next (happen (doSrcTransitionExpire p) s)

def doWaitHoldExpire (p : Nat) (s : State) : State :=
  let d := s.pd p
  if d.waitSince.isSome && d.next.isNone && s.pdLive p then sendCaps p s else s
/-- WAIT_HOLD_EXPIRE: a wait episode ends with new Source_Capabilities (11 R386). -/
def execWaitHoldExpire (p : Port) (s : State) : Host.Outcome State Fault Refusal := .next (happen (doWaitHoldExpire p) s)

/-- A contract ends because its keep-alive stopped (11 R390). -/
def keepaliveLost (p kind : Nat) (s : State) : State :=
  hardSend p 4 (pdEvent p 13 0 0 0 kind (s.rsAdd (portReg p 0x51C) 24 8 1))
def doPpsTimeout (p : Nat) (s : State) : State :=
  match (s.pd p).con with
  | some c => if c.kind = .pps ∧ (s.tc p).source ∧ s.pdLive p then keepaliveLost p 1 s else s
  | none => s
/-- PPS_TIMEOUT: no Request within tPPSTimeout (11 R390). -/
def execPpsTimeout (p : Port) (s : State) : Host.Outcome State Fault Refusal := .next (happen (doPpsTimeout p) s)
def doEprKeepaliveTimeout (p : Nat) (s : State) : State :=
  match (s.pd p).con with
  | some c => if c.epr ∧ (s.tc p).source ∧ s.pdLive p then keepaliveLost p 2 s else s
  | none => s
/-- EPR_KEEPALIVE_TIMEOUT: no EPR_KeepAlive within tSourceEPRKeepAlive (11 R390). -/
def execEprKeepaliveTimeout (p : Port) (s : State) : Host.Outcome State Fault Refusal := .next (happen (doEprKeepaliveTimeout p) s)
def doEprKeepaliveReceived (p : Nat) (s : State) : State :=
  if s.pdLive p && (s.tc p).source && (s.pd p).epr then pdReply p { sop := .sop0, ty := 0x10, ext := true, objs := [4], use := .other } (consume p .sop0 s) else s
/-- EPR_KEEPALIVE_RECEIVED: the keep-alive is acknowledged (11 R390). -/
def execEprKeepaliveReceived (p : Port) (s : State) : Host.Outcome State Fault Refusal := .next (doEprKeepaliveReceived p s)

/-- An offer of the old list has no equal or better one in the new (11 R383). -/
def offerFalls (old new : List Nat) : Bool := old.any (fun o => o != 0 && !new.any (fun x => pdoShape x == pdoShape o && decide (pdoAmps o ≤ pdoAmps x)))
def Pd.quiet (d : Pd) : Bool := d.txq.isEmpty && !d.awaiting && d.next.isNone && !d.transition && d.swap == .none
def doOfferChange (p : Nat) (s : State) : State :=
  let d := s.pd p
  let new := s.offers p d.epr
  if !s.pdLive p || !(s.tc p).source || d.con.isNone || !d.quiet || new == d.offered then s
  else
    let s := if offerFalls d.offered new then sendAlert p (2 ^ 28) s else s
    if d.epr ∧ s.available p ≤ 100000 then pdOwn p (msg 0xA [5 * 2 ^ 24] .eprExit) s else sendCaps p s
/-- OFFER_CHANGE: the offers have changed under a contract (11 R383, R387, R402). -/
def execOfferChange (p : Port) (s : State) : Host.Outcome State Fault Refusal := .next (happen (doOfferChange p) s)

/-! ### Cable discovery (11 R406) -/

def doCableDiscoveryTimer (p : Nat) (s : State) : State :=
  let d := s.pd p
  if !s.pdLive p || d.cableDone || d.cableKnown then s
  else if d.cableTries < 3 then
    pdOwn p { sop := .sop1, ty := 0xF, ext := false, objs := [vdmHdr 0xFF00 0 0 1], use := .cable }
      (s.pdOn p (fun d => { d with cableTries := d.cableTries + 1, awaits := if d.awaits = some .cable then none else d.awaits, txq := d.txq.filter (fun m => m.use != .cable) }))
  else cableLost p (s.pdOn p (fun d => { d with awaits := if d.awaits = some .cable then none else d.awaits }))
/-- CABLE_DISCOVERY_TIMER: SOP′ discovery is tried again or given up (11 R382, R406). -/
def execCableDiscoveryTimer (p : Port) (s : State) : Host.Outcome State Fault Refusal := .next (happen (doCableDiscoveryTimer p) s)
def doSendSourceCapTimer (p : Nat) (s : State) : State :=
  if s.pdLive p && (s.tc p).source && (s.pd p).capsDue then capsCheck p (cableLost p s) else s
/-- SEND_SOURCE_CAP_TIMER: Source_Capabilities go out whatever discovery has given (11 R381, R406). -/
def execSendSourceCapTimer (p : Port) (s : State) : Host.Outcome State Fault Refusal := .next (happen (doSendSourceCapTimer p) s)

/-! ### The part as sink (11 R391, R392) -/

/-- Objects of the partner that a test passes: position, voltage in mV asked for, and the RDO at SNK_OP. -/
def State.sinkFixed (s : State) (p : Nat) (epr : Bool) : List (Nat × Nat × Nat) :=
  let l := (s.pd p).partner
  (List.range l.length).filterMap (fun i =>
    let o := l.getD i 0
    let mv := bits o 10 10 * 50
    let op := s.snkOp p
    if o ≠ 0 ∧ bits o 30 2 = 0 ∧ mv ≤ s.snkMax p ∧ op ≤ bits o 0 10 * 10 ∧ (epr = decide (7 ≤ i)) then
      some (i + 1, mv, (i + 1) * 2 ^ 28 + op / 10 * 1024 + op / 10) else none)
def State.sinkPps (s : State) (p : Nat) : List (Nat × Nat × Nat) :=
  let l := (s.pd p).partner
  (List.range l.length).filterMap (fun i =>
    let o := l.getD i 0
    let mv := min (s.snkMax p) (bits o 17 8 * 100)
    let op := s.snkOp p
    if bits o 30 2 = 3 ∧ bits o 28 2 = 0 ∧ bits o 8 8 * 100 ≤ mv ∧ op ≤ bits o 0 7 * 50 then
      some (i + 1, mv, (i + 1) * 2 ^ 28 + mv / 20 * 512 + op / 50) else none)
/-- The highest voltage; of equal ones the first. -/
def bestVolt : List (Nat × Nat × Nat) → Option (Nat × Nat × Nat)
  | [] => none
  | x :: l => match bestVolt l with
    | none => some x
    | some y => if x.2.1 < y.2.1 then some y else some x
/-- The request that the tests of R391 choose; 5 V with Capability Mismatch when no object passes. -/
def State.sinkChoice (s : State) (p : Nat) : Nat :=
  let d := s.pd p
  let snk := (s.tc p).pdSnk.toNat
  let e := if bit snk 25 && s.eprEn p && d.epr then bestVolt (s.sinkFixed p true) else none
  let q := if bit snk 24 && s.ppsEn p then bestVolt (s.sinkPps p) else none
  let f := bestVolt (s.sinkFixed p false)
  match e, q, f with
  | some x, _, _ => x.2.2
  | none, some x, _ => x.2.2
  | none, none, some x => x.2.2
  | none, none, none => let a := bits (d.partner.headD 0) 0 10; 2 ^ 28 + 2 ^ 26 + a * 1024 + a
/-- A graft of PD-POLICY may choose among the capabilities received (14 R490); its answer is free. -/
def graftSinkChoose (p dflt : Nat) (s : State) : Nat × State :=
  match s.graftFor 1 3 p with
  | none => (dflt, s)
  | some g =>
    let r := (Config.graftObjs s.free).headD dflt
    let s := { s with free := s.free + 1 }
    let pos := bits r 28 4
    if 1 ≤ pos ∧ pos ≤ (s.pd p).partner.length ∧ (s.pd p).partner.getD (pos - 1) 0 ≠ 0 then (r, s) else (dflt, graftClip g s)
/-- The part's Request (or EPR_Request with its object), whose contract is kept for the Accept. -/
def sendRequest (p rdo : Nat) (own : Bool) (s : State) : State :=
  let d := s.pd p
  let obj := d.partner.getD (bits rdo 28 4 - 1) 0
  let c := (askOf rdo obj).map (fun x => ({ epr := d.epr, kind := x.2.2, rdo, obj, mv := x.1, ma := x.2.1 } : Contract))
  let s := s.pdOn p (fun d => { d with next := c, rePending := false, sentRdo := rdo })
  let m := if d.epr then msg 9 [rdo, obj] .request else msg 2 [rdo] .request
  if own then pdOwn p m s else pdReply p m s
/-- New capabilities lead to a Request: that of software once, and else the choice of R391. -/
def chooseRequest (p : Nat) (s : State) : State :=
  match (s.pd p).override with
  | some r => sendRequest p r false (s.pdOn p (fun d => { d with override := none }))
  | none =>
    let (r, s) := graftSinkChoose p (s.sinkChoice p) s
    sendRequest p r false s
def doSourceCapsReceived (p : Nat) (epr : Bool) (objs : List Nat) (s : State) : State :=
  if !s.pdLive p || (s.tc p).source then s
  else
    let s := consume p .sop0 s
    let s := s.pdOn p (fun d => { d with partner := objs, partnerEpr := epr, sinkWait := false, rePending := false, next := none, awaits := if d.awaits = some .request then none else d.awaits })
    let s := pdEvent p 7 (objs.headD 0) (objs.tail.headD 0) objs.length (b2n epr) s
    chooseRequest p s
/-- SOURCE_CAPS_RECEIVED: PARTNER-CAPS, and the part's Request (11 R391; 14 R490). -/
def execSourceCapsReceived (p : Port) (epr : Bool) (objs : List Word) (s : State) : Host.Outcome State Fault Refusal :=
  .next (happen (doSourceCapsReceived p epr (objs.map (·.toNat))) s)

def doWaitReceived (p : Nat) (s : State) : State :=
  let d := s.pd p
  let s0 := consume p .sop0 (s.pdOn p (fun d => { d with awaits := none }))
  match d.awaits with
  | some .request => pdOpDone p .request 3 none (s0.pdOn p (fun d => { d with next := none, rePending := true }))
  | some (.swapReq k) => seqEnd p (pdOpDone p (.swapReq k) 3 none (s0.pdOn p (fun d => { d with swap := .none })))
  | _ => s
/-- WAIT_RECEIVED: the Request is to be sent again after SNK_WAIT; a swap ends with ANSWER 3 (11 R392, R409). -/
def execWaitReceived (p : Port) (s : State) : Host.Outcome State Fault Refusal := .next (happen (doWaitReceived p) s)
def doSnkWaitExpire (p : Nat) (s : State) : State :=
  if (s.pd p).rePending && s.pdLive p && !(s.tc p).source then sendRequest p (s.pd p).sentRdo true s else s
/-- SNK_WAIT_EXPIRE: the Request is sent again (11 R392). -/
def execSnkWaitExpire (p : Port) (s : State) : Host.Outcome State Fault Refusal := .next (happen (doSnkWaitExpire p) s)
def doSinkRefreshTimer (p : Nat) (s : State) : State :=
  let d := s.pd p
  if !s.pdLive p || (s.tc p).source then s
  else match d.con with
    | some c =>
      let s := if c.kind = .pps ∧ d.quiet then sendRequest p c.rdo true s else s
      if d.epr then pdOwn p { sop := .sop0, ty := 0x10, ext := true, objs := [3], use := .keepAlive } s else s
    | none => s
/-- SINK_REFRESH_TIMER: a PPS Request or an EPR_KeepAlive is sent (11 R390). -/
def execSinkRefreshTimer (p : Port) (s : State) : Host.Outcome State Fault Refusal := .next (doSinkRefreshTimer p s)

/-- The sink's contract is in force (11 R391 – R393, R412). -/
def sinkContract (p : Nat) (c : Contract) (s : State) : State :=
  let s := s.pdOn p (fun d => { d with con := some c, next := none, transition := false, awaits := none, hardResets := 0 })
  let s := pathTarget p c.mv c.fuseMa s
  let s := pdEvent p 1 c.rdo c.obj 0 (b2n c.epr) s
  let s := pdOpDone p .request 1 none s
  let d := s.pd p
  let s := if !d.epr && bit (s.tc p).pdSnk.toNat 25 && s.eprEn p && bit (d.partner.headD 0) 23 then pdOwn p (msg 0xA [2 ^ 24] .eprEnter) s else s
  trellisStart p s
def doPsRdyReceived (p : Nat) (s : State) : State :=
  let d := s.pd p
  let s0 := consume p .sop0 s
  match d.swap with
  | .transit .pr me =>
    if d.awaits ≠ some .psRdy then s
    else if (s.path p).sinking || d.grant != 0 then
      let s := s0.pdOn p (fun d => { d with awaits := none })
      let s := (setPowerRole p true s).pdOn p (fun d => { d with grant := 0, oldGrant := 0 })
      pathSeek p s
    else swapEnd p .pr me s0
  | .transit .vconn me => if d.awaits = some .psRdy then swapEnd p .vconn me (setVconn p false s0) else s
  | _ =>
    match d.next with
    | some c => if d.transition && !(s.tc p).source then sinkContract p c s0 else s
    | none => s
/-- PS_RDY_RECEIVED: the sink's contract is in force, or the step of a swap follows (11 R396). -/
def execPsRdyReceived (p : Port) (s : State) : Host.Outcome State Fault Refusal := .next (happen (doPsRdyReceived p) s)

/-! ### Swap requests of the partner -/

/-- The answer to a swap request (11 R394, R395; 15 R513): 0 Accept, 1 Wait, 2 Reject. -/
def State.swapAnswer (s : State) (p : Nat) (k : SwapKind) : Nat :=
  let t := s.tc p
  let ok := match k with
    | .dr => s.drSwapCfg p == 3 || s.drSwapCfg p == (if t.dfp then 1 else 2)
    | .pr => s.prSwapCfg p && s.isDrp p
    | .vconn => s.vconnSwapCfg p && (t.vconnSrc || s.vconnEn p)
  if s.flt.safeHold then 1
  else if !ok then 2
  else if k = .pr ∧ !t.source ∧ (s.rpFits p).isNone then 1
  else 0
/-- The power that a PR_Swap to source needs is reserved before the Accept (11 R395). -/
def swapReserve (p : Nat) (k : SwapKind) (s : State) : State :=
  if k = .pr ∧ !(s.tc p).source then
    match s.rpFits p with
    | some l => (s.tcOn p (fun t => { t with rpHeld := l })).pdOn p (fun d => { d with grant := rpPower l })
    | none => s
  else s
/-- An own request in progress is dropped for the partner's (11 R397): ANSWER 6, or it is sent again under RETRY. -/
def dropOwnSwap (p : Nat) (k : SwapKind) (s : State) : State :=
  let again := s.ops.any (fun o => opServes p (.swapReq k) o && (match o.kind with | .pd _ _ r => r | _ => false)) && !(s.pd p).reSent
  let s := s.pdOn p (fun d => { d with swap := .none, awaits := none, swapRetry := if again then some k else none })
  if again then s else pdOpDone p (.swapReq k) 6 none s
def doSwapRequestReceived (p : Nat) (k : SwapKind) (s : State) : State :=
  if !s.pdLive p then s
  else
    let s := consume p .sop0 s
    let d := s.pd p
    if k = .dr ∧ (d.trellis = .hello ∨ d.trellis = .entered) then hardSend p 1 s
    else
      let mine := match d.swap with
        | .mine x => some x
        | _ => none
      if mine.isSome && (s.tc p).source then pdReply p (msg 0xC [] .swapAnswer) s
      else
        let s := match mine with
          | some x => dropOwnSwap p x s
          | none => s
        let (a, s) := graftNarrow 2 p (s.swapAnswer p k) s
        if a = 0 then pdReply p (msg 3 [] (.swapAccept k)) (swapReserve p k (s.pdOn p (fun d => { d with swap := .theirs k })))
        else pdReply p (msg (if a = 1 then 0xC else 4) [] .swapAnswer) s
/-- SWAP_REQUEST_RECEIVED: the answer to the partner's swap request (11 R394 – R398; 15 R513; 14 R490). -/
def execSwapRequestReceived (p : Port) (k : SwapKind) (s : State) : Host.Outcome State Fault Refusal :=
  .next (happen (doSwapRequestReceived p k) s)
def doSwapRetryTimer (p : Nat) (s : State) : State :=
  match (s.pd p).swapRetry with
  | none => s
  | some k =>
    let s := s.pdOn p (fun d => { d with swapRetry := none, reSent := true })
    if s.pdLive p && (s.pd p).con.isSome then pdOwn p (msg (swapTy k) [] (.swapReq k)) s else pdOpDone p (.swapReq k) 6 none s
/-- SWAP_RETRY_TIMER: a dropped swap is sent once more (11 R409). -/
def execSwapRetryTimer (p : Port) (s : State) : Host.Outcome State Fault Refusal := .next (happen (doSwapRetryTimer p) s)

/-! ### EPR mode (11 R387, R392) -/

def State.eprOk (s : State) (p : Nat) : Bool :=
  s.eprEn p && (match (s.pd p).con with | some c => !c.epr | none => false) && s.cableEpr p && decide (280 ≤ (s.hook p).vCeil) && decide (100000 < s.available p)
def doEprModeReceived (p : Nat) (k : EprMode) (s : State) : State :=
  if !s.pdLive p then s
  else
    let s := consume p .sop0 s
    let src := (s.tc p).source
    match k with
    | .enter => if !src then s else if s.eprOk p then pdReply p (msg 0xA [2 * 2 ^ 24] .eprAck) s else pdReply p (msg 0xA [4 * 2 ^ 24] .eprFail) s
    | .exit =>
      if !(s.pd p).epr then s
      else
        let s := eprLeave p s
        if src then sendCaps p s else s
    | .enterAck => s
    | .enterOk => if (s.pd p).awaits = some .eprEnter then pdOpDone p .eprEnter 1 none (eprEnter p (s.pdOn p (fun d => { d with awaits := none }))) else s
    | .enterFail => if (s.pd p).awaits = some .eprEnter then seqEnd p (pdOpDone p .eprEnter 2 none (s.pdOn p (fun d => { d with awaits := none }))) else s
/-- EPR_MODE_RECEIVED (11 R387, R392, R412). -/
def execEprModeReceived (p : Port) (k : EprMode) (s : State) : Host.Outcome State Fault Refusal := .next (happen (doEprModeReceived p k) s)

/-! ### Resets (11 R399 – R401) -/

def doSoftResetReceived (p : Nat) (x : Sop) (s : State) : State :=
  if !s.pdLive p then s
  else
    let s := pdOpsEnd p 5 s
    let s := softEnds p x ((s.pd p).sop x).last s
    let s := s.rsAdd (portReg p 0x51C) 8 8 1
    let s := pdEvent p 4 0 0 (sopCode x) 1 s
    let s := if x = .sop0 ∧ (s.tc p).source then s.pdOn p (fun d => { d with capsDue := true }) else s
    pdReply p { sop := x, ty := 3, ext := false, objs := [], use := .other } s
/-- SOFT_RESET_RECEIVED: the IDs return to 0, the sequence ends, Accept is sent, and capabilities follow as source (11 R379, R400). -/
def execSoftResetReceived (p : Port) (sop : Sop) (s : State) : Host.Outcome State Fault Refusal :=
  .next (happen (doSoftResetReceived p sop) s)
def doHardResetReceived (p : Nat) (s : State) : State :=
  if s.persisting p then persistEnd p 2 s
  else if !(s.pd p).attached || (s.bed (bedOf p)).isolating then s
  else hardReset p 1 1 (floodItem p s)
/-- HARD_RESET_RECEIVED (11 R399, R401; 10 R365, R367; 02 R72). -/
def execHardResetReceived (p : Port) (s : State) : Host.Outcome State Fault Refusal := .next (happen (doHardResetReceived p) s)
def doHardResetSourceOff (p : Nat) (s : State) : State :=
  if !(s.tc p).source || !(s.tc p).st.attached then s
  else (pathOff p false s).pathOn p (fun x => { x with hold := 1 :: x.hold.filter (· != 1) })
/-- HARD_RESET_SOURCE_OFF: VBUS is brought to vSafe0V, and tSrcRecover starts (11 R399; 12 R424). -/
def execHardResetSourceOff (p : Port) (s : State) : Host.Outcome State Fault Refusal := .next (happen (doHardResetSourceOff p) s)
def doSrcRecoverExpire (p : Nat) (s : State) : State :=
  if !(s.path p).hold.contains 1 then s
  else
    let s := s.pathOn p (fun x => { x with hold := x.hold.filter (· != 1) })
    pathSeek p (s.pdOn p (fun d => { d with capsDue := d.attached && !(s.tc p).quarantine && (s.tc p).source }))
/-- SRC_RECOVER_EXPIRE: VBUS returns to vSafe5V, and Source_Capabilities are due (11 R399; 12 R424). -/
def execSrcRecoverExpire (p : Port) (s : State) : Host.Outcome State Fault Refusal := .next (happen (doSrcRecoverExpire p) s)
def doHardResetCountExhausted (p : Nat) (s : State) : State :=
  let d := s.pd p
  if d.attached && d.con.isNone && decide (2 ≤ d.hardResets) then errorRecovery p 0 (pdEvent p 3 0 0 0 4 s) else s
/-- HARD_RESET_COUNT_EXHAUSTED: the port goes to ErrorRecovery (11 R399). -/
def execHardResetCountExhausted (p : Port) (s : State) : Host.Outcome State Fault Refusal :=
  .next (happen (doHardResetCountExhausted p) s)

/-! ### Alerts, status, unsupported messages (11 R374, R402, R403) -/

def doAlertReceived (p ado : Nat) (s : State) : State :=
  if !s.pdLive p || (s.tc p).source then s else pdEvent p 8 ado 0 0 0 (consume p .sop0 s)
/-- ALERT_RECEIVED (11 R403). -/
def execAlertReceived (p : Port) (ado : Word) (s : State) : Host.Outcome State Fault Refusal := .next (happen (doAlertReceived p ado.toNat) s)
/-- Payload of a Status message (11 R402). -/
def State.statusBytes (s : State) (p : Nat) : List Nat :=
  [max 1 (s.dieTemp (bedOf p) - 64), 2, 0, 0, if (s.bed (bedOf p)).warm then 4 else 0, 0, 0]
def doGetStatusReceived (p : Nat) (s : State) : State :=
  if !s.pdLive p then s else pdReply p { sop := .sop0, ty := 2, ext := true, objs := s.statusBytes p, use := .status } (consume p .sop0 s)
/-- GET_STATUS_RECEIVED (11 R402). -/
def execGetStatusReceived (p : Port) (s : State) : Host.Outcome State Fault Refusal := .next (doGetStatusReceived p s)
/-- BIST Carrier Mode, which only a part in Seedling accepts (11 R374). -/
def State.bistCarrier (s : State) (p ty : Nat) : Bool :=
  ty == 3 && s.otp.life == .seedling && (match (s.pd p).s0.stored with | some (_, o :: _) => bits o 28 4 == 5 | _ => false)
def doNotSupportedReceived (p : Nat) (x : Sop) (ty : Nat) (s : State) : State :=
  if !s.pdLive p || s.bistCarrier p ty then consume p x s
  else pdReply p { sop := x, ty := if (s.pd p).rev3 then 0x10 else 4, ext := false, objs := [], use := .notSupported } (consume p x s)
/-- NOT_SUPPORTED_RECEIVED: an unsupported message is answered with Not_Supported, at Revision 2.0 with Reject (11 R374). -/
def execNotSupportedReceived (p : Port) (sop : Sop) (ty : BitVec 5) (s : State) : Host.Outcome State Fault Refusal :=
  .next (doNotSupportedReceived p sop ty.toNat s)

/-! ### Structured VDMs and trellis mode (11 R404 – R408) -/

/-- An answer to a VDM: 1 ACK, 2 NAK, 3 BUSY. -/
def vdmReply (p hdr ctype : Nat) (objs : List Nat) (use : MsgUse) (s : State) : State :=
  pdReply p (msg 0xF (vdmHdr (vdmSvid hdr) (bits hdr 8 3) ctype (vdmCmd hdr) :: objs) use) s
/-- Objects of the Discover Identity ACK (11 R404). -/
def State.identityObjs (s : State) (p : Nat) : List Nat :=
  let t := s.tc p
  let id := t.pdIdent.toNat
  [bits id 0 16 + (if t.dfp then 2 * 2 ^ 23 else 2 * 2 ^ 27) + b2n (s.trellisEn p) * 2 ^ 26, 0, bits id 16 16 * 65536 + 0x0010]
/-- Objects of the TELEMETRY ACK (11 R408). -/
def State.telemetryObjs (s : State) (p : Nat) : List Nat :=
  let x := s.path p
  [x.mv / 20 % 65536 + x.ma / 10 % 65536 * 65536, s.dieTemp (bedOf p) % 256 + s.dieTemp 8 % 256 * 256 + s.mode.index % 65536 * 65536, x.st.code + b2n (s.tc p).quarantine * 8]
/-- Trellis mode is entered (11 R407, PRT_PD_STATUS). -/
def Pd.inTrellis (d : Pd) : Bool := d.trellis == .hello || d.trellis == .entered
/-- The partner's HELLO (11 R407, R408). -/
def helloIn (p v1 v2 : Nat) (s : State) : State :=
  let h := vdmHdr 0x1EF7 1 0 0x10
  if (s.pd p).inTrellis then
    let s := vdmReply p h 1 (s.helloObjs p) .vdmAns s
    if (s.pd p).trellis = .hello then trellisCheck p (s.pdOn p (fun d => { d with trellisPeer := some (v1, v2) })) else s
  else vdmReply p h 2 [] .vdmAns s
def doTrellisHelloReceived (p v1 v2 : Nat) (s : State) : State := if s.pdLive p then helloIn p v1 v2 (consume p .sop0 s) else s
/-- TRELLIS_HELLO_RECEIVED (11 R407, R408; 10 R356). -/
def execTrellisHelloReceived (p : Port) (vdo1 vdo2 : Word) (s : State) : Host.Outcome State Fault Refusal :=
  .next (happen (doTrellisHelloReceived p vdo1.toNat vdo2.toNat) s)
/-- The part sends Exit Mode and leaves trellis mode (11 R396, R407). -/
def trellisExit (p : Nat) (s : State) : State := trellisLeave p (pdOwn p (msg 0xF [vdmHdr 0x1EF7 1 0 5] .other) s)
def doTrellisTimeout (p : Nat) (s : State) : State :=
  if (s.pd p).trellis ≠ .hello then s
  else if (s.tc p).dfp then trellisExit p s
  else s
/-- TRELLIS_TIMEOUT: the exchange has not ended within 100 ms of the Enter Mode ACK (11 R407). -/
def execTrellisTimeout (p : Port) (s : State) : Host.Outcome State Fault Refusal := .next (happen (doTrellisTimeout p) s)

/-- A request under SVID 0x1EF7 (11 R404, R408). -/
def trellisIn (p hdr : Nat) (vdos : List Nat) (s : State) : State :=
  let d := s.pd p
  let pos1 := bits hdr 8 3 == 1
  let nak := vdmReply p hdr 2 [] .vdmAns s
  match vdmCmd hdr with
  | 3 => if s.trellisEn p then vdmReply p hdr 1 [1] .vdmAns s else nak
  | 4 => if s.trellisEn p && pos1 && d.con3 && !(s.tc p).dfp && !d.inTrellis then vdmReply p hdr 1 [] .enterMode s else nak
  | 5 => if pos1 && d.inTrellis then vdmReply p hdr 1 [] .exitMode s else nak
  | 0x10 => helloIn p (vdos.headD 0) (vdos.tail.headD 0) s
  | 0x11 => if d.inTrellis then vdmReply p hdr 1 (s.telemetryObjs p) .vdmAns s else nak
  | _ => nak
/-- A request answered by the part itself, without a graft (11 R404). -/
def vdmIn (p hdr : Nat) (s : State) : State :=
  match vdmSvid hdr, vdmCmd hdr with
  | 0xFF00, 1 => vdmReply p hdr 1 (s.identityObjs p) .vdmAns s
  | 0xFF00, 2 => if s.trellisEn p then vdmReply p hdr 1 [0x1EF7 * 65536] .vdmAns s else vdmReply p hdr 2 [] .vdmAns s
  | _, _ => vdmReply p hdr 2 [] .vdmAns s
def doVdmReceived (p : Nat) (x : Sop) (hdr : Nat) (vdos : List Nat) (s : State) : State :=
  if !s.pdLive p then s
  else
    let s := consume p x s
    if !bit hdr 15 then s
    else if vdmType hdr ≠ 0 ∨ vdmCmd hdr = 6 then pdEvent p 10 hdr (vdos.headD 0) vdos.length (sopCode x) s
    else if x ≠ .sop0 then s
    else if vdmSvid hdr = 0x1EF7 then trellisIn p hdr vdos s
    else match s.graftFor 1 4 p with
      | none => vdmIn p hdr s
      | some _ =>
        let n := s.free
        vdmReply p hdr (Config.freeNat n % 3 + 1) ((Config.graftObjs n).take 6) .vdmAns { s with free := n + 1 }
/-- VDM_RECEIVED: a structured request is answered, and an Attention or an unsolicited response writes VDM-IN (11 R398, R404, R408; 14 R490). -/
def execVdmReceived (p : Port) (sop : Sop) (hdr : Word) (vdos : List Word) (s : State) : Host.Outcome State Fault Refusal :=
  .next (happen (doVdmReceived p sop hdr.toNat (vdos.map (·.toNat))) s)

/-! ### Answers to the part's own requests (11 R406, R407, R409, R410) -/

/-- An output block (11 R410). -/
def answerBlock (hdr : Nat) (data : List Nat) : List Byte :=
  let raw := data.flatMap (leBytes 4)
  let size := leAt raw 0 2 % 512
  let body := if bit hdr 15 then ((raw.drop 2).take size).take 56 else raw.take 56
  let cnt := if bit hdr 15 then size else data.length
  leBytes 2 hdr ++ leBytes 2 0 ++ leBytes 4 cnt ++ body ++ List.replicate (56 - body.length) 0
/-- ANSWER by kind; an answer whose header is Not_Supported gives 4 (11 R409). -/
def respAnswer (r : PdResp) : Nat :=
  if r.hdr.toNat % 32 = 0x10 ∧ r.hdr.toNat / 4096 = 0 then 4
  else match r.kind with
    | .accept | .ack | .caps | .status => 1
    | .reject | .nak => 2
    | .busy => 3
/-- A cable has been identified (11 R382, R406). -/
def cableFound (p vdo : Nat) (s : State) : State :=
  let first := !(s.pd p).cableDone
  let s := pdEvent p 11 vdo 0 1 0 (s.pdOn p (fun d => { d with cableKnown := true, cableVdo := vdo, cableDone := true }))
  if first then capsCheck p s else s
/-- The trellis sequence goes on after an ACK (11 R407). -/
def trellisNext (p : Nat) (data : List Nat) (s : State) : State :=
  let goTo := fun (st : Trellis) (cmd svid pos : Nat) => trellisSend p cmd svid pos .trellisReq (s.pdOn p (fun d => { d with trellis := st }))
  match (s.pd p).trellis with
  | .identity => if bits (data.getD 1 0) 0 16 = 0x1EF7 then goTo .svids 2 0xFF00 0 else trellisFail p s
  | .svids => if data.tail.any (fun w => bits w 16 16 == 0x1EF7 || bits w 0 16 == 0x1EF7) then goTo .modes 3 0x1EF7 0 else trellisFail p s
  | .modes => if data.getD 1 0 = 1 then goTo .enter 4 0x1EF7 1 else trellisFail p s
  | .enter => trellisHello p s
  | _ => s
def doPdResponseReceived (p : Nat) (r : PdResp) (s : State) : State :=
  let d := s.pd p
  let a := respAnswer r
  let data := r.data.map (·.toNat)
  match d.awaits with
  | none => s
  | some u =>
    if !s.pdLive p || d.awaitSop != r.sop then s
    else
      let s0 := consume p r.sop s
      let s := s0.pdOn p (fun d => { d with awaits := none })
      let s := match u with
        | .swapReq k =>
          if a = 1 then swapStart p k true s else (pdOpDone p u a none (s.pdOn p (fun d => { d with swap := .none }))).pdOn p (fun d => { d with reSent := false })
        | .request =>
          if a = 1 then s.pdOn p (fun d => { d with transition := d.next.isSome })
          else pdOpDone p u a none (s.pdOn p (fun d => { d with next := none }))
        | .softReset _ =>
          let s := pdOpDone p u a none s
          if (s.tc p).source ∧ r.sop = .sop0 then s.pdOn p (fun d => { d with capsDue := true }) else s
        | .getSrc | .getSnk | .getStatus | .vdmReq => pdOpDone p u a (some (answerBlock r.hdr.toNat data)) s
        | .discover =>
          let s := pdOpDone p u a (some (answerBlock r.hdr.toNat data)) s
          if a = 1 ∧ r.sop = .sop1 ∧ vdmCmd (data.headD 0) = 1 then cableFound p (data.getD 4 0) s else s
        | .cable => if a = 1 then cableFound p (data.getD 4 0) s else if a = 3 then s else cableLost p s
        | .trellisReq => if a = 1 then trellisNext p data s else trellisFail p s
        | .hello => if a = 1 then trellisCheck p (s.pdOn p (fun d => { d with helloAcked := true })) else s
        | .psRdy | .eprEnter => s0
        | _ => s
      capsCheck p (seqEnd p s)
/-- PD_RESPONSE_RECEIVED: the partner's answer to a request of the part (11 R382, R406, R407, R409, R410). -/
def execPdResponseReceived (p : Port) (r : PdResp) (s : State) : Host.Outcome State Fault Refusal :=
  .next (happen (doPdResponseReceived p r) s)

def doSenderResponseTimeout (p : Nat) (s : State) : State :=
  match (s.pd p).awaits with
  | none => s
  | some u =>
    let s0 := s
    let s := s.pdOn p (fun d => { d with awaits := none })
    let done := pdOpDone p u 5 none s
    match u with
    | .caps | .softReset _ => hardSend p 1 done
    | .request => hardSend p 1 (done.pdOn p (fun d => { d with next := none }))
    | .swapReq _ => seqEnd p (done.pdOn p (fun d => { d with swap := .none, reSent := false }))
    | .trellisReq => seqEnd p (trellisFail p s)
    | .psRdy | .eprEnter => s0
    | _ => seqEnd p done
/-- SENDER_RESPONSE_TIMEOUT: no answer within tSenderResponse or tVDMSenderResponse (11 R376, R409). -/
def execSenderResponseTimeout (p : Port) (s : State) : Host.Outcome State Fault Refusal :=
  .next (happen (doSenderResponseTimeout p) s)

def doPsTransitionTimeout (p : Nat) (k : PdTimer) (s : State) : State :=
  let d := s.pd p
  let pr : Bool := match d.swap with
    | .transit .pr _ => d.awaits == some .psRdy
    | _ => false
  match k with
  | .psTransition => if d.transition && !(s.tc p).source then hardSend p 1 s else s
  | .psSourceOff | .psSourceOn => if pr then errorRecovery p 0 (pdOpsEnd p 5 s) else s
  | .noResponse => if d.sinkWait && !(s.tc p).source then (if d.hardResets < 2 then hardSend p 1 s else errorRecovery p 0 (pdEvent p 3 0 0 0 4 s)) else s
  | .enterEpr =>
    if d.awaits = some .eprEnter then softReset p .sop0 false (pdOpDone p .eprEnter 5 none (s.pdOn p (fun d => { d with awaits := none }))) else s
/-- PS_TRANSITION_TIMEOUT: a PD timer ends without the awaited PS_RDY or EPR answer; the port acts as Revision 3.2 provides (11 R376). -/
def execPsTransitionTimeout (p : Port) (k : PdTimer) (s : State) : Host.Outcome State Fault Refusal :=
  .next (happen (doPsTransitionTimeout p k) s)

end Sys2Proof.Machine
end

