-- ==== Sys2Proof/Machine/XferOps.lean ====
section
/-! DEFINITION. Shared steps of transactions: committing and claiming received packets (07 R254 – R262), failures (06 R220, R237),
control stages (06 R238; 05 R174, R192), and outcomes of sent packets (07 R266). -/

namespace Sys2Proof.Machine

open Sys2Proof

/-! ### Credits -/

/-- Packets that the covered descriptors of a ring have room for, transfer by transfer (07, Credits). -/
def roomPackets (mps : Nat) : List Nat → Nat
  | [] => 0
  | l :: ls => max 1 (ceilDiv l mps) + roomPackets mps ls
/-- Room of each covered transfer, the first counted from `done`. -/
def xferRooms : Nat → Nat → Bool → List Td → List Nat
  | _, acc, going, [] => if going then [acc] else []
  | done, acc, _, t :: ts =>
    let n := if t.ty == 1 || t.ty == 3 || t.ty == 5 then t.len - done else 0
    if t.chain then xferRooms 0 (acc + n) true ts else (acc + n) :: xferRooms 0 0 false ts
/-- Packets for which posted buffer space stands: the present stage of a control transfer, every covered transfer of another
endpoint. -/
def Ep.packetsWanted (e : Ep) : Nat :=
  if e.ty = 1 then
    match e.tds with
    | [] => 0
    | t :: _ => if t.ty == 3 then ceilDiv e.lens.sum (max 1 e.mps) else if t.ty == 4 && !e.guest then 1 else 0
  else roomPackets (max 1 e.mps) (xferRooms e.done 0 false e.tds)

/-! ### Received packets -/

/-! ### Tallies (16 R550, R551) -/

/-- Keys of the tallies: IN and OUT of a port, and the device's. -/
def tallyKey (p : Nat) (rx : Bool) : Nat := 2 * p + (if rx then 0 else 1)
def devTally : Nat := 256
/-- Payload bytes of an acknowledged packet are counted for the port and the device; the counts wrap. -/
def tallyAdd (p : Nat) (rx : Bool) (n : Nat) (s : State) : State :=
  (s.tallyOn (tallyKey p rx) (fun t => { t with n := (t.n + n) % 2 ^ 64 })).tallyOn devTally (fun t => { t with n := (t.n + n) % 2 ^ 64 })

/-- A packet is committed: its credit is consumed, the toggle advances, and it becomes the endpoint's, at the end of the residual
(07 R254, R260); the credit of a split was consumed at the start-split. -/
def commitPacket (k : Nat) (bytes : List Byte) (s : State) : State :=
  let s := tallyAdd (s.ep k).port true bytes.length (if (s.ep k).isIso then s else advanceTog k s)
  epBump k (s.epOn k (fun e => { (if e.inSplit then { e with inSplit := false } else e.ledConsume) with pkts := e.pkts ++ [bytes], failRun := 0, naks := 0 }))
/-- An isochronous descriptor's interval has ended: what it moved stands, and it completes with the residue (04 R134; 06 R233). -/
def isoDone (k moved : Nat) (s : State) : State :=
  match (s.ep k).tds with
  | [] => s
  | t :: _ => epBump k (completeHead k (t.len - moved) (s.epOn k (fun e => { e with done := moved, isoOn := false, isoLast := false, isoMore := 0, isoGot := 0 })))
/-- Data received in an isochronous interval fills its descriptor (06 R233; 04 R134). -/
def claimIso (k : Nat) (s : State) : State :=
  let e := s.ep k
  match e.tds with
  | [] => s
  | t :: _ =>
    let data := e.pkts.flatten
    if t.len < data.length then afterXact k (babbleEnd k s)
    else
      let s := if data.isEmpty then s else s.emit (.dataWrite (keyFn k) t.buf (s.cfgFn (keyFn k)).relaxed data)
      isoDone k data.length (s.epOn k (fun e => { e with pkts := [] }))
/-- The head of the residual is claimed by the transfer at DEQ (07 R258, R261, R262). A short packet that would fill the last covered descriptor
exactly waits as residual until it is covered whether more descriptors of the stage follow, on which its record rests (DESIGN CHOICE,
notes/assumptions/71.md). -/
def claimHead (k : Nat) (s : State) : State :=
  let e := s.ep k
  match e.pkts with
  | [] => s
  | pk :: rest =>
    let n := pk.length
    if e.tds.isEmpty ∨ !e.headRx then s
    else if e.lens.isEmpty then s
    else if n ≤ e.lens.sum then
      if n < e.mps && e.endUnsure n then s else
      let outs := bufWrites (keyFn k) (s.cfgFn (keyFn k)).relaxed e.done e.tds pk
      let s := forEach outs (fun o s => s.emit o) s
      let s := s.epOn k (fun e => { e with pkts := rest })
      let fuel := e.tds.length + 1
      let s := if n = e.mps then moveBytes k fuel n s else shortEnd k fuel n s
      epSettle k (epBump k s)
    else if xferWhole e.tds then afterXact k (babbleEnd k s)
    else s
/-- Whether packets of an endpoint may be claimed (07 R258). -/
def State.claimable (s : State) (k : Nat) : Bool :=
  let e := s.ep k
  e.st == .running && s.epHold k == .running && !e.skip && !e.snoop && !e.stopping && !s.epGone k
    && (match e.rev with | none | some .snoop => true | _ => false)

/-- A race of a revocation with a handshake: whether the handshake wins is free (07 R255), and the outcome is counted. -/
def raceAck (k : Nat) (s : State) : Bool × State :=
  let won := Config.freeBit s.free
  let s := { s with free := s.free + 1 }
  (won, s.rsAdd (portReg (s.ep k).port 0x21C) (if won then 16 else 0) 16 1)

/-! ### Failures -/

def satCount (n : Nat) : Nat := min 255 (n + 1)
/-- XACT_ERR rises (05 R204). -/
def xactCount (k : Nat) (s : State) : State := let r := epRoot k; epBump r (s.epOn r (fun e => { e with xactErr := satCount e.xactErr }))
/-- An isochronous packet is lost: its descriptor completes as though a zero-length packet had arrived (06 R237). -/
def isoLost (k : Nat) (s : State) : State := isoDone k 0 (s.epOn k (fun e => { e with pkts := [], staged := [] }))
/-- The retry limit is reached, or the transaction will be tried again (06 R220, R226). -/
def failRun (k code : Nat) (s : State) : State :=
  let s := s.epOn k (fun e => { e with failRun := e.failRun + 1 })
  if (s.ep k).isIso then isoLost k s
  else if (s.ep (epRoot k)).retry ≤ (s.ep k).failRun then epError k code s
  else s
/-- A transaction on the wire fails (06 R220, R237; 05 R204). An IN credit behind it stands for the next token; a failed interrupt transaction
is tried in its next service interval, and an isochronous one never. -/
def xactFailed (k : Nat) (s : State) : State :=
  afterXact k (failRun k ccXact (xactCount k (s.epOn k (fun e => { e with wire := false, pingOn := false, inflight := 0, left := 0 }))))

/-! ### Control stages -/

/-- The SETUP stage is acknowledged (06 R238): the data stage starts with DATA1. -/
def setupDone (k : Nat) (s : State) : State :=
  match (s.ep k).tds with
  | [] => s
  | t :: _ =>
    if t.ty ≠ 2 then s
    else
      let s := s.epOn k (fun e => { e with setup := t.buf, toggle := true, seq := 0, wire := false, split := false, cs := false, failRun := 0, naks := 0, done := 0, dataEnd := false })
      epSettle k (epBump k (completeHead k 0 (s.epOn k (fun e => { e with moved := 0 }))))
/-- The endpoints whose toggles a completed request resets (05 R192). -/
def State.snooped (s : State) (k : Nat) : List Nat :=
  let e := s.ep k
  let sl := s.slot (keySlot k)
  let rt := bits e.setup 0 8
  let rq := bits e.setup 8 8
  let roots := (s.slotRoots (keySlot k)).filter (fun r => keyEp r != 0)
  if sl.noSnoop ∨ e.guest then []
  else if rt = 0x00 ∧ rq = 9 then roots
  else if rt = 0x01 ∧ rq = 11 then roots.filter (fun r => (s.ep r).iface == bits e.wIndex 0 8)
  else if rt = 0x02 ∧ rq = 1 ∧ e.wValue = 0 ∧ bits e.wIndex 0 4 ≠ 0 then
    let i := if bit e.wIndex 7 then 2 * bits e.wIndex 0 4 else 2 * bits e.wIndex 0 4 - 1
    roots.filter (fun r => keyEp r == i)
  else []
/-- The bundle of a completed status stage (05 R174, R192): its record, the address switch, and the snooped resets. -/
def statusCommit (k : Nat) (s : State) : State :=
  let e := s.ep k
  let s := forEach (s.snooped k) (fun r s =>
    let s := forEach (s.epAll r) (fun x s => s.epOn x (fun e => { e.ledRevoke 0 with rev := none })) s
    epBump r (s.epOn r (fun x => { x with toggle := false, seq := 0 }))) s
  let setAddr := !e.guest && bits e.setup 0 8 == 0 && bits e.setup 8 8 == 5
  let s := if setAddr then slotBump (keySlot k) (s.slotOn (keySlot k) (fun x => { x with st := .addressed, recovery := true })) else s
  let s := s.epOn k (fun x => { x with snoop := false, wire := false, split := false, cs := false, failRun := 0, naks := 0 })
  epSettle k (epBump k (completeHead k 0 s))
/-- The status stage's packet has passed: the bundle waits until the endpoints it resets have no transaction outstanding and
their credits are revoked (05 R192). -/
def statusDone (k : Nat) (s : State) : State :=
  let named := s.snooped k
  if named.any s.epBusy then
    let s := forEach named (fun r s => forEach (s.epAll r) (fun x s => s.epOn x (fun e => e.revoke .snoop)) s) s
    s.epOn k (fun e => { e with snoop := true, wire := false, split := false, cs := false })
  else statusCommit k s

/-! ### Sent packets -/

/-- A sent packet is accepted (07 R266; 06 R238; 09 R329): it counts as moved, and the toggle advances in the same bundle; further packets of a
burst stay on the wire. -/
def txAccepted (k : Nat) (s : State) : State :=
  let e := s.ep k
  let s := s.epOn k (fun e => { e with wire := decide (1 < e.inflight), inflight := e.inflight - 1, split := false, cs := false, failRun := 0, naks := 0 })
  match e.tds with
  | [] => s
  | t :: _ =>
    if t.ty = 2 then setupDone k (tallyAdd e.port false 8 s)
    else if t.ty = 4 then statusDone k s
    else
      let n := (e.staged.headD []).length
      let s := tallyAdd e.port false n (s.epOn k (fun e => { e with staged := e.staged.tail }))
      let s := if e.isIso then s else advanceTog k s
      epSettle k (epBump k (moveBytes k (e.tds.length + 1) n s))
/-- A sent packet is not accepted, without a failure (07 R266): it and what was sent after it stay staged, pruned when a prune is pending. A NAK
ends a run of failures and a Retry does not (06 R220). -/
def txHeld (k : Nat) (nak : Bool) (s : State) : State :=
  s.epOn k (fun e => { e with
    wire := false, inflight := 0, split := false, cs := false, failRun := if nak then 0 else e.failRun, naks := if nak then e.naks + 1 else e.naks
    ping := nak && s.epSpeed k == 2 && !e.periodic, staged := if e.stopping then [] else e.staged })

end Sys2Proof.Machine
end

