-- ==== Sys2Proof/Machine/Sched.lean ====
section
/-! DEFINITION. Schedule windows (06 R205 – R210, R216 – R219, R223 – R225, R609), isochronous timing (06 R232 – R237), and the bus
timing packets (08 R286 – R288, R292). -/

namespace Sys2Proof.Machine

open Sys2Proof

/-! ### What is due -/

/-- Whether the builder may place an endpoint of a port (06 R206; 05 R174, R176; 07 R267; 08 R291, R297). -/
def State.buildMay (s : State) (k : Nat) : Bool :=
  let e := s.ep k
  let x := (s.link e.port).side (sideOf (s.epSpeed k))
  !e.guest && s.epLive k && !s.epGone k && e.rev.isNone && !e.stopping && x.st == .enabled && !x.suspending && !x.quiet && !s.treeAsleep (keySlot k)
/-- Microframes in one service interval of an endpoint (06, opening; R232). -/
def Per.unit (e : Per) : Nat := if e.speed ≤ 1 then 8 * 2 ^ e.interval else 2 ^ e.interval
/-- Whether frame or microframe `n` of an endpoint is one of its true service intervals (06 R213, R214). -/
def Per.serves (e : Per) (n : Nat) : Bool := n % 2 ^ e.interval == e.phase % 2 ^ e.interval
/-- Entries of one service interval that begins at microframe `iv`: one for each transaction or burst (06 R212, R215, R237). -/
def Per.xacts (e : Per) (iv : Nat) : List WinEntry := (List.range (e.mult + 1)).map (fun i => ⟨e.key, .xact i, iv⟩)
/-- Microframes of the frame at which the splits of an endpoint stand, counted from the frame's start plus 8 (06 R224). -/
def splitPlaces (e : Per) (y : Nat) : List (Nat × WinKind) :=
  if e.ty = 2 then (List.range (max 1 (ceilDiv e.mps 188))).map (fun i => (8 + y + i - 1, .ssplit i))
  else (8 + y - 1, .ssplit 0) :: [1, 2, 3].map (fun i => (8 + y + i, .csplit))
/-- Split entries of microframe `n` (06 R223, R224). -/
def splitEntries (l : List Per) (n : Nat) : List WinEntry :=
  let fr := n / 8
  [fr - 1, fr, fr + 1].dedup.flatMap (fun f =>
    ((l.map (·.tt)).dedup.filter (· ≠ 0)).flatMap (fun tt =>
      ((ttPlace l tt (f % 4)).filter (fun x => x.1.serves f)).flatMap (fun x =>
        ((splitPlaces x.1 x.2).filter (fun pl => 8 * f + pl.1 == n + 8)).map (fun pl => ⟨x.1.key, pl.2, 8 * f⟩))))
/-- Periodic entries of microframe `n` on the USB 2.0 bus of a port (06 R216, R609). -/
def usb2Entries (speed : Nat) (l : List Per) (n : Nat) : List WinEntry :=
  if speed = 2 then (l.filter (fun e => e.tt == 0 && e.serves n)).flatMap (·.xacts n) ++ splitEntries l n
  else (l.filter (fun e => e.serves (n / 8) && e.ys.getD (n / 8 % 32) 0 == n % 8)).flatMap (·.xacts (n / 8 * 8))
/-- The periodic section of microframe `n`, isochronous entries first (06 R205, R216). -/
def State.periodicOf (s : State) (p n : Nat) : List WinEntry :=
  let l := s.portPers p
  let u := l.filter (fun e => sideOf e.speed == .usb2)
  let v := l.filter (fun e => sideOf e.speed == .ss)
  let es := usb2Entries (s.link p).u2.speed u n ++ (v.filter (fun e => e.serves n)).flatMap (·.xacts n)
  let es := es.filter (fun x => s.buildMay x.key)
  es.filter (fun x => (s.ep x.key).isIso) ++ es.filter (fun x => !(s.ep x.key).isIso)
/-- Running asynchronous endpoints and streams of a port (05 R196; 06 R217, R229). -/
def State.asyncOf (s : State) (p : Nat) : List Nat :=
  (s.eps.filter (fun x => x.2.port == p && !x.2.guest && !x.2.periodic && x.2.ty != 0 && x.2.st == .running && x.2.valid
    && (keyStream x.1 == 0 && !x.2.streams || keyStream x.1 != 0 && (s.ep (epRoot x.1)).picked == keyStream x.1) && s.buildMay x.1)).map (·.1)
/-- The asynchronous section: `room` entries from a place on, control endpoints first (06 R205, R217). -/
def State.asyncPick (s : State) (l : List Nat) (rot room : Nat) : List Nat :=
  let n := if l.isEmpty then 0 else rot % l.length
  let c := (l.drop n ++ l.take n).take room
  c.filter (fun k => (s.ep k).ty == 1) ++ c.filter (fun k => (s.ep k).ty != 1)

/-! ### Isochronous timing -/

/-- Service intervals of an endpoint in the `span` microframes from interval number `t` on. -/
def Per.pointsIn (e : Per) (t span : Nat) : Nat :=
  let u := e.unit
  let o := if e.speed ≤ 1 then 8 * e.phase else e.phase
  let a := (o % u + u - t % u) % u
  if span ≤ a then 0 else 1 + (span - 1 - a) / u
/-- The descriptor at DEQ is the first of its transfer. -/
def Ep.isoFirst (e : Ep) : Bool := !e.curRd.chain && e.done == 0 && !e.isoOn
/-- TARGET of a descriptor as an endpoint takes it (06 R232). -/
def State.isoTarget (s : State) (k : Nat) (t : Td) : Nat :=
  let x := t.param % 16384
  if s.epSpeed k ≤ 1 then x / 8 * 8 else x
/-- U as an endpoint counts it (06 R233): microframe `u` where its bus interval is 125 µs, and else the first frame whose entry for the endpoint
stands in a window not before `u` (06 R224, R609). -/
def State.isoU (s : State) (k u : Nat) : Nat :=
  let e := s.ep k
  if 2 ≤ s.epSpeed k then u
  else
    let d := if s.ttOf k = 0 then 0 else 1
    let at_ := fun (f : Nat) => 8 * f + e.ys.getD (f % max 1 e.ys.length) 0
    let f := u / 8
    8 * (if u + d ≤ at_ f then f else if u + d ≤ at_ (f + 1) then f + 1 else f + 2)
/-- Covered descriptors of the transfer at DEQ. -/
def xferCovered : List Td → List Td
  | [] => []
  | t :: ts => if t.chain then t :: xferCovered ts else [t]
/-- A late transfer retires its stale descriptors with one MISSED-SERVICE record (06 R233, R234). `u` is U of R233, or the interval being served. -/
def isoLate (k u : Nat) (s : State) : State :=
  let e := s.ep k
  match e.tds with
  | [] => s
  | t :: _ =>
    let tgt := s.isoTarget k t
    if t.ty ≠ 5 ∨ e.guest ∨ !e.isoFirst ∨ t.flags % 2 = 1 ∨ (tgt + 16384 - u % 16384) % 16384 < 8192 then s
    else
      let n := (s.per k).pointsIn tgt ((u % 16384 + 16384 - tgt) % 16384)
      let l := xferCovered e.tds
      if n = 0 ∨ (l.length < n ∧ !xferWhole e.tds) then s
      else
        let r := min n l.length
        let s := match (l.take r).getLast? with
          | some z => xferPost k ccMissed z.addr r z.cookie false false s
          | none => s
        epSettle k (epBump k (forEach (List.range r) (fun _ s => retireHead k s) s))
/-- Whether the descriptor at DEQ is to be served in the service interval that begins at microframe `iv` (06 R233). -/
def State.isoDue (s : State) (k iv : Nat) : Bool :=
  let e := s.ep k
  match e.tds with
  | [] => false
  | t :: _ =>
    let d := (s.isoTarget k t + 16384 - iv % 16384) % 16384
    !e.isoFirst || (if t.flags % 2 = 1 then decide (s.isoU k t.from_ ≤ iv) else d == 0 || decide (8192 ≤ d))
/-- A missed interval whose descriptor retires without its own event (06 R236). -/
def isoMiss (k : Nat) (s : State) : State :=
  epSettle k (epBump k (retireHead k (s.epOn k (fun e => { e with missed := e.missed + 1, staged := [], isoOn := false, isoLast := false, isoMore := 0, isoGot := 0 }))))
/-- An endpoint owes the bus a transaction: a descriptor is posted, and the device has not asked it to wait (06 R228, R236). -/
def Ep.owesBus (e : Ep) : Bool := e.st == .running && !e.tds.isEmpty && !e.waiting
/-- A periodic entry passes unserved (06 R208, R236): with the first of an interval the interval is missed, and a later one ends what has begun. -/
def entryLost (x : WinEntry) (s : State) : State :=
  let k := x.key
  match x.kind with
  | .csplit => s
  | .xact 0 | .ssplit 0 =>
    if (s.ep k).isIso then (let s := isoLate k x.iv s; if s.isoDue k x.iv then isoMiss k s else s)
    else if (s.ep k).owesBus then s.epOn k (fun e => { e with missed := e.missed + 1 }) else s
  | _ =>
    let e := s.ep k
    if !e.isIso || !e.isoOn then s
    else if e.receives then s.epOn k (fun e => { e with isoLast := true }) else isoDone k e.done (s.epOn k (fun e => { e with staged := [] }))

/-! ### Windows -/

def doWindowBuild (p : Port) (s : State) : State :=
  let b := s.bus p
  if !b.running ∨ b.mf + 8 < b.nextMf ∨ 8 ≤ (b.windows.filter (fun w => decide (b.mf < w.mf))).length then s
  else
    let per := (s.periodicOf p b.nextMf).take 48
    let l := s.asyncOf p
    let a := s.asyncPick l b.rot (64 - per.length)
    s.busOn p (fun b => { b with
      windows := b.windows ++ [{ mf := b.nextMf, st := .built, periodic := per, async := a, mode := s.mode.mode, reduced := s.mode.reduced }], nextMf := b.nextMf + 1
      rot := if l.isEmpty then 0 else (b.rot + a.length) % l.length })
/-- WINDOW_BUILD (06 R206, R217): the builder begins window N at microframe N − 8 at the earliest. -/
def execWindowBuild (p : Port) (s : State) : Host.Outcome State Fault Refusal := .next (doWindowBuild p s)

def doWindowLoadPoint (p : Port) (s : State) : State :=
  let b := s.bus p
  let n := b.mf + 1
  if !b.running then s
  else if b.windows.any (fun w => w.mf == n && w.st == .built) then
    s.busOn p (fun b => { b with windows := b.windows.map (fun w =>
      if w.mf = n ∧ w.st = .built then
        let keep := w.async.filter (fun k => (s.asyncOf p).contains k)
        let more := (s.asyncOf p).filter (fun k => !keep.contains k)
        { w with st := .sealed, async := s.asyncPick (keep ++ more) 0 (64 - w.periodic.length) }
      else w) })
  else if b.windows.any (fun w => w.mf == n) then s
  else
    let s := forEach (s.periodicOf p n) (fun x s => entryLost x s) s
    let s := s.busOn p (fun b => { b with windows := { mf := n, st := .abandoned, periodic := [], async := [], mode := s.mode.mode, reduced := s.mode.reduced } :: b.windows,
                                           nextMf := max b.nextMf (n + 1) })
    raiseFault (4 * p + 3) 1 p 0 0 false s
/-- WINDOW_LOAD_POINT (06 R206 – R208): window N is sealed at the start of microframe N − 1, or abandoned. -/
def execWindowLoadPoint (p : Port) (s : State) : Host.Outcome State Fault Refusal := .next (happen (doWindowLoadPoint p) s)

/-! ### Isochronous service -/

/-- What stands of an earlier interval ends before the next (06 R237): its received data is claimed, and a split that brought no result by its last
complete-split ends with no data (DESIGN CHOICE, notes/assumptions/71.md: R226 calls a NYET no failure). -/
def isoClose (k : Nat) (s : State) : State :=
  let e := s.ep k
  if e.split then afterXact k (isoDone k 0 (s.epOn k (fun e => { e with split := false, cs := false, inSplit := false })))
  else if e.isoOn && e.receives && s.claimable k then epSettle k (claimIso k s)
  else s
/-- The data PID of packet `j` of `n` of a high-speed isochronous OUT interval: DATA0; MDATA, DATA1; MDATA, MDATA, DATA2 (06 R237). -/
def isoPid (j n : Nat) : Nat := if j + 1 = n then min 2 j else 3
/-- Sends packets of an isochronous interval: one transaction, or a burst; the last ends the interval (06 R227, R233, R237). -/
def isoSend (k : Nat) : Nat → State → State
  | 0, s => s
  | m + 1, s =>
    let e := s.ep k
    match e.staged with
    | [] => s
    | pk :: rest =>
      let pid := if s.isSs k then e.isoGot % 32 else if s.epSpeed k = 2 then isoPid e.isoGot (e.isoGot + rest.length + 1) else 0
      let s := tallyAdd e.port false pk.length (s.send k (.data pid pk))
      let s := s.epOn k (fun e => { e with staged := rest, isoGot := e.isoGot + 1, done := e.done + pk.length })
      if rest.isEmpty then epSettle k (isoDone k (s.ep k).done s) else isoSend k m s
/-- One OUT entry of an interval (06 R233, R237). -/
def isoOut (k : Nat) (s : State) : State := isoSend k (s.burstOf k) (if s.isSs k then s else s.send k .out)
/-- Start-split `i` of an isochronous OUT packet: 188 bytes of it, marked by its place (06 R224). -/
def isoPiece (k i : Nat) (s : State) : State :=
  let e := s.ep k
  let pk := e.staged.headD []
  let m := max 1 (ceilDiv pk.length 188)
  if m ≤ i then s
  else
    let mark : SplitMark := if m = 1 then .all else if i = 0 then .begin else if i + 1 = m then .fin else .mid
    let s := s.send k (.startSplit mark ((pk.drop (188 * i)).take 188))
    if i + 1 < m then s else epSettle k (isoDone k pk.length (tallyAdd e.port false pk.length (s.epOn k (fun e => { e with staged := e.staged.tail }))))
/-- Whether all that an interval can send is staged (06 R219, R233). -/
def Ep.isoStaged (e : Ep) : Bool := !e.staged.isEmpty && (e.nextTx.isNone || decide ((e.burst + 1) * (e.mult + 1) ≤ e.staged.length))
/-- The first entry of an isochronous service interval (06 R233 – R236). -/
def isoBegin (k iv : Nat) (s : State) : State :=
  let s := isoClose k s
  if (s.ep k).wire || (s.ep k).isoOn then s
  else if (s.ep k).tds.isEmpty then (if (s.ep k).inStream then s.epOn k (fun e => { e with empty := e.empty + 1 }) else s)
  else
    let s := isoLate k iv s
    let e := s.ep k
    if !s.isoDue k iv then s
    else if e.noPing then isoMiss k (s.epOn k (fun e => { e with noPing := false }))
    else if !s.tokenMay k || (if e.receives then !e.creditReady else !e.isoStaged) then isoMiss k s
    else
      let asap := match e.tds with | t :: _ => t.flags % 2 == 1 | [] => false
      let s := missedPost k (if e.isoFirst && asap then isoEmptyPost k s else s)
      let s := s.epOn k (fun e => { e with inStream := true, empty := 0, begun := true, isoOn := true, isoLast := false, isoMore := 0, isoGot := 0, done := 0 })
      if e.receives then (if s.ttOf k = 0 then startIn k s else startSplit k [] s)
      else if s.ttOf k = 0 then isoOut k s else isoPiece k 0 s
/-- A further entry of an interval that has begun (06 R237). -/
def isoNext (k : Nat) (s : State) : State :=
  let e := s.ep k
  if !e.isoOn || e.isoLast || e.wire then s
  else if !e.receives then (if s.tokenMay k then isoOut k s else isoDone k e.done (s.epOn k (fun e => { e with staged := [] })))
  else if s.tokenMay k && !e.credits.isEmpty && (s.epSpeed k != 2 || e.isoMore != 0) then startIn k s
  else s.epOn k (fun e => { e with isoLast := true })
/-- One entry of an isochronous endpoint. -/
def serveIso (x : WinEntry) (s : State) : State :=
  match x.kind with
  | .csplit => if s.asyncReady x.key then completeSplit x.key s else s
  | .xact 0 | .ssplit 0 => isoBegin x.key x.iv s
  | .xact _ => isoNext x.key s
  | .ssplit i => if (s.ep x.key).isoOn then isoPiece x.key i s else s
/-- One entry of an interrupt endpoint (06 R219, R224, R236). A further transaction of its interval follows only on success (USB 2.0). -/
def serveInt (x : WinEntry) (s : State) : State :=
  let k := x.key
  match x.kind with
  | .csplit => if s.asyncReady k then completeSplit k s else s
  | .xact 0 | .ssplit 0 =>
    let s := if (s.ep k).split then afterXact k (s.epOn k (fun e => { e with split := false, cs := false, inSplit := false })) else s
    let e := s.ep k
    let ready := s.tokenMay k && (if e.receives then e.creditReady else !e.staged.isEmpty && e.st == .running)
    if e.wire then s
    else if ready && !e.noPing then startXact k (missedPost k s)
    else s.epOn k (fun e => { e with missed := e.missed + b2n e.owesBus, noPing := false })
  | _ => if (s.ep k).wire || (s.ep k).naks != 0 || (s.ep k).failRun != 0 then s else startXact k s

/-! ### Microframes -/

/-- The timing packets of a microframe (08 R286); none while REFCLK25 is lost (17 R576). -/
def timingPackets (p : Nat) (s : State) : State :=
  let b := s.bus p
  let u := (s.link p).u2
  let v := (s.link p).ss
  let live := (u.st == .enabled || (u.st == .resuming && u.recovering)) && !u.l1
  let frame := b.interval % 8 == 0
  let s :=
    if !live || !s.sup.refclk then s
    else if u.speed = 2 then s.emit (.bus p .usb2 (.sof (b.interval / 8 % 2048)))
    else if !frame then s
    else s.emit (.bus p .usb2 (if u.speed = 0 then .keepAlive else .sof (b.interval / 8 % 2048)))
  if v.st = .enabled ∧ v.ulink = 0 ∧ s.sup.refclk = true then s.emit (.bus p .ss (.itp b.interval)) else s
/-- A link in U1 or U2 is brought to U0 before a SuperSpeed transaction, by a PING where it is periodic (06 R231; 08 R290). -/
def wakeLink (k : Nat) (s : State) : State :=
  let p := (s.ep k).port
  let x := (s.link p).ss
  if s.isSs k && (x.ulink == 1 || x.ulink == 2) then
    let s := if (s.ep k).periodic then s.send k .ssPing else s.emit (.bus p .ss .lfpsExit)
    s.sideOn p .ss (fun x => { x with ulink := 0 })
  else s
/-- One entry of the periodic section. -/
def serveEntry (x : WinEntry) (s : State) : State :=
  let s := if s.tokenMay x.key then wakeLink x.key s else s
  if (s.ep x.key).isIso then serveIso x s else serveInt x s
/-- The first asynchronous entry of a side that has something to send, and the round robin after it (06 R216). -/
def State.nextTurn (s : State) (sd : Side) : List Nat → List Nat → Option (Nat × List Nat)
  | _, [] => none
  | before, k :: l =>
    if sideOf (s.epSpeed k) == sd && s.asyncReady k then some (k, l ++ before ++ [k]) else s.nextTurn sd (before ++ [k]) l
/-- The asynchronous section in round robin, as long as the wire is free (06 R216). -/
def runAsync (p : Nat) (sd : Side) : Nat → State → State
  | 0, s => s
  | n + 1, s =>
    if s.wireBusy p sd then s
    else match s.nextTurn sd [] (s.bus p).turn with
      | none => s
      | some (k, turn) =>
        let s := wakeLink k (s.busOn p (fun b => { b with turn }))
        runAsync p sd n (if (s.ep k).split then completeSplit k s else startXact k s)
/-- The periodic section in entry order, and then the asynchronous one (06 R216, R609). -/
def runEntries (p : Nat) (sd : Side) : Nat → State → State
  | 0, s => s
  | n + 1, s =>
    if s.wireBusy p sd then s
    else match (s.bus p).todo.find? (fun x => sideOf (s.epSpeed x.key) == sd) with
      | none => runAsync p sd ((s.bus p).turn.length + 1) s
      | some x => runEntries p sd n (serveEntry x (s.busOn p (fun b => { b with todo := b.todo.erase x })))
/-- The sequencer goes on with a side of a bus: one transaction is on its wire at a time (06 R216, R609). -/
def busRun (p : Nat) (sd : Side) (s : State) : State := if (s.bus p).running then runEntries p sd ((s.bus p).todo.length + 1) s else s
/-- The sequencer goes on with the bus of an endpoint. -/
def onward (k : Nat) (s : State) : State := if (s.ep k).guest || (s.ep k).st == .closed then s else busRun (s.ep k).port (sideOf (s.epSpeed k)) s

/-- PING goes ahead of the SuperSpeed service of the next microframe while the link is in U1 or U2 (06 R231). -/
def pingAhead (p : Nat) (s : State) : State :=
  match (s.bus p).windows.find? (fun w => w.mf == (s.bus p).mf + 1) with
  | none => s
  | some w => forEach w.periodic (fun x s => if s.isSs x.key && s.tokenMay x.key && !(s.ep x.key).tds.isEmpty then wakeLink x.key s else s) s
/-- The sealed window of the microframe is taken up (06 R206 step 5, R216). -/
def takeWindow (p : Nat) (s : State) : State :=
  let b := s.bus p
  let left := s.splitsLeft p
  match b.windows.find? (fun w => w.mf == b.mf && w.st == .sealed) with
  | none => s.busOn p (fun b => { b with turn := left })
  | some w => s.busOn p (fun b => { b with todo := w.periodic, turn := w.async ++ left.filter (fun k => !w.async.contains k) })
def doMicroframeStart (p : Port) (s : State) : State :=
  if !(s.bus p).running then s
  else
    let s := forEach (s.bus p).todo entryLost s
    let s := s.busOn p (fun b => { b with
      mf := b.mf + 1, interval := (b.interval + 1) % 16384, start := s.now, windows := b.windows.filter (fun w => decide (b.mf + 1 ≤ w.mf))
      nextMf := max b.nextMf (b.mf + 2), todo := [], turn := [] })
    let s := forEach ((s.eps.filter (fun x => x.2.port == p.val && !x.2.guest && (x.2.skipUf || x.2.naks != 0))).map (·.1)) (fun k s => s.epOn k (fun e => { e with naks := 0, skipUf := false })) s
    let s := pingAhead p (takeWindow p (timingPackets p s))
    busRun p .ss (busRun p .usb2 s)
/-- MICROFRAME_START (06 R206 step 5, R216; 08 R286 – R288). -/
def execMicroframeStart (p : Port) (s : State) : Host.Outcome State Fault Refusal := .next (happen (doMicroframeStart p) s)

end Sys2Proof.Machine
end

