-- ==== Sys2Proof/Machine/Faults.lean ====
section
/-! DEFINITION. Fault lines and reactions (15 R504 – R516, R520; 05 R203; 08 R304; 09 R334; 10 R350; 07 R257). -/

namespace Sys2Proof.Machine

open Sys2Proof

/-! ### Lines -/

/-- UNIT of a source's records, as the catalogue gives it, where the number of the source names it (15 R518). -/
def srcUnit (n : Nat) : Nat :=
  if n < 512 then n / 4 else if n < 576 then (n - 512) / 8 else if n < 592 then n - 576 else if n < 624 then n - 592
  else if 627 ≤ n ∧ n < 636 then n - 627 else if 651 ≤ n ∧ n < 659 then n - 651 else 0

def doFaultLineRaised (r : FaultRep) (s : State) : State :=
  unitFault { src := r.src.val, cause := r.cause.toNat, unit := r.unit.toNat, func := r.func.val, info := r.info.toNat } r.lasting s
/-- FAULT_LINE_RAISED (15 R505, R507 – R519). -/
def execFaultLineRaised (r : FaultRep) (s : State) : Host.Outcome State Fault Refusal := .next (happen (doFaultLineRaised r) s)

def doFaultLineBroken (n : Src) (v : Bool) (s : State) : State :=
  if (catalogue n).isNone then s
  else
    let r : FltRec := { src := n.val, cause := 255, unit := srcUnit n.val, wire := true, real := true }
    (fltCause r (.broken v) s).fltSrcOn n (fun x => { x with wire := true, line := .broken v })
/-- FAULT_LINE_BROKEN (15 R504, R506). -/
def execFaultLineBroken (n : Src) (v : Bool) (s : State) : Host.Outcome State Fault Refusal := .next (happen (doFaultLineBroken n v) s)

/-- A die has cooled (15 R519): beds 0 – 7, and the core as 8. -/
def thermalEnd (die : Nat) (s : State) : State :=
  if die = 8 then lineQuiet 659 s
  else
    let s := lineQuiet (512 + 8 * die + 6) s
    if !(s.bed die).hot then s
    else
      forEach (portsOf die) (hvUp 4) (s.bedOn die (fun x => { x with hot := false, warm := false }))
def doFaultLineQuiet (n : Src) (s : State) : State :=
  let s := s.fltSrcOn n (fun x => { x with line := .quiet })
  if n.val = 659 then thermalEnd 8 s
  else if 512 ≤ n.val ∧ n.val < 576 ∧ n.val % 8 = 6 then thermalEnd ((n.val - 512) / 8) s
  else s
/-- FAULT_LINE_QUIET (15 R505): a live line returns to 01, and with it a thermal shutdown ends (R519). -/
def execFaultLineQuiet (n : Src) (s : State) : Host.Outcome State Fault Refusal := .next (happen (doFaultLineQuiet n) s)

/-! ### PORT-HOLD -/

/-- The windows of a port are built again from the next load point (15 R509 step 3, R510 step 4): what is sealed serves nothing more. -/
def rebuildWindows (p : Nat) (s : State) : State :=
  let b := s.bus p
  let s := forEach (b.todo ++ (b.windows.filter (fun w => w.st == .sealed && decide (b.mf < w.mf))).flatMap (·.periodic)) entryLost s
  let per := fun (w : Window) => (s.periodicOf p w.mf).take 48
  s.busOn p (fun b => { b with
    todo := [], turn := s.splitsLeft p
    windows := b.windows.map (fun w =>
      if w.st = .built then { w with periodic := per w, async := s.asyncPick (s.asyncOf p) b.rot (64 - (per w).length) } else { w with periodic := [], async := [] }) })
/-- Service of a port goes on: what waited for a settled revocation ends. -/
def kickPort (p : Nat) (s : State) : State := forEach (s.portRoots p) (fun r s => forEach (s.epAll r) afterXact s) (rebuildWindows p s)
def doPortHoldDone (p : Port) (s : State) : State :=
  match s.flt.portHolds.find? (fun x => x.1 == p.val) with
  | none => s
  | some x => kickPort p (faultEvent x.2 1 false (portHoldEnd p s))
/-- PORT_HOLD_DONE (15 R509, steps 3 and 4). -/
def execPortHoldDone (p : Port) (s : State) : Host.Outcome State Fault Refusal := .next (happen (doPortHoldDone p) s)

/-! ### BED-ISOLATE -/

/-- A side at the end of the bed's restart (08 R304): RESETTING goes to ERROR, ENABLED is resumed, and a wake latched meanwhile is served. -/
def restartSide (p : Nat) (sd : Side) (s : State) : State :=
  let x := (s.link p).side sd
  if (s.link p).device then s
  else match x.st with
    | .resetting => errorSide p sd (if sd = .ss then 0x08 else 0x07) (if sd = .ss then 0 else 2) s
    | .enabled => startResume p sd .bed s
    | .suspended => if x.wakeLatched then startResume p sd .remote s else s
    | _ => s
/-- A PD sequence is open (15 R510). -/
def Pd.seqOpen (d : Pd) : Bool := d.awaits.isSome || d.next.isSome || d.transition || d.swap != .none
def doBedRestartDone (b : Bed) (s : State) : State :=
  if !(s.bed b).isolating then s
  else
    forEach (portsOf b) (fun p s =>
      let s := forEach (s.portRoots p) (fun r s => forEach (s.epAll r) (fun k s => s.epOn k (fun e => { e with led := e.ledCopy })) s) s
      let s := restartSide p .ss (restartSide p .usb2 s)
      if (s.pd p).attached && (s.pd p).seqOpen then softReset p .sop0 false s else s) s
/-- BED_RESTART_DONE (15 R510 step 4; 07 R257; 08 R304; 11 R400): ledgers are taken from the surviving copy. -/
def execBedRestartDone (b : Bed) (s : State) : Host.Outcome State Fault Refusal := .next (happen (doBedRestartDone b) s)

/-- The resume that the restart began ends with RESUMED, VALUE 1 (08 R304 step 5). -/
def endBedResume (p : Nat) (sd : Side) (s : State) : State :=
  let x := (s.link p).side sd
  if x.st == .resuming && x.resumeBy == .bed then endResume p sd s else s
def doBedIsolateDone (b : Bed) (s : State) : State :=
  match s.flt.isolations.find? (fun x => x.1 == b.val) with
  | none => s
  | some r =>
    let s := s.bedOn b (fun x => { x with isolating := false })
    let s := { s with flt := { s.flt with isolations := s.flt.isolations.filter (fun x => x.1 != b.val) } }
    let s := forEach (portsOf b) (fun p s => endBedResume p .ss (endBedResume p .usb2 s)) s
    let s := forEach (portsOf b) (fun p s => kickPort p (pathResume p s)) s
    let s := forEach (portsOf b) (fun p s => if s.profile p = .typec then ccLook p s else s) s
    rotServe (faultEvent r.2 1 false s)
/-- BED_ISOLATE_DONE (15 R510 step 5; 10 R350; 12 R427; 14 R475). -/
def execBedIsolateDone (b : Bed) (s : State) : Host.Outcome State Fault Refusal := .next (happen (doBedIsolateDone b) s)

/-! ### The collector -/

def doCollectorMismatch (s : State) : State :=
  let s := unitOnce 640 1 0 0 s
  { s with flt := { s.flt with rebuilding := true } }
/-- COLLECTOR_MISMATCH (15 R520): source 640 with SAFE-HOLD, and the rebuild. -/
def execCollectorMismatch (s : State) : Host.Outcome State Fault Refusal := .next (happen doCollectorMismatch s)
def doCollectorRebuildDone (s : State) : State := if s.flt.rebuilding then fltDeferred { s with flt := { s.flt with rebuilding := false } } else s
/-- COLLECTOR_REBUILD_DONE (15 R520): lines that went live are acknowledged in ascending source order. -/
def execCollectorRebuildDone (s : State) : Host.Outcome State Fault Refusal := .next (happen doCollectorRebuildDone s)
/-- FAULT_N_PULSE_END (15 R516). -/
def execFaultNPulseEnd (s : State) : Host.Outcome State Fault Refusal := .next { s with flt := { s.flt with pulse := false } }

/-! ### Faulted contexts -/

def doContextRebuildDone (e : EpRef) (s : State) : State :=
  let k := e.key
  let x := s.ep k
  if x.st ≠ .faulted then s
  else
    let s := s.epOn k (fun y => { y with st := y.was, was := .closed, wasProd := 0 })
    let s := if x.pend then forEach x.stage (fun o s => s.emit o) s else s
    let live := keyStream k = 0 ∧ !x.guest ∧ (x.was = .idle ∨ x.was = .running)
    let s := if live ∧ (s.slot (keySlot k)).gone then pauseNow k ccDetached s
      else if live ∧ (s.slot (keySlot k)).st = .dflt ∧ keyEp k ≠ 0 then pauseNow k ccResetAborted s else s
    afterXact k (if x.prod = x.wasProd then s else handOver k x.prod (s.epOn k (fun y => { y with prod := x.wasProd })))
/-- CONTEXT_REBUILD_DONE (05 R178, R179, R203): the state the surviving copy names, and the staged records of a bundle whose PEND is set
are written again at their positions. A bundle is one step here, so both copies hold one state whichever survives. -/
def execContextRebuildDone (e : EpRef) (_found : CopyFound) (s : State) : Host.Outcome State Fault Refusal :=
  .next (happen (doContextRebuildDone e) s)

end Sys2Proof.Machine
end

