-- ==== Sys2Proof/Machine/Crypto.lean ====
section
/-! DEFINITION. The signature primitives the manual names (02 R58, R79): SHA-384 of FIPS 180-4 and ECDSA verification over NIST P-384 of
FIPS 186-5 (notes/assumptions/3.md). A digest stands as its 48 bytes do in memory, the first byte least significant. -/

namespace Sys2Proof.Machine

open Sys2Proof

/-! ### SHA-384 -/

def w64 : Nat := 18446744073709551616
/-- The eight initial hash words. -/
def shaInit : List Nat := [
  0xCBBB9D5DC1059ED8, 0x629A292A367CD507, 0x9159015A3070DD17, 0x152FECD8F70E5939,
  0x67332667FFC00B31, 0x8EB44A8768581511, 0xDB0C2E0D64F98FA7, 0x47B5481DBEFA4FA4]
/-- The round constants, in four parts. -/
def shaK0 : List Nat := [
  0x428A2F98D728AE22, 0x7137449123EF65CD, 0xB5C0FBCFEC4D3B2F, 0xE9B5DBA58189DBBC,
  0x3956C25BF348B538, 0x59F111F1B605D019, 0x923F82A4AF194F9B, 0xAB1C5ED5DA6D8118,
  0xD807AA98A3030242, 0x12835B0145706FBE, 0x243185BE4EE4B28C, 0x550C7DC3D5FFB4E2,
  0x72BE5D74F27B896F, 0x80DEB1FE3B1696B1, 0x9BDC06A725C71235, 0xC19BF174CF692694,
  0xE49B69C19EF14AD2, 0xEFBE4786384F25E3, 0x0FC19DC68B8CD5B5, 0x240CA1CC77AC9C65]
def shaK1 : List Nat := [
  0x2DE92C6F592B0275, 0x4A7484AA6EA6E483, 0x5CB0A9DCBD41FBD4, 0x76F988DA831153B5,
  0x983E5152EE66DFAB, 0xA831C66D2DB43210, 0xB00327C898FB213F, 0xBF597FC7BEEF0EE4,
  0xC6E00BF33DA88FC2, 0xD5A79147930AA725, 0x06CA6351E003826F, 0x142929670A0E6E70,
  0x27B70A8546D22FFC, 0x2E1B21385C26C926, 0x4D2C6DFC5AC42AED, 0x53380D139D95B3DF,
  0x650A73548BAF63DE, 0x766A0ABB3C77B2A8, 0x81C2C92E47EDAEE6, 0x92722C851482353B]
def shaK2 : List Nat := [
  0xA2BFE8A14CF10364, 0xA81A664BBC423001, 0xC24B8B70D0F89791, 0xC76C51A30654BE30,
  0xD192E819D6EF5218, 0xD69906245565A910, 0xF40E35855771202A, 0x106AA07032BBD1B8,
  0x19A4C116B8D2D0C8, 0x1E376C085141AB53, 0x2748774CDF8EEB99, 0x34B0BCB5E19B48A8,
  0x391C0CB3C5C95A63, 0x4ED8AA4AE3418ACB, 0x5B9CCA4F7763E373, 0x682E6FF3D6B2B8A3,
  0x748F82EE5DEFB2FC, 0x78A5636F43172F60, 0x84C87814A1F0AB72, 0x8CC702081A6439EC]
def shaK3 : List Nat := [
  0x90BEFFFA23631E28, 0xA4506CEBDE82BDE9, 0xBEF9A3F7B2C67915, 0xC67178F2E372532B,
  0xCA273ECEEA26619C, 0xD186B8C721C0C207, 0xEADA7DD6CDE0EB1E, 0xF57D4F7FEE6ED178,
  0x06F067AA72176FBA, 0x0A637DC5A2C898A6, 0x113F9804BEF90DAE, 0x1B710B35131C471B,
  0x28DB77F523047D84, 0x32CAAB7B40C72493, 0x3C9EBE0A15C9BEBC, 0x431D67C49C100D4C,
  0x4CC5D4BECB3E42B6, 0x597F299CFC657E2A, 0x5FCB6FAB3AD6FAEC, 0x6C44198C4A475817]
def rotr (x n : Nat) : Nat := x >>> n ||| (x <<< (64 - n)) % w64
def bigSigma0 (x : Nat) : Nat := rotr x 28 ^^^ rotr x 34 ^^^ rotr x 39
def bigSigma1 (x : Nat) : Nat := rotr x 14 ^^^ rotr x 18 ^^^ rotr x 41
def smallSigma0 (x : Nat) : Nat := rotr x 1 ^^^ rotr x 8 ^^^ x >>> 7
def smallSigma1 (x : Nat) : Nat := rotr x 19 ^^^ rotr x 61 ^^^ x >>> 6
def shaCh (x y z : Nat) : Nat := (x &&& y) ^^^ ((w64 - 1 - x) &&& z)
def shaMaj (x y z : Nat) : Nat := (x &&& y) ^^^ (x &&& z) ^^^ (y &&& z)
/-- A big-endian number. -/
def beNat (bs : List Byte) : Nat := bs.foldl (fun n b => n * 256 + b.toNat) 0
/-- The message schedule, the latest word first. -/
def shaSchedule : Nat → List Nat → List Nat
  | 0, w => w
  | n + 1, w => shaSchedule n ((smallSigma1 (w.getD 1 0) + w.getD 6 0 + smallSigma0 (w.getD 14 0) + w.getD 15 0) % w64 :: w)
/-- One round on the eight working words. -/
def shaRound (v : List Nat) (k w : Nat) : List Nat :=
  match v with
  | [a, b, c, d, e, f, g, h] =>
    let t := h + bigSigma1 e + shaCh e f g + k + w
    [(t + bigSigma0 a + shaMaj a b c) % w64, a, b, c, (d + t) % w64, e, f, g]
  | _ => v
/-- One block of 128 bytes. -/
def shaBlock (hs : List Nat) (block : List Byte) : List Nat :=
  let w := (List.range 16).map (fun i => beNat ((block.drop (8 * i)).take 8))
  let ws := (shaSchedule 64 w.reverse).reverse
  let v := ((shaK0 ++ shaK1 ++ shaK2 ++ shaK3).zip ws).foldl (fun v x => shaRound v x.1 x.2) hs
  (hs.zip v).map (fun x => (x.1 + x.2) % w64)
def shaBlocks : Nat → List Nat → List Byte → List Nat
  | 0, hs, _ => hs
  | n + 1, hs, bs => shaBlocks n (shaBlock hs (bs.take 128)) (bs.drop 128)
/-- `n` big-endian bytes of a number. -/
def beBytes : Nat → Nat → List Byte
  | 0, _ => []
  | n + 1, x => BitVec.ofNat 8 (x / 256 ^ n) :: beBytes n x
/-- A message with its padding: a 1 bit, zeros and its length in bits. -/
def shaPad (bs : List Byte) : List Byte :=
  bs ++ [0x80] ++ List.replicate ((239 - bs.length % 128) % 128) 0 ++ beBytes 16 (8 * bs.length)
/-- The 48 bytes of the digest. -/
def shaBytes (bs : List Byte) : List Byte :=
  let m := shaPad bs
  ((shaBlocks (m.length / 128) shaInit m).take 6).flatMap (beBytes 8)
/-- SHA-384 of FIPS 180-4 (02 R58). -/
@[irreducible] def sha384 (bs : List Byte) : BitVec 384 := BitVec.ofNat 384 (beNat (shaBytes bs).reverse)

/-! ### ECDSA over P-384 -/

/-- 2^384 − 2^128 − 2^96 + 2^32 − 1. -/
def p384 : Nat := 0xFFFFFFFFFFFFFFFFFFFFFFFFFFFFFFFFFFFFFFFFFFFFFFFFFFFFFFFFFFFFFFFEFFFFFFFF0000000000000000FFFFFFFF
def p384Order : Nat := 0xFFFFFFFFFFFFFFFFFFFFFFFFFFFFFFFFFFFFFFFFFFFFFFFFC7634D81F4372DDF581A0DB248B0A77AECEC196ACCC52973
def p384B : Nat := 0xB3312FA7E23EE7E4988E056BE3F82D19181D9C6EFE8141120314088F5013875AC656398D8A2ED19D2A85C8EDD3EC2AEF
def p384Gx : Nat := 0xAA87CA22BE8B05378EB1C71EF320AD746E1D3B628BA79B9859F741E082542A385502F25DBF55296C3A545E3872760AB7
def p384Gy : Nat := 0x3617DE4A96262C6F5D9E98BF9292DC29F8F41DBD289A147CE9DA3113B5F0B8C00A60B1CE1D7E819D7A431D7C90EA0E5F
/-- `b` to the power of the lowest `n` bits of `e`, modulo `m`. -/
def powMod (m : Nat) : Nat → Nat → Nat → Nat
  | 0, _, _ => 1
  | n + 1, b, e => (if e % 2 = 1 then b else 1) * powMod m n (b * b % m) (e / 2) % m
/-- The inverse modulo a prime of 384 bits. -/
def invMod (m x : Nat) : Nat := powMod m 384 (x % m) (m - 2)
/-- A difference modulo `p384`. -/
def subP (a b : Nat) : Nat := (a + p384 - b % p384) % p384
/-- A point in Jacobian coordinates; Z 0 is the point at infinity. -/
structure Jac where
  x : Nat
  y : Nat
  z : Nat
  deriving DecidableEq, Repr
def jacDouble (a : Jac) : Jac :=
  let yy := a.y * a.y % p384
  let zz := a.z * a.z % p384
  let s := 4 * a.x * yy % p384
  let m := 3 * subP a.x zz * (a.x + zz) % p384
  let x := subP (m * m) (2 * s)
  ⟨x, subP (m * subP s x) (8 * yy * yy), 2 * a.y * a.z % p384⟩
def jacAdd (a b : Jac) : Jac :=
  if a.z = 0 then b
  else if b.z = 0 then a
  else
    let za := a.z * a.z % p384
    let zb := b.z * b.z % p384
    let u := a.x * zb % p384
    let v := a.y * zb % p384 * b.z % p384
    let h := subP (b.x * za) u
    let r := subP (b.y * za % p384 * a.z) v
    if h = 0 then (if r = 0 then jacDouble a else ⟨1, 1, 0⟩)
    else
      let hh := h * h % p384
      let h3 := hh * h % p384
      let t := u * hh % p384
      let x := subP (subP (r * r) h3) (2 * t)
      ⟨x, subP (r * subP t x) (v * h3), h * a.z % p384 * b.z % p384⟩
/-- The multiple of a point by the lowest `n` bits of `k`. -/
def jacMul : Nat → Nat → Jac → Jac
  | 0, _, _ => ⟨1, 1, 0⟩
  | n + 1, k, a => let t := jacMul n (k / 2) (jacDouble a); if k % 2 = 1 then jacAdd a t else t
/-- A public key is a point of the curve. -/
def onCurve (x y : Nat) : Bool := decide (x < p384) && decide (y < p384) && subP (y * y) (x * x % p384 * x + p384B) == subP 0 (3 * x)
/-- ECDSA P-384 verification of FIPS 186-5: public key x then y, digest, signature r then s, big-endian (02 R55, R58, R79). -/
@[irreducible] def ecdsaVerify (key : List Byte) (digest : BitVec 384) (sig : List Byte) : Bool :=
  let x := beNat (key.take 48)
  let y := beNat ((key.drop 48).take 48)
  let r := beNat (sig.take 48)
  let s := beNat ((sig.drop 48).take 48)
  let e := beNat (beBytes 48 digest.toNat).reverse
  if key.length ≠ 96 ∨ sig.length ≠ 96 ∨ r = 0 ∨ s = 0 ∨ p384Order ≤ r ∨ p384Order ≤ s ∨ onCurve x y = false then false
  else
    let w := invMod p384Order s
    let q := jacAdd (jacMul 384 (e * w % p384Order) ⟨p384Gx, p384Gy, 1⟩) (jacMul 384 (r * w % p384Order) ⟨x, y, 1⟩)
    q.z != 0 && (let zi := invMod p384 q.z; q.x * (zi * zi % p384) % p384 % p384Order == r)

end Sys2Proof.Machine
end

