-- ==== Sys2Proof/Machine/ImgOps.lean ====
section
/-! DEFINITION. The Wenuimo image (02 R55 – R58) and its configuration section (02 R62, R63; 10 R341, R342; 12 R415 – R419; 13 R442;
14 R486 – R488; 16 R565): layouts, checks 1 – 13, and what the records set. -/

namespace Sys2Proof.Machine

open Sys2Proof

/-- `n` bytes at an offset. -/
def slice (bs : List Byte) (off n : Nat) : List Byte := (bs.drop off).take n
/-- A 48-byte hash at an offset. -/
def hashAt (bs : List Byte) (off : Nat) : BitVec 384 := BitVec.ofNat 384 (leAt bs off 48)
/-- The first 4 KiB boundary at or after an offset. -/
def up4k (n : Nat) : Nat := ceilDiv n 4096 * 4096
/-- The checks of one list, in order: the first that fails gives its cause. -/
def firstFail : List (Bool × Nat) → Option Nat
  | [] => none
  | (bad, c) :: l => if bad then some c else firstFail l

/-! ### Headers and sections -/

def kprOff (bs : List Byte) : Nat := leAt bs 0x10 4
def kprLen (bs : List Byte) : Nat := leAt bs 0x14 4
def tndOff (bs : List Byte) : Nat := leAt bs 0x18 4
def tndLen (bs : List Byte) : Nat := leAt bs 0x1C 4
/-- Offset of the customer header (02 R56). -/
def custOff (bs : List Byte) : Nat := up4k (max (kprOff bs + kprLen bs) (tndOff bs + tndLen bs))
/-- The customer header. -/
def custHdr (bs : List Byte) : List Byte := slice bs (custOff bs) 1024
def graftCount (c : List Byte) : Nat := leAt c 0xC 1 % 16
def ckeySlot (c : List Byte) : Nat := leAt c 0xD 1
def cfgOff (c : List Byte) : Nat := leAt c 0x10 4
def cfgLen (c : List Byte) : Nat := leAt c 0x14 4
/-- The graft entries of the customer header. -/
def graftEntries (c : List Byte) : List GraftEntry :=
  (List.range (graftCount c)).map (fun i =>
    let o := 0x50 + 64 * i
    { offset := leAt c o 4, length := leAt c (o + 4) 4, id := leAt c (o + 8) 2, hash := hashAt c (o + 16) })
/-- Every header and section as an offset and a length. -/
def extents (bs : List Byte) : List (Nat × Nat) :=
  let c := custHdr bs
  [(0, 512), (kprOff bs, kprLen bs), (tndOff bs, tndLen bs), (custOff bs, 1024), (cfgOff c, cfgLen c)] ++ (graftEntries c).map (fun g => (g.offset, g.length))
/-- Two extents share no byte. -/
def apart (a b : Nat × Nat) : Bool := a.2 == 0 || b.2 == 0 || decide (a.1 + a.2 ≤ b.1) || decide (b.1 + b.2 ≤ a.1)
def allApart : List (Nat × Nat) → Bool
  | [] => true
  | a :: l => l.all (apart a) && allApart l

/-- Check 1: both MAGIC values, FORMAT and HDR_SIZE. -/
def badFormat (bs : List Byte) : Bool :=
  let c := custHdr bs
  decide (leAt bs 0 4 ≠ 0x574E5631) || decide (leAt bs 4 2 ≠ 1) || decide (leAt bs 6 2 ≠ 512) || decide (leAt c 0 4 ≠ 0x574E4331) || decide (leAt c 4 2 ≠ 1)
    || decide (leAt c 6 2 ≠ 1024)
/-- Check 3: sizes and bounds (02 R55 – R57). -/
def badSize (bs : List Byte) : Bool :=
  let c := custHdr bs
  let gs := graftEntries c
  decide (Config.imageMax < bs.length) || decide (196608 < kprLen bs) || decide (327680 < tndLen bs) || decide (1048576 < cfgLen c) || decide (cfgLen c % 8 ≠ 0)
    || decide (8 < graftCount c) || gs.any (fun g => decide (65536 < g.length)) || decide (131072 < (gs.map (·.length)).sum)
    || [kprOff bs, tndOff bs, cfgOff c].any (fun o => decide (o % 4096 ≠ 0)) || gs.any (fun g => decide (g.offset % 4096 ≠ 0))
    || (extents bs).any (fun e => decide (bs.length < e.1 + e.2)) || !allApart (extents bs)
/-- A key at an offset whose hash a list of key hashes holds at an unrevoked slot. -/
def keyOk (hashes : List (BitVec 384)) (revoked slot : Nat) (key : List Byte) : Bool :=
  hashes[slot]? == some (sha384 key) && !bit revoked slot
/-- Checks 4 – 12 need the part's OTP (02 R58). -/
def signed (bs : List Byte) (n key sig : Nat) : Bool := ecdsaVerify (slice bs key 96) (sha384 (slice bs 0 n)) (slice bs sig 96)
def badCustomerSig (o : Otp) (c : List Byte) : Bool :=
  decide (ckeySlot c ≠ 0xFF) && !(keyOk o.custHash o.custRevoked.toNat (ckeySlot c) (slice c 0x280 96) && signed c 0x2E0 0x280 0x2E0)
def badBind (bs c : List Byte) : Bool := !((slice c 0x250 48).all (· == 0) || hashAt c 0x250 == sha384 (slice bs 0 512))
/-- A section whose hash differs. -/
def badHash (bs : List Byte) (off len : Nat) (h : BitVec 384) : Bool := sha384 (slice bs off len) != h
/-- Checks 1 – 12 in order: the cause of the first that fails (02 R58). -/
def imageFault (o : Otp) (bs : List Byte) : Option Nat :=
  let c := custHdr bs
  let vslot := leAt bs 0x80 1 % 4
  let step := leAt bs 0xD 1
  firstFail [
    (badFormat bs, 1), (step != 0x10 && step != 0xFF, 2), (badSize bs, 3),
    (!keyOk o.vendHash o.vendRevoked.toNat vslot (slice bs 0x88 96), 4), (!signed bs 0xE8 0x88 0xE8, 5), (decide (leAt bs 0xC 1 % 128 < o.floor), 6),
    (badHash bs (kprOff bs) (kprLen bs) (hashAt bs 0x20) || badHash bs (tndOff bs) (tndLen bs) (hashAt bs 0x50), 7),
    ((o.life == .planted && ckeySlot c == 0xFF) || (o.life == .seedling && ckeySlot c != 0xFF), 8), (badCustomerSig o c, 9),
    (ckeySlot c == 0xFF && graftCount c != 0, 10), (badBind bs c, 11),
    (badHash bs (cfgOff c) (cfgLen c) (hashAt c 0x18) || (graftEntries c).any (fun g => badHash bs g.offset g.length g.hash), 7)]
/-- What the part keeps of an image. -/
def imageInfo (bs : List Byte) : ImageInfo :=
  let c := custHdr bs
  { fwVersion := leAt bs 8 4, svn := leAt bs 0xC 1 % 128, cfgHash := hashAt c 0x18, cfg := slice bs (cfgOff c) (cfgLen c), grafts := graftEntries c,
    graftHdrs := (graftEntries c).map (fun g => slice bs g.offset (min 64 g.length)) }

/-! ### Configuration records (02 R62) -/

/-- A configuration record with its header. -/
structure CfgRec where
  ty : Nat
  scope : Nat
  required : Bool
  bytes : List Byte
  deriving DecidableEq, Repr

/-- The records of a configuration section; none when they do not fill it exactly. -/
def cfgRecs : Nat → List Byte → Option (List CfgRec)
  | 0, bs => if bs.isEmpty then some [] else none
  | n + 1, bs =>
    if bs.isEmpty then some []
    else
      let len := leAt bs 4 4
      let w := leAt bs 0 4
      if bs.length < 8 ∨ len < 8 ∨ len % 8 ≠ 0 ∨ bs.length < len then none
      else match cfgRecs n (bs.drop len) with
        | none => none
        | some l => some (⟨w % 65536, bits w 16 15, bit w 31, bs.take len⟩ :: l)
def recordsOf (cfg : List Byte) : Option (List CfgRec) := cfgRecs (cfg.length / 8) cfg
/-- The record of a type and scope. -/
def findRec (l : List CfgRec) (ty scope : Nat) : Option CfgRec := l.find? (fun r => r.ty == ty && r.scope == scope)
def CfgRec.word (r : CfgRec) (off : Nat) : Nat := leAt r.bytes off 4
/-- A signed 16-bit value. -/
def signed16 (x : Nat) : Int := if x % 65536 < 32768 then (x % 65536 : Nat) else ((x % 65536 : Nat) : Int) - 65536

/-- Bits of a word outside the fields of a register are 0. -/
def reservedZero (off w : Nat) : Bool := writeWord ((fields off).map (fun f => { f with acc := .rw })) false 0 w == w
/-- A PRT_TC_CFG value that the image check refuses (10 R342). -/
def tcCfgBad (w : Nat) : Bool :=
  let prof := bits w 0 2
  let sbu := bits w 12 2
  sbu == 3 || (sbu == 2 && prof != 3) || bit w 15 || bit w 23 || bit w 31
    || (decide (prof ≤ 1) && (bits w 2 2 == 3 || bits w 4 2 == 3 || bits w 6 2 == 3 || (bits w 4 2 != 0 && bits w 2 2 != 2)))
def profileBad (r : CfgRec) : Bool :=
  decide (r.bytes.length ≠ 24) || decide (128 ≤ r.scope) || tcCfgBad (r.word 8) || !reservedZero (portReg 0 0x404) (r.word 0xC) || !reservedZero (portReg 0 0x408) (r.word 0x10)
    || decide (r.word 0x14 ≠ 0)
/-- A user calibration value pair (16 R565). -/
def calOf (w : Nat) : CalPair := ⟨signed16 w, signed16 (w / 65536)⟩
def calBad (c : CalPair) : Bool := decide (c.gain < -10000) || decide (10000 < c.gain) || decide (c.offset < -25000) || decide (25000 < c.offset)
def userCalBad (r : CfgRec) : Bool :=
  decide (r.bytes.length ≠ 24) || decide (128 ≤ r.scope) || calBad (calOf (r.word 8)) || calBad (calOf (r.word 0xC)) || decide (leAt r.bytes 0x10 8 ≠ 0)

/-- The hook-up entry of a local position (12 R416). -/
def hookOf (r : CfgRec) (l : Nat) : Hook :=
  let w := fun i => r.word (0x20 + 16 * l + 4 * i)
  { rsense := bits (w 0) 0 16, rt := bits (w 0) 16 16, v0 := bits (w 1) 0 12, sinkEn := bit (w 1) 12, vCeil := bits (w 1) 16 9, iCeil := bits (w 2) 0 7,
    fixedV := bits (w 2) 8 8, fixedI := bits (w 2) 16 7, rDisch := bits (w 3) 0 14 }
def inRange (lo hi x : Nat) : Bool := decide (lo ≤ x) && decide (x ≤ hi)
/-- A fitted entry lies in its ranges; FIXED_V and FIXED_I may be 0 where no profile uses them. -/
def hookInRange (h : Hook) : Bool :=
  inRange 10 500 h.rsense && inRange 100 65535 h.rt && inRange 500 3300 h.v0 && inRange 50 480 h.vCeil && inRange 2 100 h.iCeil && inRange 100 10000 h.rDisch
    && (h.fixedV == 0 || inRange 50 200 h.fixedV) && (h.fixedI == 0 || inRange 2 100 h.fixedI)
/-- Reserved bits of an entry (12 R416). -/
def hookReserved (r : CfgRec) (l : Nat) : Bool :=
  let w := fun i => r.word (0x20 + 16 * l + 4 * i)
  bits (w 1) 13 3 != 0 || bits (w 1) 25 7 != 0 || bit (w 2) 7 || bits (w 2) 23 9 != 0 || bits (w 3) 14 18 != 0
def hookFitted (r : CfgRec) (l : Nat) : Bool := (slice r.bytes (0x20 + 16 * l) 16).any (· != 0)
def bedRecBad (r : CfgRec) : Bool :=
  decide (r.bytes.length ≠ 288) || decide (4000 < r.word 8) || bits (r.word 0xC) 7 1 != 0 || bits (r.word 0xC) 16 16 != 0 || decide (100 < bits (r.word 0xC) 0 7)
    || [0x10, 0x14].any (fun o =>
        bits (r.word o) 12 4 != 0 || bits (r.word o) 28 4 != 0 || !(bits (r.word o) 0 12 == 0 || inRange 100 1200 (bits (r.word o) 0 12))
          || !(bits (r.word o) 16 12 == 0 || inRange 10 500 (bits (r.word o) 16 12)))
    || leAt r.bytes 0x18 8 != 0 || (List.range 16).any (fun l => hookReserved r l || (hookFitted r l && !hookInRange (hookOf r l)))
def budgetBad (r : CfgRec) : Bool :=
  if r.scope = 0 then decide (r.bytes.length ≠ 16) || decide (20000 < r.word 8) || decide (r.word 0xC ≠ 0) else decide (8 < r.scope) || bedRecBad r
def shedBad (r : CfgRec) : Bool := decide (r.scope ≠ 0) || decide (r.bytes.length ≠ 136) || (r.bytes.drop 8).any (fun b => decide (8 ≤ b.toNat))
def persistBad (r : CfgRec) : Bool :=
  decide (r.scope ≠ 0) || decide (r.bytes.length ≠ 32) || !inRange 5 80 (bits (r.word 8) 8 8) || bits (r.word 8) 16 16 != 0 || decide (r.word 0xC ≠ 0)
def modeBad (r : CfgRec) : Bool :=
  decide (r.scope ≠ 0) || decide (r.bytes.length ≠ 16) || bits (r.word 8) 0 2 == 3 || !reservedZero 0x100008 (r.word 8) || decide (64 < bits (r.word 8) 8 8) || decide (r.word 0xC ≠ 0)
def quotaBad (count : Nat) (r : CfgRec) : Bool :=
  decide (r.bytes.length ≠ 32) || decide (8 ≤ r.scope) || decide (count ≤ r.scope) || decide (4 < bits (r.word 8) 0 3) || bits (r.word 8) 3 5 != 0
    || decide (32 < bits (r.word 8) 8 8) || decide (50 < bits (r.word 8) 16 6) || bits (r.word 8) 22 10 != 0 || decide (r.word 0xC ≠ 0)
/-- A record whose body breaks the bounds of its chapter, or an unknown one that is required (02 R63). -/
def recBad (count : Nat) (r : CfgRec) : Bool :=
  match r.ty with
  | 1 => profileBad r
  | 2 => userCalBad r
  | 3 => budgetBad r
  | 4 => shedBad r
  | 5 => persistBad r
  | 6 => modeBad r
  | 7 => quotaBad count r
  | _ => r.required
def noTwice : List CfgRec → Bool
  | [] => true
  | r :: l => l.all (fun x => !(x.ty == r.ty && x.scope == r.scope)) && noTwice l

/-- PRT_TC_CFG of a port as the image gives it (10 R341). -/
def tcCfgOf (l : List CfgRec) (p : Nat) : Nat := match findRec l 1 p with | some r => r.word 8 | none => 0
/-- The hook-up entry of a port; none when nothing is fitted (12 R416). -/
def hookFor (l : List CfgRec) (p : Nat) : Option Hook :=
  match findRec l 3 (bedOf p + 1) with
  | some r => if hookFitted r (p % 16) then some (hookOf r (p % 16)) else none
  | none => none
/-- What R417 refuses of a port whose profile is not DISABLED. -/
def portBad (l : List CfgRec) (p : Nat) : Bool :=
  let w := tcCfgOf l p
  let prof := bits w 0 2
  if prof = 0 then false
  else match hookFor l p with
    | none => true
    | some h =>
      !hookInRange h || decide (50000 < 5 * h.iCeil * h.rsense) || decide (h.v0 * 10000 + h.rt * 511875 < h.vCeil * 1000000) || decide (8000 < h.rt)
        || decide (150 * h.rDisch < h.vCeil * 100) || (prof == 1 && bits w 2 2 != 0 && !h.sinkEn)
        || (decide (2 ≤ prof) && (decide (h.fixedI < 2) || decide (h.iCeil < h.fixedI))) || (prof == 3 && (decide (h.fixedV < 50) || decide (h.vCeil < h.fixedV)))

/-! ### Grafts (14 R486 – R488) -/

/-- A graft as its header and quota give it, running. -/
def graftOf (l : List CfgRec) (i : Nat) (hdr : List Byte) : Graft :=
  let w := match findRec l 7 i with | some r => r.word 8 | none => 0
  let mask := match findRec l 7 i with | some r => leAt r.bytes 0x10 16 | none => 0
  { st := 1, kind := leAt hdr 4 1, hooks := leAt hdr 8 4, threads := max 1 (bits w 0 3), memKib := if bits w 8 8 = 0 then 4 else bits w 8 8,
    run := if bits w 16 6 = 0 then 20 else bits w 16 6, mask := BitVec.ofNat 128 mask }
def graftHdrBad (g : GraftEntry) (hdr : List Byte) : Bool :=
  decide (hdr.length < 64) || decide (leAt hdr 0 4 ≠ 0x574E4731) || !inRange 1 2 (leAt hdr 4 1) || decide (leAt hdr 5 1 ≠ 1) || decide (leAt hdr 6 2 ≠ g.id)
    || decide (g.length ≤ leAt hdr 0xC 4) || (hdr.drop 0x10).any (· != 0)
def maskClash : List Graft → Bool
  | [] => false
  | g :: l => l.any (fun x => x.kind == g.kind && (x.mask &&& g.mask) != 0) || maskClash l
def graftsOf (l : List CfgRec) (i : ImageInfo) : List Graft := (i.graftHdrs.zipIdx).map (fun x => graftOf l x.2 x.1)
def graftsBad (l : List CfgRec) (i : ImageInfo) : Bool :=
  let gs := graftsOf l i
  (i.grafts.zip i.graftHdrs).any (fun x => graftHdrBad x.1 x.2) || decide (4 < (gs.map (·.threads)).sum) || decide (32 < (gs.map (·.memKib)).sum) || maskClash gs

/-- Check 13: the keepers refuse the configuration image (02 R63). -/
def configBad (i : ImageInfo) : Bool :=
  match recordsOf i.cfg with
  | none => true
  | some l => l.any (recBad i.grafts.length) || !noTwice l || ports.any (portBad l) || graftsBad l i

/-! ### What the records set (02 R64; 18 R602) -/

def applyPort (l : List CfgRec) (p : Nat) (s : State) : State :=
  let w := fun o => match findRec l 1 p with | some r => r.word o | none => 0
  let s := ((s.rput (portReg p 0x400) (w 8)).rput (portReg p 0x404) (w 0xC)).rput (portReg p 0x408) (w 0x10)
  let user : Cal := match findRec l 2 p with | some r => ⟨calOf (r.word 8), calOf (r.word 0xC)⟩ | none => {}
  let s := s.hookPut p { (hookFor l p).getD {} with user }
  let cls := match findRec l 4 0 with | some r => leAt r.bytes (8 + p) 1 % 8 | none => 7
  s.pathOn p (fun x => { x with shedClass := cls })
def applyBed (l : List CfgRec) (b : Nat) (s : State) : State :=
  match findRec l 3 (b + 1) with
  | none => s
  | some r =>
    let hyst := fun o => if bits (r.word o) 16 12 = 0 then 50 else bits (r.word o) 16 12
    s.bedOn b (fun x => { x with
      bedW := r.word 8, cutPct := if bits (r.word 0xC) 0 7 = 0 then 50 else bits (r.word 0xC) 0 7,
      restore := if bits (r.word 0xC) 8 8 = 0 then 10 else bits (r.word 0xC) 8 8,
      warnMv := [bits (r.word 0x10) 0 12, bits (r.word 0x14) 0 12], hystMv := [hyst 0x10, hyst 0x14] })
def modeOf (n : Nat) : Mode := match n with | 1 => .bloom | 2 => .fallow | _ => .steady
/-- MODE_CFG as the image gives it (13 R442). -/
def modeCfgOf (l : List CfgRec) : Nat := match findRec l 6 0 with | some r => r.word 8 | none => 0x1000
def persistOf (l : List CfgRec) : Persist :=
  match findRec l 5 0 with
  | some r => { enable := bit (r.word 8) 0, hold := bits (r.word 8) 8 8, mask := BitVec.ofNat 128 (leAt r.bytes 0x10 16) }
  | none => {}
/-- The configuration image is applied (02 R64, R65). -/
def applyConfig (i : ImageInfo) (s : State) : State :=
  let l := (recordsOf i.cfg).getD []
  let s := forEach bedsAll (applyBed l) (forEach ports (applyPort l) s)
  let s := s.rput 0x100008 (modeCfgOf l)
  let devW := match findRec l 3 0 with | some r => r.word 8 | none => 0
  let s := { s with budget := { s.budget with devW }, boot := { s.boot with persist := persistOf l } }
  forEach (graftsOf l i).zipIdx (fun x s => s.graftPut x.2 x.1) s

end Sys2Proof.Machine
end

