-- ==== Sys2Proof/Machine/SlotCmds.lean ====
section
/-! DEFINITION. NO-OP, unknown commands, and the commands on slots and endpoints (04 R137, R138; 05 R180 – R190). -/

namespace Sys2Proof.Machine

open Sys2Proof

/-! ### Shared checks -/

/-- Checks of SLOT (05, Commands): an open slot, a port of the function, and GONE under R176. -/
def slotCheck (f b : Nat) (goneOk : Bool) (s : State) : Option Nat :=
  let sl := s.slot (slotKey f b)
  if !s.slotOpen f b then some ccParam
  else if !s.owns f sl.port then some ccFunction
  else if sl.gone && !goneOk then some ccAborted
  else none
def State.epDefined (s : State) (r : Nat) : Bool := (s.ep r).st != .closed
/-- Keys under which a slot command waits: its slot, and the endpoints it changes (04 R139; 05 R190, R198). -/
def slotWait (h : CmdHdr) (b : Nat) (rs : List Nat) : List WaitKey := .slot h.fn b :: rs.map .ep
/-- A command on a slot: an error code, or its effect; `rs` are the endpoints it changes. -/
def slotCommand (c : Instr) (h : CmdHdr) (opcode b : Nat) (rs : List Nat) (code : State → Option Nat) (ok : State → State) (s : State) : State :=
  command c h (slotWait h b rs) (fun s => match code s with | some e => cmdDone h opcode e 0 b s | none => ok s) s
/-- An event ring that is enabled (04 R151). -/
def State.evrOk (s : State) (f r : Nat) : Bool := decide (r < ringsOf f) && s.evrEnable f r

/-! ### NO-OP and unknown opcodes -/

def doNoOp (c : Instr) (h : CmdHdr) (q : Params) (rsv : Word) (s : State) : State :=
  command c h [] (cmdDone h 1 (if p0 q = 0 ∧ p1 q = 0 ∧ p2 q = 0 ∧ rsv = 0 then ccSuccess else ccParam) 0 0) s
/-- NO-OP (04 R138). -/
def execNoOp (h : CmdHdr) (q : Params) (rsv : Word) (s : State) : Host.Outcome State Fault Refusal := .next (doNoOp (.noOp h q rsv) h q rsv s)

/-- Commands of the table by number (04 R137). -/
def knownOpcodes : List Nat :=
  [0x01, 0x10, 0x11, 0x12, 0x13, 0x14, 0x15, 0x16, 0x17, 0x20, 0x21, 0x22, 0x23, 0x30, 0x31, 0x32, 0x33, 0x34, 0x35]
/-- The code of a descriptor that is no command, of a known opcode that no row gives, and of an unknown opcode (04 R137, R138). -/
def unknownCode (ty op : Nat) : Nat :=
  if ty ≠ 0xC then ccParam else if knownOpcodes.contains op then ccParam else ccUnknown

/-! ### OPEN SLOT, ASSIGN ADDRESS -/

/-- MPS of EP0 by speed (05 R180). -/
def ep0Mps (speed mps : Nat) : Bool :=
  match speed with
  | 0 => mps == 8
  | 1 => mps == 8 || mps == 16 || mps == 32 || mps == 64
  | 2 => mps == 64
  | _ => mps == 512
/-- A cursor at a ring base with a first segment size and a count (05 R178). -/
def startCursor (base seg start : Nat) : Cursor := { addr := base, gen := true, count := start, pos := 0, len := (seg + 1) * 128 }
/-- A new endpoint at its ring base (05 R178). -/
def newEp (port base seg start : Nat) : Ep :=
  let c := startCursor base seg start
  { st := .idle, port, cur := c, fetch := c, prod := start }
/-- A high-speed hub in the path of a new slot (05 R611). -/
def State.hubPath (s : State) (p route : Nat) : Bool := route != 0 && (s.link p).u2.st == .enabled && (s.link p).u2.speed == 2

/-- Checks of OPEN SLOT (05 R180, R611); a command that names a slot with GONE set, in TT_HUB too, is aborted (05 R176). -/
def openSlotCode (f : Nat) (q : Params) (s : State) : Option Nat :=
  let p := bits (p0 q) 0 7
  let speed := bits (p0 q) 8 3
  let route := bits (p0 q) 12 20
  let ttHub := bits (p0 q) 32 16
  let ttPort := bits (p0 q) 48 7
  let hub := s.slot (slotKey f ttHub)
  let side := (s.link p).side (sideOf speed)
  let lowFull := decide (speed ≤ 1)
  firstErr [
    (bit (p0 q) 7 || bits (p0 q) 55 9 != 0 || bits (p1 q) 4 8 != 0 || bits (p2 q) 43 5 != 0 || bits (p2 q) 56 8 != 0, ccParam),
    (decide (4 < speed) || !routeOk route || !ep0Mps speed (bits (p2 q) 32 11) || !s.evrOk f (bits (p2 q) 48 8), ccParam),
    (!s.owns f p, ccFunction),
    (lowFull && s.hubPath p route && s.slotOpen f ttHub && hub.gone, ccAborted),
    (route == 0 && side.st != .enabled, ccState),
    (route == 0 && side.speed != speed, ccParam),
    (lowFull && s.hubPath p route && !(s.slotOpen f ttHub && hub.port == p && hub.isHub && hub.speed == 2 && beginsRoute hub.route route
      && decide (1 ≤ ttPort) && decide (ttPort ≤ hub.hubPorts)), ccParam),
    (!(lowFull && s.hubPath p route) && (ttHub != 0 || ttPort != 0), ccParam),
    ((s.freeBell f).isNone || !s.slotFits f || !s.ctxFits f 1 || decide (127 ≤ (s.portSlots p).length), ccResource)]

def openSlot (h : CmdHdr) (q : Params) (s : State) : State :=
  let f := h.fn.val
  match openSlotCode f q s, s.freeBell f with
  | some e, _ => cmdDone h 0x10 e 0 0 s
  | none, none => cmdDone h 0x10 ccResource 0 0 s
  | none, some b =>
    let p := bits (p0 q) 0 7
    let s := s.slotPut (slotKey f b) {
      st := .dflt, noSnoop := bit (p0 q) 11, speed := bits (p0 q) 8 3, port := p, route := bits (p0 q) 12 20, ttHub := bits (p0 q) 32 16, ttPort := bits (p0 q) 48 7
      ctxCount := 1, ctxBase := Config.freeNat s.free % 2 ^ 18, seq := add32 (s.slot (slotKey f b)).seq 1 }
    let s := { s with free := s.free + 1 }
    let r := epKey f b 0 0
    let s := s.epPut r { newEp p (p1 q / 4096 * 4096) (bits (p1 q) 0 4) (bits (p2 q) 0 32) with
      ty := 1, mps := bits (p2 q) 32 11, evr := bits (p2 q) 48 8 }
    epCmdDone [r] h 0x10 ccSuccess 0 b (fixRuns s)
def doOpenSlot (c : Instr) (h : CmdHdr) (q : Params) (s : State) : State := command c h [.port (bits (p0 q) 0 7)] (openSlot h q) s
/-- OPEN SLOT (05 R180). -/
def execOpenSlot (h : CmdHdr) (q : Params) (s : State) : Host.Outcome State Fault Refusal := .next (doOpenSlot (.openSlot h q) h q s)

def doAssignAddress (c : Instr) (h : CmdHdr) (q : Params) (s : State) : State :=
  let f := h.fn.val
  let b := bits (p0 q) 0 16
  let key := slotKey f b
  slotCommand c h 0x11 b []
    (fun s => firstErr [(p0 q / 65536 != 0 || p1 q != 0 || p2 q != 0, ccParam), ((slotCheck f b false s).isSome, (slotCheck f b false s).getD 0),
      ((s.slot key).st != .dflt, ccContext),
      ((s.slot key).address == 0 && (s.freeAddress (s.slot key).port).isNone, ccResource)])
    (fun s =>
      if (s.slot key).address ≠ 0 then cmdDone h 0x11 ccSuccess (s.slot key).address b s
      else
        let a := (s.freeAddress (s.slot key).port).getD 0
        cmdDone h 0x11 ccSuccess a b (slotBump key (s.slotOn key (fun x => { x with address := a })))) s
/-- ASSIGN ADDRESS (05 R175, R181). -/
def execAssignAddress (h : CmdHdr) (q : Params) (s : State) : Host.Outcome State Fault Refusal := .next (doAssignAddress (.assignAddress h q) h q s)

/-! ### SET ENDPOINTS -/

/-- One entry of the input block (05 R182). -/
structure EpIn where
  base : Nat
  seg : Nat
  ty : Nat
  streams : Bool
  mps : Nat
  burst : Nat
  mult : Nat
  interval : Nat
  retry : Nat
  evr : Nat
  iface : Nat
  stLog : Nat
  start : Nat
  rsv : Bool
  deriving DecidableEq, Repr
def epIn (blk : List Byte) (e : Nat) : EpIn :=
  let q := leAt blk (0x20 + 32 * e) 8
  let a := leAt blk (0x28 + 32 * e) 4
  let b := leAt blk (0x2C + 32 * e) 4
  { base := q / 4096 * 4096, seg := bits q 0 4, ty := bits a 0 3, streams := bit a 3, mps := bits a 4 11, burst := bits a 15 4, mult := bits a 19 2,
    interval := bits a 21 4, retry := if bits a 25 4 = 0 then 3 else bits a 25 4, evr := bits b 0 8, iface := bits b 8 8, stLog := bits b 16 4,
    start := leAt blk (0x30 + 32 * e) 4, rsv := bits q 4 8 != 0 || bits a 29 3 != 0 || bits b 20 12 != 0 || leAt blk (0x34 + 32 * e) 12 != 0 }

/-- Limits of MPS, MAX_BURST and MULT by speed and type (05 R608; 09 R318). -/
def limitsOk (speed ty mps burst mult : Nat) : Bool :=
  let iso := ty == 2 || ty == 5
  let bulk := ty == 3 || ty == 6
  let upTo := fun n => decide (1 ≤ mps) && decide (mps ≤ n)
  match speed with
  | 0 => !iso && !bulk && upTo 8 && burst == 0 && mult == 0
  | 1 => burst == 0 && mult == 0 && (if bulk then mps == 8 || mps == 16 || mps == 32 || mps == 64 else if iso then upTo 1023 else upTo 64)
  | 2 => burst == 0 && (if bulk then mps == 512 && mult == 0 else upTo 1024 && decide (mult ≤ 2))
  | _ =>
    if bulk then mps == 1024 && mult == 0
    else if iso then upTo 1024 && decide (mult ≤ 2) && (burst == 0 || mps == 1024) && (burst != 0 || mult == 0)
    else upTo 1024 && decide (burst ≤ 2) && (burst == 0 || mps == 1024) && mult == 0
/-- The MPS that USB 2.0 requires of high-bandwidth endpoints (PRESUMED, notes/assumptions/20.md). -/
def highBandwidthOk (speed mps mult : Nat) : Bool := speed != 2 || (if mult = 1 then decide (513 ≤ mps) else if mult = 2 then decide (683 ≤ mps) else true)
/-- INTERVAL (05 R608). -/
def intervalOk (speed ty interval : Nat) : Bool :=
  if ty == 3 || ty == 6 then interval == 0
  else if ty == 2 || ty == 5 then speed != 0
  else if speed ≤ 1 then decide (interval ≤ 7) else true
/-- Whether an entry at an index is acceptable for a device (05 R183). -/
def epInOk (s : State) (f speed e : Nat) (x : EpIn) : Bool :=
  if e = 0 then !x.rsv && ep0Mps speed x.mps && s.evrOk f x.evr
  else !x.rsv && decide (2 ≤ x.ty) && (if e % 2 = 1 then decide (x.ty ≤ 4) else decide (5 ≤ x.ty)) && limitsOk speed x.ty x.mps x.burst x.mult
    && highBandwidthOk speed x.mps x.mult && intervalOk speed x.ty x.interval && (!x.streams || (isSsSpeed speed && (x.ty == 3 || x.ty == 6) && decide (x.stLog ≤ 9)))
    && s.evrOk f x.evr
/-- The indices that a mask names. -/
def maskIdx (m : Nat) : List Nat := (List.range 31).filter (fun e => bit m e)
/-- Header checks (05 R182, R183). -/
def blkHeaderBad (blk : List Byte) : Bool :=
  let add := leAt blk 0 4
  let drop := leAt blk 4 4
  let hub := leAt blk 8 4
  bit add 31 || bit drop 0 || bit drop 31 || bits hub 2 6 != 0 || bits hub 16 16 != 0 || leAt blk 0xC 20 != 0 || (maskIdx add).any (fun e => bit drop e)

/-- Defines one endpoint of a device or guest at a key (05 R178); a stream endpoint takes its stream contexts (05 R172). -/
def defineEp (r port : Nat) (guest : Bool) (x : EpIn) (s : State) : State :=
  let s := epClose r s
  let e : Ep := { newEp port x.base x.seg x.start with
    guest, ty := x.ty, mps := x.mps, burst := x.burst, mult := x.mult, interval := x.interval, retry := x.retry, streams := x.streams, stLog := if x.streams then x.stLog else 0,
    evr := x.evr, iface := x.iface }
  if !x.streams then s.epPut r e
  else
    let s := { s.epPut r { e with base := Config.freeNat s.free % 2 ^ 18 } with free := s.free + 1 }
    forEach ((List.range (2 ^ (x.stLog + 1))).filter (· != 0)) (fun i s => s.epPut (r + i) { e with streams := false, stLog := 0, cur := {}, fetch := {}, prod := 0 }) s

/-- The next order of admission on a port. -/
def State.nextAdmit (s : State) (p : Nat) : Nat := ((s.portPers p).map (fun e => e.admitNo)).foldl max 0 + 1
/-- Periodic endpoints of one side of a port. -/
def State.sidePers (s : State) (p : Nat) (sd : Side) : List Per := (s.portPers p).filter (fun e => sideOf e.speed == sd)
/-- Places a new periodic endpoint in the plan (06 R214), and on a full- or low-speed bus or translator in its microframes Y (06 R223, R609). -/
def placeEp (r : Nat) (s : State) : State :=
  let e := s.ep r
  if !e.periodic then s
  else
    let sd := sideOf (s.epSpeed r)
    let others := (s.sidePers e.port sd).filter (fun x => x.key != r)
    let n := s.nextAdmit e.port
    let ph := bestPhase ((s.link e.port).side sd).speed others (s.per r)
    s.epOn r (fun e => { e with phase := ph, admitNo := n, ys := if s.epSpeed r ≤ 1 then placeYs others { s.per r with phase := ph } else [] })
/-- Every window of the plan holds at most 48 periodic entries, both sides of the port counted (06 R215 condition 3, R609; 08 R274). -/
def windowsOk (us vs : Nat) (u v : List Per) : Bool :=
  let uc := ttCosts u
  let vc := ttCosts v
  (List.range 256).all (fun n => decide (windowEntries us u uc n + windowEntries vs v vc n ≤ 48))
/-- Whether the periodic endpoints of a port and of the part can all be admitted (06 R215; 08 R274). -/
def State.admitted (s : State) (p f : Nat) : Bool :=
  let u := s.sidePers p .usb2
  let v := s.sidePers p .ss
  let us := (s.link p).u2.speed
  let vs := (s.link p).ss.speed
  (u.isEmpty || busOk us u) && (v.isEmpty || busOk vs v) && windowsOk us vs u v && s.partOk s.pers f

/-- Applies drops and adds (05 R182, R183). -/
def applyEndpoints (f b port : Nat) (guest : Bool) (blk : List Byte) (s : State) : State :=
  let add := maskIdx (leAt blk 0 4)
  let drop := (maskIdx (leAt blk 4 4)).filter (fun e => s.epDefined (epKey f b e 0))
  let s := forEach drop (fun e s => epClose (epKey f b e 0) s) s
  let s := forEach (add.filter (· != 0)) (fun e s => epClose (epKey f b e 0) s) s
  forEach add (fun e s =>
    let x := epIn blk e
    let r := epKey f b e 0
    if e = 0 then epBump r (s.epOn r (fun c => { c with mps := x.mps, evr := x.evr }))
    else
      let s := defineEp r port guest x s
      if guest then s else placeEp r s) s
/-- The highest defined index plus one. -/
def State.runLength (s : State) (key : Nat) : Nat := ((s.slotRoots key).map (fun r => keyEp r + 1)).foldl max 1

/-- The endpoints that an input block adds, and those it drops that are defined (05 R182). -/
def State.blkTouched (s : State) (f b : Nat) (blk : List Byte) : List Nat :=
  (maskIdx (leAt blk 0 4) ++ (maskIdx (leAt blk 4 4)).filter (fun e => s.epDefined (epKey f b e 0))).map (fun e => epKey f b e 0)
/-- Checks of SET ENDPOINTS (05 R182, R183). CONTEXT-STATE-ERROR, which R182 judges as the command starts, is judged before the input block
(DESIGN CHOICE, notes/assumptions/12.md: the spec orders no two checks). -/
def setEndpointsCode (f b : Nat) (q : Params) (blk : List Byte) (s : State) : Option Nat :=
  let key := slotKey f b
  let sl := s.slot key
  let add := maskIdx (leAt blk 0 4)
  let touched := s.blkTouched f b blk
  firstErr [
    (bits (p0 q) 16 48 != 0 || p1 q % 64 != 0 || p2 q != 0, ccParam),
    ((slotCheck f b false s).isSome, (slotCheck f b false s).getD 0),
    (sl.st == .dflt && touched.any (fun r => keyEp r != 0), ccContext),
    (touched.any (fun r => (s.ep r).st == .running), ccContext),
    (blkHeaderBad blk || (bit (leAt blk 8 4) 0 && !(decide (1 ≤ bits (leAt blk 8 4) 8 8) && decide (bits (leAt blk 8 4) 8 8 ≤ 127))), ccParam),
    (add.any (fun e => !epInOk s f sl.speed e (epIn blk e)), ccParam)]
/-- The state that SET ENDPOINTS leaves, before its admission is judged. -/
def setEndpointsTo (f b : Nat) (blk : List Byte) (s : State) : State :=
  let key := slotKey f b
  let hub := leAt blk 8 4
  let s := s.slotOn key (fun x => { x with isHub := bit hub 0, multiTt := bit hub 1, hubPorts := bits hub 8 8 })
  let s := applyEndpoints f b (s.slot key).port false blk s
  let more := (s.slotRoots key).any (fun r => keyEp r != 0)
  let n := s.runLength key
  slotBump key (s.slotOn key (fun x => { x with ctxCount := n, st := if x.st == .dflt then .dflt else if more then .configured else .addressed }))
def setEndpoints (h : CmdHdr) (b : Nat) (blk : List Byte) (s : State) : State :=
  let f := h.fn.val
  let key := slotKey f b
  let t := setEndpointsTo f b blk s
  let old := s.ctxOf key (s.slot key).ctxCount
  let new := t.ctxOf key (t.slot key).ctxCount
  let periodicAdd := (maskIdx (leAt blk 0 4)).any (fun e => e != 0 && (epIn blk e).ty != 3 && (epIn blk e).ty != 6)
  if !s.ctxFits f (new - old) then cmdDone h 0x12 ccResource 0 b s
  else if periodicAdd && !t.admitted (t.slot key).port f then cmdDone h 0x12 ccBandwidth 0 b s
  else epCmdDone ((s.blkTouched f b blk).filter (fun r => t.epDefined r)) h 0x12 ccSuccess 0 b (fixRuns t)
def doSetEndpoints (c : Instr) (h : CmdHdr) (q : Params) (blk : List Byte) (s : State) : State :=
  let b := bits (p0 q) 0 16
  slotCommand c h 0x12 b (s.blkTouched h.fn b blk) (setEndpointsCode h.fn b q blk) (setEndpoints h b blk) s
/-- SET ENDPOINTS (05 R182, R183, R608). -/
def execSetEndpoints (h : CmdHdr) (q : Params) (blk : List Byte) (s : State) : Host.Outcome State Fault Refusal :=
  .next (doSetEndpoints (.setEndpoints h q blk) h q blk s)

/-! ### Endpoint commands, shared with guests (05 R184, R185, R187; 09 R323) -/

/-- CLEAR HALT's effect: Idle, or Running when work stands (05 R178, R184). -/
def clearHalt (r : Nat) (toggle : Bool) (s : State) : State :=
  let e := s.ep r
  let work := (s.epAll r).any (fun k => (s.ep k).cur.count != (s.ep k).prod && (keyStream k != 0 || !e.streams))
  let s := s.epOn r (fun e => { e with st := if work then .running else .idle, toggle := if toggle then false else e.toggle, seq := if toggle then 0 else e.seq })
  let s := forEach (s.epAll r) (fun k s =>
    if keyStream k ≠ 0 ∧ (s.ep k).cur.count ≠ (s.ep k).prod then epBump k (s.epOn k (fun e => { e with st := .running })) else s) s
  forEach (s.epAll r) epSettle (epBump r s)
/-- Whether a stream ID may be named (05 R185). -/
def streamBad (e : Ep) (st : Nat) : Bool := if e.streams then st == 0 || decide (2 ^ (e.stLog + 1) ≤ st) else st != 0
/-- MOVE CURSOR's effect (05 R185; 07 R268). The length of the new position's segment is not given: no position is the last of it until a LINK
has been followed (DEDUCED, notes/assumptions/21.md). -/
def moveCursor (k deq gen count : Nat) (s : State) : State :=
  epBump k (s.epOn k (fun e =>
    let c : Cursor := { addr := deq, gen := gen == 1, count, pos := 0, len := 0 }
    { e with cur := c, fetch := c, done := 0, moved := 0, skip := false, tds := [], ahead := [], bad := none, staged := [], curRd := {}, rd := {}, owed := none,
             dataEnd := false, begun := false, snoop := false, isoOn := false, isoLast := false }))
/-- PAUSE's effect on an Idle or Running endpoint (05 R187): it completes at once when nothing is on the wire. -/
def pauseStart (h : CmdHdr) (opcode r : Nat) (o : Op) (s : State) : State :=
  let s := stopStart r (.pause h opcode) s
  let s := opStart o s
  if s.epBusy r then s else pauseFinish r s

/-- Shared checks of a command that names SLOT and EP. -/
def epCode (f b e : Nat) (bad : Bool) (s : State) : Option Nat :=
  firstErr [(bad, ccParam), ((slotCheck f b false s).isSome, (slotCheck f b false s).getD 0), (decide (30 < e) || !s.epDefined (epKey f b e 0), ccParam)]

def doClearHalt (c : Instr) (h : CmdHdr) (q : Params) (s : State) : State :=
  let f := h.fn.val
  let b := bits (p0 q) 0 16
  let e := bits (p0 q) 16 5
  let r := epKey f b e 0
  slotCommand c h 0x13 b [r]
    (fun s => match epCode f b e (bits (p0 q) 21 3 != 0 || bits (p0 q) 25 39 != 0 || p1 q != 0 || p2 q != 0) s with
      | some x => some x
      | none => if (s.ep r).st == .halted then none else some ccContext)
    (fun s => epCmdDone (s.epAll r) h 0x13 ccSuccess 0 b (clearHalt r (bit (p0 q) 24) s)) s
/-- CLEAR HALT (05 R184). -/
def execClearHalt (h : CmdHdr) (q : Params) (s : State) : Host.Outcome State Fault Refusal := .next (doClearHalt (.clearHalt h q) h q s)

def doPauseEndpoint (c : Instr) (h : CmdHdr) (q : Params) (s : State) : State :=
  let f := h.fn.val
  let b := bits (p0 q) 0 16
  let e := bits (p0 q) 16 5
  let r := epKey f b e 0
  slotCommand c h 0x14 b [r]
    (fun s => match epCode f b e (bits (p0 q) 21 43 != 0 || p1 q != 0 || p2 q != 0) s with
      | some x => some x
      | none => if (s.ep r).st == .halted || (s.ep r).st == .faulted then some ccContext else none)
    (fun s => if (s.ep r).st == .paused then cmdDone h 0x14 ccSuccess 0 b s else pauseStart h 0x14 r { h, kind := .pause e, bell := b } s) s
/-- PAUSE ENDPOINT (05 R187, R188). -/
def execPauseEndpoint (h : CmdHdr) (q : Params) (s : State) : Host.Outcome State Fault Refusal := .next (doPauseEndpoint (.pauseEndpoint h q) h q s)

def doMoveCursor (c : Instr) (h : CmdHdr) (q : Params) (s : State) : State :=
  let f := h.fn.val
  let b := bits (p0 q) 0 16
  let e := bits (p0 q) 16 5
  let st := bits (p0 q) 32 10
  let r := epKey f b e 0
  slotCommand c h 0x15 b [r]
    (fun s => match epCode f b e (bits (p0 q) 21 11 != 0 || bits (p0 q) 42 22 != 0 || bits (p1 q) 1 4 != 0 || bits (p2 q) 32 32 != 0) s with
      | some x => some x
      | none => firstErr [(streamBad (s.ep r) st, ccParam), ((s.ep r).st != .paused && (s.ep r).st != .halted, ccContext)])
    (fun s => epCmdDone [r + st] h 0x15 ccSuccess 0 b (moveCursor (r + st) (p1 q / 32 * 32) (p1 q % 2) (bits (p2 q) 0 32) s)) s
/-- MOVE CURSOR (05 R185). -/
def execMoveCursor (h : CmdHdr) (q : Params) (s : State) : Host.Outcome State Fault Refusal := .next (doMoveCursor (.moveCursor h q) h q s)

/-! ### CLOSE SLOT, SNAPSHOT CONTEXT -/

/-- A slot ends: its contexts, record, address and bell index are released (05 R186); its last-seen bell values stay (04 R158). -/
def closeSlot (key : Nat) (s : State) : State := (forEach (s.slotRoots key) epClose s).slotPut key { seq := add32 (s.slot key).seq 1 }
def doCloseSlot (c : Instr) (h : CmdHdr) (q : Params) (s : State) : State :=
  let f := h.fn.val
  let b := bits (p0 q) 0 16
  let key := slotKey f b
  commandOver c h [.slotHeld f b] (fun s =>
    match firstErr [(bits (p0 q) 16 48 != 0 || p1 q != 0 || p2 q != 0, ccParam), ((slotCheck f b true s).isSome, (slotCheck f b true s).getD 0),
        (s.slots.any (fun x => x.1 / 16384 == f && x.2.st != .free && x.2.ttHub == b && b != 0), ccContext)] with
    | some e => cmdDone h 0x16 e 0 b s
    | none =>
      let p := (s.slot key).port
      let s := abortOps (fun o => o.h.fn.val == f && o.bell == b && o.port == 128) 0x14 b s
      let s := abortOps (fun o => o.h.fn.val == f && o.bell == b && o.kind == .treeSleep) 0x20 p s
      let s := abortWaiting (.slot f b) b s
      cmdDone h 0x16 ccSuccess (s.slotResidual key) b (closeSlot key s)) s
/-- CLOSE SLOT (05 R186). -/
def execCloseSlot (h : CmdHdr) (q : Params) (s : State) : Host.Outcome State Fault Refusal := .next (doCloseSlot (.closeSlot h q) h q s)

/-- The 1,024 bytes of a snapshot with ALL set: the record, then the contexts of indices 0 – 30 (05 R189; 09 R317). -/
def State.snapshotAll (s : State) (record : List Byte) (f b : Nat) : List Byte :=
  record ++ (List.range 31).flatMap (fun e => s.ctxBytes (epKey f b e 0))
/-- The error counts of a context are set to 0 (05 R189). -/
def clearCounts (k : Nat) (s : State) : State := epBump k (s.epOn k (fun e => { e with xactErr := 0, splitErr := 0, babble := 0 }))
def doSnapshotContext (c : Instr) (h : CmdHdr) (q : Params) (s : State) : State :=
  let f := h.fn.val
  let b := bits (p0 q) 0 16
  let e := bits (p0 q) 16 5
  let st := bits (p0 q) 32 10
  let clear := bit (p0 q) 62
  let all := bit (p0 q) 63
  let key := slotKey f b
  let r := epKey f b e 0
  slotCommand c h 0x17 b (if all then s.slotRoots key else [r])
    (fun s => firstErr [
      (bits (p0 q) 42 20 != 0 || (!all && bits (p0 q) 21 11 != 0) || p1 q % 64 != 0 || p2 q != 0, ccParam),
      ((slotCheck f b true s).isSome, (slotCheck f b true s).getD 0),
      (!all && (decide (30 < e) || !s.epDefined r || (st != 0 && streamBad (s.ep r) st)), ccParam)])
    (fun s =>
      let record := slotBytes f b (s.slot key)
      let bytes := if all then s.snapshotAll record f b else record ++ s.ctxBytes (r + st)
      let s := s.emit (.hostWrite f (p1 q) bytes)
      let s := if !clear then s else if all then forEach (s.slotRoots key) clearCounts s else clearCounts (r + st) s
      epCmdDone (if !clear then [] else if all then s.slotRoots key else [r + st]) h 0x17 ccSuccess 0 b s) s
/-- SNAPSHOT CONTEXT (05 R189). -/
def execSnapshotContext (h : CmdHdr) (q : Params) (s : State) : Host.Outcome State Fault Refusal := .next (doSnapshotContext (.snapshotContext h q) h q s)

end Sys2Proof.Machine
end

