-- ==== Sys2Proof/Machine/PortCmds.lean ====
section
/-! DEFINITION. PORT ACTION in the host role (08 R305 – R308; 06 R241; 12 R424, R433), the happenings of its resets, suspends
and resumes, and the commands no other row names (04 R136, R137). -/

namespace Sys2Proof.Machine

open Sys2Proof

/-! ### PARAM0 and checks -/

/-- Bits that must be 0 (08 R305): SLOT, SIDES and WARM, and VALUE only where the action takes them. -/
def paBad (q : Params) (slot sides value : Bool) : Bool :=
  (!slot && paSlot q != 0) || (!sides && bits (p0 q) 32 3 != 0) || bits (p0 q) 35 29 != 0 || paSides q == 3 || (if value then decide (65536 ≤ p1 q) else p1 q != 0) || p2 q != 0
/-- The ports an action acts on (08 R307). -/
def State.paPorts (s : State) (f : Nat) (q : Params) : List Nat := if paAll q then s.fnPorts f else [paPort q]
def paKeys (s : State) (f : Nat) (q : Params) : List WaitKey := (s.paPorts f q).map .port
/-- Whether a function may take a power action on a port (03 R111, R113). -/
def State.powerAllowed (s : State) (f p : Nat) : Bool := f == 0 || (s.owns f p && s.vfPower p)
def paDone (h : CmdHdr) (q : Params) (code result : Nat) (s : State) : State := cmdDone h 0x20 code result (paSrc q) s
/-- A PORT ACTION that may carry ALL: on every owned port in which it is permitted (08 R307). -/
def paMulti (c : Instr) (h : CmdHdr) (q : Params) (permitted : Nat → State → Bool) (act : Nat → State → State) (s : State) : State :=
  command c h (paKeys s h.fn q) (fun s =>
    if paBad q false false false then paDone h q ccParam 0 s
    else if paAll q then
      let ps := (s.fnPorts h.fn).filter (fun p => permitted p s)
      paDone h q ccSuccess ps.length (forEach ps act s)
    else if !s.owns h.fn (paPort q) then paDone h q ccFunction 0 s
    else if !permitted (paPort q) s then paDone h q ccState 0 s
    else paDone h q ccSuccess 0 (act (paPort q) s)) s
/-- A PORT ACTION on one port as a bundle: a code, or its effect. -/
def paRun (h : CmdHdr) (q : Params) (bad : Bool) (code : State → Option Nat) (ok : State → State) (s : State) : State :=
  match firstErr [(bad || paAll q, ccParam), ((code s).isSome, (code s).getD 0)] with
  | some e => paDone h q e 0 s
  | none => ok s
def paOne (c : Instr) (h : CmdHdr) (q : Params) (bad : Bool) (code : State → Option Nat) (ok : State → State) (s : State) : State :=
  command c h (paKeys s h.fn q) (paRun h q bad code ok) s
/-- A tree action waits for its port and its slot (04 R139; 08 R297). -/
def treeKeys (s : State) (h : CmdHdr) (q : Params) : List WaitKey := paKeys s h.fn q ++ [.slot h.fn (paSlot q)]
/-- Checks of a tree action: the owner, an open slot of the port, and GONE, which aborts it (05 R176; 08 R297). -/
def treeCode (f p b : Nat) (s : State) : Option Nat :=
  let sl := s.slot (slotKey f b)
  let named := s.slotOpen f b && sl.port == p
  firstErr [(!s.owns f p, ccFunction), (named && sl.gone, ccAborted), (!named, ccState)]
def paTree (c : Instr) (h : CmdHdr) (q : Params) (code : State → Option Nat) (ok : State → State) (s : State) : State :=
  command c h (treeKeys s h q) (paRun h q (paBad q true false false) code ok) s

/-! ### ENABLE, DISABLE -/

def doPortEnable (c : Instr) (h : CmdHdr) (q : Params) (s : State) : State :=
  paMulti c h q (fun p s => (s.link p).disabled) (fun p s => refreshSides p (s.linkOn p (fun l => { l with disabled := false }))) s
/-- PORT ACTION ENABLE (08 R306). -/
def execPortEnable (h : CmdHdr) (q : Params) (s : State) : Host.Outcome State Fault Refusal := .next (doPortEnable (.portEnable h q) h q s)
/-- DISABLE on a port (08 R306). In the device role its mark is set and the guest stays presented, since R315 (09) does not list DISABLE: the sides
stay OFF when the host role comes back (DESIGN CHOICE, notes/assumptions/71.md). -/
def disablePort (p : Nat) (s : State) : State :=
  let s := s.linkOn p (fun l => { l with disabled := true, test := 0 })
  if (s.link p).device then s else refreshSides p s
def doPortDisable (c : Instr) (h : CmdHdr) (q : Params) (s : State) : State := paMulti c h q (fun _ _ => true) disablePort s
/-- PORT ACTION DISABLE (08 R306). -/
def execPortDisable (h : CmdHdr) (q : Params) (s : State) : Host.Outcome State Fault Refusal := .next (doPortDisable (.portDisable h q) h q s)

/-! ### RESET -/

/-- The sides that SIDES names (08 R305). -/
def namedSides (n : Nat) : List Side := match n with | 0 => sides | 1 => [.usb2] | 2 => [.ss] | _ => []
def doPortReset (c : Instr) (h : CmdHdr) (q : Params) (s : State) : State :=
  let p := paPort q
  let go := fun (s : State) => (namedSides (paSides q)).filter (fun d => ((s.link p).side d).st.resettable)
  paOne c h q (paBad q false true false)
    (fun s => firstErr [(!s.owns h.fn p, ccFunction), ((s.link p).device || (go s).isEmpty, ccState)])
    (fun s => opStart { h, kind := .reset, port := p } (forEach (go s) (fun d s => startReset p d .action (paWarm q) s) s)) s
/-- PORT ACTION RESET (06 R241; 08 R282). -/
def execPortReset (h : CmdHdr) (q : Params) (s : State) : Host.Outcome State Fault Refusal := .next (doPortReset (.portReset h q) h q s)

/-- Whether a transaction of a slot of a side is outstanding. -/
def State.sideBusy (s : State) (p : Nat) (sd : Side) : Bool := ((s.sideSlots p sd).flatMap s.slotRoots).any s.epBusy
def doPortResetQuiesced (p : Port) (s : State) : State :=
  forEach sides (fun d s => if ((s.link p).side d).quiet && !s.sideBusy p d then driveReset p d s else s) s
/-- PORT_RESET_QUIESCED (06 R241 steps 3 – 5, R242). -/
def execPortResetQuiesced (p : Port) (s : State) : Host.Outcome State Fault Refusal := .next (bundleFor [.portHeld p] (.portResetQuiesced p) (doPortResetQuiesced p) s)

def doHotResetTimeout (p : Port) (s : State) : State :=
  let x := (s.link p).ss
  if x.st = .resetting ∧ !x.warm then (s.sideOn p .ss (fun x => { x with warm := true })).emit (.bus p .ss (.reset true)) else s
/-- HOT_RESET_TIMEOUT (08 R281): Warm Reset follows at once. -/
def execHotResetTimeout (p : Port) (s : State) : Host.Outcome State Fault Refusal := .next (doHotResetTimeout p s)

def doPortResetDone (p : Port) (sd : Side) (sp : Speed) (s : State) : State :=
  let x := (s.link p).side sd
  if x.st ≠ .resetting ∨ !speedOnSide sp sd ∨ (s.link p).device then s
  else
    let s := s.sideOn p sd (fun x => { x with st := .enabled, speed := reachedSpeed (s.maxSpeed p) sd sp, warm := false, maxSpeed := s.maxSpeed p })
    let s := busStart p s
    let s := if x.resetBy = .flr then
        (if s.pfCopy p && s.portOwner p != 0 then post 0 0 { ty := evPort, ptr := 3, count := 3, detail := s.linkDetail p sd false, src := p } s else s)
      else portEvent p 0x03 x.resetBy.code sd false s
    if x.resetBy = .action ∧ !sides.any (fun d => let y := (s.link p).side d; (y.st == .resetting || y.quiet) && y.resetBy == .action) then
      portOpDone p .reset (s.speedResult p) s
    else s
/-- PORT_RESET_DONE (08 R278, R281, R612). -/
def execPortResetDone (p : Port) (sd : Side) (sp : Speed) (s : State) : Host.Outcome State Fault Refusal :=
  .next (bundle (.portResetDone p sd sp) (doPortResetDone p sd sp) s)

/-! ### SUSPEND -/

def canSuspend (p : Nat) (s : State) : Bool := !(s.link p).device && sides.any (fun d => ((s.link p).side d).st == .enabled)
/-- Steps 1 – 2 of R291 on a port. -/
def startSuspend (p : Nat) (s : State) : State :=
  let ds := sides.filter (fun d => ((s.link p).side d).st == .enabled)
  let s := pruneWin p (fun k => ds.contains (sideOf (s.epSpeed k))) s
  forEach ds (fun d s => s.sideOn p d (fun x => { x with suspending := true, quiesced := false, wakeLatched := false, l1 := false, lpm := false })) s
/-- Starts a SUSPEND or RESUME on one port, or on every port of the function that permits it. -/
def paLong (c : Instr) (h : CmdHdr) (q : Params) (kind : OpKind) (permitted : Nat → State → Bool) (act : Nat → State → State) (s : State) : State :=
  command c h (paKeys s h.fn q) (fun s =>
    let ps := (s.paPorts h.fn q).filter (fun p => permitted p s)
    if paBad q false false false then paDone h q ccParam 0 s
    else if !paAll q && !s.owns h.fn (paPort q) then paDone h q ccFunction 0 s
    else if ps.isEmpty then paDone h q (if paAll q then ccSuccess else ccState) 0 s
    else forEach ps (fun p s => opStart { h, kind, port := p, bell := if paAll q then 65536 + ps.length else 0 } (act p s)) s) s
def doPortSuspend (c : Instr) (h : CmdHdr) (q : Params) (s : State) : State := paLong c h q .suspend canSuspend startSuspend s
/-- PORT ACTION SUSPEND (08 R291, R307). -/
def execPortSuspend (h : CmdHdr) (q : Params) (s : State) : Host.Outcome State Fault Refusal := .next (doPortSuspend (.portSuspend h q) h q s)

def doSuspendQuiesced (p : Port) (s : State) : State :=
  forEach sides (fun d s =>
    if ((s.link p).side d).suspending && !s.sideBusy p d then s.sideOn p d (fun x => { x with quiesced := true, ulink := 0 }) else s) s
/-- SUSPEND_QUIESCED (08 R291 steps 3, 4). -/
def execSuspendQuiesced (p : Port) (s : State) : Host.Outcome State Fault Refusal := .next (doSuspendQuiesced p s)
def doSsU3Entered (p : Port) (s : State) : State :=
  let x := (s.link p).ss
  if x.suspending && x.quiesced then (s.sideOn p .ss (fun x => { x with ulink := 3 })).emit (.bus p .ss .u3) else s
/-- SS_U3_ENTERED (08 R291 step 4). -/
def execSsU3Entered (p : Port) (s : State) : Host.Outcome State Fault Refusal := .next (doSsU3Entered p s)
/-- Isochronous endpoints of a suspended side leave the stream (08 R292). -/
def leaveStreams (p : Nat) (sd : Side) (s : State) : State :=
  forEach ((s.sideSlots p sd).flatMap s.slotRoots) (fun r s => s.epOn r (fun e => { e with inStream := false, empty := 0 })) s
def doSuspendComplete (p : Port) (s : State) : State :=
  let ds := sides.filter (fun d => ((s.link p).side d).suspending)
  if ds.isEmpty ∨ !ds.all (fun d => ((s.link p).side d).quiesced && (d == .usb2 || ((s.link p).side d).ulink == 3)) then s
  else
    let s := forEach ds (fun d s => leaveStreams p d (s.sideOn p d (fun x => { x with st := .suspended, suspending := false, quiesced := false }))) s
    let s := forEach ds (fun d s => portEvent p 0x04 0 d false s) s
    let s := longDone p .suspend 0 s
    forEach ds (fun d s => if ((s.link p).side d).wakeLatched && s.wakeEn p then startResume p d .remote s else s) s
/-- SUSPEND_COMPLETE (08 R291 step 5, R296). -/
def execSuspendComplete (p : Port) (s : State) : Host.Outcome State Fault Refusal := .next (bundle (.suspendComplete p) (doSuspendComplete p) s)

/-! ### RESUME -/

def canResume (p : Nat) (s : State) : Bool :=
  !(s.link p).device && sides.any (fun d => let x := (s.link p).side d; x.st == .suspended || (x.st == .resuming && x.resumeBy == .remote))
def actResume (p : Nat) (s : State) : State :=
  forEach sides (fun d s =>
    let x := (s.link p).side d
    if x.st = .suspended then startResume p d .action s
    else if x.st = .resuming ∧ x.resumeBy = .remote then s.sideOn p d (fun x => { x with coincident := true }) else s) s
def doPortResume (c : Instr) (h : CmdHdr) (q : Params) (s : State) : State := paLong c h q .resume canResume actResume s
/-- PORT ACTION RESUME (08 R293, R295). -/
def execPortResume (h : CmdHdr) (q : Params) (s : State) : Host.Outcome State Fault Refusal := .next (doPortResume (.portResume h q) h q s)
def doResumeKEnd (p : Port) (s : State) : State :=
  if (s.link p).u2.st = .resuming ∧ !(s.link p).device then s.sideOn p .usb2 (fun x => { x with recovering := true }) else s
/-- RESUME_K_END (08 R293). -/
def execResumeKEnd (p : Port) (s : State) : Host.Outcome State Fault Refusal := .next (doResumeKEnd p s)
def doResumeRecoveryEnd (p : Port) (sd : Side) (s : State) : State :=
  let x := (s.link p).side sd
  if x.st = .resuming ∧ !(s.link p).device ∧ (sd = .ss ∨ x.recovering) then endResume p sd s else s
/-- RESUME_RECOVERY_END (08 R293 – R295). -/
def execResumeRecoveryEnd (p : Port) (sd : Side) (s : State) : Host.Outcome State Fault Refusal :=
  .next (bundle (.resumeRecoveryEnd p sd) (doResumeRecoveryEnd p sd) s)
def doSsResumeTimeout (p : Port) (s : State) : State :=
  if (s.link p).ss.st = .resuming ∧ !(s.link p).device then errorSide p .ss 0x08 0 s else s
/-- SS_RESUME_TIMEOUT (08 R293, R302). -/
def execSsResumeTimeout (p : Port) (s : State) : Host.Outcome State Fault Refusal := .next (happen (doSsResumeTimeout p) s)

/-! ### Trees -/

/-- The slots that sleep under the mark of a slot (08 R297). -/
def State.treeSlots (s : State) (p key : Nat) : List Nat := (s.portSlots p).filter (fun k => inTree (s.slot key) (s.slot k))
/-- The mark is set, and no further token goes to the slots under it (08 R297). -/
def treeMark (p key : Nat) (s : State) : State :=
  let s := slotBump key (s.slotOn key (fun x => { x with tree := true }))
  let s := pruneWin p (fun k => (s.treeSlots p key).contains (keySlot k)) s
  forEach ((s.treeSlots p key).flatMap s.slotRoots) (fun r s => s.epOn r (fun e => { e with inStream := false, empty := 0 })) s
def doTreeSleep (c : Instr) (h : CmdHdr) (q : Params) (s : State) : State :=
  let p := paPort q
  let key := slotKey h.fn (paSlot q)
  paTree c h q (treeCode h.fn p (paSlot q))
    (fun s =>
      let s := treeMark p key s
      if ((s.treeSlots p key).flatMap s.slotRoots).any s.epBusy then opStart { h, kind := .treeSleep, port := p, bell := paSlot q } s
      else paDone h q ccSuccess 0 s) s
/-- PORT ACTION TREE-SLEEP (08 R297). -/
def execTreeSleep (h : CmdHdr) (q : Params) (s : State) : Host.Outcome State Fault Refusal := .next (doTreeSleep (.treeSleep h q) h q s)
def doTreeSleepQuiesced (p : Port) (s : State) : State :=
  match s.opFind (portOp p .treeSleep) with
  | none => s
  | some o =>
    if ((s.treeSlots p (slotKey o.h.fn o.bell)).flatMap s.slotRoots).any s.epBusy then s
    else cmdDone o.h 0x20 ccSuccess 0 p (opDrop (portOp p .treeSleep) s)
/-- TREE_SLEEP_QUIESCED (08 R297). -/
def execTreeSleepQuiesced (p : Port) (s : State) : Host.Outcome State Fault Refusal := .next (bundle (.treeSleepQuiesced p) (doTreeSleepQuiesced p) s)
def doTreeWake (c : Instr) (h : CmdHdr) (q : Params) (s : State) : State :=
  let p := paPort q
  let key := slotKey h.fn (paSlot q)
  paTree c h q (fun s => firstErr [((treeCode h.fn p (paSlot q) s).isSome, (treeCode h.fn p (paSlot q) s).getD 0), (!(s.slot key).tree, ccState)])
    (fun s => paDone h q ccSuccess 0 (slotBump key (s.slotOn key (fun x => { x with tree := false })))) s
/-- PORT ACTION TREE-WAKE (08 R297). -/
def execTreeWake (h : CmdHdr) (q : Params) (s : State) : Host.Outcome State Fault Refusal := .next (doTreeWake (.treeWake h q) h q s)

/-! ### TEST, SS-RETRY -/

def doPortTest (c : Instr) (h : CmdHdr) (q : Params) (s : State) : State :=
  let p := paPort q
  let v := p1 q
  paOne c h q (paBad q false false true)
    (fun s => firstErr [(!((decide (1 ≤ v) && decide (v ≤ 5)) || v == 8), ccParam), (!s.owns h.fn p, ccFunction), (!(s.portSlots p).isEmpty, ccState)])
    (fun s => paDone h q ccSuccess 0 ((s.linkOn p (fun l => { l with test := v })).emit (.bus p (if v = 8 then .ss else .usb2) (.test v)))) s
/-- PORT ACTION TEST (08 R306). -/
def execPortTest (h : CmdHdr) (q : Params) (s : State) : Host.Outcome State Fault Refusal := .next (doPortTest (.portTest h q) h q s)
def doSsRetry (c : Instr) (h : CmdHdr) (q : Params) (s : State) : State :=
  let p := paPort q
  paOne c h q (paBad q false false false)
    (fun s => firstErr [(!s.owns h.fn p, ccFunction), (!((s.link p).ss.st == .withheld && (s.link p).ss.cause == 1), ccState)])
    (fun s => paDone h q ccSuccess 0 (s.sideOn p .ss (fun x => { x with st := .disconnected, cause := 0, trainRun := 0 }))) s
/-- PORT ACTION SS-RETRY (08 R306). -/
def execSsRetry (h : CmdHdr) (q : Params) (s : State) : Host.Outcome State Fault Refusal := .next (doSsRetry (.ssRetry h q) h q s)

/-! ### Power actions -/

/-- POWER-OFF (08 R306; 10 R345; 12 R424, R433): a connector is detached into Disabled with CC open. -/
def powerOffPort (p : Nat) (s : State) : State :=
  match s.profile p with
  | .typec => tcDetach p 4 2 (fun s => s.tcOn p (fun t => { st := .disabled, powerOff := true, cc1 := t.cc1, cc2 := t.cc2, wetLast := t.wetLast, retired := t.retired })) s
  | .disabled => s.tcOn p (fun t => { t with powerOff := true })
  | _ => serveWaiting (pathOff p true ((s.tcOn p (fun t => { t with powerOff := true })).pathOn p (fun x => { x with waitBudget := false, shed := false })))
/-- POWER-ON: the port returns to its profile's attach behaviour (08 R306; 10 R345; 12 R433). -/
def powerOnPort (p : Nat) (s : State) : State :=
  if (s.tc p).retired then s
  else match s.profile p with
  | .typec => enterUnattached p s
  | .disabled => s.tcOn p (fun t => { t with powerOff := false })
  | _ => pathSeek p (s.tcOn p (fun t => { t with powerOff := false }))
def doPowerOff (c : Instr) (h : CmdHdr) (q : Params) (s : State) : State :=
  let p := paPort q
  paOne c h q (paBad q false false false) (fun s => firstErr [(!s.powerAllowed h.fn p, ccFunction)]) (fun s => paDone h q ccSuccess 0 (powerOffPort p s)) s
/-- PORT ACTION POWER-OFF (08 R306). -/
def execPowerOff (h : CmdHdr) (q : Params) (s : State) : Host.Outcome State Fault Refusal := .next (doPowerOff (.powerOff h q) h q s)
def doPowerCycle (c : Instr) (h : CmdHdr) (q : Params) (s : State) : State :=
  let p := paPort q
  let v := p1 q
  paOne c h q (paBad q false false true || (v != 0 && !(decide (100 ≤ v) && decide (v ≤ 10000)))) (fun s => firstErr [(!s.powerAllowed h.fn p, ccFunction)])
    (fun s => opStart { h, kind := .powerCycle, port := p } (powerOffPort p s)) s
/-- PORT ACTION POWER-CYCLE (08 R306): POWER-OFF, and POWER-ON after the delay. -/
def execPowerCycle (h : CmdHdr) (q : Params) (s : State) : Host.Outcome State Fault Refusal := .next (doPowerCycle (.powerCycle h q) h q s)
def doPowerCycleDelayExpire (p : Port) (s : State) : State :=
  match s.opFind (portOp p .powerCycle) with
  | none => s
  | some _ => portOpDone p .powerCycle 0 (powerOnPort p s)
/-- POWER_CYCLE_DELAY_EXPIRE (08 R306). -/
def execPowerCycleDelayExpire (p : Port) (s : State) : Host.Outcome State Fault Refusal :=
  .next (bundle (.powerCycleDelayExpire p) (doPowerCycleDelayExpire p) s)

/-! ### Commands no other row names -/

/-- POWER-ON as PORT ACTION 0x11 (08 R306; 12 R426). -/
def powerOnCmd (h : CmdHdr) (q : Params) (s : State) : State :=
  let p := paPort q
  match firstErr [(paBad q false false false || paAll q, ccParam), (!s.powerAllowed h.fn p, ccFunction), (!(s.tc p).powerOff, ccState)] with
  | some e => paDone h q e 0 s
  | none => paDone h q ccSuccess 0 (powerOnPort p s)
/-- A command by TYPE and OPCODE alone (04 R136, R137): PORT ACTION POWER-ON, an action, OP or TYPE that no table holds
(PARAMETER-ERROR), or an unknown opcode (UNKNOWN-COMMAND). -/
def doUnknownCommand (c : Instr) (h : CmdHdr) (ty : BitVec 4) (op : BitVec 8) (q : Params) (s : State) : State :=
  if ty = 0xC ∧ op = 0x20 ∧ bits (p0 q) 8 8 = 0x11 then command c h [.port (paPort q)] (powerOnCmd h q) s
  else command c h [] (cmdDone h op.toNat (unknownCode ty.toNat op.toNat) 0 0) s
/-- UNKNOWN_COMMAND (04 R136, R137). -/
def execUnknownCommand (h : CmdHdr) (ty : BitVec 4) (op : BitVec 8) (q : Params) (s : State) : Host.Outcome State Fault Refusal :=
  .next (doUnknownCommand (.unknownCommand h ty op q) h ty op q s)

end Sys2Proof.Machine
end

