-- ==== Sys2Proof/Machine/PdCmds.lean ====
section
/-! DEFINITION. PD REQUEST (11 R409, R410) and SEND VDM (11 R411). -/

namespace Sys2Proof.Machine

open Sys2Proof

def prRetry (q : Params) : Bool := bit (p0 q) 16
/-- Bits of PARAM0 that must be 0 (11 R409). -/
def prBad (q : Params) : Bool := bits (p0 q) 7 1 != 0 || bits (p0 q) 17 47 != 0
/-- A PD REQUEST: parameters, then R111, then its condition; `act` starts the exchange of the command in progress. -/
def pdCmd (c : Instr) (h : CmdHdr) (q : Params) (bad : Bool) (ok : State → Bool) (act : State → State) (s : State) : State :=
  let p := prPort q
  command c h [.port p] (fun s =>
    match firstErr [(prBad q || bad, ccParam), (!s.powerAllowed h.fn p, ccFunction), (!s.pdLive p || !ok s, ccState)] with
    | some e => cmdDone h 0x22 e 0 p s
    | none => act s) s
/-- The command in progress of an OP, with its output address. -/
def prOp (h : CmdHdr) (q : Params) (op : Nat) : Op := { h, kind := .pd op (p2 q) (prRetry q), port := prPort q }
/-- PARAM1 and PARAM2 that an OP does not take must be 0; an output address is 64-byte aligned (11 R409). -/
def prNone (q : Params) : Bool := p1 q != 0 || p2 q != 0
def prOut (q : Params) : Bool := p1 q != 0 || p2 q % 64 != 0

def doSendCaps (c : Instr) (h : CmdHdr) (q : Params) (s : State) : State :=
  pdCmd c h q (prNone q) (fun s => (s.tc (prPort q)).source) (fun s => sendCaps (prPort q) (opStart (prOp h q 1) s)) s
/-- PD REQUEST SEND-CAPS (11 R381, R409). -/
def execSendCaps (h : CmdHdr) (q : Params) (s : State) : Host.Outcome State Fault Refusal := .next (doSendCaps (.sendCaps h q) h q s)
def doPdRequestRdo (c : Instr) (h : CmdHdr) (q : Params) (s : State) : State :=
  let p := prPort q
  pdCmd c h q (decide (two32 ≤ p1 q) || p2 q != 0) (fun s => !(s.tc p).source && !(s.pd p).partner.isEmpty)
    (fun s =>
      let s := opStart (prOp h q 2) s
      if (s.pd p).quiet then sendRequest p (p1 q) true s else s.pdOn p (fun d => { d with override := some (p1 q) })) s
/-- PD REQUEST REQUEST: the RDO of software is the part's next Request (11 R391, R409). -/
def execPdRequestRdo (h : CmdHdr) (q : Params) (s : State) : Host.Outcome State Fault Refusal := .next (doPdRequestRdo (.pdRequestRdo h q) h q s)

/-- A role swap of the part (11 R396, R409). -/
def ownSwap (p : Nat) (k : SwapKind) (s : State) : State :=
  let s := s.pdOn p (fun d => { d with reSent := false, swapRetry := none })
  let s := if k = .dr ∧ (s.pd p).inTrellis then trellisExit p s else s
  pdOwn p (msg (swapTy k) [] (.swapReq k)) s
def doDrSwap (c : Instr) (h : CmdHdr) (q : Params) (s : State) : State :=
  pdCmd c h q (prNone q) (fun s => (s.pd (prPort q)).con.isSome) (fun s => ownSwap (prPort q) .dr (opStart (prOp h q 3) s)) s
/-- PD REQUEST DR-SWAP (11 R396, R409). -/
def execDrSwap (h : CmdHdr) (q : Params) (s : State) : Host.Outcome State Fault Refusal := .next (doDrSwap (.drSwap h q) h q s)
def doPrSwap (c : Instr) (h : CmdHdr) (q : Params) (s : State) : State :=
  pdCmd c h q (prNone q) (fun s => (s.pd (prPort q)).con.isSome && s.isDrp (prPort q)) (fun s => ownSwap (prPort q) .pr (opStart (prOp h q 4) s)) s
/-- PD REQUEST PR-SWAP (11 R396, R409). -/
def execPrSwap (h : CmdHdr) (q : Params) (s : State) : Host.Outcome State Fault Refusal := .next (doPrSwap (.prSwap h q) h q s)
def doVconnSwap (c : Instr) (h : CmdHdr) (q : Params) (s : State) : State :=
  pdCmd c h q (prNone q) (fun s => (s.pd (prPort q)).con.isSome && ((s.tc (prPort q)).vconnSrc || s.vconnEn (prPort q)))
    (fun s => ownSwap (prPort q) .vconn (opStart (prOp h q 5) s)) s
/-- PD REQUEST VCONN-SWAP (11 R396, R409). -/
def execVconnSwap (h : CmdHdr) (q : Params) (s : State) : Host.Outcome State Fault Refusal := .next (doVconnSwap (.vconnSwap h q) h q s)

/-- SOP′ and SOP″ only as VCONN source (11 R374, R409). -/
def State.sopOk (s : State) (p n : Nat) : Bool := n == 0 || (s.tc p).vconnSrc
def doSoftReset (c : Instr) (h : CmdHdr) (q : Params) (s : State) : State :=
  pdCmd c h q (decide (3 ≤ p1 q) || p2 q != 0) (fun s => s.sopOk (prPort q) (p1 q))
    (fun s => softReset (prPort q) (sopOf (p1 q)) true (opStart (prOp h q 6) s)) s
/-- PD REQUEST SOFT-RESET (11 R400, R409). -/
def execSoftReset (h : CmdHdr) (q : Params) (s : State) : Host.Outcome State Fault Refusal := .next (doSoftReset (.softReset h q) h q s)
def doHardReset (c : Instr) (h : CmdHdr) (q : Params) (s : State) : State :=
  pdCmd c h q (prNone q) (fun _ => true) (fun s => cmdDone h 0x22 ccSuccess 0 (prPort q) (hardSend (prPort q) 1 s)) s
/-- PD REQUEST HARD-RESET (11 R399, R409). -/
def execHardReset (h : CmdHdr) (q : Params) (s : State) : Host.Outcome State Fault Refusal := .next (doHardReset (.hardReset h q) h q s)

def doGetSourceCaps (c : Instr) (h : CmdHdr) (q : Params) (s : State) : State :=
  pdCmd c h q (prOut q) (fun _ => true) (fun s => pdOwn (prPort q) (msg 7 [] .getSrc) (opStart (prOp h q 8) s)) s
/-- PD REQUEST GET-SOURCE-CAPS (11 R409). -/
def execGetSourceCaps (h : CmdHdr) (q : Params) (s : State) : Host.Outcome State Fault Refusal := .next (doGetSourceCaps (.getSourceCaps h q) h q s)
def doGetSinkCaps (c : Instr) (h : CmdHdr) (q : Params) (s : State) : State :=
  pdCmd c h q (prOut q) (fun _ => true) (fun s => pdOwn (prPort q) (msg 8 [] .getSnk) (opStart (prOp h q 9) s)) s
/-- PD REQUEST GET-SINK-CAPS (11 R409). -/
def execGetSinkCaps (h : CmdHdr) (q : Params) (s : State) : Host.Outcome State Fault Refusal := .next (doGetSinkCaps (.getSinkCaps h q) h q s)
/-- The VDM header of a DISCOVER (11 R409). -/
def discoverHdr (w : Nat) : Nat := match bits w 2 2 with
  | 1 => vdmHdr 0xFF00 0 0 1
  | 2 => vdmHdr 0xFF00 0 0 2
  | _ => vdmHdr (bits w 16 16) 0 0 3
def discoverBad (w : Nat) : Bool := decide (two32 ≤ w) || bits w 0 2 == 3 || bits w 2 2 == 0 || bits w 4 12 != 0 || (bits w 2 2 != 3 && bits w 16 16 != 0)
def doDiscover (c : Instr) (h : CmdHdr) (q : Params) (s : State) : State :=
  pdCmd c h q (discoverBad (p1 q) || p2 q % 64 != 0) (fun s => s.sopOk (prPort q) (bits (p1 q) 0 2))
    (fun s => pdOwn (prPort q) { sop := sopOf (bits (p1 q) 0 2), ty := 0xF, ext := false, objs := [discoverHdr (p1 q)], use := .discover } (opStart (prOp h q 10) s)) s
/-- PD REQUEST DISCOVER (11 R409). -/
def execDiscover (h : CmdHdr) (q : Params) (s : State) : Host.Outcome State Fault Refusal := .next (doDiscover (.discover h q) h q s)

def doEprEnter (c : Instr) (h : CmdHdr) (q : Params) (s : State) : State :=
  let p := prPort q
  pdCmd c h q (prNone q) (fun s => !(s.tc p).source && s.eprEn p && (match (s.pd p).con with | some c => !c.epr | none => false))
    (fun s => pdOwn p (msg 0xA [2 ^ 24] .eprEnter) (opStart (prOp h q 11) s)) s
/-- PD REQUEST EPR-ENTER (11 R392, R409). -/
def execEprEnter (h : CmdHdr) (q : Params) (s : State) : Host.Outcome State Fault Refusal := .next (doEprEnter (.eprEnter h q) h q s)
def doEprExit (c : Instr) (h : CmdHdr) (q : Params) (s : State) : State :=
  pdCmd c h q (prNone q) (fun s => (s.pd (prPort q)).epr) (fun s => pdOwn (prPort q) (msg 0xA [5 * 2 ^ 24] .eprExit) (opStart (prOp h q 12) s)) s
/-- PD REQUEST EPR-EXIT (11 R387, R409). -/
def execEprExit (h : CmdHdr) (q : Params) (s : State) : Host.Outcome State Fault Refusal := .next (doEprExit (.eprExit h q) h q s)
def doGetStatus (c : Instr) (h : CmdHdr) (q : Params) (s : State) : State :=
  pdCmd c h q (prOut q) (fun s => (s.pd (prPort q)).con3) (fun s => pdOwn (prPort q) (msg 0x12 [] .getStatus) (opStart (prOp h q 13) s)) s
/-- PD REQUEST GET-STATUS (11 R403, R409). -/
def execGetStatus (h : CmdHdr) (q : Params) (s : State) : Host.Outcome State Fault Refusal := .next (doGetStatus (.getStatus h q) h q s)

/-! ### SEND VDM (11 R405, R411) -/

/-- A header that SEND VDM refuses: not structured, or Enter Mode or Exit Mode under SVID 0x1EF7 (11 R411). -/
def svHdrBad (hdr : Nat) : Bool := !bit hdr 15 || (vdmSvid hdr == 0x1EF7 && (vdmCmd hdr == 4 || vdmCmd hdr == 5))
def svBad (q : Params) (hdr : Nat) : Bool :=
  bits (p0 q) 7 1 != 0 || svSop q == 3 || bits (p0 q) 10 6 != 0 || decide (7 ≤ svCount q) || bits (p0 q) 19 45 != 0 || p1 q % 32 != 0 || p2 q % 64 != 0
    || svHdrBad hdr || (vdmCmd hdr == 6 && p2 q != 0)
def doSendVdm (c : Instr) (h : CmdHdr) (q : Params) (blk : List Byte) (s : State) : State :=
  let p := svPort q
  let hdr := leAt blk 0 4
  let objs := hdr :: (List.range (svCount q)).map (fun i => leAt blk (4 + 4 * i) 4)
  command c h [.port p] (fun s =>
    match firstErr [(svBad q hdr, ccParam), (!s.owns h.fn p, ccFunction), (!s.pdLive p || !s.sopOk p (svSop q), ccState)] with
    | some e => cmdDone h 0x23 e 0 p s
    | none =>
      pdOwn p { sop := sopOf (svSop q), ty := 0xF, ext := false, objs, use := .vdmReq } (opStart { h, kind := .vdm (p2 q) (sopOf (svSop q)), port := p } s)) s
/-- SEND VDM (11 R405, R411). -/
def execSendVdm (h : CmdHdr) (q : Params) (blk : List Byte) (s : State) : Host.Outcome State Fault Refusal := .next (doSendVdm (.sendVdm h q blk) h q blk s)

end Sys2Proof.Machine
end

