-- ==== Sys2Proof/Machine/Engines.lean ====
section
/-! DEFINITION. ROTATE, rotations and firmware updates, repairs, SELF-TEST, grafts (14 R470 – R492). -/

namespace Sys2Proof.Machine

open Sys2Proof

/-! ### ROTATE (14 R480, R484) -/

/-- BUSY: a rotation, update or keeper swap is in progress, or SAFE-HOLD is in force (14 R480). -/
def State.rotBusy (s : State) : Bool := s.eng.upd.isSome || s.eng.rot.isSome || s.eng.swapping || s.flt.safeHold
def rotCheck (s : State) : Option (Nat × Nat) := if s.rotBusy || s.eng.spare == noSpare then some (ccBusy, 0) else none

def doRotateNext (c : Instr) (h : CmdHdr) (q : Params) (s : State) : State :=
  pfCmd c h 0x31 [] (bits (p0 q) 8 56 != 0 || p1 q != 0 || p2 q != 0) rotCheck
    (fun s => match s.nextOut with
      | some t => rotServe (rotOrder t (.command h) s)
      | none => cmdDone h 0x31 ccBusy 0 0 s) s
/-- ROTATE NEXT (14 R472, R480). -/
def execRotateNext (h : CmdHdr) (q : Params) (s : State) : Host.Outcome State Fault Refusal := .next (doRotateNext (.rotateNext h q) h q s)
def doRotateEngine (c : Instr) (h : CmdHdr) (q : Params) (s : State) : State :=
  pfCmd c h 0x31 [] (bits (p0 q) 16 48 != 0 || p1 q != 0 || p2 q != 0 || !s.eng.active.contains (opUnit q)) rotCheck
    (fun s => rotServe (rotOrder (opUnit q) (.command h) s)) s
/-- ROTATE ENGINE (14 R480): a UNIT that is not active gives PARAMETER-ERROR. -/
def execRotateEngine (h : CmdHdr) (q : Params) (s : State) : Host.Outcome State Fault Refusal := .next (doRotateEngine (.rotateEngine h q) h q s)
def doRotateUpdate (c : Instr) (h : CmdHdr) (q : Params) (s : State) : State :=
  pfCmd c h 0x31 [] (bits (p0 q) 8 56 != 0 || p1 q % 64 != 0 || p2 q == 0 || decide (1024 < p2 q)) rotCheck
    (engOn (fun e => { e with upd := some { h, step := .checking } })) s
/-- ROTATE UPDATE (14 R480 – R482): the keepers read and check the image. Without a spare, of which R480 says nothing for an UPDATE, it answers BUSY
(DESIGN CHOICE, notes/assumptions/72.md). -/
def execRotateUpdate (h : CmdHdr) (q : Params) (s : State) : Host.Outcome State Fault Refusal := .next (doRotateUpdate (.rotateUpdate h q) h q s)

/-- Step 4 of the update has begun: it can no longer be cancelled (14 R484). -/
def Upd.closed (u : Upd) : Bool := match u.step with | .swapping => true | _ => u.late
def cancelCheck (s : State) : Option (Nat × Nat) :=
  match s.eng.upd with
  | some u => if u.closed then some (ccState, 0) else none
  | none => some (ccState, 0)
def doUpdateCancel (c : Instr) (h : CmdHdr) (q : Params) (s : State) : State :=
  pfCmd c h 0x31 [] (bits (p0 q) 8 56 != 0 || p1 q != 0 || p2 q != 0) cancelCheck
    (fun s => rotServe (updAbandon (engOn (fun e => { e with upd := e.upd.map (fun u => { u with cancels := u.cancels ++ [h] }) }) s))) s
/-- ROTATE UPDATE-CANCEL (14 R484). -/
def execUpdateCancel (h : CmdHdr) (q : Params) (s : State) : Host.Outcome State Fault Refusal := .next (doUpdateCancel (.updateCancel h q) h q s)

/-! ### Rotations (14 R472 – R476) -/

def doRotationTimer (s : State) : State :=
  if s.served && s.rotEnable && s.lock then rotServe (engOn (fun e => { e with rotDue := true }) s) else s
/-- ROTATION_TIMER (14 R472, R475; 02 R76). -/
def execRotationTimer (s : State) : Host.Outcome State Fault Refusal := .next (happen doRotationTimer s)
def doRotationCopyDone (pauseUs : Nat) (s : State) : State :=
  match s.eng.rot with
  | some r =>
    if r.step ≠ .copying then s
    else engOn (fun e => { e with lastPause := min 255 pauseUs, rot := some { r with step := .selfTest, test := r.out_, moved := true } }) (engMove r.out_ s)
  | none => s
/-- ROTATION_COPY_DONE (14 R473 steps 2 – 4; 01 R43): the migration point. -/
def execRotationCopyDone (pauseUs : Nat) (s : State) : Host.Outcome State Fault Refusal := .next (doRotationCopyDone pauseUs s)

/-- The self-test of the engine under test of a rotation has ended (14 R473, R474). -/
def rotTested (r : Rot) (pass : Bool) (s : State) : State :=
  let again := match r.step with | .retest => true | _ => false
  if pass then engPassed r.test (engOn (fun e => { e with rot := some { r with step := .refill } }) s)
  else rotServe (modeServe (engFailed r.test again (if again then s else engOn (fun e => { e with rot := some { r with step := .retest } }) s)))
/-- The self-test of the spare loaded with new firmware has ended (14 R482 step 2). -/
def updTested (u : Upd) (again pass : Bool) (s : State) : State :=
  let t := s.eng.spare
  if pass then rotServe (engPassed t (engOn (fun e => { e with upd := some { u with step := .rotating, newEngines := [t] } }) s))
  else rotServe (engFailed t again (if again then s else engOn (fun e => { e with upd := some { u with step := .loading true } }) s))
def doEngineSelfTestDone (pass : Bool) (s : State) : State :=
  match s.eng.rot, s.eng.upd with
  | some r, _ => (match r.step with | .selfTest | .retest => rotTested r pass s | _ => s)
  | none, some u => (match u.step with | .loading again => updTested u again pass s | _ => s)
  | none, none => s
/-- ENGINE_SELF_TEST_DONE (14 R473 step 5, R474, R482 step 2). -/
def execEngineSelfTestDone (pass : Bool) (s : State) : Host.Outcome State Fault Refusal := .next (bundle (.engineSelfTestDone pass) (doEngineSelfTestDone pass) s)
def doSpareRefillDone (s : State) : State :=
  match s.eng.rot with
  | some r => (match r.step with | .refill => rotServe (modeServe (rotFinish r s)) | _ => s)
  | none => s
/-- SPARE_REFILL_DONE (14 R473 step 6). -/
def execSpareRefillDone (s : State) : Host.Outcome State Fault Refusal := .next (bundle .spareRefillDone doSpareRefillDone s)

/-! ### Repair without the host (14 R477 – R479; 15 R522) -/

/-- CODE_PAGE_REPAIR (14 R477): the page comes from a peer, or from the image in host memory. -/
def execCodePageRepair (t : Tender) (_peerOk : Bool) (s : State) : Host.Outcome State Fault Refusal := .next (happen (unitOnce (627 + t) 2 t 0) s)
/-- THREAD_RESTART (14 R476, R478). -/
def execThreadRestart (t : Tender) (engineLost : Bool) (s : State) : Host.Outcome State Fault Refusal :=
  .next (happen (unitOnce (627 + t) (if engineLost then 3 else 1) t 0) s)
/-- KEEPER_MEMORY_REWRITE (14 R479). -/
def execKeeperMemoryRewrite (s : State) : Host.Outcome State Fault Refusal := .next (happen (unitOnce 637 1 0 0) s)
/-- KEEPER_DIVERGENCE (15 R522; 00 R15). -/
def execKeeperDivergence (s : State) : Host.Outcome State Fault Refusal := .next (happen (unitOnce 636 1 0 0) s)

/-! ### Firmware updates (14 R481 – R484) -/

/-- The refusal cause of an update image, checks 1 – 12 first (14 R481). -/
def updFault (image : List Byte) (fmtSame : Bool) (s : State) : Option Nat :=
  match imageFault s.otp image with
  | some c => some c
  | none =>
    let i := imageInfo image
    match s.boot.running with
    | some r => firstFail [(i.cfgHash != r.cfgHash, 0x10), (i.grafts != r.grafts, 0x11), (!fmtSame, 0x12)]
    | none => some 0x10
def doUpdateImageChecked (image : List Byte) (fmtSame : Bool) (s : State) : State :=
  match s.eng.upd with
  | some u =>
    (match u.step with
     | .checking =>
       (match updFault image fmtSame s with
        | some c => cmdDone u.h 0x31 ccState c 0 (engOn (fun e => { e with upd := none }) s)
        | none => engOn (fun e => { e with upd := some { u with step := .loading false, img := some (imageInfo image) } }) s)
     | _ => s)
  | none => s
/-- UPDATE_IMAGE_CHECKED (14 R481, R482 step 1). -/
def execUpdateImageChecked (image : List Byte) (fmtSame : Bool) (s : State) : Host.Outcome State Fault Refusal :=
  .next (bundle (.updateImageChecked image fmtSame) (doUpdateImageChecked image fmtSame) s)
def doKeeperSwap (s : State) : State :=
  match s.eng.upd with
  | some u =>
    (match u.step with
     | .rotating =>
       if s.eng.rot.isNone && s.eng.active.all (fun t => u.newEngines.contains t) then
         engOn (fun e => { e with swapping := true, upd := some { u with step := .swapping } }) s
       else s
     | _ => s)
  | none => s
/-- KEEPER_SWAP (14 R482 step 4, R483): the paths pass to hardware-only protection. -/
def execKeeperSwap (s : State) : Host.Outcome State Fault Refusal := .next (doKeeperSwap s)
/-- The swap is over: R427 ends for every path (14 R483). What it brings the update is one bundle with the COMMAND record (04 R140); while that
waits for room, the update stays in its last step. -/
def keeperSwapEnd (c : Instr) (g : State → State) (s : State) : State :=
  let done := bundle c (fun s => rotServe (g s))
  if s.eng.swapping then happen (forEach ports pathResume) (done (engOn (fun e => { e with swapping := false }) s))
  else match s.eng.upd with
    | some u => (match u.step with | .swapping => done s | _ => { s with blocked := [] })
    | none => { s with blocked := [] }
/-- The new image becomes the image in service (14 R482 step 5, R483). -/
def updServe (s : State) : State :=
  match s.eng.upd with
  | some u =>
    let s := engOn (fun e => { e with upd := none, svn := (u.img.map (·.svn)).getD e.svn, fwVersion := (u.img.map (·.fwVersion)).getD e.fwVersion }) s
    let s := { s with boot := { s.boot with running := u.img.orElse (fun _ => s.boot.running) } }
    cmdDone u.h 0x31 ccSuccess 0 0 (almEvent 6 0 s.eng.svn 0 (s.rsAdd 0x13000C 8 8 1))
  | none => s
/-- KEEPER_READY (14 R482 step 5, R483 step 3). -/
def execKeeperReady (s : State) : Host.Outcome State Fault Refusal := .next (keeperSwapEnd .keeperReady updServe s)
/-- KEEPER_READY_TIMEOUT (14 R483 step 4, R484). -/
def execKeeperReadyTimeout (s : State) : Host.Outcome State Fault Refusal := .next (keeperSwapEnd .keeperReadyTimeout updAbandon s)
def doUpdateAbandonDone (s : State) : State :=
  match s.eng.upd with
  | some u =>
    (match u.step with
     | .abandoning =>
       if s.eng.rot.isNone && (s.eng.spare == noSpare || s.eng.active.all (fun t => !u.newEngines.contains t)) then
         let s := cmdDone u.h 0x31 ccState 0x13 0 (engOn (fun e => { e with upd := none }) s)
         rotServe (forEach u.cancels (fun h s => cmdDone h 0x31 ccSuccess 0 0 s) s)
       else s
     | _ => s)
  | none => s
/-- UPDATE_ABANDON_DONE (14 R484). -/
def execUpdateAbandonDone (s : State) : Host.Outcome State Fault Refusal := .next (bundle .updateAbandonDone doUpdateAbandonDone s)

/-! ### SELF-TEST (14 R485) -/

/-- A reserved bit or parameter of a SELF-TEST is not 0; a DEADLINE above 3,600 s, to which R485 gives no code, is refused like them (DESIGN CHOICE,
notes/assumptions/72.md). -/
def testBad (q : Params) (units : Nat) (deadline : Bool) : Bool :=
  bits (p0 q) 16 48 != 0 || p2 q != 0 || decide (units ≤ opUnit q) || (if deadline then decide (3600 < p1 q) else p1 q != 0)
/-- BUSY while a test of the same OP runs, and the refusals of the row. -/
def testCheck (op : TestOp) (more : State → Option (Nat × Nat)) (s : State) : Option (Nat × Nat) :=
  if s.eng.tests.any (fun t => t.op == op) then some (ccBusy, 0) else more s
/-- A test begins. -/
def testBegin (h : CmdHdr) (op : TestOp) (unit : Nat) (runs : Bool) (s : State) : State :=
  engOn (fun e => { e with tests := e.tests ++ [{ op, h, unit, runs }] }) s
def tenderCheck (s : State) : Option (Nat × Nat) := if s.flt.safeHold then some (ccBusy, 0) else none
def doSelfTestTender (c : Instr) (h : CmdHdr) (q : Params) (s : State) : State :=
  let t := opUnit q
  pfCmd c h 0x32 [] (testBad q 9 false || s.eng.retired.contains t)
    (testCheck .tender (fun s => if s.eng.active.contains t && s.eng.spare == noSpare && s.eng.rot.isNone then some (ccBusy, 0) else tenderCheck s))
    (fun s => rotServe (testBegin h .tender t true s)) s
/-- SELF-TEST TENDER (14 R485): a spare is tested at once, an active engine is rotated out first. -/
def execSelfTestTender (h : CmdHdr) (q : Params) (s : State) : Host.Outcome State Fault Refusal := .next (doSelfTestTender (.selfTestTender h q) h q s)
def bankCheck (s : State) : Option (Nat × Nat) := if s.units.fallowOn || !s.units.retiredBanks.isEmpty then some (ccState, 0) else none
def doSelfTestBank (c : Instr) (h : CmdHdr) (q : Params) (s : State) : State :=
  pfCmd c h 0x32 [] (testBad q 32 false) (testCheck .bank bankCheck)
    (fun s => testBegin h .bank (opUnit q) true (unitsOn (fun u => { u with fallow := opUnit q, fallowOn := true, fallowMoved := true }) s)) s
/-- SELF-TEST BANK (14 R485). -/
def execSelfTestBank (h : CmdHdr) (q : Params) (s : State) : Host.Outcome State Fault Refusal := .next (doSelfTestBank (.selfTestBank h q) h q s)
def doSelfTestAdc (c : Instr) (h : CmdHdr) (q : Params) (s : State) : State :=
  pfCmd c h 0x32 [] (testBad q 8 false) (testCheck .adc (fun _ => none)) (testBegin h .adc (opUnit q) true) s
/-- SELF-TEST ADC (14 R485). -/
def execSelfTestAdc (h : CmdHdr) (q : Params) (s : State) : Host.Outcome State Fault Refusal := .next (doSelfTestAdc (.selfTestAdc h q) h q s)
def doSelfTestBed (c : Instr) (h : CmdHdr) (q : Params) (s : State) : State :=
  pfCmd c h 0x32 [] (testBad q 8 true) (testCheck .bed (fun _ => none)) (testBegin h .bed (opUnit q) false) s
/-- SELF-TEST BED (14 R485): it waits until the bed is idle. -/
def execSelfTestBed (h : CmdHdr) (q : Params) (s : State) : Host.Outcome State Fault Refusal := .next (doSelfTestBed (.selfTestBed h q) h q s)
def doSelfTestKeeper (c : Instr) (h : CmdHdr) (q : Params) (s : State) : State :=
  pfCmd c h 0x32 [] (testBad q 1 false) (testCheck .keeper (fun _ => none)) (testBegin h .keeper 0 true) s
/-- SELF-TEST KEEPER (14 R485). -/
def execSelfTestKeeper (h : CmdHdr) (q : Params) (s : State) : Host.Outcome State Fault Refusal := .next (doSelfTestKeeper (.selfTestKeeper h q) h q s)

/-- A bed is idle: every path in OFF, no USB side in service, no guest presented, no CC attachment (14 R485). -/
def State.bedIdle (s : State) (b : Nat) : Bool :=
  (portsOf b).all (fun p =>
    (s.path p).st == .off && !(s.link p).u2.st.holdsDevice && !(s.link p).ss.st.holdsDevice && !(s.guest p).present && !(s.tc p).st.attached)
def doBedTestIdle (b : Nat) (s : State) : State :=
  match s.eng.tests.find? (fun t => t.op == .bed && t.unit == b && !t.runs) with
  | some t =>
    if s.bedIdle b then
      (engOn (fun e => { e with tests := e.tests.map (fun x => if x = t then { x with runs := true } else x) }) s).bedOn b (fun x => { x with testing := true })
    else s
  | none => s
/-- BED_TEST_IDLE (14 R485): the pending BED test runs. -/
def execBedTestIdle (b : Bed) (s : State) : Host.Outcome State Fault Refusal := .next (doBedTestIdle b s)
def doBedTestDeadline (s : State) : State :=
  match s.eng.tests.find? (fun t => t.op == .bed && !t.runs) with
  | some t => cmdDone t.h 0x32 ccBusySched 0 0 (engOn (fun e => { e with tests := e.tests.filter (fun x => x != t) }) s)
  | none => s
/-- BED_TEST_DEADLINE (14 R485). -/
def execBedTestDeadline (s : State) : Host.Outcome State Fault Refusal := .next (bundle .bedTestDeadline doBedTestDeadline s)

/-- A test has ended: RESULT holds its pass flag and its duration (14 R485). -/
def testEnd (t : SelfTest) (pass : Bool) (ms : Nat) (s : State) : State :=
  cmdDone t.h 0x32 ccSuccess (b2n pass + min 65535 ms * 256) 0 (engOn (fun e => { e with tests := e.tests.filter (fun x => x != t) }) s)
/-- The TENDER test of a spare has ended (14 R474, R485): a first failure is tested once more, a second retires the engine. -/
def tenderTested (t : SelfTest) (pass : Bool) (ms : Nat) (s : State) : State :=
  if s.eng.active.contains t.unit then s
  else if s.eng.spare ≠ t.unit then testEnd t pass ms s
  else if pass then testEnd t true ms (engPassed t.unit s)
  else if t.again then testEnd t false ms (engFailed t.unit true s)
  else engFailed t.unit false (engOn (fun e => { e with tests := e.tests.map (fun x => if x = t then { x with again := true } else x) }) s)
/-- The attaches that fell due during a BED test are declared (14 R485). -/
def bedTested (b : Nat) (s : State) : State :=
  forEach (portsOf b) (fun p s => if (s.tc p).attachDue then ccAdvance p (s.tcOn p (fun t => { t with attachDue := false })) else s)
    (s.bedOn b (fun x => { x with testing := false }))
def doSelfTestDone (op : TestOp) (pass : Bool) (ms : Nat) (s : State) : State :=
  match s.eng.tests.find? (fun t => t.op == op && t.runs) with
  | none => s
  | some t =>
    match op with
    | .tender => rotServe (tenderTested t pass ms s)
    | .bank =>
      let s := testEnd t pass ms (unitsOn (fun u => { u with fallowOn := false, fallowMoved := false }) s)
      if pass then s else bankRetire t.unit 3 s
    | .adc =>
      let s := testEnd t pass ms s
      if pass then s else unitOnce (512 + 8 * t.unit + 5) 2 t.unit 0 s
    | .bed => bedTested t.unit (testEnd t pass ms s)
    | .keeper => testEnd t pass ms s
/-- SELF_TEST_DONE (14 R474, R485). -/
def execSelfTestDone (op : TestOp) (pass : Bool) (ms : Nat) (s : State) : Host.Outcome State Fault Refusal := .next (bundle (.selfTestDone op pass ms) (doSelfTestDone op pass ms) s)

/-! ### Grafts (14 R489 – R492) -/

/-- A graft fault: the sixteenth within 60 s disables the graft until the next sowing, and its data region is zeroed (14 R489, R492). -/
def graftFault (g cause : Nat) (s : State) : State :=
  let x := s.graft g
  if x.st ≠ 1 then s
  else
    let t := s.time.local_
    let times := x.times.filter (fun y => decide (t < y + minuteNs)) ++ [t]
    let s := unitOnce (651 + g) cause g 0 ((s.graftOn g (fun x => { x with times })).rsAdd (graftReg g) 8 8 1)
    if 16 ≤ times.length then unitOnce (651 + g) 4 g 0 (s.graftOn g (fun x => { x with st := 2, timers := [], times := [] })) else s
/-- GRAFT_RUN_EXPIRE (14 R490, R492): the default answer stands, and the fault counts. -/
def execGraftRunExpire (g : Fin 8) (_hk : Nat) (s : State) : Host.Outcome State Fault Refusal := .next (happen (graftFault g 1) s)
/-- A structured VDM of a graft (14 R491; 11 R405, R411). -/
def graftVdm (p : Nat) (sop : Sop) (hdr : Nat) (vdos : List Nat) (s : State) : State :=
  if s.pdLive p && s.sopOk p (sopCode sop) then pdOwn p { sop, ty := 0xF, ext := false, objs := hdr :: vdos, use := .vdmReq } s else s
def doGraftServiceCall (g : Nat) (c : GraftCall) (s : State) : State :=
  let x := s.graft g
  let own : Nat → Bool := fun p => x.mask.getLsbD p
  if x.st ≠ 1 then s
  else match c with
    | .time => s
    | .port p | .budget p => if own p then s else graftFault g 3 s
    | .timer p ms => if own p && decide (1 ≤ ms) && decide (ms ≤ 60000) then s.graftOn g (fun x => { x with timers := tput 0 x.timers p ms }) else graftFault g 3 s
    | .vdm p sop hdr vdos =>
      if !own p || svHdrBad hdr.toNat || decide (6 < vdos.length) then graftFault g 3 s else graftVdm p sop hdr.toNat (vdos.map (·.toNat)) s
    | .note v => s.graftOn g (fun x => { x with note := v.toNat })
    | .unknown => graftFault g 3 s
    | .outOfRegion => graftFault g 2 s
/-- GRAFT_SERVICE_CALL (14 R489, R491, R492): reads leave nothing behind. -/
def execGraftServiceCall (g : Fin 8) (c : GraftCall) (s : State) : Host.Outcome State Fault Refusal := .next (happen (doGraftServiceCall g c) s)
/-- GRAFT_TIMER_EXPIRE (14 R491): the timer is spent, and the TIMER hook runs on the graft's own data. -/
def execGraftTimerExpire (g : Fin 8) (p : Port) (s : State) : Host.Outcome State Fault Refusal :=
  .next (s.graftOn g (fun x => { x with timers := tput 0 x.timers p 0 }))

end Sys2Proof.Machine
end

