-- ==== Sys2Proof/Machine/GuestCmds.lean ====
section
/-! DEFINITION. The role actions of PORT ACTION, codes 0x20 – 0x28 (09 R313 – R323, R335 – R337). -/

namespace Sys2Proof.Machine

open Sys2Proof

/-! ### Checks -/

/-- The guest function that PORT and SLOT name (09 R317). -/
def State.guestNamed (s : State) (f : Nat) (q : Params) : Bool :=
  let g := s.guest (paPort q)
  g.st != .free && g.owner == f && g.bell == paSlot q
/-- The endpoint that GUEST-EP names (09 R317). -/
def guestEpIdx (q : Params) : Nat := bits (p0 q) 48 5
/-- Bits of PARAM0 that must be 0 (09 R317): ALL, SIDES, WARM and what the action does not use. -/
def gaBad (q : Params) (slot ep : Bool) : Bool :=
  paAll q || bits (p0 q) 32 3 != 0 || bits (p0 q) 35 13 != 0 || (!slot && paSlot q != 0)
    || (if ep then bits (p0 q) 53 3 != 0 || bits (p0 q) 61 3 != 0 else bits (p0 q) 48 16 != 0)
/-- A role action as a bundle: its bits, the owner of the port (03 R111), the guest it names, and further checks, or its effect. -/
def guestRun (h : CmdHdr) (q : Params) (named bad : Bool) (code : State → Option Nat) (ok : State → State) (s : State) : State :=
  match firstErr [(bad, ccParam), (!s.owns h.fn (paPort q), ccFunction), (named && !s.guestNamed h.fn q, ccParam), ((code s).isSome, (code s).getD 0)] with
  | some e => cmdDone h 0x20 e 0 (paPort q) s
  | none => ok s
/-- A role action that waits for its port and the endpoints it changes (04 R139; 05 R190). -/
def guestAction (c : Instr) (h : CmdHdr) (q : Params) (rs : List Nat) (named bad : Bool) (code : State → Option Nat) (ok : State → State) (s : State) : State :=
  command c h (.port (paPort q) :: rs.map .ep) (guestRun h q named bad code ok) s
/-- A role action that ends what is in progress on its port, for which it does not wait (09 R316, R333, R337). -/
def guestEnds (c : Instr) (h : CmdHdr) (q : Params) (named bad : Bool) (code : State → Option Nat) (ok : State → State) (s : State) : State :=
  commandOver c h [.portHeld (paPort q)] (guestRun h q named bad code ok) s
def gaDone (h : CmdHdr) (q : Params) (result : Nat) (s : State) : State := cmdDone h 0x20 ccSuccess result (paPort q) s
/-- States of a guest in which its endpoints are configured (09 R317). -/
def GuestSt.bound : GuestSt → Bool
  | .dflt | .addressed => true
  | _ => false

/-! ### GUEST-OPEN, GUEST-CLOSE -/

/-- Maximum packet size of a guest's EP0 (09 R318). -/
def guestMps (speed : Nat) : Nat := if speed = 0 then 8 else if speed ≤ 2 then 64 else 512
def doGuestOpen (c : Instr) (h : CmdHdr) (q : Params) (s : State) : State :=
  let f := h.fn.val
  let p := paPort q
  let evr := bits (p2 q) 40 8
  guestAction c h q [] false (gaBad q false false || bits (p1 q) 4 8 != 0 || bits (p2 q) 35 5 != 0 || bits (p2 q) 48 16 != 0)
    (fun s => firstErr [
      (decide (4 < bits (p2 q) 32 3) || !s.evrOk f evr, ccParam), ((s.guest p).st != .free, ccState),
      ((s.freeBell f).isNone || !s.guestFits f || !s.ctxFits f 1, ccResource)])
    (fun s =>
      let b := (s.freeBell f).getD 0
      let sm := min (bits (p2 q) 32 3) (s.maxSpeed p)
      let s := s.guestPut p { st := .ready, owner := f, bell := b, speedMax := sm, ctxCount := 1, ctxBase := Config.freeNat s.free % 2 ^ 18, seq := add32 (s.guest p).seq 1 }
      let s := { s with free := s.free + 1 }
      let r := epKey f b 0 0
      let s := s.epPut r { newEp p (p1 q / 4096 * 4096) (bits (p1 q) 0 4) (bits (p2 q) 0 32) with
        guest := true, ty := 1, mps := guestMps sm, evr := evr }
      epCmdDone [r] h 0x20 ccSuccess b p (fixRuns s)) s
/-- PORT ACTION GUEST-OPEN (09 R315, R317). -/
def execGuestOpen (h : CmdHdr) (q : Params) (s : State) : Host.Outcome State Fault Refusal := .next (doGuestOpen (.guestOpen h q) h q s)

/-- A guest function closes: its contexts, record and bell index are released, with no event (09 R316). -/
def closeGuest (p : Nat) (s : State) : State :=
  let g := s.guest p
  let s := forEach (s.slotRoots (slotKey g.owner g.bell)) epClose s
  let s := if g.present then s.linkOn p (fun l => l.sidePut g.side { st := .disconnected, maxSpeed := s.maxSpeed p }) else s
  s.guestPut p { seq := add32 g.seq 1 }
def doGuestClose (c : Instr) (h : CmdHdr) (q : Params) (s : State) : State :=
  guestEnds c h q true (gaBad q true false || p1 q != 0 || p2 q != 0) (fun _ => none)
    (fun s =>
      let p := paPort q
      let g := s.guest p
      let s := guestAbort p s
      gaDone h q (s.slotResidual (slotKey g.owner g.bell)) (closeGuest p s)) s
/-- PORT ACTION GUEST-CLOSE (09 R316). -/
def execGuestClose (h : CmdHdr) (q : Params) (s : State) : Host.Outcome State Fault Refusal := .next (doGuestClose (.guestClose h q) h q s)

/-! ### GUEST-CONNECT, GUEST-DISCONNECT -/

def doGuestConnect (c : Instr) (h : CmdHdr) (q : Params) (s : State) : State :=
  let p := paPort q
  guestAction c h q [] true (gaBad q true false || p1 q != 0 || p2 q != 0) (fun s => if (s.guest p).connectReq then some ccState else none)
    (fun s => gaDone h q 0 (guestBump p (s.guestOn p (fun g => { g with connectReq := true })))) s
/-- PORT ACTION GUEST-CONNECT (09 R315). -/
def execGuestConnect (h : CmdHdr) (q : Params) (s : State) : Host.Outcome State Fault Refusal := .next (doGuestConnect (.guestConnect h q) h q s)
def doGuestDisconnect (c : Instr) (h : CmdHdr) (q : Params) (s : State) : State :=
  let p := paPort q
  guestEnds c h q true (gaBad q true false || p1 q != 0 || p2 q != 0) (fun s => if (s.guest p).connectReq then none else some ccState)
    (fun s =>
      let s := guestGone p 1 s
      gaDone h q 0 (guestBump p (s.guestOn p (fun g => { g with connectReq := false })))) s
/-- PORT ACTION GUEST-DISCONNECT (09 R315, R333). -/
def execGuestDisconnect (h : CmdHdr) (q : Params) (s : State) : Host.Outcome State Fault Refusal :=
  .next (doGuestDisconnect (.guestDisconnect h q) h q s)

/-! ### GUEST-ENDPOINTS -/

/-- Limits of MPS, MAX_BURST and MULT by speed and type (09 R318): those of a host-role endpoint (05 R608) but on SuperSpeed isochronous
endpoints, for which the table states each field alone. -/
def guestLimitsOk (speed ty mps burst mult : Nat) : Bool :=
  if 3 ≤ speed ∧ (ty = 2 ∨ ty = 5) then decide (1 ≤ mps) && decide (mps ≤ 1024) && decide (burst ≤ 15) && decide (mult ≤ 2) else limitsOk speed ty mps burst mult
/-- Whether an entry of the input block is acceptable for a guest (09 R318, R322). -/
def guestEpInOk (s : State) (f speed e : Nat) (x : EpIn) : Bool :=
  if e = 0 then !x.rsv && x.mps == guestMps speed && s.evrOk f x.evr
  else !x.rsv && decide (2 ≤ x.ty) && (if e % 2 = 1 then decide (x.ty ≤ 4) else decide (5 ≤ x.ty)) && guestLimitsOk speed x.ty x.mps x.burst x.mult
    && intervalOk speed x.ty x.interval && !x.streams && x.stLog == 0 && s.evrOk f x.evr
def guestEndpointsCode (f p b : Nat) (q : Params) (blk : List Byte) (s : State) : Option Nat :=
  let g := s.guest p
  let add := maskIdx (leAt blk 0 4)
  let drop := (maskIdx (leAt blk 4 4)).filter (fun e => s.epDefined (epKey f b e 0))
  let left := (List.range 31).filter (fun e => add.contains e || (s.epDefined (epKey f b e 0) && !drop.contains e))
  firstErr [
    (!g.st.bound, ccState), (p1 q % 64 != 0, ccParam),
    ((add ++ drop).any (fun e => (s.ep (epKey f b e 0)).st == .running), ccContext),
    (blkHeaderBad blk || leAt blk 8 4 != 0 || add.any (fun e => !guestEpInOk s f g.speed e (epIn blk e)), ccParam),
    (decide (16 < left.length) || (g.speed == 0 && decide (3 < left.length)), ccParam)]
def doGuestEndpoints (c : Instr) (h : CmdHdr) (q : Params) (blk : List Byte) (s : State) : State :=
  let f := h.fn.val
  let p := paPort q
  let b := paSlot q
  let key := slotKey f b
  guestAction c h q (s.blkTouched f b blk) true (gaBad q true false || p2 q != 0) (guestEndpointsCode f p b q blk)
    (fun s =>
      let t := applyEndpoints f b p true blk s
      let n := t.runLength key
      if !s.ctxFits f (n - (s.guest p).ctxCount) then cmdDone h 0x20 ccResource 0 p s
      else epCmdDone ((s.blkTouched f b blk).filter (fun r => t.epDefined r)) h 0x20 ccSuccess 0 p (fixRuns (guestBump p (t.guestOn p (fun g => { g with ctxCount := n }))))) s
/-- PORT ACTION GUEST-ENDPOINTS (09 R318, R322). -/
def execGuestEndpoints (h : CmdHdr) (q : Params) (blk : List Byte) (s : State) : Host.Outcome State Fault Refusal :=
  .next (doGuestEndpoints (.guestEndpoints h q blk) h q blk s)

/-! ### GUEST-WAKE -/

def doGuestWake (c : Instr) (h : CmdHdr) (q : Params) (s : State) : State :=
  let p := paPort q
  guestAction c h q [] true (gaBad q true false || decide (256 ≤ p1 q) || p2 q != 0) (fun s => if (s.guest p).suspended then none else some ccState)
    (fun s =>
      let ss := (s.guest p).side == .ss
      let s := s.guestOn p (fun g => { g with wakeIface := p1 q, wakeDriving := false, wakeDone := ss })
      let s := opStart { h, kind := .guestWake, port := p, bell := paSlot q } s
      if ss then (s.sideOn p .ss (fun x => { x with st := .resuming })).emit (.bus p .ss .lfpsExit) else s) s
/-- PORT ACTION GUEST-WAKE (09 R335). -/
def execGuestWake (h : CmdHdr) (q : Params) (s : State) : Host.Outcome State Fault Refusal := .next (doGuestWake (.guestWake h q) h q s)
/-- A GUEST-WAKE is in progress on a port. -/
def guestWaking (p : Nat) (o : Op) : Bool := o.port == p && o.kind == .guestWake
def doGuestWakeKStart (p : Port) (s : State) : State :=
  let g := s.guest p
  if (s.opFind (guestWaking p)).isSome && g.suspended && !g.wakeDriving && !g.wakeDone && g.side == .usb2 then
    ((s.guestOn p (fun g => { g with wakeDriving := true })).sideOn p .usb2 (fun x => { x with st := .resuming })).emit (.bus p .usb2 .resumeK)
  else s
/-- GUEST_WAKE_K_START (09 R335). -/
def execGuestWakeKStart (p : Port) (s : State) : Host.Outcome State Fault Refusal := .next (doGuestWakeKStart p s)
def doGuestWakeKEnd (p : Port) (s : State) : State :=
  if (s.guest p).wakeDriving then s.guestOn p (fun g => { g with wakeDriving := false, wakeDone := true }) else s
/-- GUEST_WAKE_K_END (09 R335). -/
def execGuestWakeKEnd (p : Port) (s : State) : Host.Outcome State Fault Refusal := .next (doGuestWakeKEnd p s)

/-! ### GUEST-EP -/

/-- GUEST-EP: the state of the guest, its endpoint, and the endpoint states in which the OP is permitted (09 R317, R323). -/
def guestEp (c : Instr) (h : CmdHdr) (q : Params) (bad : Bool) (permitted : EpSt → Bool) (ok : Nat → State → State) (s : State) : State :=
  let p := paPort q
  let r := epKey h.fn.val (paSlot q) (guestEpIdx q) 0
  guestAction c h q [r] true (gaBad q true true || bad)
    (fun s => firstErr [(!(s.guest p).st.bound, ccState), (decide (30 < guestEpIdx q) || !s.epDefined r, ccParam), (!permitted (s.ep r).st, ccContext)]) (ok r) s
def doGuestEpPause (c : Instr) (h : CmdHdr) (q : Params) (s : State) : State :=
  guestEp c h q (p1 q != 0 || p2 q != 0) (fun x => x == .idle || x == .running)
    (fun r s => pauseStart h 0x20 r { h, kind := .guestPause (guestEpIdx q), port := paPort q, bell := paSlot q } s) s
/-- PORT ACTION GUEST-EP PAUSE (09 R323). -/
def execGuestEpPause (h : CmdHdr) (q : Params) (s : State) : Host.Outcome State Fault Refusal := .next (doGuestEpPause (.guestEpPause h q) h q s)
def doGuestEpMove (c : Instr) (h : CmdHdr) (q : Params) (s : State) : State :=
  guestEp c h q (bits (p1 q) 1 4 != 0 || bits (p2 q) 32 32 != 0) (fun x => x == .paused || x == .halted)
    (fun r s => epCmdDone [r] h 0x20 ccSuccess 0 (paPort q) (moveCursor r (p1 q / 32 * 32) (p1 q % 2) (bits (p2 q) 0 32) s)) s
/-- PORT ACTION GUEST-EP MOVE (09 R323; 05 R185). -/
def execGuestEpMove (h : CmdHdr) (q : Params) (s : State) : Host.Outcome State Fault Refusal := .next (doGuestEpMove (.guestEpMove h q) h q s)
/-- HALT: a transfer in progress ends with STALL, and the endpoint goes to Halted (09 R323; 07 R268). -/
def guestHalt (r : Nat) (s : State) : State :=
  epHaltState r (if (s.ep r).inXfer then retireXfer r (stopPost r ccStall s) else s)
def doGuestEpHalt (c : Instr) (h : CmdHdr) (q : Params) (s : State) : State :=
  guestEp c h q (p1 q != 0 || p2 q != 0) (fun x => x == .idle || x == .running || x == .paused) (fun r s => epCmdDone [r] h 0x20 ccSuccess 0 (paPort q) (guestHalt r s)) s
/-- PORT ACTION GUEST-EP HALT (09 R323). -/
def execGuestEpHalt (h : CmdHdr) (q : Params) (s : State) : Host.Outcome State Fault Refusal := .next (doGuestEpHalt (.guestEpHalt h q) h q s)
def doGuestEpUnhalt (c : Instr) (h : CmdHdr) (q : Params) (s : State) : State :=
  guestEp c h q (p1 q != 0 || p2 q != 0) (fun x => x == .halted) (fun r s => epCmdDone [r] h 0x20 ccSuccess 0 (paPort q) (clearHalt r (bit (p0 q) 60) s)) s
/-- PORT ACTION GUEST-EP UNHALT (09 R323; 05 R184). -/
def execGuestEpUnhalt (h : CmdHdr) (q : Params) (s : State) : Host.Outcome State Fault Refusal := .next (doGuestEpUnhalt (.guestEpUnhalt h q) h q s)

/-! ### ROLE-SET, GUEST-SNAPSHOT -/

def doRoleSet (c : Instr) (h : CmdHdr) (q : Params) (s : State) : State :=
  let p := paPort q
  guestEnds c h q false (gaBad q false false || decide (2 ≤ p1 q) || p2 q != 0)
    (fun s => if s.profile p == .soldered && s.roleCfg p == 1 then none else some ccState)
    (fun s => gaDone h q 0 (refreshRole p 5 true (s.linkOn p (fun l => { l with roleSet := p1 q == 1 })))) s
/-- PORT ACTION ROLE-SET (09 R311, R337). -/
def execRoleSet (h : CmdHdr) (q : Params) (s : State) : Host.Outcome State Fault Refusal := .next (doRoleSet (.roleSet h q) h q s)
def doGuestSnapshot (c : Instr) (h : CmdHdr) (q : Params) (s : State) : State :=
  let p := paPort q
  guestAction c h q [] true (gaBad q true false || p1 q % 64 != 0 || p2 q != 0) (fun _ => none)
    (fun s => gaDone h q 0 (s.emit (.hostWrite h.fn (p1 q) (s.snapshotAll (guestBytes p (s.guest p)) h.fn (paSlot q))))) s
/-- PORT ACTION GUEST-SNAPSHOT (09 R317). -/
def execGuestSnapshot (h : CmdHdr) (q : Params) (s : State) : Host.Outcome State Fault Refusal := .next (doGuestSnapshot (.guestSnapshot h q) h q s)

end Sys2Proof.Machine
end

