-- ==== Sys2Proof/Machine/Modes.lean ====
section
/-! DEFINITION. SET MODE, tempo samples, the regulator and the device power states (13 R441 – R466). -/

namespace Sys2Proof.Machine

open Sys2Proof

/-! ### SET MODE (13 R444 – R448, R465) -/

/-- STATE-REFUSED of a SET MODE with its cause. -/
def modeRefused (cause : Nat) : Nat × Nat := (ccState, cause * 65536)
def setModeCheck (q : Params) (s : State) : Option (Nat × Nat) :=
  let g := modeOf (bits (p0 q) 0 2)
  if g = s.mode.mode then none
  else if s.flt.safeHold ∧ s.mode.mode.rank < g.rank then some (modeRefused 4)
  else if g = .fallow ∧ !bit (p0 q) 8 ∧ s.withholds ≠ [] then some (modeRefused 2)
  else none
/-- The change that a SET MODE starts, or its completion at once: one to the mode in force changes no mode (R444) and clears STEPPED, as R454 says of
any SET MODE (DEDUCED, notes/assumptions/72.md). -/
def setModeStart (h : CmdHdr) (g : Mode) (force : Bool) (s : State) : State :=
  if g = s.mode.mode then setModeDone h ccSuccess g.code (modeOn (fun m => { m with stepped := false }) s)
  else if s.mode.mode.rank < g.rank then modeFaster g (.command h force) s
  else modeSlower g (.command h force) s
def doSetMode (c : Instr) (h : CmdHdr) (q : Params) (s : State) : State :=
  pfCmd c h 0x30 [.mode] (bits (p0 q) 2 6 != 0 || bits (p0 q) 9 55 != 0 || p1 q != 0 || p2 q != 0 || bits (p0 q) 0 2 == 3) (setModeCheck q)
    (setModeStart h (modeOf (bits (p0 q) 0 2)) (bit (p0 q) 8)) s
/-- SET_MODE (13 R444 – R448, R454, R465). -/
def execSetMode (h : CmdHdr) (q : Params) (s : State) : Host.Outcome State Fault Refusal := .next (doSetMode (.setMode h q) h q s)

/-! ### Tempo (13 R449 – R454) -/

/-- The counts of low samples, and what the third and the tenth bring (13 R450, R451). -/
def tempoCounts (n : Nat) (s : State) : State :=
  let m := s.mode
  let low := if n < m.floor + s.margin then m.lowRun + 1 else 0
  let below := if n < m.floor then m.belowRun + 1 else 0
  let s := modeOn (fun m => { m with lowRun := min low 4, belowRun := min below 11 }) s
  let s := if low = 3 then tempoEvent 1 (modeOn (fun m => { m with reduced := m.reduced || m.mode != .fallow }) s) else s
  if below = 10 then
    let s := tempoEvent 3 s
    if s.mode.mode = .fallow then tempoEvent 5 s else stepDown s
  else s
/-- A sample in step 3 of a change to a faster mode (13 R445): ten good ones end it, one below the threshold fails it. -/
def tempoConfirm (n : Nat) (s : State) : State :=
  match s.mode.chg with
  | some c =>
    if c.phase ≠ .confirm then s
    else if c.failed ∨ n < c.goal.floorOf + s.margin then modeEnd (fasterFails c 5 s)
    else if 10 ≤ c.good + 1 then modeEnd (fasterDone c s)
    else modeOn (fun m => { m with chg := some { c with good := c.good + 1 } }) s
  | none => s
/-- What a sample in step 3 leaves while the record of the change's end finds no room: the change goes on, and its failure stands (04 R140). -/
def tempoHold (n : Nat) (s : State) : State :=
  modeOn (fun m => { m with chg := m.chg.map (fun c => { c with failed := c.failed || (c.phase == .confirm && decide (n < c.goal.floorOf + s.margin)) }) }) s
def doTempoSample (idx : BitVec 16) (s : State) : State :=
  if !s.served || s.mode.pwr == .dormant then s
  else
    let n := idx.toNat
    bundleElse (tempoConfirm n) (tempoHold n) (tempoCounts n (modeOn (fun m => { m with index := n, lowMark := min m.lowMark n }) s))
/-- TEMPO_SAMPLE (13 R445 step 3, R449 – R451). -/
def execTempoSample (idx : BitVec 16) (s : State) : Host.Outcome State Fault Refusal := .next (happen (doTempoSample idx) s)

def doTempoRecoveredExpire (s : State) : State := if s.mode.reduced then tempoEvent 2 (modeOn (fun m => { m with reduced := false }) s) else s
/-- TEMPO_RECOVERED_EXPIRE (13 R450). -/
def execTempoRecoveredExpire (s : State) : Host.Outcome State Fault Refusal := .next (happen doTempoRecoveredExpire s)

def doSundialCheck (second : BitVec 16) (s : State) : State :=
  let a := s.mode.index
  let b := second.toNat
  if !s.served || s.mode.pwr == .dormant || decide ((max a b - min a b) * 100 ≤ 4 * b) then s else unitOnce 641 1 0 0 s
/-- SUNDIAL_CHECK (13 R452): a disagreement of more than 4 % of the second path. -/
def execSundialCheck (second : BitVec 16) (s : State) : Host.Outcome State Fault Refusal := .next (happen (doSundialCheck second) s)

/-! ### The regulator (13 R445, R446, R455) -/

def doRegulatorSettled (mv : Nat) (s : State) : State :=
  let s := modeOn (fun m => { m with vout := mv }) s
  let goal := match s.mode.chg with | some c => c.goal.mv | none => s.mode.voutTarget
  if 10 < max mv goal - min mv goal then s
  else match s.mode.chg with
    | some c =>
      (match c.phase with
       | .settle => modeOn (fun m => { m with chg := some { c with phase := .confirm, good := 0 } }) s
       | .settleDown => modeEnd (slowerDone c true s)
       | _ => s)
    | none => s
/-- REGULATOR_SETTLED (13 R445 step 2, R446 step 5). -/
def execRegulatorSettled (mv : Nat) (s : State) : Host.Outcome State Fault Refusal := .next (bundle (.regulatorSettled mv) (doRegulatorSettled mv) s)
def doRegulatorSettleTimeout (s : State) : State :=
  match s.mode.chg with
  | some c =>
    (match c.phase with
     | .settle => modeEnd (fasterFails c 1 s)
     | .settleDown => modeEnd (slowerDone c false s)
     | _ => s)
  | none => s
/-- REGULATOR_SETTLE_TIMEOUT (13 R445, R446). -/
def execRegulatorSettleTimeout (s : State) : Host.Outcome State Fault Refusal := .next (bundle .regulatorSettleTimeout doRegulatorSettleTimeout s)
def doModeWindowsDrained (s : State) : State :=
  match s.mode.chg with
  | some c => if c.phase = .drain then voutTo c.goal.mv (modeOn (fun m => { m with chg := some { c with phase := .settleDown } }) s) else s
  | none => s
/-- MODE_WINDOWS_DRAINED (13 R446 steps 3 and 4). -/
def execModeWindowsDrained (s : State) : Host.Outcome State Fault Refusal := .next (doModeWindowsDrained s)
def doAutoRaiseTimer (s : State) : State :=
  if s.mode.stepped && s.autoRaise then modeServe (modeOn (fun m => { m with queued := some .raise }) s) else s
/-- AUTO_RAISE_TIMER (13 R454, R463): the attempt, behind a change in progress. -/
def execAutoRaiseTimer (s : State) : Host.Outcome State Fault Refusal := .next (happen doAutoRaiseTimer s)

/-- A REGULATOR event and the regulator's source (13 R455). -/
def regulatorBad (cause : Nat) (s : State) : State := unitOnce 648 cause 0 0 (modeEvent 6 cause s.mode.mode s.mode.pwr 0 0 s)
def doRegulatorPoll (rd : Option Nat) (s : State) : State :=
  if !s.served || s.mode.chg.isSome || s.mode.pwr == .dormant || s.mode.entering || s.mode.leaving.isSome then s
  else match rd with
    | none => if s.mode.regSilent then s else regulatorBad 1 (modeOn (fun m => { m with regSilent := true }) s)
    | some mv =>
      let bad := decide (25 < max mv s.mode.voutTarget - min mv s.mode.voutTarget)
      let n := if bad then s.mode.badReads + 1 else 0
      let s := modeOn (fun m => { m with vout := mv, regSilent := false, badReads := min n 3 }) s
      if n = 2 then regulatorBad 2 s else s
/-- REGULATOR_POLL (13 R455). -/
def execRegulatorPoll (rd : Option Nat) (s : State) : Host.Outcome State Fault Refusal := .next (happen (doRegulatorPoll rd) s)

/-! ### Device power states (13 R456 – R462, R466) -/

def doDrowseIdleExpire (s : State) : State :=
  if s.served && s.mode.pwr == .active && s.drowseEn && s.mayDrowse then
    pwrTo .drowse 0 (if s.mode.rewriteDue && s.lock then coldCopies s else s)
  else s
/-- DROWSE_IDLE_EXPIRE (13 R456, R462). -/
def execDrowseIdleExpire (s : State) : Host.Outcome State Fault Refusal := .next (happen doDrowseIdleExpire s)
def doDormantIdleExpire (s : State) : State :=
  if s.mode.pwr == .drowse && s.dormantEn && !s.mode.entering && s.mayDormant then
    let old := s.mode.pwr
    let m := s.mode
    let s := modeEvent 4 0 m.mode old 0 0 (modeOn (fun m => { m with pwr := .dormant }) s)
    modeOn (fun m => { m with pwr := .drowse, entering := true }) s
  else s
/-- DORMANT_IDLE_EXPIRE (13 R458, entry step 1): POWER-STATE is written before the part stops. -/
def execDormantIdleExpire (s : State) : Host.Outcome State Fault Refusal := .next (happen doDormantIdleExpire s)
def doDormantEntryComplete (s : State) : State :=
  if s.mode.entering then voutTo 700 (modeOn (fun m => { m with pwr := .dormant, entering := false, cfLp := true }) s) else s
/-- DORMANT_ENTRY_COMPLETE (13 R458, entry steps 2 – 4). -/
def execDormantEntryComplete (s : State) : Host.Outcome State Fault Refusal := .next (doDormantEntryComplete s)

/-- Whether an enabled entry of the cold frame's copy names a source (13 R460). -/
def State.watches (s : State) (i : Nat) : Bool := bit (tget 0 s.mode.watchCopy i) 15
def wakeCode : WakeCause → Nat
  | .bell => 1 | .port => 2 | .warning => 3 | .watch _ => 4 | .d0 => 5 | .fault => 6 | .retention => 7
def doWakeCause (c : WakeCause) (s : State) : State :=
  match c with
  | .watch i => if s.watches i then wake 4 s else s
  | c => wake (wakeCode c) s
/-- WAKE_CAUSE (13 R456 – R458, R460, R466). -/
def execWakeCause (c : WakeCause) (s : State) : Host.Outcome State Fault Refusal := .next (happen (doWakeCause c) s)
def doDormantExitComplete (s : State) : State :=
  match s.mode.leaving with
  | some c => rotServe (modeServe (pwrTo .active c (modeOn (fun m => { m with leaving := none }) s)))
  | none => s
/-- DORMANT_EXIT_COMPLETE (13 R458, exit steps 3 – 5). -/
def execDormantExitComplete (s : State) : Host.Outcome State Fault Refusal := .next (happen doDormantExitComplete s)
def doBrownOut (s : State) : State :=
  if !s.mode.cfLp then s
  else
    let s := modeOn (fun m => { m with cfLp := false, brownPend := true }) s
    almEvent 7 0 0 0 ((s.fldPut 0x110004 3 1 1).rsAdd 0x110004 16 16 1)
/-- BROWN_OUT (13 R461). -/
def execBrownOut (s : State) : Host.Outcome State Fault Refusal := .next (doBrownOut s)

end Sys2Proof.Machine
end

