-- ==== Sys2Proof/Machine/SowOps.lean ====
section
/-! DEFINITION. Resets and wipes, power-persist, the start of the boot ROM, refused images, the end of sowing, and the commit of a
lifecycle token (02 R45 – R74, R83, R84). -/

namespace Sys2Proof.Machine

open Sys2Proof

def supOn (g : Supply → Supply) (s : State) : State := { s with sup := g s.sup }
def bootOn (g : Boot → Boot) (s : State) : State := { s with boot := g s.boot }
/-- PERST_N is asserted, or a main supply or VDD_BED is below its threshold (17 R570). -/
def State.inReset (s : State) : Bool := s.sup.perst || !s.sup.low.isEmpty

/-! ### Wipes (02 R74) -/

/-- What a reset leaves of the boot block (02 R59, R71, R74); the nonce is kept. -/
def Boot.wiped (b : Boot) (life : Life) (cold : Bool) : Boot :=
  { st := if life = .uprooted then .uprooted else .awaiting, refusal := if life = .uprooted then 0x0E else 0, nonceDraw := b.nonceDraw,
    persistCopy := if cold then {} else b.persistCopy, persistEnds := if cold then [] else b.persistEnds }
/-- The copies of the cold frame (13 R460, R462). -/
def ModeSt.wiped (m : ModeSt) (cold : Bool) : ModeSt :=
  if cold then {} else { pwrCopy := m.pwrCopy, watchCopy := m.watchCopy, retention := m.retention }
/-- A path after a reset: what the supply, a hot die and a retired comparator chain hold stays (15 R519; 17 R570). -/
def Path.wiped (x : Path) (off : Bool) : Path :=
  { hold := if off then [] else x.hold.filter (fun h => decide (4 ≤ h)), forceOff := x.forceOff && !off, chainAside := x.chainAside && !off }
/-- A bed after a reset: a retired bed stays so until the next power-on (15 R511). -/
def BedSt.wiped (x : BedSt) (off : Bool) : BedSt := { retired := x.retired && !off, hot := x.hot && !off }
/-- Engines after a reset: a retired engine stays so until the next power-on (14 R474). -/
def Eng.wiped (e : Eng) (off : Bool) : Eng := { retired := if off then [] else e.retired }
/-- The wipe of a reset: OTP, almanac, cold frame, supplies and pins are kept (02 R74); `cold` also wipes the cold frame, `off` is a
power-on, and `pcie` is what the link and configuration space keep. -/
def wipe (cold off : Bool) (pcie : Pcie) (s : State) : State :=
  { State.reset with
    pending := s.pending, out := s.out, free := s.free, otp := s.otp, sup := s.sup, pcie := pcie,
    regs := if s.otp.gradeE then (List.range 9).map (fun i => (teleTempReg i, 164 * 65536)) else [],
    alm := { s.alm with windows := [], boot := s.alm.boot + 1 },
    smb := if cold then {} else s.smb,
    boot := s.boot.wiped s.otp.life cold, mode := s.mode.wiped cold, eng := s.eng.wiped off,
    beds := (s.beds.map (fun x => (x.1, x.2.wiped off))).filter (fun x => decide (x.2 ≠ {})),
    tcs := (s.tcs.map (fun x => (x.1, ({ retired := x.2.retired && !off } : Tc)))).filter (fun x => decide (x.2 ≠ {})),
    paths := (s.paths.map (fun x => (x.1, x.2.wiped off))).filter (fun x => decide (x.2 ≠ {})) }
/-- What an FLR of the PF and a lifecycle change keep: PF configuration space and the link. -/
def Pcie.keptPf (x : Pcie) (vfEn : Bool) : Pcie := { x with vfEn, fns := x.fns.filter (fun y => y.1 == 0), msix := [], flr := [] }

/-! ### Power-persist (02 R69 – R71) -/

/-- The contract that a port holds under power-persist; none when it does not meet R70. -/
def State.heldBy (s : State) (p : Nat) : Option Held :=
  let x := s.path p
  if !s.served || !s.boot.persistCopy.enable || !s.boot.persistCopy.mask.getLsbD p || !s.mode.retention || x.st != .on then none
  else match s.profile p with
    | .typea => some ⟨5000, (s.hook p).fixedI * 50, .fixed, false⟩
    | .soldered => if (s.hook p).fixedV = 50 then some ⟨5000, (s.hook p).fixedI * 50, .fixed, false⟩ else none
    | .typec =>
      if !(s.tc p).source || !(s.tc p).st.attached || x.sinking then none
      else (match (s.pd p).con with
        | some c => if c.epr || c.kind == .avs then none else some ⟨c.mv, c.ma, c.kind, true⟩
        | none => none)
    | .disabled => none
/-- The held ports keep their gate, set-point, thresholds, Rp and CC PHY over a wipe (02 R71); the copy has governed its one reset (R69). -/
def persistOver (before after : State) : State :=
  let l : Tbl Held := ports.filterMap (fun p => (before.heldBy p).map (fun h => (p, h)))
  let s := bootOn (fun b => { b with held := l, persistCopy := { b.persistCopy with enable := false } }) after
  forEach l (fun x s => ((((s.tcPut x.1 (before.tc x.1)).pdPut x.1 { before.pd x.1 with txq := [], awaits := none, swap := .none, next := none, transition := false, hardPending := false }).pathPut x.1
    { before.path x.1 with queued := none, slewing := false, next := none }).hookPut x.1 (before.hook x.1))) s
/-- A reset as PERST_N gives it (02 R45, R66, R74). -/
def resetAs (pcie : Pcie) (s : State) : State := persistOver s (wipe false false pcie s)

/-! ### Lifecycle burns (02 R80, R83, R84) -/

/-- The bits of the enrolled customer slots. -/
def enrolledBits (n : Nat) : BitVec 8 := BitVec.ofNat 8 (2 ^ min 8 n - 1)
/-- The target fuses of a mark (02 R80). -/
def Otp.burn (o : Otp) (m : LcMark) : Otp :=
  match m.kind with
  | .plant => { o with custHash := o.custHash ++ m.hashes, life := .planted }
  | .uproot => { o with life := .uprooted }
  | .ret => { o with custRevoked := o.custRevoked ||| enrolledBits o.custHash.length, life := .seedling }
  | .revoke => if m.vendor then { o with vendRevoked := o.vendRevoked ||| BitVec.ofNat 4 (2 ^ m.target) } else { o with custRevoked := o.custRevoked ||| BitVec.ofNat 8 (2 ^ m.target) }
  | .raiseFloor => { o with floor := min 64 m.target }
def LcKind.code : LcKind → Nat
  | .plant => 1 | .uproot => 2 | .ret => 3 | .revoke => 4 | .raiseFloor => 5
/-- A state move wipes the part (02 R83 steps 4 and 7). -/
def LcKind.moves : LcKind → Bool
  | .plant | .uproot | .ret => true
  | _ => false
/-- Steps 5 – 7 of R83: the target fuses, the done mark, and the wipe of a state move. -/
def lcCommit (s : State) : State :=
  match s.otp.mark with
  | none => s
  | some m =>
    let s := almEvent 5 2 m.kind.code 0 { s with otp := { s.otp.burn m with mark := none } }
    if m.kind.moves then wipe true false (s.pcie.keptPf (s.pcie.vfEn && s.otp.life != .uprooted)) s else s

/-! ### The boot ROM starts (02 R46, R49, R59, R84; 16 R556) -/

/-- The part leaves the reset state: pending burns are completed, and the almanac and SMBus are served. -/
def bootStart (s : State) : State := lcCommit (almJournal (supOn (fun x => { x with wakeN := false }) s))
/-- An image is refused and discarded (02 R58, R60, R61; 16 R558, R561). -/
def refuse (cause : Nat) (s : State) : State :=
  smbAlert (almEvent 4 cause 0 0 (bootOn (fun b => { b with st := .refused, refusal := cause, img := [], gotLast := false, piece := none, checked := none, running := none }) s))

/-! ### The loader (02 R51, R52) -/

/-- The part consumes descriptors: ENABLE is 1 and LDR_PROD differs from LDR_CONS (02 R52). -/
def State.loaderRuns (s : State) : Bool :=
  !s.inReset && (s.boot.st == .awaiting || s.boot.st == .receiving) && bit (s.rget 0x1008) 0 && s.rget 0x100C != s.boot.cons && !s.boot.gotLast
def loaderGo (s : State) : State := if s.loaderRuns && s.boot.st == .awaiting then bootOn (fun b => { b with st := .receiving }) s else s
/-- A port in service goes to the safe state: its devices detach and its guest leaves (02 R48; 08 R278; 09 R333). -/
def portStop (p : Nat) (s : State) : State := portSafe p (guestGone p 1 (dropSide p .ss .off (dropSide p .usb2 .off s)))
/-- A write of 1 to RESTART (LDR_CTRL): the received pieces are discarded and sowing starts again, so that R48 holds every port of a
part that was SERVED (notes/assumptions/40.md). An Uprooted part stays so (R59). -/
def loaderRestart (s : State) : State :=
  if s.boot.st = .uprooted then s
  else
    let s := if s.served then forEach ports portStop s else s
    bootOn (fun b => { b with st := .awaiting, img := [], gotLast := false, piece := none, checked := none, running := none, cons := s.rget 0x100C }) s

/-! ### The end of sowing (02 R64, R65, R69 – R73; 13 R442, R443; 14 R472, R494) -/

/-- A port leaves the safe state under its profile (02, Time to service; 10 R340). -/
def portServe (p : Nat) (s : State) : State :=
  if (s.tc p).retired then s
  else match s.profile p with
    | .disabled => s
    | .typec => enterUnattached p s
    | _ => pathSeek p s
/-- A port with a held contract is adopted by policy when the new profile and budget allow it; else it goes to the safe state and is
served under its new profile (02 R48, R73). -/
def adoptPort (p : Nat) (h : Held) (s : State) : State :=
  let same := match s.profile p with | .typec => h.typec | .disabled => false | _ => !h.typec
  let drop := portServe p (portSafe p s)
  if !same then drop
  else if h.typec then
    (match s.rpFits p with
     | none => drop
     | some _ =>
       let s := s.pdOn p (fun d => { d with attached := s.pdEn p, con := some (d.con.getD { kind := h.kind, mv := h.mv, ma := h.ma }), capsDue := true, cableDone := true })
       capsCheck p s)
  else if s.fixedPower p ≤ s.available p then refreshSides p s else drop
/-- The dispatcher's set-up by firmware (14 R494, R502): group 0 has no timer. -/
def dspSetUp : Dispatch :=
  { srcs := (List.range 3376).map (fun n => (n, { prio := bits (Config.dspSetup n) 0 4, targets := BitVec.ofNat 11 (bits (Config.dspSetup n) 4 11), group := bits (Config.dspSetup n) 15 8 }))
    groups := (List.range 256).map (fun g => (g, { len := if g = 0 then 0 else Config.holdoffLen g % 1024 })) }
/-- Engines after sowing: T8 is the spare and the others are active (14 R472), retired engines apart. -/
def Eng.sown (e : Eng) (i : ImageInfo) : Eng :=
  let live := (List.range 9).filter (fun t => !e.retired.contains t)
  { retired := e.retired, order := live, svn := i.svn, fwVersion := i.fwVersion,
    spare := if live.length = 9 then 8 else noSpare, active := if live.length = 9 then List.range 8 else live }
/-- START_MODE comes into force (13 R442, R443). -/
def startMode (s : State) : State := modeTake (modeOf (s.fld 0x100008 0 2)) s
/-- SOW_STATE reads SERVED (02 R65). -/
def serve (i : ImageInfo) (s : State) : State :=
  let held := s.boot.held
  let ends := s.boot.persistEnds
  let s := startMode { s with eng := s.eng.sown i, dsp := dspSetUp }
  let s := bootOn (fun b => { b with st := .served, held := [], persistEnds := [], checked := none }) s
  let s := forEach ends (fun x s => almEvent 9 x.2 0 x.1 s) s
  let s := forEach held (fun x s => adoptPort x.1 x.2 s) s
  forEach (ports.filter (fun p => !held.any (fun x => x.1 == p))) portServe s

end Sys2Proof.Machine
end

