-- ==== Sys2Proof/Machine/Supply.lean ====
section
/-! DEFINITION. Supplies, PERST_N, resets and the reference clock (02 R45 – R50, R66, R69 – R74, R84; 03 R118; 13 R462; 17 R568 – R576). -/

namespace Sys2Proof.Machine

open Sys2Proof

/-- The core stands in reset: the wipe runs and configuration space is not ready (02 R45, R46). -/
def holdReset (s : State) : State := supOn (fun x => { x with wiping := true, cfgReady := false }) s

/-! ### Resets -/

def doPowerOn (vddIoHigh : Bool) (vm : VoutMode) (s : State) : State :=
  let s := wipe true true {} s
  let s := holdReset (supOn (fun x => { x with low := [], perst := true, vddIoHigh, voutLinear := vm == .linear, tap := .idcode, wakeN := false }) s)
  let s := almEvent 2 0 0 0 (bootOn (fun b => { b with nonceDraw := b.nonceDraw + 1 }) s)
  if vm = .linear then s else unitOnce 648 1 0 0 s
/-- POWER_ON (02 R50, R74; 17 R568, R571, R575). -/
def execPowerOn (vddIoHigh : Bool) (vm : VoutMode) (s : State) : Host.Outcome State Fault Refusal := .next (happen (doPowerOn vddIoHigh vm) s)

/-- The part acts as when PERST_N is asserted, unless it does already (17 R570). -/
def enterReset (s : State) : State := if s.inReset then s else holdReset (resetAs {} s)
def doSupplyMainLow (r : MainRail) (s : State) : State :=
  supOn (fun x => { x with low := if x.low.contains r then x.low else x.low ++ [r] }) (enterReset s)
/-- SUPPLY_MAIN_LOW (17 R570; 02 R66). -/
def execSupplyMainLow (r : MainRail) (s : State) : Host.Outcome State Fault Refusal := .next (happen (doSupplyMainLow r) s)
/-- The boot ROM starts after PERST_N: it records the release (02 R50). One that meets a low supply is recorded once the part leaves reset. -/
def bootRelease (s : State) : State := lcCommit (almEvent 3 0 0 0 (almJournal (supOn (fun x => { x with wakeN := false }) s)))
def doSupplyMainRecovered (s : State) : State :=
  if s.sup.low.isEmpty then s
  else
    let s := supOn (fun x => { x with low := [] }) s
    if s.sup.perst then s else bootRelease s
/-- SUPPLY_MAIN_RECOVERED (17 R570; 02 R50): every such supply is back; the part leaves reset when PERST_N is high. -/
def execSupplyMainRecovered (s : State) : Host.Outcome State Fault Refusal := .next (happen doSupplyMainRecovered s)

def doPerstAssert (s : State) : State := supOn (fun x => { x with perst := true }) (enterReset s)
/-- PERST_ASSERT (02 R45, R66, R74). -/
def execPerstAssert (s : State) : Host.Outcome State Fault Refusal := .next (happen doPerstAssert s)
def doPerstRelease (s : State) : State :=
  if !s.sup.perst then s
  else
    let s := supOn (fun x => { x with perst := false, wakeN := false }) s
    if s.sup.low.isEmpty then bootRelease s else s
/-- PERST_RELEASE (02 R46, R49, R50, R84; 17 R574). -/
def execPerstRelease (s : State) : Host.Outcome State Fault Refusal := .next (happen doPerstRelease s)
/-- SRAM_WIPE_COMPLETE (02 R45). -/
def execSramWipeComplete (s : State) : Host.Outcome State Fault Refusal := .next (supOn (fun x => { x with wiping := false }) s)

def doConventionalReset (_k : LinkResetKind) (s : State) : State := if s.inReset then s else bootStart (holdReset (resetAs {} s))
/-- CONVENTIONAL_RESET (03 R118; 02 R74): the three causes act alike. -/
def execConventionalReset (k : LinkResetKind) (s : State) : Host.Outcome State Fault Refusal := .next (happen (doConventionalReset k) s)
def doFlrPf (s : State) : State :=
  if s.inReset then s else bootStart (supOn (fun x => { x with wiping := true }) (resetAs (s.pcie.keptPf false) s))
/-- FLR_PF (02 R74): the PF's configuration space stays ready, and VF Enable is cleared. -/
def execFlrPf (s : State) : Host.Outcome State Fault Refusal := .next (happen doFlrPf s)

/-! ### VDD_HV, VCONN_IN, VDD_CF -/

def hvLost (p : Nat) (s : State) : State :=
  let s := if s.persisting p then { portSafe p s with boot := { s.boot with held := terase s.boot.held p } } else hvDown 5 p s
  unitFault { src := 4 * p, cause := 7, unit := p } true s
def doVddHvLow (s : State) : State := if s.sup.hvLow then s else forEach ports hvLost (supOn (fun x => { x with hvLow := true }) s)
/-- VDD_HV_LOW (17 R570): every gate goes off, contracts are void, and each PATH source is raised with cause 7. -/
def execVddHvLow (s : State) : Host.Outcome State Fault Refusal := .next (happen doVddHvLow s)
def hvBack (p : Nat) (s : State) : State := hvUp 5 p (if (s.path p).st = .latched then s else lineQuiet (4 * p) s)
def doVddHvReturn (s : State) : State := if s.sup.hvLow then forEach ports hvBack (supOn (fun x => { x with hvLow := false }) s) else s
/-- VDD_HV_RETURN (17 R570). -/
def execVddHvReturn (s : State) : Host.Outcome State Fault Refusal := .next (happen doVddHvReturn s)
def doVconnInLow (s : State) : State := forEach ports (fun p s => vconnTrip p 1 s) s
/-- VCONN_IN_LOW (17 R570; 10 R353). -/
def execVconnInLow (s : State) : Host.Outcome State Fault Refusal := .next (happen doVconnInLow s)
def doRetentionLost (s : State) : State :=
  let s := modeOn (fun m => { m with watchCopy := [], pwrCopy := 0, retention := false, rewriteDue := true }) s
  let s := bootOn (fun b => { b with persistCopy := {} }) s
  wake 7 (almEvent 8 0 0 0 (s.fldPut 0x110004 4 1 1))
/-- RETENTION_LOST (13 R462). -/
def execRetentionLost (s : State) : Host.Outcome State Fault Refusal := .next (happen doRetentionLost s)

/-! ### REFCLK25 -/

def doRefclk25Lost (s : State) : State :=
  if s.sup.refclk then unitFault { src := 642, cause := 1 } true (supOn (fun x => { x with refclk := false }) s) else s
/-- REFCLK25_LOST (17 R576). -/
def execRefclk25Lost (s : State) : Host.Outcome State Fault Refusal := .next (happen doRefclk25Lost s)
def doRefclk25Restored (s : State) : State := if s.sup.refclk then s else lineQuiet 642 (supOn (fun x => { x with refclk := true }) s)
/-- REFCLK25_RESTORED (17 R576). -/
def execRefclk25Restored (s : State) : Host.Outcome State Fault Refusal := .next (doRefclk25Restored s)

end Sys2Proof.Machine
end

