-- ==== Sys2Proof/Machine/Pcie.lean ====
section
/-! DEFINITION. The upstream port: configuration space, the link, functions and their resets (02 R46, R78; 03 R87 – R96, R101 – R108,
R116 – R121, R607; 08 R612; 13 R457; 18 R604). The places of the fields are the PCI Express standard's (notes/assumptions/4.md). -/

namespace Sys2Proof.Machine

open Sys2Proof

def pcieOn (g : Pcie → Pcie) (s : State) : State := { s with pcie := g s.pcie }

/-! ### MSI-X (03 R108) -/

/-- A vector that is unmasked with its PBA bit set sends one message, and the bit clears. -/
def pbaServe (f v : Nat) (s : State) : State :=
  let c := s.cfgFn f
  let x := s.vec f v
  if c.msixEn && !c.msixMask && !x.mask && x.pba then (s.vecOn f v (fun x => { x with pba := false })).emit (.msix f v) else s
/-- The vectors of a function after a change of its Function Mask or enable. -/
def pbaAll (f : Nat) (s : State) : State :=
  forEach (s.pcie.msix.filter (fun x => x.1 / 2048 == f)) (fun x s => pbaServe f (x.1 % 2048) s) s

/-! ### FLR of a VF (02 R74; 03 R116, R607; 08 R612; 18 R604) -/

/-- What a VF loses of the part's tables. -/
def State.withoutFn (s : State) (f : Nat) : State :=
  { s with
    slots := s.slots.filter (fun x => x.1 / 16384 != f), eps := s.eps.filter (fun x => keyFn x.1 != f),
    ops := s.ops.filter (fun o => o.h.fn.val != f),
    waiting := s.waiting.filter (fun w => w.job.fn != f), aside := s.aside.filter (fun w => w.job.fn != f),
    pcie := { s.pcie with fns := terase s.pcie.fns f, msix := s.pcie.msix.filter (fun x => x.1 / 2048 != f), flr := f :: s.pcie.flr.filter (· != f) } }
/-- A side of a host-role port is reset; a reset in progress counts as the FLR's (08 R612). -/
def flrSide (p : Nat) (sd : Side) (s : State) : State :=
  match ((s.link p).side sd).st with
  | .attached | .enabled | .suspended | .error => driveReset p sd (s.sideOn p sd (fun x => { x with resetBy := .flr, warm := false }))
  | .resetting => s.sideOn p sd (fun x => { x with resetBy := .flr })
  | _ => s
/-- The wipe of a VF and the resets of its ports; the counts of their bridges are set to 0 (10 R359). -/
def flrWipe (f : Nat) (s : State) : State :=
  let s := forEach ((s.guests.filter (fun x => x.2.st != .free && x.2.owner == f)).map (·.1)) closeGuest s
  let s := forEach ((s.caps.filter (fun x => x.2.running && x.2.fn == f)).map (·.1)) capDrop s
  let s := forEach ports (fun p s => pruneWin p (fun k => keyFn k == f) s) s
  let s := (s.withoutFn f).fnPut f { doze := .afterFlr }
  let s := forEach (List.range 16) (fun r s => s.fldPut (evrReg f r 0xC) 16 2 0) (s.rput (fnReg f 0x18) 0)
  let s := forEach (s.fnPorts f) (fun p s => s.brgPut p {}) s
  forEach ((s.fnPorts f).filter (fun p => !(s.link p).device)) (fun p s => flrSide p .ss (flrSide p .usb2 s)) s
def doFlrVf (v : Vf) (s : State) : State :=
  let f := v.val + 1
  if !s.fnExists f || s.pcie.flr.contains f || s.inReset then s else flrWipe f s
/-- FLR_VF (03 R116). -/
def execFlrVf (v : Vf) (s : State) : Host.Outcome State Fault Refusal := .next (happen (doFlrVf v) s)
/-- FLR_VF_COMPLETE (03 R607). -/
def execFlrVfComplete (v : Vf) (s : State) : Host.Outcome State Fault Refusal :=
  .next (pcieOn (fun x => { x with flr := x.flr.filter (· != v.val + 1) }) s)

/-! ### VF Enable (03 R103, R104; 02 R77, R78) -/

def doVfEnableSet (s : State) : State :=
  if !s.sup.cfgReady || s.pcie.vfEn || s.otp.life == .uprooted then s
  else forEach ports (fun p s => refreshSides p s) (pcieOn (fun x => { x with vfEn := true }) s)
/-- VF_ENABLE_SET (03 R104). -/
def execVfEnableSet (s : State) : Host.Outcome State Fault Refusal := .next (happen doVfEnableSet s)
def doVfEnableClear (s : State) : State :=
  if !s.pcie.vfEn then s
  else
    let s := forEach ((List.range 129).filter (fun f => f != 0 && s.fnExists f)) flrWipe s
    forEach ports (fun p s => refreshSides p s) (pcieOn (fun x => { x with vfEn := false, flr := [] }) s)
/-- VF_ENABLE_CLEAR (03 R104): each VF is reset as by its FLR, and its ports go to the held state of R103. -/
def execVfEnableClear (s : State) : Host.Outcome State Fault Refusal := .next (happen doVfEnableClear s)

/-! ### The link -/

def doLinkRetrain (rate : Fin 8) (width : Fin 32) (s : State) : State :=
  let x := s.pcie
  let r := rate.val
  let w := width.val
  if r = 0 ∨ r = 7 ∨ [1, 2, 4, 8, 16].contains w = false ∨ s.inReset then s
  else
    let s := pcieOn (fun x => { x with rate := r, width := w }) s
    if r < x.rate ∨ w < x.width then unitOnce 660 1 0 (r + w * 256 + x.rate * 65536 + x.width * 2 ^ 24) s else s
/-- LINK_RETRAIN (03 R93; 15 R518). -/
def execLinkRetrain (rate : Fin 8) (width : Fin 32) (s : State) : Host.Outcome State Fault Refusal := .next (happen (doLinkRetrain rate width) s)
/-- LINK_RECOVERY (03 R117): no reset takes place, and everything is kept. -/
def execLinkRecovery (s : State) : Host.Outcome State Fault Refusal := .next s
def doMaxPayload (code : Nat) (s : State) : State := if !s.sup.cfgReady || decide (3 < code) then s else pcieOn (fun x => { x with mps := code }) s
/-- MAX_PAYLOAD_SIZE_CHANGE (03 R87, R121). -/
def execMaxPayloadSizeChange (code : Fin 4) (s : State) : Host.Outcome State Fault Refusal := .next (doMaxPayload code s)
def doFunctionD0 (f : Nat) (s : State) : State :=
  if !(s.cfgFn f).d3 then s
  else
    let s := wake 5 (s.cfgFnOn f (fun c => { c with d3 := false }))
    forEach (List.range (ringsOf f)) (fun r s => if s.evrEnable f r then flushRing f r s else s) s
/-- FUNCTION_D0_ENTRY (13 R457, R458). -/
def execFunctionD0Entry (f : Fnc) (s : State) : Host.Outcome State Fault Refusal := .next (happen (doFunctionD0 f) s)

/-! ### JTAG (02 R78) -/

/-- The instruction that acts in a lifecycle state. -/
def jtagActs : Life → JtagInstr → JtagInstr
  | .seedling, k => k
  | .planted, .idcode => .idcode
  | .planted, .sample => .sample
  | .uprooted, .idcode => .idcode
  | _, _ => .bypass
/-- JTAG_INSTRUCTION (02 R78). -/
def execJtagInstruction (k : JtagInstr) (s : State) : Host.Outcome State Fault Refusal := .next (supOn (fun x => { x with tap := jtagActs s.otp.life k }) s)

/-! ### Configuration requests (02 R46; 03 R87, R90, R94 – R96, R107) -/

def doConfigSpaceReady (s : State) : State := if s.inReset || s.sup.wiping then s else supOn (fun x => { x with cfgReady := true }) s
/-- CONFIG_SPACE_READY (02 R45, R46). -/
def execConfigSpaceReady (s : State) : Host.Outcome State Fault Refusal := .next (doConfigSpaceReady s)

/-- The capabilities of a function (03 R87, R96). -/
def hasCap (f : Nat) : PciCap → Bool
  | .pcie | .powerManagement | .msix | .aer => true
  | .sriov | .ari | .acs | .ptm | .l1Substates | .ltr | .serialNumber | .phys16 | .phys32 | .phys64 | .laneMargining | .flitLogging => f == 0
  | .msi | .ats | .pri | .pasid | .tph | .resizableBar => false
/-- The two registers of a 64-bit, non-prefetchable BAR of 2^`n` bytes: the type bits and the base, and its upper half. -/
def barLow (base n : Nat) : Nat := base % two32 / 2 ^ n * 2 ^ n + 4
def barHigh (base : Nat) : Nat := base / two32 % two32
/-- The base after a write of either register; address bits below the size are hardwired to 0. -/
def barLowPut (base n w : Nat) : Nat := base / two32 * two32 + w % two32 / 2 ^ n * 2 ^ n
def barHighPut (base w : Nat) : Nat := base % two32 + w % two32 * two32
/-- The value of a configuration field (03 R87, R90, R94, R96, R97); a field of a capability that R96 gives the PF alone is 0 on a VF, whose own
BARs are the VF BARs of the PF. -/
def State.cfgRead (s : State) (f : Nat) : CfgField → Nat
  | .ids => if f = 0 then 0x5A801EF7 else 0x5A811EF7
  | .revision => 0x10
  | .interruptPin => 0
  | .command => b2n (s.cfgFn f).memEn * 2
  | .bar i => if f ≠ 0 then 0 else match i.val with
    | 0 => barLow s.pcie.bar0 26
    | 1 => barHigh s.pcie.bar0
    | 2 => barLow s.pcie.bar2 24
    | 3 => barHigh s.pcie.bar2
    | _ => 0
  | .vfBar i => if f ≠ 0 then 0 else match i.val with
    | 0 => barLow s.pcie.vfBar0 16
    | 1 => barHigh s.pcie.vfBar0
    | 2 => barLow s.pcie.vfBar2 16
    | 3 => barHigh s.pcie.vfBar2
    | _ => 0
  | .totalVfs => if f = 0 then 128 * 65536 + 128 else 0
  | .vfOffset | .vfStride => if f = 0 then 1 else 0
  | .vfDeviceId => if f = 0 then 0x5A81 else 0
  | .pageSizes => if f = 0 then 0x11 else 0
  | .vfMigration => 0
  | .sriovControl => if f = 0 then b2n s.pcie.vfEn + b2n s.pcie.vfMemEn * 8 + b2n s.pcie.ari * 16 else 0
  | .numVfs => if f = 0 then s.pcie.numVfs else 0
  | .capability c => b2n (hasCap f c)
  | .devCap => 3 + 2 ^ 28
  | .devCtl => b2n (s.cfgFn f).relaxed * 16 + (if f = 0 then s.pcie.mps * 32 + (s.cfgFn 0).mrrs * 4096 else 0)
  | .devCap2 => 0xF + (if f = 0 then 2 ^ 11 else 0) + 2 ^ 16 + 2 ^ 17
  | .devCtl2 => (s.cfgFn f).ctoValue
  | .linkCap => 6 + 16 * 16 + 2 * 1024
  | .linkStatus => s.pcie.rate + s.pcie.width * 16
  | .linkCap2 => 0x7E
  | .l1Caps => if f = 0 then 0x1F else 0
  | .acsCaps => 0
  | .ptmCaps => if f = 0 then 1 + 8 * 256 else 0
  | .msixControl => (vectors f - 1) + b2n (s.cfgFn f).msixMask * 2 ^ 14 + b2n (s.cfgFn f).msixEn * 2 ^ 15
  | .pmcsr => (if (s.cfgFn f).d3 then 3 else 0) + b2n (s.cfgFn f).pmeEn * 256
  | .aerUncor => (s.cfgFn f).aerUncor.toNat
  | .aerCor => (s.cfgFn f).aerCor.toNat
  | .serialLo => if f = 0 then s.otp.uid.toNat % two32 else 0
  | .serialHi => if f = 0 then s.otp.uid.toNat / two32 % two32 else 0
  | .ptmControl => if f = 0 then b2n s.pcie.ptmEn else 0
  | .other _ => Config.freeNat s.free % two32
/-- What a write to a configuration field of an existing function does. -/
def cfgWrite (f : Nat) (x : CfgField) (w : Nat) (s : State) : State :=
  match x with
  | .command => if f = 0 then s.cfgFnOn 0 (fun c => { c with memEn := bit w 1 }) else s
  | .bar i =>
    if f ≠ 0 then s
    else pcieOn (fun x => match i.val with
      | 0 => { x with bar0 := barLowPut x.bar0 26 w }
      | 1 => { x with bar0 := barHighPut x.bar0 w }
      | 2 => { x with bar2 := barLowPut x.bar2 24 w }
      | 3 => { x with bar2 := barHighPut x.bar2 w }
      | _ => x) s
  | .vfBar i =>
    if f ≠ 0 then s
    else pcieOn (fun x => match i.val with
      | 0 => { x with vfBar0 := barLowPut x.vfBar0 16 w }
      | 1 => { x with vfBar0 := barHighPut x.vfBar0 w }
      | 2 => { x with vfBar2 := barLowPut x.vfBar2 16 w }
      | 3 => { x with vfBar2 := barHighPut x.vfBar2 w }
      | _ => x) s
  | .sriovControl =>
    if f ≠ 0 then s
    else
      let s := pcieOn (fun x => { x with ari := bit w 4, vfMemEn := bit w 3 }) s
      if bit w 0 then doVfEnableSet s else doVfEnableClear s
  | .numVfs => if f ≠ 0 ∨ s.pcie.vfEn then s else pcieOn (fun x => { x with numVfs := w % 65536 }) s
  | .devCtl =>
    let s := s.cfgFnOn f (fun c => { c with relaxed := bit w 4 })
    let s := if f = 0 then doMaxPayload (bits w 5 3) (s.cfgFnOn 0 (fun c => if bits w 12 3 ≤ 5 then { c with mrrs := bits w 12 3 } else c)) else s
    if !bit w 15 then s else if f = 0 then doFlrPf s else if s.pcie.flr.contains f then s else flrWipe f s
  | .devCtl2 => s.cfgFnOn f (fun c => { c with ctoValue := w % 16 })
  | .msixControl => pbaAll f (s.cfgFnOn f (fun c => { c with msixMask := bit w 14, msixEn := bit w 15 }))
  | .pmcsr =>
    let s := s.cfgFnOn f (fun c => { c with pmeEn := bit w 8 })
    if bits w 0 2 = 3 then s.cfgFnOn f (fun c => { c with d3 := true }) else if bits w 0 2 = 0 then doFunctionD0 f s else s
  | .aerUncor => s.cfgFnOn f (fun c => { c with aerUncor := c.aerUncor &&& ~~~(BitVec.ofNat 32 w) })
  | .aerCor => s.cfgFnOn f (fun c => { c with aerCor := c.aerCor &&& ~~~(BitVec.ofNat 32 w) })
  | .ptmControl =>
    if f ≠ 0 then s
    else
      let s := if bit w 0 && !s.pcie.ptmEn then timeOn (fun t => { t with stepNext := true }) s else s
      pcieOn (fun x => { x with ptmEn := bit w 0 }) s
  | _ => s
def doConfigRequest (f : Fnc) (q : CfgReq) (s : State) : State :=
  if s.inReset then s
  else if !s.sup.cfgReady then s.emit (.cfgData none)
  else if !s.fnExists f then s
  else match q with
    | .read x =>
      let s := s.emit (.cfgData (some (s.cfgRead f x)))
      (match x with | .other _ => { s with free := s.free + 1 } | _ => s)
    | .write x w => cfgWrite f x w.toNat s
/-- CONFIG_REQUEST (02 R46; 03 R96): Configuration Request Retry Status until configuration space is ready. -/
def execConfigRequest (f : Fnc) (q : CfgReq) (s : State) : Host.Outcome State Fault Refusal := .next (happen (doConfigRequest f q) s)

end Sys2Proof.Machine
end

