-- ==== Sys2Proof/Machine/Rings.lean ====
section
/-! DEFINITION. Rings and the rake: sweeps and dozing (04 R153 – R167; 03 R607), positions fetched and failed reads (04 R127, R136,
R141, R606; 03 R91; 07 R251), stream tables (05 R194 – R196), event-ring room, PEND and the MSI-X hold-off (04 R147 – R152; 05 R202). -/

namespace Sys2Proof.Machine

open Sys2Proof

/-! ### Sweeps -/

/-- A SET ENDPOINTS that has started and waits adds or drops an endpoint (05 R182). -/
def State.setWaits (s : State) (k : Nat) : Bool :=
  s.waiting.any (fun w => !w.keys.contains (.limit (keyFn k)) && w.keys.contains (.ep k) && (match w.job with | .cmd (.setEndpoints ..) => true | _ => false))
/-- A changed producer entry is handed over (04 R154, R160; 05 R178): the command ring's index or restart entry at bell index 0, an
endpoint's index elsewhere; an endpoint with streams reads its table first (05 R196). -/
def handEntry (f b e v : Nat) (s : State) : State :=
  if b = 0 then
    if !s.cmdEnable f then s
    else if e = 0 then s.fnOn f (fun n => { n with prod := v })
    else if e = 1 then s.fnOn f (fun n => { n with stopped := false }) else s
  else
    let k := epKey f b e 0
    if e = 31 ∨ !s.bellHeld f b then s
    else if s.setWaits k then { s with waiting := s.waiting ++ [⟨[.ep k], .hand k v⟩] }
    else if (s.ep k).streams then s else handOver k v s
/-- One producer block: each changed entry is recorded and handed over. -/
def sweepBlock (f b : Nat) (l : List Word) (s : State) : State :=
  forEach (List.range 32) (fun e s =>
    match l[e]? with
    | none => s
    | some v =>
      if v.toNat = tget 0 (s.fn f).prods (b * 32 + e) then s
      else handEntry f b e v.toNat (s.fnOn f (fun n => { n with prods := tput 0 n.prods (b * 32 + e) v.toNat }))) s
/-- The slot bells of one changed group. -/
def sweepGroup (f k : Nat) (l : List Word) (pr : List (Nat × List Word)) (s : State) : State :=
  forEach (List.range 64) (fun j s =>
    let b := 64 * k + j
    match l[j]? with
    | none => s
    | some v =>
      if v.toNat = tget 0 (s.fn f).bells b then s
      else sweepBlock f b (tget [] pr b) (s.fnOn f (fun n => { n with bells := tput 0 n.bells b v.toNat }))) s
/-- The levels under a changed grand bell (04 R160). -/
def sweepBelow (f : Nat) (rd : SweepReads) (s : State) : State :=
  let s := s.fnOn f (fun n => { n with grand := rd.grand.toNat, idle := 0 })
  forEach (List.range (s.groups f)) (fun k s =>
    match rd.groups[k]? with
    | none => s
    | some v =>
      if v.toNat = tget 0 (s.fn f).groups k then s
      else sweepGroup f k (tget [] rd.slots k) rd.prods (s.fnOn f (fun n => { n with groups := tput 0 n.groups k v.toNat }))) s
/-- Whether the rake visits a function (04, The rake; R151; 03 R103, R116; 13 R459). -/
def State.raked (s : State) (f : Nat) : Bool :=
  s.served && s.mode.pwr != .dormant && s.fnExists f && !s.pcie.flr.contains f && decide (s.groups f ≠ 0) && s.evrEnable f 0
def doRakeSweep (f : Fnc) (rd : SweepReads) (s : State) : State :=
  if !s.raked f ∨ (s.fn f).doze ≠ .sweeping then s
  else if rd.grand.toNat = (s.fn f).grand then s.fnOn f (fun n => { n with idle := n.idle + 1 })
  else sweepBelow f rd s
/-- RAKE_SWEEP (04 R160). -/
def execRakeSweep (f : Fnc) (rd : SweepReads) (s : State) : Host.Outcome State Fault Refusal := .next (happen (doRakeSweep f rd) s)

/-- Writes the doze word (04 R153). -/
def writeDoze (f v : Nat) (s : State) : State := s.emit (.hostWrite f (s.bellBase f + 0x40) (leBytes 4 v))
def doRakeDozeEnter (f : Fnc) (rd : SweepReads) (failed : Bool) (s : State) : State :=
  if !s.raked f ∨ (s.fn f).doze ≠ .sweeping ∨ !s.dozeEn f ∨ (s.fn f).idle < s.dozeIdle f then s
  else
    let s := writeDoze f 1 s
    if failed then (writeDoze f 0 s).fnOn f (fun n => { n with idle := 0 })
    else if rd.grand.toNat ≠ (s.fn f).grand then sweepBelow f rd (writeDoze f 0 s)
    else s.fnOn f (fun n => { n with doze := .dozing })
/-- RAKE_DOZE_ENTER (04 R164): the doze word, one more sweep, and dozing unless it finds a change or a read of it fails. -/
def execRakeDozeEnter (f : Fnc) (rd : SweepReads) (failed : Bool) (s : State) : Host.Outcome State Fault Refusal := .next (happen (doRakeDozeEnter f rd failed) s)

/-! ### Failed reads -/

/-- AER uncorrectable status bit of a failed read (03 R91; the bit's place is the PCI Express standard's). -/
def aerBit : ReadErr → Nat
  | .ur => 20 | .ca => 15 | .timeout => 14 | .poison => 12
def aerLog (f : Nat) (e : ReadErr) (s : State) : State := s.cfgFnOn f (fun c => { c with aerUncor := c.aerUncor ||| BitVec.ofNat 32 (2 ^ aerBit e) })
/-- A failed read is logged and reported by source 650 (03 R91; 15 R518). -/
def readFailed (f info : Nat) (e : ReadErr) (s : State) : State := raiseFault 650 1 f info f false (aerLog f e s)
def doBellReadError (f : Fnc) (e : ReadErr) (s : State) : State :=
  if s.raked f then readFailed f 2 e (s.fnOn f (fun n => { n with idle := 0 })) else s
/-- BELL_READ_ERROR (03 R91): nothing is recorded, the next sweep reads the structure again, and the run of unchanged sweeps ends
(04 R164). -/
def execBellReadError (f : Fnc) (e : ReadErr) (s : State) : Host.Outcome State Fault Refusal := .next (happen (doBellReadError f e) s)

/-- SOURCE of a command by its opcode and PARAM0. -/
def opcodeSrc (opcode p0 : Nat) : Nat :=
  if 0x11 ≤ opcode ∧ opcode ≤ 0x17 then bits p0 0 16 else if opcode = 0x20 ∨ opcode = 0x22 ∨ opcode = 0x23 then bits p0 0 7 else 0
/-- The position at the fetch cursor fails with HOST-MEMORY-ERROR when it is covered (03 R91; 04 R610, second row). -/
def ringReadFailed (k : Nat) (s : State) : State :=
  if 0 < (s.ep k).coveredFrom (s.ep k).fetch ∧ (s.ep k).bad.isNone then epSettle k (posBad k ccHostMem 0 0 s) else s
/-- The function a read was made for. -/
def readForFn : ReadFor → Nat
  | .desc r | .outData r | .streamTable r => r.fn
  | .command f | .evrCons f _ => f
  | .inputBlock h _ _ => h.fn
  | .updateImage => 0
def doHostReadError (what : ReadFor) (e : ReadErr) (s : State) : State :=
  if s.pcie.flr.contains (readForFn what) then s
  else match what with
  | .desc r => if (s.ep r.key).st = .closed then s else readFailed r.fn 1 e (ringReadFailed r.key s)
  | .outData r =>
    let x := s.ep r.key
    if x.st = .closed ∨ x.headRx ∨ x.tds.isEmpty ∨ !s.epLive r.key then s else readFailed r.fn 1 e (haltXfer r.key ccHostMem s)
  | .command f => readFailed f 3 e (s.fnOn f (fun n => { n with stopped := true }))
  | .streamTable r => if (s.ep r.key).st = .closed then s else readFailed r.fn 4 e (epBad r.key { addr := (s.ep r.key).cur.addr, code := ccHostMem } s)
  | .evrCons f r => if s.evrEnable f r then readFailed f 6 e s else s
  | .inputBlock h opcode q => readFailed h.fn 5 e (cmdDone h opcode.toNat ccHostMem 0 (opcodeSrc opcode.toNat (p0 q)) s)
  | .updateImage =>
    match s.eng.upd with
    | some u =>
      (match u.step with
       | .checking => cmdDone u.h 0x31 ccHostMem 0 0 (aerLog u.h.fn e { s with eng := { s.eng with upd := none } })
       | .loading _ | .rotating => updAbandon (aerLog u.h.fn e s)
       | _ => s)
    | none => s
/-- HOST_READ_ERROR (03 R91; 14 R484). -/
def execHostReadError (what : ReadFor) (e : ReadErr) (s : State) : Host.Outcome State Fault Refusal :=
  let c := Instr.hostReadError what e
  let g := doHostReadError what e
  .next (match what with
    | .desc r | .outData r | .streamTable r => onward r.key (epBundle r.key c g s)
    | _ => bundle c g s)

/-! ### Positions -/

/-- A command ring's cursor, at its base before the first read (04 R159). -/
def State.cmdCursor (s : State) (f : Nat) : Cursor := if (s.fn f).curSet then (s.fn f).cur else { addr := s.cmdBase f, len := s.cmdSeg f }
/-- A fault in the command ring itself stops it (04 R606). -/
def cmdRingBad (f : Nat) (s : State) : State := raiseFault 650 2 f 3 f false (s.fnOn f (fun n => { n with stopped := true }))
/-- Bits of a COMMAND descriptor at 0x1C that must be 0 (04 R136): TOGGLE and the reserved ones. -/
def cmdRsv (w : Nat) : Bool := bits w 1 7 != 0 || bits w 12 4 != 0 || bits w 17 7 != 0 || bit w 16
/-- A position of the command ring (04 R124 – R126, R136, R141, R606). A command whose reserved bits are not 0 fails here with PARAMETER-ERROR (04
R144): no row of the table carries those bits (notes/assumptions/72.md). -/
def cmdFetched (f : Fnc) (addr : BitVec 64) (d : Desc) (s : State) : State :=
  let c := s.cmdCursor f
  let w := d.w7.toNat
  let op := bits w 24 8
  if !s.cmdEnable f ∨ (s.fn f).stopped ∨ addr.toNat ≠ c.addr ∨ c.count = (s.fn f).prod then s
  else if d.gen ≠ c.gen then cmdRingBad f s
  else if d.ty = 6 then
    if d.q0.toNat % 4096 ≠ 0 then cmdRingBad f s else s.fnOn f (fun n => { n with cur := c.next d, curSet := true })
  else if c.pos + 1 = c.len then cmdRingBad f s
  else
    let s := s.fnOn f (fun n => { n with cur := c.next d, curSet := true })
    if d.ty = 0xC ∧ knownOpcodes.contains op ∧ op ≠ 1 ∧ cmdRsv w then
      cmdDone { fn := f, ptr := addr, cookie := d.w6 } op ccParam 0 (opcodeSrc op d.q0.toNat) s
    else s
/-- A position of an endpoint's ring: covered, it is taken; beyond the producer index it is kept ahead (04 R124 – R133; 07 R251). A late isochronous
transfer is judged when its first descriptor comes to DEQ (06 R233, R234; DEDUCED, notes/assumptions/56.md). -/
def epFetched (k addr : Nat) (d : Desc) (s : State) : State :=
  let e := s.ep k
  let c := e.readCursor
  if e.st == .closed || e.bad.isSome || e.streams || !e.valid || addr != c.addr || s.epGone k || !(s.epLive k || e.skip) then s
  else if 0 < e.coveredFrom c then
    let len := if d.ty == 1 || d.ty == 2 || d.ty == 3 || d.ty == 5 then d.len else 0
    let u := s.firstOpen e.port
    let s := if d.gen = c.gen then posAccept k d u s else posBad k ccDescriptor len d.w3.toNat s
    let s := epSettle k s
    if e.tds.isEmpty && (s.ep k).isIso && (s.bus e.port).running then isoLate k (s.isoU k u) s else s
  else if d.gen = c.gen ∧ e.ahead.length < s.fetchDepth e.port then s.epOn k (fun e => { e with ahead := e.ahead ++ [⟨addr, d⟩] })
  else s
def doDescriptorFetched (rg : RingRef) (addr : BitVec 64) (d : Desc) (s : State) : State :=
  match rg with
  | .cmd f => cmdFetched f addr d s
  | .ep e => epFetched e.key addr.toNat d s
/-- DESCRIPTOR_FETCHED (04 R124 – R136, R606, R610; 07 R251; 06 R234). -/
def execDescriptorFetched (rg : RingRef) (addr : BitVec 64) (d : Desc) (s : State) : Host.Outcome State Fault Refusal :=
  let c := Instr.descriptorFetched rg addr d
  let g := doDescriptorFetched rg addr d
  .next (match rg with | .cmd _ => bundle c g s | .ep e => onward e.key (epBundle e.key c g s))

/-! ### Streams -/

/-- The stream ID with which a host primes an endpoint (06 R229; PRESUMED, notes/assumptions/71.md: USB 3.2's Prime). -/
def primeStream : Nat := 0xFFFE
/-- One entry of a stream table (05 R196; 06 R229): an entry with VALID 0 is not executed. While the device has selected no stream, new work primes
the endpoint. -/
def streamEntry (r i : Nat) (x : StreamEntry) (s : State) : State :=
  let k := r + i
  let e := s.ep k
  let prod := x.prod.toNat
  if e.st == .closed then s
  else if x.flags.toNat % 2 = 0 then s.epOn k (fun e => { e with seenProd := prod, valid := false })
  else
    let s := s.epOn k (fun e => { e with valid := true })
    let s := if e.seenValid then s
      else
        let c := startCursor (x.q0.toNat / 4096 * 4096) (x.q0.toNat % 16) 0
        epBump k (s.epOn k (fun e => { e with cur := c, fetch := c, prod := 0, seenValid := true }))
    if prod = e.seenProd then s
    else
      let s := handOver k prod (s.epOn k (fun e => { e with seenProd := prod }))
      let s := if (s.ep r).picked = 0 ∧ s.epLive r ∧ !s.epGone r then
          s.emit (.bus (s.ep r).port .ss (.host { s.busTok r with stream := primeStream } (if (s.ep r).rx then .in_ (s.nextTog r) 0 else .data (s.nextTog r) []))) else s
      if (s.ep k).picked = i ∧ prod ≠ (s.ep k).cur.count then (s.epOn k (fun e => { e with picked := 0 })).epOn r (fun e => { e with picked := i }) else s
def streamTable (r : Nat) : Nat → List StreamEntry → State → State
  | _, [], s => s
  | i, x :: l, s => streamTable r (i + 1) l (if i = 0 ∨ 2 ^ ((s.ep r).stLog + 1) ≤ i then s else streamEntry r i x s)
def doStreamTableRead (e : EpRef) (tbl : List StreamEntry) (s : State) : State :=
  let r := epRoot e.key
  if (s.ep r).streams && (s.ep r).st != .closed then streamTable r 0 tbl s else s
/-- STREAM_TABLE_READ (05 R194 – R196). -/
def execStreamTableRead (e : EpRef) (tbl : List StreamEntry) (s : State) : Host.Outcome State Fault Refusal :=
  .next (onward e.key (epBundle e.key (.streamTableRead e tbl) (doStreamTableRead e tbl) s))

/-! ### Event rings -/

def doEvrConsRead (f : Fnc) (r : Evr) (v : Word) (s : State) : State :=
  if s.evrEnable f r && !s.pcie.flr.contains f then flushRing f r (s.evrOn f r (fun e => { e with c := v.toNat })) else s
/-- EVR_CONS_READ (04 R147, R149). -/
def execEvrConsRead (f : Fnc) (r : Evr) (v : Word) (s : State) : Host.Outcome State Fault Refusal := .next (doEvrConsRead f r v s)
def doEventRingRoomReturns (f : Fnc) (r : Evr) (s : State) : State := if s.evrEnable f r then flushRing f r s else s
/-- EVENT_RING_ROOM_RETURNS (04 R149, R150): writing resumes; the waiting bundles are taken by the steps that follow. -/
def execEventRingRoomReturns (f : Fnc) (r : Evr) (s : State) : Host.Outcome State Fault Refusal := .next (doEventRingRoomReturns f r s)
def doPendClear (e : EpRef) (s : State) : State := if (s.ep e.key).pend then epBump e.key (s.epOn e.key (fun x => { x with pend := false, stage := [] })) else s
/-- PEND_CLEAR (05 R202 step 5). -/
def execPendClear (e : EpRef) (s : State) : Host.Outcome State Fault Refusal := .next (doPendClear e s)
def doMsixHoldoffExpire (f : Fnc) (r : Evr) (s : State) : State :=
  let x := s.evr f r
  if !x.timer then s
  else if x.mark then msixSend f (s.evrVec f r) (s.evrOn f r (fun e => { e with mark := false }))
  else s.evrOn f r (fun e => { e with timer := false })
/-- MSIX_HOLDOFF_EXPIRE (04 R152 rule 3). -/
def execMsixHoldoffExpire (f : Fnc) (r : Evr) (s : State) : Host.Outcome State Fault Refusal := .next (doMsixHoldoffExpire f r s)

end Sys2Proof.Machine
end

