-- ==== Sys2Proof/Machine/AccOps.lean ====
section
/-! DEFINITION. Writes to PF BAR0: the set-up rules of each register before the lock, the lock, the writes that stay possible after it,
and the reads that have an effect (00 R22 – R26; 02 R51 – R54, R75; 18 R599 – R604). -/

namespace Sys2Proof.Machine

open Sys2Proof

/-! ### SETUP_LOCK (02 R69, R75, R76; 03 R105; 05 R170; 09 R313; 13 R460; 18 R601) -/

/-- The reserve that a function asks for in a pool: 0 trough, 1 slots, 2 contexts, 3 guests. -/
def State.reserveAsked (s : State) (pool f : Nat) : Nat :=
  match pool with
  | 0 => s.fld (sliceReg f) 0 10
  | 1 => s.fld (fnReg f 0x30) 0 15
  | 2 => s.fld (fnReg f 0x34) 0 11
  | _ => s.fld (fnReg f 0x38) 0 8
/-- The size of a pool in the units of its reserves. -/
def poolSize (pool : Nat) : Nat :=
  match pool with
  | 0 => 256
  | 1 => Config.slotPool
  | 2 => Config.contextPool / 256
  | _ => Config.guestPool
/-- Grants of one pool in function order: the total granted, the grants, and the functions whose reserve did not fit. -/
def grantPool (s : State) (pool : Nat) : Tbl Nat × List Nat :=
  let r := (List.range 129).foldl (fun (acc : Nat × Tbl Nat × List Nat) f =>
    let n := s.reserveAsked pool f
    if n = 0 then acc
    else if poolSize pool < acc.1 + n then (acc.1, acc.2.1, acc.2.2 ++ [f * 4 + pool])
    else (acc.1 + n, tput 0 acc.2.1 (f * 4 + pool) n, acc.2.2)) (0, [], [])
  (r.2.1, r.2.2)
/-- The grants and copies made at the lock. -/
def lockPart (s : State) : State :=
  let gs := (List.range 4).map (grantPool s)
  let grants := gs.foldl (fun t g => g.1.foldl (fun t x => tput 0 t x.1 x.2) t) []
  coldCopies { s with lock := true, grants, short := sortBy id (gs.flatMap (·.2)) }
def lockWrite (w : Nat) (s : State) : State :=
  if s.lock then s.countBlocked 0x40 false
  else if !bit w 0 then s
  else if s.served then lockPart s
  else s.fldPut 0x44 16 1 1

/-! ### The fault collector's registers (15 R506, R514, R517, R527 – R530) -/

/-- A PORT-HOLD or BED-ISOLATE that a source ordered runs. -/
def State.holdRuns (s : State) (n : Nat) : Bool := s.flt.portHolds.any (fun x => x.2.src == n) || s.flt.isolations.any (fun x => x.2.src == n)
def fltStatusClear (n : Nat) (s : State) : State :=
  if !(s.fltSrc n).status then s
  else if (s.fltSrc n).line == .quiet && !s.holdRuns n then s.fltSrcOn n (fun x => { x with status := false, still := false })
  else s.fltSrcOn n (fun x => { x with still := true })
/-- A line that is still broken keeps its bit and sets STILL (00 R26). -/
def fltWireClear (n : Nat) (s : State) : State :=
  s.fltSrcOn n (fun x => match x.line with | .broken _ => { x with still := x.still || x.wire } | _ => { x with wire := false })
/-- The sources of the bits set in a word of 32 sources. -/
def wordSrcs (k w : Nat) : List Nat := ((List.range 32).filter (bit w)).map (32 * k + ·)
def fltCntClear (n w : Nat) (s : State) : State := if w = 0 then (s.rput (fltCntReg n) 0).fltSrcOn n (fun x => { x with sat := false }) else s
/-- Conditions 1 – 3 of R514. -/
def State.safeMayEnd (s : State) : Bool := !s.flt.rebuilding && s.flt.srcs.all (fun x => !x.2.safe || (x.2.line == .quiet && !x.2.status))
/-- SAFE-HOLD ends, and held transitions proceed. -/
def safeHoldEnd (s : State) : State :=
  let s := { s with flt := { s.flt with safeHold := false, holdStill := false } }
  let s := forEach ports pathResume s
  let s := forEach (bedsAll.filter (fun b => (s.bed b).warn && !(s.bed b).cut)) warnCut s
  modeServe (rotServe (faultEvent s.flt.safeRec 2 false s))
def safeHoldClear (w : Nat) (s : State) : State :=
  if !bit w 0 || !s.flt.safeHold then s
  else if s.safeMayEnd then safeHoldEnd s
  else { s with flt := { s.flt with holdStill := true } }
/-- INJ_FIRE: the injection waits for its acknowledgement. -/
def injFire (w : Nat) (s : State) : State :=
  let n := bits w 0 10
  let kind := bits w 10 2
  if !s.injEn || (catalogue n).isNone || kind == 3 || (kind != 0 && !s.injWireEn) then s
  else { s with inj := s.inj ++ [if kind = 0 then ⟨n, bits w 12 8, bits w 20 8, false⟩ else ⟨n, 255, srcUnit n, true⟩] }

/-! ### Nudges (04 R164, R166; 03 R116, R607) -/

/-- A nudge reaches a function's rake. The count of unchanged sweeps begins again when the function was dozing, and goes on when it was sweeping
(DESIGN CHOICE, notes/assumptions/71.md: R166 says nothing of the count). -/
def nudge (f : Nat) (s : State) : State :=
  if (s.fn f).doze = .sweeping then s else writeDoze f 0 (s.fnOn f (fun n => { n with doze := .sweeping, idle := 0 }))
def doNudge (f : Nat) (s : State) : State :=
  if s.inReset || !s.fnExists f then s
  else if !s.served then s.sleepHit (0x200 + f)
  else if s.pcie.flr.contains f then s
  else wake 1 (nudge f s)

/-! ### Set-up registers before the lock -/

/-- A write ignored as a whole (03, FN_SLICE; 10 R342; 12 R417, R418). -/
def setupRefused (off w : Nat) (s : State) : Bool :=
  if 0x10800 ≤ off ∧ off < 0x10A04 then decide (256 < bits w 0 10)
  else if 0x3000000 ≤ off ∧ off < 0x3800000 then
    let p := (off - 0x3000000) / 0x10000
    let v := writeWord (fields off) false (s.rget off) w
    if off % 0x10000 = 0x400 then tcCfgBad v || (bits v 0 2 == 1 && bits v 2 2 != 0 && !(s.hook p).sinkEn)
    else if off % 0x10000 = 0x500 then bit w 0 && decide (1600 < (s.hook p).rt)
    else false
  else false
/-- A field that keeps its value because the one written is too large (03, PFN_ASSIGN; 04, FN_BELLS; 05; 09). -/
def keepField (off lo n max_ w : Nat) (s : State) : Nat := if max_ < bits w lo n then setBits w lo n (s.fld off lo n) else w
/-- The word that a set-up write stores from. -/
def setupWord (off w : Nat) (s : State) : Nat :=
  if 0x10400 ≤ off ∧ off < 0x10600 then keepField off 0 8 128 w s
  else if 0x1000000 ≤ off ∧ off < 0x1204000 then
    let f := (off - 0x1000000) / 0x4000
    let o := (off - 0x1000000) % 0x4000
    if o = 0x10 then keepField off 0 9 256 w s
    else if o = 0x30 then keepField off 0 15 16384 w s
    else if o = 0x34 then keepField off 0 11 1024 w s
    else if o = 0x38 then keepField off 0 8 128 w s
    else if 0x1000 ≤ o ∧ o % 16 = 8 ∧ bit w 0 = true ∧ vectors f ≤ bits w 16 11 then setBits w 0 1 0
    else w
  else w
/-- What follows a set-up write: REFUSED of an event ring (04, EVR_HOLD), the end of dozing (04 R164), USB service of a port (03 R103),
its bridge (10 R356), and PTM (16 R553). -/
def setupAfter (off w : Nat) (before s : State) : State :=
  if 0x10400 ≤ off ∧ off < 0x10600 then refreshPort ((off - 0x10400) / 4) s
  else if off = 0x170008 then (if s.ptmUse && !before.ptmUse then timeOn (fun t => { t with stepNext := true }) s else s)
  else if 0x1000000 ≤ off ∧ off < 0x1204000 then
    let f := (off - 0x1000000) / 0x4000
    let o := (off - 0x1000000) % 0x4000
    if o = 0x14 then (if s.dozeEn f || (s.fn f).doze != .dozing then s else nudge f s)
    else if 0x1000 ≤ o ∧ o % 16 = 8 ∧ (fields off).length ≠ 0 ∧ bit w 0 = true then s.fldPut (off + 4) 17 1 (if vectors f ≤ bits w 16 11 then 1 else 0)
    else s
  else if 0x3000000 ≤ off ∧ off < 0x3800000 ∧ 0x420 ≤ off % 0x10000 ∧ off % 0x10000 ≤ 0x428 then refreshBridge ((off - 0x3000000) / 0x10000) s
  else s
/-- A set-up write before the lock. -/
def setupWrite (off w : Nat) (s : State) : State :=
  if setupRefused off w s then s else setupAfter off w s (s.plainWrite off (setupWord off w s))
/-- LDR_CTRL and LDR_PROD (02 R51, R52, R54). -/
def loaderWrite (off w : Nat) (s : State) : State :=
  if s.lock then s.plainWrite off w
  else
    let s := s.plainWrite off w
    loaderGo (if off = 0x1008 ∧ bit w 1 = true then loaderRestart s else s)

/-! ### One write -/

/-- A write to a register whose block answers. -/
def regAct (off w : Nat) (s : State) : State :=
  if off = 0x40 then lockWrite w s
  else if off = 0x1008 ∨ off = 0x100C then loaderWrite off w s
  else if 0x161000 ≤ off ∧ off < 0x162000 then fltCntClear ((off - 0x161000) / 4) w s
  else if 0x162000 ≤ off ∧ off < 0x162080 then forEach (wordSrcs ((off - 0x162000) / 4) w) fltStatusClear s
  else if 0x162100 ≤ off ∧ off < 0x162180 then forEach (wordSrcs ((off - 0x162100) / 4) w) fltWireClear s
  else if off = 0x163000 then safeHoldClear w s
  else if off = 0x163014 then injFire w s
  else if 0x3000000 ≤ off ∧ off < 0x3800000 ∧ off % 0x10000 = 0x704 then
    let s := s.plainWrite off w
    if w = 0 then s.capOn ((off - 0x3000000) / 0x10000) (fun c => { c with lostSat := false }) else s
  else if s.lock then s.plainWrite off w
  else setupWrite off w s
/-- An access to PF BAR0: nothing in reset, nothing at an unimplemented offset (00 R23), the sleep word of a sleeping block (R24). -/
def regWrite (off w : Nat) (s : State) : State :=
  if s.inReset || off % 4 != 0 then s
  else match blockOf off with
    | none => s
    | some b => if s.asleep b then s.sleepHit b else regAct off w s
/-- A read with an effect. -/
def regRead (off : Nat) (g : State → State) (s : State) : State :=
  if s.inReset then s
  else match blockOf off with
    | none => s
    | some b => if s.asleep b then (s.sleepHit b).emit (.readData (sleepWord b)) else g s

end Sys2Proof.Machine
end

