-- ==== Sys2Proof/Machine/Views.lean ====
section
/-! DEFINITION. What a read of each register returns: the stored fields, and the read-only fields as State gives them (18; the field
tables of every chapter). -/

namespace Sys2Proof.Machine

open Sys2Proof

/-- A word of 32 bits from a test on the numbers 0 – 31. -/
def bitsOf (t : Nat → Bool) : Nat := ((List.range 32).map (fun j => b2n (t j) * 2 ^ j)).sum
/-- A stored word with the fields `l`, given as place, width and value. -/
def State.withFields (s : State) (off : Nat) (l : List (Nat × Nat × Nat)) : Nat := l.foldl (fun v x => setBits v x.1 x.2.1 x.2.2) (s.rget off)
/-- A port carries a contract under power-persist (02, LDR_STATUS; R73). -/
def State.persisted (s : State) : Bool := !s.boot.held.isEmpty
/-- A signed value in `n` bits, as two's complement. -/
def twos (n : Nat) (x : Int) : Nat := (x % (2 ^ n : Nat)).toNat
/-- A quotient rounded to the nearest integer; at a tie the manual does not say which way (notes/assumptions/3.md). -/
def roundDiv (a d : Int) : Int :=
  let q := a / d
  let r := a % d
  if 2 * r < d then q else if d < 2 * r then q + 1 else if Config.tieUp a d then q + 1 else q
def clampInt (lo hi x : Int) : Int := if x < lo then lo else if hi < x then hi else x
/-- Effective gain and offset (16 R567). -/
def calEffective (f u : CalPair) : CalPair :=
  let h := clampInt (-32768) 32767
  ⟨h (roundDiv (100000 * (f.gain + u.gain) + f.gain * u.gain) 100000), h (roundDiv ((100000 + u.gain) * f.offset + 100000 * u.offset) 100000)⟩
def calWord (c : CalPair) : Nat := twos 16 c.gain + twos 16 c.offset * 65536

/-- Global identity and boot blocks (02; 18). -/
def State.bootView (s : State) (off : Nat) : Nat :=
  if 0x10 ≤ off ∧ off < 0x20 then s.otp.uid.toNat / 2 ^ (8 * (off - 0x10)) % two32
  else if 0x1020 ≤ off ∧ off < 0x1030 then (Config.nonce s.boot.nonceDraw).toNat / 2 ^ (8 * (off - 0x1020)) % two32
  else if 0x1080 ≤ off ∧ off < 0x10C0 then leAt (if bit (s.rget 0x1040) 16 then s.almInfo else s.almSlot (s.rget 0x1040 % 8192)) (off - 0x1080) 4
  else match off with
    | 0x4 => s.withFields off [(8, 1, b2n s.otp.gradeE)]
    | 0x40 => b2n s.lock
    | 0x48 => s.blockedLast
    | 0x1008 => setBits (s.rget off) 1 1 0
    | 0x1010 => s.boot.cons
    | 0x1014 => s.boot.st.code + s.boot.refusal * 256 + s.otp.life.code * 65536 + b2n s.persisted * 2 ^ 18
    | 0x1030 => s.otp.floor + (enrolledBits s.otp.custHash.length).toNat * 256 + s.otp.custRevoked.toNat * 65536 + s.otp.vendRevoked.toNat * 2 ^ 24
    | _ => s.rget off

/-- Watts of a sum in mW. -/
def watts (mw : Nat) : Nat := min 65535 (mw / 1000)
/-- Core blocks 0 – 5: modes, cold frame, budgets, engines, dispatcher, grafts (12 – 14). -/
def State.coreView (s : State) (off : Nat) : Nat :=
  if 0x140000 ≤ off ∧ off < 0x143FFC then
    let n := (off - 0x140000) / 4
    let d := s.dspSrc n
    d.prio % 16 + b2n (dspLevel n) * 16 + d.targets.toNat * 32 + d.group % 256 * 65536 + b2n d.pending * 2 ^ 24 + b2n d.inService * 2 ^ 25
  else if 0x150000 ≤ off ∧ off < 0x150040 then
    let g := s.graft ((off - 0x150000) / 8)
    if off % 8 = 0 then s.withFields off [(0, 2, g.st)] else g.note
  else match off with
    | 0x100000 => s.mode.index % 65536 + s.mode.lowMark % 65536 * 65536
    | 0x100004 => s.mode.mode.code + b2n s.mode.reduced * 4 + b2n s.mode.stepped * 8 + s.mode.floor % 65536 * 65536
    | 0x110004 => s.withFields off [(0, 2, s.mode.pwr.code), (2, 1, b2n s.mode.cfLp), (8, 4, s.mode.lastWake)]
    | 0x120000 => s.devBudgetW % 65536 + watts s.devHeld * 65536
    | 0x120004 => bitsOf (fun b => decide (b < 8) && (s.bed b).warn) + b2n s.earlyWarn * 256
    | 0x130004 =>
      s.eng.spare % 16 + bitsOf (fun t => s.eng.active.contains t) * 16 + bitsOf (fun t => s.eng.retired.contains t) * 2 ^ 13 + b2n s.eng.rot.isSome * 2 ^ 22
        + b2n s.eng.upd.isSome * 2 ^ 23 + min 255 s.eng.lastPause * 2 ^ 24
    | 0x13000C => s.withFields off [(0, 7, s.eng.svn)]
    | 0x130010 => s.eng.fwVersion
    | _ => s.rget off
/-- The collector, the online tests, time and telemetry (15; 16). -/
def State.faultView (s : State) (off : Nat) : Nat :=
  if 0x160000 ≤ off ∧ off < 0x161000 then
    let n := (off - 0x160000) / 4
    if (catalogue n).isNone then 0 else s.withFields off [(16, 8, (s.fltSrc n).lastCause), (24, 1, b2n ((s.fltSrc n).line != .quiet))]
  else if 0x162000 ≤ off ∧ off < 0x162200 then
    let k := (off - 0x162000) / 4
    bitsOf (fun j =>
      let x := s.fltSrc (k % 32 * 32 + j)
      match k / 32 with | 0 => x.status | 1 => x.still | 2 => x.wire | _ => x.sat)
  else match off with
    | 0x163000 => b2n s.flt.safeHold + b2n s.flt.rebuilding * 2 + b2n s.flt.holdStill * 4 + bitsOf (fun b => decide (b < 8) && (s.bed b).isolating) * 256
        + bitsOf (fun b => decide (b < 8) && (s.bed b).retired) * 65536
    | 0x163024 => s.units.fallow % 32 + b2n s.units.fallowOn * 32 + b2n (!s.units.retiredBanks.isEmpty || s.flt.safeHold || s.eng.tests.any (fun t => t.op == .bank)) * 64
    | 0x163028 => bitsOf (fun j => s.units.retiredBanks.contains j)
    | _ => s.rget off
/-- Reads in Dormant return the last values taken (16 R562). -/
def State.stale (s : State) : Nat := b2n (s.mode.pwr == .dormant)
def State.timeView (s : State) (off : Nat) : Nat :=
  if 0x170020 ≤ off ∧ off < 0x170044 then
    let i := (off - 0x170020) / 4
    let x := tget (0, 0) s.tele.temp i
    s.withFields off [(0, 8, x.1), (8, 8, x.2), (24, 1, s.stale)]
  else if 0x170060 ≤ off ∧ off < 0x1700A0 then
    let i := (off - 0x170060) / 4
    let b := s.bed (i / 2)
    tget 0 s.tele.rail i % 4096 + b2n (b.warnMv.getD (i % 2) 0 != 0) * 4096 + b2n (b.low.getD (i % 2) false) * 8192 + s.stale * 16384
  else match off with
    | 0x170000 => s.now % two32
    | 0x170004 => s.time.latch
    | 0x17000C => b2n s.time.aligned + min 255 s.time.epoch * 256 + twos 16 s.time.errorNs * 65536
    | 0x170010 => (s.tally devTally).n % two32
    | 0x170014 => (s.tally devTally).latch
    | 0x1700A0 => s.tele.vout % 65536 + s.tele.power % 65536 * 65536
    | _ => s.rget off

/-- SHORT of a function's reserve in a pool. -/
def State.shortBit (s : State) (f pool : Nat) : Nat := b2n (s.short.contains (f * 4 + pool))
/-- A function set-up block (04; 05; 09). -/
def State.fnView (s : State) (f o : Nat) : Nat :=
  let off := fnReg f o
  if 0x1000 ≤ o then
    let r := (o - 0x1000) / 16
    if o % 16 = 0xC ∧ r < ringsOf f then s.withFields off [(16, 1, b2n (s.evrFull f r))] else s.rget off
  else match o with
    | 0x18 => s.withFields off [(0, 1, b2n ((s.fn f).doze == .dozing)), (1, 1, b2n (s.fn f).stopped), (2, 1, b2n ((List.range (ringsOf f)).any (fun r => s.evrFull f r)))]
    | 0x30 => s.withFields off [(31, 1, s.shortBit f 1)]
    | 0x34 => s.withFields off [(31, 1, s.shortBit f 2)]
    | 0x38 => s.withFields off [(31, 1, s.shortBit f 3)]
    | _ => s.rget off
/-- A bed block (12). -/
def State.bedView (s : State) (b o : Nat) : Nat :=
  let x := s.bed b
  match o with
  | 0 => x.bedW % 65536 + watts (s.bedHeld b) * 65536
  | 4 => watts (s.bedEffective b) + b2n x.warn * 65536 + b2n (x.low.getD 0 false) * 2 ^ 17 + b2n (x.low.getD 1 false) * 2 ^ 18 + b2n x.restoring * 2 ^ 19
  | _ => s.rget (bedReg b o)
/-- PRT_PD_STATUS (11). -/
def State.pdStatus (s : State) (p : Nat) : Nat :=
  let d := s.pd p
  let con := match d.con with | some c => if c.epr then 2 else 1 | none => 0
  let kind := match d.con with | some c => c.kind.code | none => 0
  con + kind * 4 + (if d.attached then (if d.rev3 then 2 else 1) else 0) * 16 + b2n d.cableKnown * 64 + b2n (decide (s.cableMa p = 5000)) * 128 + b2n (s.cableEpr p) * 256
    + b2n (d.trellis == .entered) * 512 + b2n d.waitSince.isSome * 1024 + b2n d.ppsCl * 2048
/-- PRT_SIEVE_STATUS (16). -/
def State.sieveStatus (s : State) (p : Nat) : Nat :=
  let c := s.cap p
  s.withFields (portReg p 0x700) [(0, 17, c.count), (17, 1, b2n c.crossed), (19, 1, b2n c.running), (20, 4, c.level), (24, 2, c.size)]
/-- A port block (06; 08; 10 – 12; 16). -/
def State.portView (s : State) (p o : Nat) : Nat :=
  let l := s.link p
  let x := s.path p
  let h := s.hook p
  let cal : Cal := tget {} s.otp.cal p
  match o with
  | 0x108 => l.u2.st.code + l.u2.speed % 8 * 16 + b2n l.u2.l1 * 128 + l.ss.st.code * 256 + l.ss.speed % 8 * 4096 + l.ss.ulink % 4 * 65536 + b2n l.lane * 2 ^ 18
  | 0x208 => (s.bus p).interval % 16384 + b2n (s.bus p).running * 2 ^ 31
  | 0x20C => (s.bus p).latch % two32
  | 0x210 => (s.bus p).latch / two32 % two32
  | 0x410 => (s.tc p).status
  | 0x510 => s.pdStatus p
  | 0x514 => match (s.pd p).con with | some c => c.rdo | none => 0
  | 0x518 => match (s.pd p).con with | some c => c.mv % 65536 + c.ma % 65536 * 65536 | none => 0
  | 0x608 => h.rsense + h.rt * 65536
  | 0x60C => h.v0 + h.vCeil * 2 ^ 12 + h.iCeil * 2 ^ 21 + b2n h.sinkEn * 2 ^ 28
  | 0x610 => h.rDisch + h.fixedV * 2 ^ 14 + h.fixedI * 2 ^ 22
  | 0x614 => x.st.code + b2n x.pg * 8 + b2n x.ocTimer * 16 + b2n x.sinking * 32 + b2n x.shed * 64 + b2n (s.hwOnly p) * 128 + x.fb % 4096 * 256 + min 255 x.retries * 2 ^ 20
      + x.lastTrip % 16 * 2 ^ 28
  | 0x61C => x.mv % 65536 + x.ma % 65536 * 65536
  | 0x700 => s.sieveStatus p
  | 0x708 => s.withFields (portReg p o) [(24, 1, b2n (s.cap p).lostSat)]
  | 0x710 => (s.tally (tallyKey p true)).n % two32
  | 0x714 => (s.tally (tallyKey p true)).latch
  | 0x718 => (s.tally (tallyKey p false)).n % two32
  | 0x71C => (s.tally (tallyKey p false)).latch
  | 0x800 => calWord cal.i
  | 0x804 => calWord h.user.i
  | 0x808 => calWord (calEffective cal.i h.user.i)
  | 0x80C => calWord cal.v
  | 0x810 => calWord h.user.v
  | 0x814 => calWord (calEffective cal.v h.user.v)
  | _ => s.rget (portReg p o)

/-- What a read of an answering block returns at a PF BAR0 offset (00 R23; 03 R98). -/
def State.view (s : State) (off : Nat) : Nat :=
  if (fields off).isEmpty then 0
  else if off < 0x10000 then s.bootView off
  else if off < 0x10800 then s.rget off
  else if off < 0x20000 then s.withFields off [(31, 1, s.shortBit ((off - 0x10800) / 4) 0)]
  else if off < 0x160000 then s.coreView off
  else if off < 0x170000 then s.faultView off
  else if off < 0x1000000 then s.timeView off
  else if off < 0x2000000 then s.fnView ((off - 0x1000000) / 0x4000) ((off - 0x1000000) % 0x4000)
  else if off < 0x3000000 then s.bedView ((off - 0x2000000) / 0x100000) ((off - 0x2000000) % 0x100000)
  else s.portView ((off - 0x3000000) / 0x10000) ((off - 0x3000000) % 0x10000)
/-- A read of PF BAR0: the sleep word of a sleeping block (00 R24), else the register. -/
def State.bar0 (s : State) (off : Nat) : Nat :=
  match blockOf off with
  | none => 0
  | some b => if s.asleep b then sleepWord b else s.view off
/-- A read of a VF's BAR0: its set-up block as a read-only view, and 0 during its FLR (03 R100, R116). -/
def State.vfBar0 (s : State) (f off : Nat) : Nat := if s.pcie.flr.contains f ∨ 0x4000 ≤ off then 0 else s.bar0 (fnReg f off)

end Sys2Proof.Machine
end

