-- ==== Sys2Proof/Machine/Access.lean ====
section
/-! DEFINITION. The rows of register accesses (00 R22 – R26; 02 R75; 03 R100, R107, R108; 04 R164, R166; 15 R506, R514 – R517, R527 – R530;
16 R545, R551, R560; 18 R599, R600). -/

namespace Sys2Proof.Machine

open Sys2Proof

/-! ### Writes -/

/-- SETUP_LOCK_WRITE (02 R75, R76; 18 R601). -/
def execSetupLockWrite (w : Word) (s : State) : Host.Outcome State Fault Refusal := .next (happen (regWrite 0x40 w.toNat) s)
/-- REGISTER_WRITE (18 R599, R600; 00 R23 – R25). -/
def execRegisterWrite (off : BitVec 26) (w : Word) (s : State) : Host.Outcome State Fault Refusal := .next (happen (regWrite off.toNat w.toNat) s)
def doVfBar0Write (v : Vf) (off : Nat) (s : State) : State :=
  let f := v.val + 1
  if s.inReset || !s.fnExists f || s.pcie.flr.contains f then s
  else if s.asleep (0x200 + f) then s.sleepHit (0x200 + f)
  else s.countBlocked off true
/-- VF_BAR0_WRITE (03 R100, R116; 18 R600). -/
def execVfBar0Write (v : Vf) (off : BitVec 16) (_w : Word) (s : State) : Host.Outcome State Fault Refusal := .next (doVfBar0Write v off.toNat s)
/-- NUDGE (04 R166). -/
def execNudge (f : Fnc) (s : State) : Host.Outcome State Fault Refusal := .next (happen (doNudge f) s)
/-- DOZE_EN_CLEAR (04 R164). -/
def execDozeEnClear (f : Fnc) (w : Word) (s : State) : Host.Outcome State Fault Refusal := .next (happen (regWrite (fnReg f 0x14) w.toNat) s)
/-- EVR_ENABLE_WRITE (03 R107; 04, EVR_CFG, EVR_HOLD). -/
def execEvrEnableWrite (f : Fnc) (r : Evr) (w : Word) (s : State) : Host.Outcome State Fault Refusal :=
  .next (happen (regWrite (evrReg f r 8) w.toNat) s)
def doMsixUnmask (f v : Nat) (s : State) : State :=
  if s.inReset || !s.fnExists f || s.pcie.flr.contains f || decide (vectors f ≤ v) then s
  else if !s.served then s.sleepHit (0x200 + f)
  else pbaServe f v (s.vecOn f v (fun x => { x with mask := false }))
/-- MSIX_UNMASK (03 R101, R108). -/
def execMsixUnmask (f : Fnc) (vec : Vec) (s : State) : Host.Outcome State Fault Refusal := .next (doMsixUnmask f vec s)
/-- FLT_STATUS_CLEAR (15 R517). -/
def execFltStatusClear (k : Fin 32) (w : Word) (s : State) : Host.Outcome State Fault Refusal := .next (happen (regWrite (0x162000 + 4 * k) w.toNat) s)
/-- FLT_WIRE_CLEAR (15 R506). -/
def execFltWireClear (k : Fin 32) (w : Word) (s : State) : Host.Outcome State Fault Refusal := .next (happen (regWrite (0x162100 + 4 * k) w.toNat) s)
/-- FLT_CNT_CLEAR (15 R517, FLT_CNT). -/
def execFltCntClear (n : Src) (w : Word) (s : State) : Host.Outcome State Fault Refusal := .next (happen (regWrite (fltCntReg n) w.toNat) s)
/-- SAFE_HOLD_CLEAR (15 R514). -/
def execSafeHoldClear (w : Word) (s : State) : Host.Outcome State Fault Refusal := .next (happen (regWrite 0x163000 w.toNat) s)
/-- FLT_PIN_HELD_CLEAR (15 R516). -/
def execFltPinHeldClear (w : Word) (s : State) : Host.Outcome State Fault Refusal := .next (happen (regWrite 0x163004 w.toNat) s)
/-- FLT_PIN_FORCE (15 R516). -/
def execFltPinForce (w : Word) (s : State) : Host.Outcome State Fault Refusal := .next (happen (regWrite 0x163004 w.toNat) s)
/-- INJ_FIRE_TAGGED (15 R527, R528). -/
def execInjFireTagged (w : Word) (s : State) : Host.Outcome State Fault Refusal := .next (happen (regWrite 0x163014 w.toNat) s)
/-- INJ_FIRE_WIRE (15 R530). -/
def execInjFireWire (w : Word) (s : State) : Host.Outcome State Fault Refusal := .next (happen (regWrite 0x163014 w.toNat) s)
/-- PRT_SIEVE_LOST_CLEAR (16 R545). -/
def execPrtSieveLostClear (p : Port) (w : Word) (s : State) : Host.Outcome State Fault Refusal :=
  .next (happen (regWrite (portReg p 0x704) w.toNat) s)

/-! ### Accesses without effect -/

/-- An MSI-X table entry's four words, or 32 PBA bits (03 R99, R101). -/
def State.msixWord (s : State) (f off : Nat) : Nat :=
  let tbl := if f = 0 then 0x10000 else 0x1000
  let pba := 2 * tbl
  if tbl ≤ off ∧ off < tbl + 16 * vectors f then
    let x := s.vec f ((off - tbl) / 16)
    match off / 4 % 4 with
    | 0 => x.addr % two32
    | 1 => x.addr / two32 % two32
    | 2 => x.data
    | _ => b2n x.mask
  else if pba ≤ off ∧ off < pba + vectors f / 8 then ((List.range 32).map (fun j => b2n (s.vec f ((off - pba) * 8 + j)).pba * 2 ^ j)).sum
  else 0
/-- The function whose BAR2 an access reaches; BAR0 has no MSI-X structure. -/
def bar2Fn : Bar → Option Nat
  | .pfBar2 => some 0
  | .vfBar2 v => some (v.val + 1)
  | _ => none
/-- Whether an access is one that the MSI-X structures accept: aligned, of 32 or 64 bits, in the table or the PBA (00 R22; 03 R99). -/
def msixOk (f : Nat) (a : RawAccess) : Bool :=
  let off := a.off.toNat
  let tbl := if f = 0 then 0x10000 else 0x1000
  (a.bits == 32 || a.bits == 64) && decide (off % (a.bits / 8) = 0)
    && ((decide (tbl ≤ off) && decide (off < tbl + 16 * vectors f)) || (decide (2 * tbl ≤ off) && decide (off < 2 * tbl + vectors f / 8)))
/-- A write of one word of the MSI-X table; a vector left unmasked with its PBA bit set sends its message (03 R108). The PBA is read-only. -/
def msixPut (f off w : Nat) (s : State) : State :=
  let tbl := if f = 0 then 0x10000 else 0x1000
  if off < tbl ∨ tbl + 16 * vectors f ≤ off then s
  else
    let v := (off - tbl) / 16
    match off / 4 % 4 with
    | 0 => s.vecOn f v (fun x => { x with addr := x.addr / two32 * two32 + w % two32 / 4 * 4 })
    | 1 => s.vecOn f v (fun x => { x with addr := x.addr % two32 + w % two32 * two32 })
    | 2 => s.vecOn f v (fun x => { x with data := w % two32 })
    | _ => pbaServe f v (s.vecOn f v (fun x => { x with mask := bit w 0 }))
/-- An access that the MSI-X structures of a function accept: the sleep word before SERVED (02 R47), no effect and 0 under FLR
(03 R116), and else the access of the standard (03 R101). -/
def msixAccess (f : Nat) (a : RawAccess) (s : State) : State :=
  let off := a.off.toNat
  if !s.served then
    (let s := s.sleepHit (0x200 + f)
     if a.isWrite then s else s.emit (.readData (sleepWord (0x200 + f))))
  else if s.pcie.flr.contains f then (if a.isWrite then s else s.emit (.readData 0))
  else if a.isWrite then
    (let s := msixPut f off (a.data.toNat % two32) s
     if a.bits = 64 then msixPut f (off + 4) (a.data.toNat / two32) s else s)
  else s.emit (.readData (s.msixWord f off + (if a.bits = 64 then s.msixWord f (off + 4) * two32 else 0)))
def doMisalignedAccess (a : RawAccess) (s : State) : State :=
  let without := if a.isWrite || (a.bits == 32 && a.off.toNat % 4 == 0) then s else s.emit (.readData 0)
  if s.inReset then s
  else match bar2Fn a.bar with
    | some f => if !s.fnExists f then s else if msixOk f a then msixAccess f a s else without
    | none => without
/-- MISALIGNED_ACCESS (00 R22): a write has no effect, and a read returns 0, but for the aligned accesses of the MSI-X structures. -/
def execMisalignedAccess (a : RawAccess) (s : State) : Host.Outcome State Fault Refusal := .next (doMisalignedAccess a s)
/-- The block an access reaches: that of a BAR0 offset, the function's set-up block through VF BAR0, and before SERVED all of a BAR2
as its function's block (02 R47; notes/assumptions/43.md). -/
def State.accessBlock (s : State) (bar : Bar) (off : Nat) : Option Nat :=
  match bar with
  | .pfBar0 => blockOf off
  | .vfBar0 v => if off < 0x4000 then some (0x201 + v.val) else none
  | .pfBar2 => if s.served then none else some 0x200
  | .vfBar2 v => if s.served then none else some (0x201 + v.val)
/-- An access that a sleeping block answers. -/
def State.sleepsAt (s : State) (bar : Bar) (off : Nat) : Option Nat :=
  let exists_ := match bar with
    | .vfBar0 v | .vfBar2 v => s.fnExists (v.val + 1) && !s.pcie.flr.contains (v.val + 1)
    | _ => true
  match s.accessBlock bar off with
  | some b => if !s.inReset && exists_ && s.asleep b then some b else none
  | none => none
def doSleepWordAccess (bar : Bar) (off : Nat) (isWrite : Bool) (s : State) : State :=
  match s.sleepsAt bar off with
  | some b => if isWrite then s.sleepHit b else (s.sleepHit b).emit (.readData (sleepWord b))
  | none => s
/-- SLEEP_WORD_ACCESS (00 R24; 02 R47; 13 R467, R468). -/
def execSleepWordAccess (a : WinAddr) (isWrite : Bool) (s : State) : Host.Outcome State Fault Refusal :=
  .next (doSleepWordAccess a.bar a.off.toNat isWrite s)

/-! ### Reads with an effect -/

/-- A read completion with a register's value, and what the read does. -/
def readReg (off : Nat) (g : State → State) (s : State) : State := regRead off (fun s => (g s).emit (.readData (s.view off))) s
/-- TEMPO_STATUS_READ (00 R25; 13, TEMPO_STATUS). -/
def execTempoStatusRead (s : State) : Host.Outcome State Fault Refusal :=
  .next (readReg 0x100000 (modeOn (fun m => { m with lowMark := 65535 })) s)
def clearPeak (i : Nat) (s : State) : State :=
  { s with tele := { s.tele with temp := tput (0, 0) s.tele.temp i ((tget (0, 0) s.tele.temp i).1, 0) } }
/-- TELE_TEMP_READ (00 R25; 16, TELE_TEMP). -/
def execTeleTempRead (i : Fin 9) (s : State) : Host.Outcome State Fault Refusal := .next (readReg (teleTempReg i) (clearPeak i) s)
/-- PRT_FRAME_READ (06 R237). -/
def execPrtFrameRead (p : Port) (s : State) : Host.Outcome State Fault Refusal :=
  .next (readReg (portReg p 0x208) (fun s => s.busOn p (fun b => { b with latch := b.start })) s)
/-- The low register of a 64-bit count. -/
def tallyLo : Tally → Nat
  | .portIn p => portReg p 0x710
  | .portOut p => portReg p 0x718
  | .device => 0x170010
  | .timebase => 0x170000
/-- The high half goes into the count's latch (16 R551). -/
def tallyLatch (t : Tally) (s : State) : State :=
  let on := fun k => s.tallyOn k (fun x => { x with latch := x.n / two32 % two32 })
  match t with
  | .portIn p => on (tallyKey p true)
  | .portOut p => on (tallyKey p false)
  | .device => on devTally
  | .timebase => timeOn (fun x => { x with latch := s.now / two32 % two32 }) s
/-- TALLY_LO_READ (16 R551). -/
def execTallyLoRead (t : Tally) (s : State) : Host.Outcome State Fault Refusal := .next (readReg (tallyLo t) (tallyLatch t) s)
/-- ALM_DATA15 advances ALM_SEL.SLOT while INFO is 0 (16 R560). -/
def almAdvance (k : Nat) (s : State) : State :=
  if k = 15 ∧ !bit (s.rget 0x1040) 16 then s.fldPut 0x1040 0 13 (s.fld 0x1040 0 13 + 1) else s
/-- ALM_DATA_READ (16 R560). -/
def execAlmDataRead (k : Fin 16) (s : State) : Host.Outcome State Fault Refusal := .next (readReg (0x1080 + 4 * k) (almAdvance k) s)

end Sys2Proof.Machine
end

