-- ==== Sys2Proof/Machine/Capture.lean ====
section
/-! DEFINITION. CAPTURE CONTROL, sieves and the exporter (16 R534 – R549). -/

namespace Sys2Proof.Machine

open Sys2Proof

/-! ### CAPTURE CONTROL (16 R536, R537, R542, R549) -/

/-- Reserved bits, KINDS 0 and a ring size above 64 MiB (16 R536, R537). -/
def capStartBad (q : Params) : Bool :=
  bits (p0 q) 7 1 != 0 || bits (p0 q) 18 6 != 0 || bits (p0 q) 37 4 != 0 || bits (p0 q) 49 15 != 0 || bits (p0 q) 32 4 == 0
    || bits (p1 q) 4 8 != 0 || decide (10 < bits (p1 q) 0 4) || bits (p2 q) 4 8 != 0
def capEndBad (q : Params) : Bool := bits (p0 q) 7 1 != 0 || bits (p0 q) 16 48 != 0 || p1 q != 0 || p2 q != 0
/-- Who may start a capture: the owner, and the PF where PF_CAPTURE is 1 (03 R111). -/
def State.mayCapture (s : State) (f p : Nat) : Bool := s.owns f p || (f == 0 && s.pfCapture p)
/-- Who may stop or flush one: the capturing function and the PF (16 R537), the PF on a VF's port under PF_CAPTURE (03 R111). -/
def State.mayEndCapture (s : State) (f p : Nat) : Bool :=
  if f = 0 then s.mayCapture 0 p else s.owns f p && (!(s.cap p).running || (s.cap p).fn == f)

/-- The capture that a START begins. -/
def capNew (q : Params) (f base no : Nat) : Capture :=
  { running := true, fn := f, size := bits (p0 q) 16 2, snap := bits (p0 q) 24 8, kinds := bits (p0 q) 32 4, noSof := bit (p0 q) 36, address := bits (p0 q) 41 7,
    addrEn := bit (p0 q) 48, ring := p1 q / 4096 * 4096, ringSize := 65536 * 2 ^ bits (p1 q) 0 4, ctl := p2 q / 4096 * 4096, level := bits (p2 q) 0 4, memBase := base,
    startNo := no }
/-- START: the sieve is allocated, and LOST, UNDERRUN and the other counts are cleared (16 R536, R545). -/
def capStartAt (p base : Nat) (q : Params) (f : Nat) (s : State) : State :=
  let s := { s with capStarts := s.capStarts + 1 }
  (((s.capPut p (capNew q f base s.capStarts)).rput (portReg p 0x704) 0).rput (portReg p 0x708) 0).rput (portReg p 0x700) 0
def doCaptureStart (c : Instr) (h : CmdHdr) (q : Params) (s : State) : State :=
  let p := capPort q
  command c h [.port p] (fun s =>
    if capStartBad q then cmdDone h 0x33 ccParam 0 p s
    else if !s.mayCapture h.fn.val p then cmdDone h 0x33 ccFunction 0 p s
    else if (s.cap p).running || decide (captureLimit s.mode.mode ≤ s.captures) then cmdDone h 0x33 ccState 0 p s
    else match s.sieveRun (2 ^ bits (p0 q) 16 2) with
      | none => cmdDone h 0x33 ccResource 0 p s
      | some base => cmdDone h 0x33 ccSuccess 0 p (capStartAt p base q h.fn.val s)) s
/-- CAPTURE CONTROL START (16 R536, R537, R545). -/
def execCaptureStart (h : CmdHdr) (q : Params) (s : State) : Host.Outcome State Fault Refusal := .next (doCaptureStart (.captureStart h q) h q s)

/-- STOP at a packet boundary (16 R549). -/
def stopNow (p : Nat) (h : CmdHdr) (s : State) : State :=
  let (n, s) := capStop p 1 s
  cmdDone h 0x33 ccSuccess (min n 16777215) p s
/-- FLUSH at a packet boundary (16 R542). -/
def flushNow (p : Nat) (h : CmdHdr) (s : State) : State :=
  let n := (s.cap p).recs.length
  cmdDone h 0x33 ccSuccess (min n 16777215) p (s.capOn p (fun c => { c with recs := [], crossed := false, flush := none }))
/-- STOP and FLUSH: at once, or when the packet in progress has ended. -/
def capEndCmd (c : Instr) (h : CmdHdr) (q : Params) (now : Nat → CmdHdr → State → State) (later : CmdHdr → Capture → Capture) (s : State) : State :=
  let p := capPort q
  command c h [.port p] (fun s =>
    if capEndBad q then cmdDone h 0x33 ccParam 0 p s
    else if !s.mayEndCapture h.fn.val p then cmdDone h 0x33 ccFunction 0 p s
    else if !(s.cap p).running then cmdDone h 0x33 ccState 0 p s
    else if (s.cap p).inPacket then s.capOn p (later h)
    else now p h s) s
def doCaptureStop (c : Instr) (h : CmdHdr) (q : Params) (s : State) : State := capEndCmd c h q stopNow (fun h c => { c with stop := some (some h) }) s
/-- CAPTURE CONTROL STOP (16 R537, R549). -/
def execCaptureStop (h : CmdHdr) (q : Params) (s : State) : Host.Outcome State Fault Refusal := .next (doCaptureStop (.captureStop h q) h q s)
def doCaptureFlush (c : Instr) (h : CmdHdr) (q : Params) (s : State) : State := capEndCmd c h q flushNow (fun h c => { c with flush := some h }) s
/-- CAPTURE CONTROL FLUSH (16 R537, R542). -/
def execCaptureFlush (h : CmdHdr) (q : Params) (s : State) : Host.Outcome State Fault Refusal := .next (doCaptureFlush (.captureFlush h q) h q s)

/-! ### Sieves (16 R538 – R545) -/

/-- A packet begins: its length word and the room of the largest record are reserved (16 R539, R540). -/
def packetBegin (p : Nat) (s : State) : State :=
  let c := s.cap p
  if !c.running || c.inPacket then s
  else makeRoom p c.maxRec (c.recs.length + 1) (s.capOn p (fun c => { c with inPacket := true, dropThis := false, beginTime := s.now }))
/-- SIEVE_PACKET_BEGIN (16 R539, R540). -/
def execSievePacketBegin (p : Port) (s : State) : Host.Outcome State Fault Refusal := .next (happen (packetBegin p) s)

/-- The record that a packet leaves in the sieve (16 R535, R539). -/
def Capture.recOf (c : Capture) (r : CapPacket) : CapRec :=
  { bytes := c.record r, kind := r.kind.val, addr := r.addr.map (·.toNat), follows := r.kind.val == 1 && r.addr.isNone && !r.sof }
/-- The packet boundary: a pending FLUSH, then a pending STOP (16 R542, R549). -/
def packetBoundary (p : Nat) (s : State) : State :=
  let s := match (s.cap p).flush with | some h => flushNow p h s | none => s
  match (s.cap p).stop with | some (some h) => stopNow p h s | _ => s
def doSievePacketEnd (p : Nat) (r : CapPacket) (s : State) : State :=
  let s := if r.kind.val = 4 then packetBegin p s else s
  let c := s.cap p
  if !c.inPacket then s
  else
    let keep := !c.dropThis && c.takes r
    let s := s.capOn p (fun c => { c with inPacket := false, dropThis := false, recs := if keep then c.recs ++ [c.recOf r] else c.recs })
    packetBoundary p (levelCheck p c.count s)
/-- SIEVE_PACKET_END (16 R535, R539, R541, R542, R549); a bus happening begins and ends at once. -/
def execSievePacketEnd (p : Port) (r : CapPacket) (s : State) : Host.Outcome State Fault Refusal := .next (happen (doSievePacketEnd p r) s)

def doSievePointerMismatch (p : Nat) (s : State) : State :=
  if !(s.cap p).running then s
  else dspAssert (24 * p + 15) (unitOnce (4 * p + 3) 2 p 0 ((sieveReset p s).rsAdd (portReg p 0x708) 16 8 1))
/-- SIEVE_POINTER_MISMATCH (16 R543): the capture continues. -/
def execSievePointerMismatch (p : Port) (s : State) : Host.Outcome State Fault Refusal := .next (happen (doSievePointerMismatch p) s)

/-! ### The exporter (16 R541, R544, R547, R548) -/

/-- The poll's DATA event, and RING-FULL once each time the ring becomes full (16 R548). -/
def pollEvents (p before : Nat) (heard : Bool) (s : State) : State :=
  let c := s.cap p
  let moved := c.prod != before
  let s := if moved && heard then capEvent p 1 0 0 s else s
  let full := !c.recs.isEmpty
  let s := if full && (moved || !c.ringFull) then capEvent p 5 0 0 s else s
  s.capOn p (fun c => { c with ringFull := full })
/-- CROSSED is released once the sieve has been drained below LEVEL (16 R541). -/
def levelRelease (p : Nat) (s : State) : State :=
  s.capOn p (fun c => if c.count < c.levelWords then { c with crossed := false } else c)
def doExporterPoll (p cons : Nat) (s : State) : State :=
  let c := s.cap p
  if !c.running then s
  else
    let s := s.capOn p (fun c => { c with cons })
    if c.claimed && c.recs.isEmpty then (s.fldPut (portReg p 0x700) 18 1 1).capOn p (fun c => { c with claimed := false })
    else pollEvents p c.prod (cons == c.prevProd) (levelRelease p (capProd p c.prod (exportRecs p (c.recs.length + 1) s)))
/-- EXPORTER_POLL (16 R544, R547, R548): `cons` is the CAP_CONS the poll reads; a claimed item that a FLUSH discarded is read from an empty
sieve. -/
def execExporterPoll (p : Port) (cons : Word) (s : State) : Host.Outcome State Fault Refusal := .next (happen (doExporterPoll p cons.toNat) s)

end Sys2Proof.Machine
end

