-- ==== Sys2Proof/Machine/CoreUnits.lean ====
section
/-! DEFINITION. Core units and tests in service (01 R29 – R31, R39 – R41; 15 R518, R519, R521 – R523, R531 – R533). -/

namespace Sys2Proof.Machine

open Sys2Proof

/-! ### SRAM -/

/-- The port that a context or slot record serves. -/
def State.keyPort (s : State) (k : Nat) : Nat := if (s.ep k).guest then (s.ep k).port else (s.slot (keySlot k)).port
def doSramEccError (a : Array2) (unit : Nat) (double : Bool) (s : State) : State :=
  if !double then s.rsAdd 0x16302C 0 32 1
  else match a with
    | .context => epFault unit (raiseFault 624 1 (s.keyPort unit) (keyBell unit) 0 false s)
    | .slot => unitOnce 625 2 (s.slot unit).port 0 s
    | .trough => unitOnce (592 + unit % 32) 1 (unit % 32) 0 s
    | .schedule => unitOnce 625 1 (unit % 128) 0 s
    | .capture => unitOnce 626 1 (unit % 128) 0 s
    | .tender => unitOnce (627 + unit % 9) 1 (unit % 9) 0 s
    | .keeper => unitOnce 637 1 0 0 s
    | .staging => unitOnce (512 + 8 * (unit % 8) + 2) 1 (unit % 8) 0 s
/-- SRAM_ECC_ERROR (01 R29): a single-bit error is corrected and counted, a double-bit error is reported to the array's source. `unit`
names the context, slot record, bank, port, engine or bed. -/
def execSramEccError (a : Array2) (unit : Nat) (double : Bool) (s : State) : Host.Outcome State Fault Refusal :=
  .next (happen (doSramEccError a unit double) s)

/-- 64-bit words of the SRAM (01 R28: 71 MiB). The row's summary in the opcode table has the scrubber pass to the next word. -/
def sramWords : Nat := 71 * 131072
def doScrubTick (s : State) : State := if s.scrubEn then unitsOn (fun u => { u with scrubPos := (u.scrubPos + 1) % sramWords }) s else s
/-- SCRUB_TICK (01 R30): the scrubber passes to the next word. -/
def execScrubTick (s : State) : Host.Outcome State Fault Refusal := .next (doScrubTick s)

/-! ### The trough (15 R523, R532, R533) -/

/-- TROUGH_WORD_REBUILD (15 R523). -/
def execTroughWordRebuild (k : Bank) (s : State) : Host.Outcome State Fault Refusal := .next (happen (unitOnce (592 + k) 1 k 0) s)
/-- TROUGH_BANK_RETIRE (15 R523): at its second rebuilt word within 24 h, or when it is lost as a whole. -/
def execTroughBankRetire (k : Bank) (_lost : Bool) (s : State) : Host.Outcome State Fault Refusal := .next (happen (bankRetire k 2) s)
/-- BANK_REBUILD_DONE (15 R523): the blocks of the retired bank stand in the other banks. -/
def execBankRebuildDone (s : State) : Host.Outcome State Fault Refusal := .next (unitsOn (fun u => { u with rebuildingBank := none }) s)

/-- A SELF-TEST BANK is in progress. -/
def State.bankTest (s : State) : Bool := s.eng.tests.any (fun t => t.op == .bank)
/-- Background marches are stopped (15 R533, OT_STATUS.SUSPENDED). -/
def State.marchSuspended (s : State) : Bool := !s.units.retiredBanks.isEmpty || s.flt.safeHold || s.bankTest
def doMarchTimer (s : State) : State :=
  if !s.served || !s.marchEn || s.marchSuspended || s.units.fallowOn then s
  else unitsOn (fun u => { u with fallow := u.nextBank, fallowOn := true, fallowMoved := false, nextBank := (u.nextBank + 1) % 32 }) s
/-- MARCH_TIMER (15 R532 step 1, R533). -/
def execMarchTimer (s : State) : Host.Outcome State Fault Refusal := .next (doMarchTimer s)
/-- FALLOW_MOVE_DONE (15 R532 step 2): the march runs. -/
def execFallowMoveDone (s : State) : Host.Outcome State Fault Refusal := .next (unitsOn (fun u => { u with fallowMoved := u.fallowOn }) s)
def doMarchDone (pass : Bool) (s : State) : State :=
  if !s.units.fallowOn || !s.units.fallowMoved || s.bankTest then s
  else
    let k := s.units.fallow
    let s := unitsOn (fun u => { u with fallowOn := false, fallowMoved := false }) s
    if pass then s else bankRetire k 3 s
/-- MARCH_DONE (15 R532 step 4). -/
def execMarchDone (pass : Bool) (s : State) : Host.Outcome State Fault Refusal := .next (happen (doMarchDone pass) s)

/-! ### Tests without an effect on service -/

/-- ADC_CAL_TIMER (15 R531): the calibration uses idle conversion slots only; its effect on service is none. -/
def execAdcCalTimer (_b : Bed) (s : State) : Host.Outcome State Fault Refusal := .next s
/-- KEEPER_SELF_CHECK (15 R531): its effect on service is none. -/
def execKeeperSelfCheck (s : State) : Host.Outcome State Fault Refusal := .next s
def doEfuseTestPulse (p : Port) (agree : Bool) (s : State) : State := if agree then s else unitOnce (512 + 8 * bedOf p + 4) 1 (bedOf p) p s
/-- EFUSE_TEST_PULSE (15 R519, R521). -/
def execEfuseTestPulse (p : Port) (agree : Bool) (s : State) : Host.Outcome State Fault Refusal := .next (happen (doEfuseTestPulse p agree) s)
def doColdFrameWatchTest (seen : Bool) (s : State) : State :=
  if !seen then unitOnce 643 1 0 0 s else if s.mode.rewriteDue && s.lock then coldCopies s else s
/-- COLD_FRAME_WATCH_TEST (15 R521, R522; 13 R462): a failed check is reported; copies that are due are rewritten at the next test. -/
def execColdFrameWatchTest (seen : Bool) (s : State) : Host.Outcome State Fault Refusal := .next (happen (doColdFrameWatchTest seen) s)

/-! ### Fabric, lanes, ring engines -/

def State.hopOf (s : State) (hop : Nat) : HopSt := tget {} s.units.hops hop
def hopPut (hop : Nat) (x : HopSt) (s : State) : State := unitsOn (fun u => { u with hops := tput {} u.hops hop x }) s
/-- A path of a hop is retired, and its traffic moves to the second path (01 R41). -/
def pathRetire (hop : Nat) (s : State) : State := unitOnce 661 2 0 hop (hopPut hop { second := true } s)
/-- A failed word is sent again and recorded; the third of three consecutive words retires the path. -/
def doFabricCheckFail (w : HopWord) (s : State) : State :=
  let x := s.hopOf w.hop
  let n := if x.fails ≠ 0 ∧ w.word = x.latest + 1 then x.fails + 1 else 1
  let s := unitOnce 661 1 0 w.hop (hopPut w.hop { x with fails := n, latest := w.word } s)
  if 3 ≤ n ∧ !x.second then pathRetire w.hop s else s
/-- FABRIC_CHECK_FAIL (01 R41). A second path has no twin left: its failures are recorded and counted, and it is not retired
(DESIGN CHOICE, notes/assumptions/27.md). -/
def execFabricCheckFail (w : HopWord) (s : State) : Host.Outcome State Fault Refusal := .next (happen (doFabricCheckFail w) s)
def doFabricHandshakeTimeout (hop : Nat) (s : State) : State := if (s.hopOf hop).second then s else pathRetire hop s
/-- FABRIC_HANDSHAKE_TIMEOUT (01 R41). The manual does not say what a timeout of the second path does: nothing (DESIGN CHOICE,
notes/assumptions/27.md). -/
def execFabricHandshakeTimeout (hop : Nat) (s : State) : Host.Outcome State Fault Refusal := .next (happen (doFabricHandshakeTimeout hop) s)

def doLaneFail (b : Bed) (lane : Nat) (s : State) : State :=
  let l := (s.bed b).lanesLost
  if l.contains lane then s
  else
    let s := s.bedOn b (fun x => { x with lanesLost := x.lanesLost ++ [lane] })
    if l.isEmpty then unitOnce (512 + 8 * b) 1 b lane s else unitOnce (512 + 8 * b + 1) 1 b 0 s
/-- LANE_FAIL (01 R39): the first lane lost moves to the spare, the second isolates the bed. -/
def execLaneFail (b : Bed) (lane : Nat) (s : State) : Host.Outcome State Fault Refusal := .next (happen (doLaneFail b lane) s)

/-- RING_ENGINE_LOST (01 R40; 15 R519). -/
def execRingEngineLost (k : Fin 16) (s : State) : Host.Outcome State Fault Refusal := .next (happen (unitOnce (576 + k) 2 k 0) s)

/-! ### Thermal (15 R518, R519; 11 R402) -/

def doThermalWarning (die : Fin 9) (s : State) : State :=
  if die.val = 8 then unitOnce 659 1 0 0 s
  else
    let s := unitOnce (512 + 8 * die + 6) 1 die 0 (s.bedOn die (fun x => { x with warm := true }))
    forEach (portsOf die) (fun p s => sendAlert p (2 ^ 27) s) s
/-- THERMAL_WARNING (15 R518; 11 R402): beds 0 – 7, and the core die as 8. -/
def execThermalWarning (die : Fin 9) (s : State) : Host.Outcome State Fault Refusal := .next (happen (doThermalWarning die) s)
def doThermalShutdown (die : Fin 9) (s : State) : State :=
  if die.val = 8 then unitFault { src := 659, cause := 2 } true s else unitFault { src := 512 + 8 * die + 6, cause := 2, unit := die } true s
/-- THERMAL_SHUTDOWN (15 R518, R519). -/
def execThermalShutdown (die : Fin 9) (s : State) : Host.Outcome State Fault Refusal := .next (happen (doThermalShutdown die) s)
/-- THERMAL_COOLED (15 R518, R519). -/
def execThermalCooled (die : Fin 9) (s : State) : Host.Outcome State Fault Refusal := .next (happen (thermalEnd die) s)

end Sys2Proof.Machine
end

