-- ==== Sys2Proof/Machine/Dispatcher.lean ====
section
/-! DEFINITION. The dispatcher's rows (14 R493 – R503). -/

namespace Sys2Proof.Machine

open Sys2Proof

def doDispatcherSourceAssert (n : Nat) (entering : Option Proc) (s : State) : State :=
  let s := dspAssert n s
  match entering with
  | some pr => dspRetarget pr.val n s
  | none => s
/-- DISPATCHER_SOURCE_ASSERT (14 R496, R500, R502): a source asserts; `entering` is a processor that is entering a handler. -/
def execDispatcherSourceAssert (n : Dsp) (entering : Option Proc) (s : State) : Host.Outcome State Fault Refusal :=
  .next (doDispatcherSourceAssert n.val entering s)

/-- DISPATCHER_CLAIM (14 R495, R496, R503). -/
def execDispatcherClaim (pr : Proc) (s : State) : Host.Outcome State Fault Refusal := .next (dspClaim pr.val s).2

/-- The EOI of the top of a stack: the pop, the level source that is still asserted, VANISHED, then tail-chaining (14 R497, R499,
R501). -/
def eoiTop (pr n : Nat) (stillHigh seenHigh : Bool) (s : State) : State :=
  let s := s.procOn (procOf pr) (fun x => { x with stack := x.stack.tail })
  let s := s.dspSrcOn n (fun d => { d with inService := false })
  let s := if dspLevel n && !seenHigh then s.rsAdd 0x144000 16 8 1 else s
  let s := if dspLevel n && stillHigh then dspPend n s else s
  (dspClaim pr s).2
def doDispatcherEoi (pr n : Nat) (stillHigh seenHigh : Bool) (s : State) : State :=
  match (s.proc (procOf pr)).stack with
  | [] => s.rsAdd 0x144000 0 8 1
  | (m, _) :: _ =>
    if n = 4095 then s.rsAdd 0x144000 0 8 1
    else if n = m then eoiTop pr n stillHigh seenHigh s
    else unitOnce 639 1 0 pr (s.rsAdd 0x144000 8 8 1)
/-- DISPATCHER_EOI (14 R497, R499, R501, R503). -/
def execDispatcherEoi (pr : Proc) (n : BitVec 12) (stillHigh seenHigh : Bool) (s : State) : Host.Outcome State Fault Refusal :=
  .next (happen (doDispatcherEoi pr.val n.toNat stillHigh seenHigh) s)

/-- Sources that a group holds (14 R502). -/
def State.heldIn (s : State) (g : Nat) : List Nat := (s.dsp.srcs.filter (fun x => x.2.group == g && x.2.held)).map (·.1)
def doHoldoffTimerExpire (g : Nat) (s : State) : State :=
  let l := s.heldIn g
  if !(s.holdoff g).running then s
  else if l.isEmpty then s.holdoffOn g (fun h => { h with running := false })
  else forEach l (fun n s => s.dspSrcOn n (fun d => { d with held := false })) s
/-- HOLDOFF_TIMER_EXPIRE (14 R502). -/
def execHoldoffTimerExpire (g : Fin 256) (s : State) : Host.Outcome State Fault Refusal := .next (doHoldoffTimerExpire g.val s)

/-- DISPATCHER_STACK_MISMATCH (14 R498; 15 R518, R522): INFO is the processor. -/
def execDispatcherStackMismatch (pr : Proc) (s : State) : Host.Outcome State Fault Refusal := .next (happen (unitOnce 638 1 0 pr.val) s)

end Sys2Proof.Machine
end

