-- ==== Sys2Proof/Machine/Guests.lean ====
section
/-! DEFINITION. Happenings of the device role: presence, bus resets, SETUP packets, tokens, packets, handshakes, suspend and
departure (09 R315, R319 – R336). -/

namespace Sys2Proof.Machine

open Sys2Proof

/-- Key of a guest's endpoint. -/
def State.guestKey (s : State) (p e : Nat) : Nat := epKey (s.guest p).owner (s.guest p).bell e 0
/-- The guest stands on the bus: presented, neither in reset nor suspended, its port's function exists (03 R103), its bed is not
under isolation (R334), and REFCLK25 runs (17 R576). -/
def State.guestServes (s : State) (p : Nat) : Bool := let g := s.guest p; s.sup.refclk && !(s.bed (bedOf p)).isolating && s.fnExists (s.portFunc p) && g.st != .free && g.present && !g.resetting && !g.suspended
def State.guestOut (s : State) (p : Nat) (b : BusOut) : State := s.emit (.bus p (s.guest p).side b)

/-! ### Presence and bus resets -/

def doGuestPresent (p : Port) (s : State) : State :=
  let g := s.guest p
  if g.st == .ready && !g.present && g.connectReq && (s.link p).device && s.fnExists (s.portFunc p) then guestBump p (s.guestOn p (fun g => { g with present := true })) else s
/-- GUEST_PRESENT (09 R315; 03 R103): VBUS is present on the port. -/
def execGuestPresent (p : Port) (s : State) : Host.Outcome State Fault Refusal := .next (doGuestPresent p s)

/-- EP0 at a bus reset (09 R331 step 3): the transfer in progress or the answer transfer at DEQ ends; EP0 keeps its state. -/
def resetGuestEp0 (k : Nat) (s : State) : State :=
  let e := s.ep k
  let s := if e.inXfer then retireXfer k (stopPost k ccBusReset s)
    else match e.tds with
      | t :: _ => if e.curRd.ans && !e.skip then retireXfer k (xferPost k ccBusReset t.addr (t.len - e.done) t.cookie false false s) else s
      | [] => s
  epBump k (s.epOn k (fun e => {
    e.offWire.ledRevoke 0 with staged := [], rev := none, toggle := false, seq := 0, dataEnd := false, owed := none, begun := false, owesErdy := false }))
def doGuestBusReset (p : Port) (s : State) : State :=
  let g := s.guest p
  if !g.present then s
  else
    let key := slotKey g.owner g.bell
    let s := resetGuestEp0 (s.guestKey p 0) s
    let s := forEach ((s.slotRoots key).filter (fun r => keyEp r != 0)) (fun r s =>
      (guestPause r ccBusReset s).epOn r (fun e => { e with toggle := false, seq := 0, owesErdy := false })) s
    let s := guestAbort p s
    let s := s.guestOn p (fun g => { g with
      dropped := if g.held then min 65535 (g.dropped + 1) else g.dropped
      held := false, setup := 0, newAddr := none, addrSent := false, address := 0, suspended := false, st := .dflt, resetting := true, oldSpeed := g.speed, wakeDriving := false })
    epSettle (s.guestKey p 0) (guestBump p (s.sideOn p g.side (fun x => { x with st := .resetting, l1 := false, ulink := 0 })))
/-- GUEST_BUS_RESET (09 R331 steps 1 – 3). -/
def execGuestBusReset (p : Port) (s : State) : Host.Outcome State Fault Refusal := .next (bundle (.guestBusReset p) (doGuestBusReset p) s)

/-- A speed that a guest can attain (09 R315, R331 step 4). -/
def Guest.attains (g : Guest) (sp : Nat) : Bool := sideOf sp == g.side && decide (sp ≤ g.speedMax) && ((sp == 0) == (g.speedMax == 0))
def doGuestResetEnd (p : Port) (sp : Speed) (s : State) : State :=
  let g := s.guest p
  let v := speedCode sp
  if !g.resetting ∨ !g.attains v then s
  else
    let key := slotKey g.owner g.bell
    let others := (s.slotRoots key).filter (fun r => keyEp r != 0)
    let lost := ((others.flatMap s.epAll).map (fun k => (s.ep k).residual)).sum
    let s := if v = g.oldSpeed then s
      else (forEach others epClose s).guestOn p (fun g => { g with discarded := min 16777215 (g.discarded + lost), ctxCount := 1 })
    let s := s.guestOn p (fun g => { g with speed := v, resetting := false })
    let s := s.epOn (s.guestKey p 0) (fun e => { e with mps := guestMps v })
    let s := s.sideOn p g.side (fun x => { x with st := .enabled, speed := v })
    portEvent p 0x20 v g.side false (guestBump p s)
/-- GUEST_RESET_END (09 R331 steps 4, 5; R318). -/
def execGuestResetEnd (p : Port) (sp : Speed) (s : State) : Host.Outcome State Fault Refusal := .next (bundle (.guestResetEnd p sp) (doGuestResetEnd p sp) s)

/-! ### SETUP packets -/

/-- The new address is taken (09 R315, R325 rule 1). -/
def takeAddress (p a : Nat) (s : State) : State :=
  let s := s.guestOn p (fun g => { g with address := a, st := if a = 0 then .dflt else .addressed, newAddr := none, addrSent := false })
  portEvent p 0x21 a (s.guest p).side false (guestBump p s)
/-- A token other than the status stage's comes after the status answer of SET_ADDRESS drew no handshake: whether it bears the new
address is the external host's, and the command does not carry it: a free value (09 R325 rule 1; notes/assumptions/3.md). -/
def settleAddress (p : Nat) (s : State) : State :=
  match (s.guest p).newAddr with
  | none => s
  | some a =>
    if !(s.guest p).addrSent then s
    else
      let won := Config.freeBit s.free
      let s := { s with free := s.free + 1 }
      if won then takeAddress p a s else s
/-- What came before a SETUP is superseded (09 R326); residual stays, since R264 (07) does not name it. -/
def supersede (p : Nat) (s : State) : State :=
  let k := s.guestKey p 0
  let s := s.guestOn p (fun g => { g with
    dropped := if g.held then min 65535 (g.dropped + 1) else g.dropped, held := false, setup := 0, newAddr := none, addrSent := false, stallSetup := false })
  let s := s.epOn k (fun e => { e.offWire.ledRevoke 0 with
    stallAll := false, staged := [], rev := none, dataEnd := false, owed := none, begun := false, done := 0, moved := 0,
    skip := e.skip || e.curRd.ans, bad := if e.curRd.ans && e.tds.isEmpty then none else e.bad, st := if e.st = .halted then (if e.cur.count = e.prod then .idle else .running) else e.st })
  epBump k s
/-- A SETUP packet's fields. -/
def setupIsAddress (x : Nat) : Bool := bits x 0 16 == 0x0500 && bits x 32 32 == 0
def doGuestSetupReceived (p : Port) (pkt : BitVec 64) (s : State) : State :=
  if !s.guestServes p then s
  else
    let s := supersede p (settleAddress p s)
    let x := pkt.toNat
    let v := bits x 16 16
    let s := if setupIsAddress x then
        (if decide (v ≤ 127) && (s.guest p).st != .ready then s.guestOn p (fun g => { g with newAddr := some v }) else s.guestOn p (fun g => { g with stallSetup := true }))
      else s.guestOn p (fun g => { g with held := true, setup := x })
    epSettle (s.guestKey p 0) ((guestBump p (tallyAdd p true 8 s)).guestOut p (.ack 0))
/-- GUEST_SETUP_RECEIVED (09 R325, R326): a SETUP is acknowledged whatever the event rings hold. -/
def execGuestSetupReceived (p : Port) (pkt : BitVec 64) (s : State) : Host.Outcome State Fault Refusal :=
  .next (happen (doGuestSetupReceived p pkt) s)

def doGuestSetupDeliver (p : Port) (s : State) : State :=
  let g := s.guest p
  let k := s.guestKey p 0
  let e := s.ep k
  match e.tds with
  | [] => s
  | t :: _ =>
    if g.held && t.ty == 2 && !e.skip && e.st == .running then
      let s := s.emit (.dataWrite g.owner t.buf (s.cfgFn g.owner).relaxed (leBytes 8 g.setup))
      let s := s.epOn k (fun e => { e with setup := g.setup, toggle := true, seq := 0, moved := 0, done := 0 })
      let s := s.guestOn p (fun g => { g with held := false, setup := 0 })
      epSettle k (guestBump p (epBump k (completeHead k 0 s)))
    else s
/-- GUEST_SETUP_DELIVER (09 R324, R325 rule 3). -/
def execGuestSetupDeliver (p : Port) (s : State) : Host.Outcome State Fault Refusal := .next (bundle (.guestSetupDeliver p) (doGuestSetupDeliver p) s)

/-! ### Tokens -/

/-- No data and no credit: NAK, or NRDY on SuperSpeed, which an ERDY follows (09 R319, R330). -/
def guestWait (p k : Nat) (s : State) : State :=
  if s.isSs k then (s.epOn k (fun e => { e with owesErdy := true })).guestOut p (.nrdy (keyEp k)) else s.guestOut p (.nak (keyEp k))
/-- The endpoint answers STALL: Halted, or a protocol stall of EP0 (09 R319, R325 rule 2, R327). -/
def State.guestStalls (s : State) (p k : Nat) : Bool := (s.ep k).st == .halted || (keyEp k == 0 && ((s.ep k).stallAll || (s.guest p).stallSetup))
/-- The endpoint is served: Running, with nothing that holds it back; while a bundle of it waits for room, the answer is NAK or NRDY (04 R150). -/
def State.guestRuns (s : State) (p k : Nat) : Bool :=
  let e := s.ep k
  e.st == .running && !e.skip && e.rev.isNone && !e.stopping && !e.dataEnd && !s.epWaits (epRoot k) && !(keyEp k == 0 && (s.guest p).held)
/-- A packet of a guest goes out. -/
def guestSend (p k : Nat) (bytes : List Byte) (tog : Nat) (s : State) : State :=
  (s.epOn k (fun e => { e with wire := true, begun := true })).guestOut p (.data (keyEp k) tog bytes)
def guestTokenIn (p k : Nat) (s : State) : State :=
  let e := s.ep k
  if s.guestStalls p k then s.guestOut p (.stall (keyEp k))
  else if keyEp k = 0 ∧ (s.guest p).newAddr.isSome then (s.guestOn p (fun g => { g with addrSent := true })).guestOut p (.data 0 1 [])
  else if e.isIso then
    match e.tds, e.staged with
    | _ :: _, pk :: _ =>
      if s.guestRuns p k then txAccepted k ((isoEmptyPost k s).guestOut p (.data (keyEp k) 0 pk)) else (s.epOn k (fun e => { e with empty := e.empty + 1 })).guestOut p (.data (keyEp k) 0 [])
    | _, _ => (s.epOn k (fun e => { e with empty := e.empty + 1 })).guestOut p (.data (keyEp k) 0 [])
  else if !s.guestRuns p k then guestWait p k s
  else
    match e.tds, e.staged with
    | t :: _, pk :: _ => if t.ty = 4 then guestWait p k s else guestSend p k pk (s.nextTog k) s
    | t :: _, [] => if t.ty = 4 ∧ t.dirIn then guestSend p k [] (if s.isSs k then 0 else 1) s else guestWait p k s
    | [], _ => guestWait p k s
def doGuestToken (p : Port) (ep : Fin 31) (t : TokenKind) (s : State) : State :=
  let k := s.guestKey p ep
  let e := s.ep k
  if !s.guestServes p then s
  else match t with
    | .tokLpm => if (s.guest p).side = .ss then s
        else if s.devL1 p then (s.sideOn p .usb2 (fun x => { x with l1 := true })).emit (.bus p .usb2 .lpmAck) else s.emit (.bus p .usb2 .lpmNyet)
    | .tokPing =>
      if e.st == .closed || (s.guest p).speed != 2 || e.periodic || (e.ty != 1 && !e.rx) then s
      else
        let s := if keyEp k = 0 then settleAddress p s else s
        if s.guestStalls p k then s.guestOut p (.stall (keyEp k))
        else if s.guestRuns p k && !(s.ep k).credits.isEmpty then s.guestOut p (.ack (keyEp k))
        else s.guestOut p (.nak (keyEp k))
    | .tokIn => if e.st == .closed || (e.ty != 1 && e.rx) then s else guestTokenIn p k s
/-- The answer while the bundle of an endpoint finds no room (01 R34; 04 R150): NAK or NRDY, and an empty isochronous packet. -/
def guestHold (p : Port) (ep : Fin 31) (sends : Bool) (s : State) : State :=
  let k := s.guestKey p ep
  if !s.guestServes p || (s.ep k).st == .closed then s
  else if !(s.ep k).isIso then guestWait p k s
  else
    let s := s.epOn k (fun e => { e with empty := e.empty + 1 })
    if sends then s.guestOut p (.data (keyEp k) 0 []) else s
/-- GUEST_TOKEN (09 R312, R319, R325, R327 – R330). -/
def execGuestToken (p : Port) (ep : Fin 31) (k : TokenKind) (s : State) : Host.Outcome State Fault Refusal :=
  .next (bundleElse (doGuestToken p ep k) (guestHold p ep true) s)

/-! ### Packets and handshakes -/

/-- A packet is taken against a credit, and answered (09 R328). -/
def guestTake (p k : Nat) (bytes : List Byte) (s : State) : State :=
  let s := commitPacket k bytes (s.epOn k (fun e => { e with begun := e.begun || !e.tds.isEmpty }))
  s.guestOut p (if (s.guest p).speed == 2 && !(s.ep k).periodic && (s.ep k).credits.isEmpty then .nyet (keyEp k) else .ack (keyEp k))
/-- An isochronous packet: none is answered; one without a descriptor is discarded and counted (09 R328). -/
def guestTakeIso (p k : Nat) (bytes : List Byte) (s : State) : State :=
  let e := s.ep k
  if e.tds.isEmpty ∨ !s.guestRuns p k ∨ e.credits.isEmpty then s.epOn k (fun e => { e with empty := e.empty + 1 })
  else
    let s := commitPacket k bytes (isoEmptyPost k s)
    s.epOn k (fun e => { e with
      isoGot := e.isoGot + 1
      isoLast := e.isoLast || decide (bytes.length < e.mps) || decide ((e.burst + 1) * (e.mult + 1) ≤ e.isoGot + 1) })
def doGuestOutPacket (p : Port) (ep : Fin 31) (tog : BitVec 5) (bytes : List Byte) (s : State) : State :=
  let k := s.guestKey p ep
  let e := s.ep k
  if !s.guestServes p || e.st == .closed || (e.ty != 1 && !e.rx) || decide (e.mps < bytes.length) then s
  else if e.isIso then guestTakeIso p k bytes s
  else
    let s := if keyEp k = 0 then settleAddress p s else s
    if s.guestStalls p k then s.guestOut p (.stall (keyEp k))
    else
      let status := match e.tds with | t :: _ => e.ty == 1 && t.ty == 4 | [] => false
      if !status && tog.toNat ≠ s.nextTog k then s.guestOut p (.ack (keyEp k))
      else if !s.guestRuns p k && e.rev.isNone then guestWait p k s
      else match e.tds with
        | t :: _ =>
          if e.ty = 1 ∧ t.ty = 4 then
            if t.dirIn then
              (if bytes.isEmpty then guestWait p k s
               else if tog.toNat ≠ s.nextTog k then s.guestOut p (.ack (keyEp k)) else afterXact k (epError k ccBabble s))
            else if bytes.isEmpty then afterXact k (statusDone k (s.guestOut p (.ack (keyEp k))))
            else guestWait p k s
          else if e.credits.isEmpty then guestWait p k s
          else if e.rev.isSome then
            let (won, s) := raceAck k s
            afterXact k (if won then guestTake p k bytes s else guestWait p k (s.epOn k (fun e => e.ledRevoke (e.credits.length - 1))))
          else guestTake p k bytes s
        | [] =>
          if e.credits.isEmpty then guestWait p k s
          else if e.rev.isSome then
            let (won, s) := raceAck k s
            afterXact k (if won then guestTake p k bytes s else guestWait p k (s.epOn k (fun e => e.ledRevoke (e.credits.length - 1))))
          else guestTake p k bytes s
/-- GUEST_OUT_PACKET (09 R319, R327, R328; 05 R191). -/
def execGuestOutPacket (p : Port) (ep : Fin 31) (tog : BitVec 5) (bytes : List Byte) (s : State) : Host.Outcome State Fault Refusal :=
  .next (bundleElse (doGuestOutPacket p ep tog bytes) (guestHold p ep false) s)

def doGuestInHandshake (p : Port) (ep : Fin 31) (acked : Bool) (s : State) : State :=
  let k := s.guestKey p ep
  let g := s.guest p
  if !s.guestServes p then s
  else match keyEp k == 0 && g.addrSent, g.newAddr with
    | true, some a => if acked then takeAddress p a s else s
    | _, _ =>
      if !(s.ep k).wire then s
      else if acked then afterXact k (txAccepted k s)
      else afterXact k (s.epOn k (fun e => { e with wire := false }))
/-- GUEST_IN_HANDSHAKE (09 R325, R329). -/
def execGuestInHandshake (p : Port) (ep : Fin 31) (acked : Bool) (s : State) : Host.Outcome State Fault Refusal :=
  .next (epBundle (s.guestKey p ep) (.guestInHandshake p ep acked) (doGuestInHandshake p ep acked) s)

/-! ### Suspend, resume, departure -/

def doGuestSuspendDetect (p : Port) (s : State) : State :=
  let g := s.guest p
  if !s.guestServes p ∨ g.st = .ready then s
  else
    let s := s.sideOn p g.side (fun x => { x with st := .suspended, l1 := false, ulink := if g.side = .ss then 3 else 0 })
    portEvent p 0x22 0 g.side false (guestBump p (s.guestOn p (fun g => { g with suspended := true })))
/-- GUEST_SUSPEND_DETECT (09 R332). -/
def execGuestSuspendDetect (p : Port) (s : State) : Host.Outcome State Fault Refusal := .next (bundle (.guestSuspendDetect p) (doGuestSuspendDetect p) s)
def doGuestResumeDetect (p : Port) (s : State) : State :=
  let g := s.guest p
  if !g.suspended then s
  else
    let s := s.sideOn p g.side (fun x => { x with st := .enabled, ulink := 0 })
    let s := guestBump p (s.guestOn p (fun g => { g with suspended := false, wakeDriving := false }))
    match s.opFind (guestWaking p) with
    | none => portEvent p 0x23 0 g.side false s
    | some o =>
      let s := if g.side = .ss then s.emit (.bus p .ss (.functionWake g.wakeIface)) else s
      cmdDone o.h 0x20 ccSuccess 0 p (opDrop (guestWaking p) (portEvent p 0x23 1 g.side (!g.wakeDone) s))
/-- GUEST_RESUME_DETECT (09 R332, R335, R336). -/
def execGuestResumeDetect (p : Port) (s : State) : Host.Outcome State Fault Refusal := .next (bundle (.guestResumeDetect p) (doGuestResumeDetect p) s)

/-- VALUE of GUEST-HOST-GONE (09 R333). -/
def goneCode : GoneCause → Nat
  | .disconnect => 1 | .vbus => 2 | .cc => 3 | .ssLink => 4 | .role => 5
def doGuestHostGone (p : Port) (cause : GoneCause) (s : State) : State := guestGone p (goneCode cause) s
/-- GUEST_HOST_GONE (09 R315, R333). -/
def execGuestHostGone (p : Port) (cause : GoneCause) (s : State) : Host.Outcome State Fault Refusal :=
  .next (bundle (.guestHostGone p cause) (doGuestHostGone p cause) s)
def doGuestSsLinkTimeout (p : Port) (s : State) : State := if (s.guest p).side = .ss then guestGone p 4 s else s
/-- GUEST_SS_LINK_TIMEOUT (09 R315, R333). -/
def execGuestSsLinkTimeout (p : Port) (s : State) : Host.Outcome State Fault Refusal := .next (bundle (.guestSsLinkTimeout p) (doGuestSsLinkTimeout p) s)

end Sys2Proof.Machine
end

