-- ==== Sys2Proof/Machine/Sowing.lean ====
section
/-! DEFINITION. The rows of sowing (02 R51 – R65, R72, R73; 13 R443). -/

namespace Sys2Proof.Machine

open Sys2Proof

/-! ### The loader ring -/

/-- LDR_PROD_WRITE (02 R52): LDR_PROD is an RWL register of the boot block. -/
def execLdrProdWrite (w : Word) (s : State) : Host.Outcome State Fault Refusal := .next (happen (regWrite 0x100C w.toNat) s)
/-- LDR_RESTART (02 R51, R60): a write of LDR_CTRL; RESTART is its bit 1. -/
def execLdrRestart (w : Word) (s : State) : Host.Outcome State Fault Refusal := .next (happen (regWrite 0x1008 w.toNat) s)
/-- A loader descriptor with a bad length or alignment (02 R51, R53). -/
def descriptorBad (addr len : Nat) (last : Bool) : Bool :=
  addr % 64 != 0 || decide (16777216 < len) || len == 0 || (!last && len % 64 != 0)
def doLoaderDescriptorFetched (addr len tag : Nat) (s : State) : State :=
  if !s.loaderRuns || s.boot.piece.isSome then s
  else
    let s := loaderGo s
    if descriptorBad addr len (bit tag 31) then refuse 0x0D s
    else bootOn (fun b => { b with piece := some (len, bit tag 31) }) s
/-- LOADER_DESCRIPTOR_FETCHED (02 R51 – R53): the piece is requested. -/
def execLoaderDescriptorFetched (addr : BitVec 64) (len tag : Word) (s : State) : Host.Outcome State Fault Refusal :=
  .next (happen (doLoaderDescriptorFetched addr.toNat len.toNat tag.toNat) s)
def doImagePieceReceived (bytes : List Byte) (s : State) : State :=
  match s.boot.piece with
  | none => s
  | some (len, last) =>
    bootOn (fun b => { b with
      img := b.img ++ bytes.take len, cons := (b.cons + 1) % two32, piece := none, gotLast := last, st := if last then .checking else b.st }) s
/-- IMAGE_PIECE_RECEIVED (02 R51, R52, R65). -/
def execImagePieceReceived (bytes : List Byte) (s : State) : Host.Outcome State Fault Refusal := .next (doImagePieceReceived bytes s)
def doLoaderReadError (e : ReadErr) (s : State) : State := if s.boot.piece.isSome || s.loaderRuns then refuse 0x0D (aerLog 0 e s) else s
/-- LOADER_READ_ERROR (02 R53; 03 R91): the PF's AER status logs the error. -/
def execLoaderReadError (e : ReadErr) (s : State) : Host.Outcome State Fault Refusal := .next (happen (doLoaderReadError e) s)

/-! ### The checks -/

def doImageCheckDone (s : State) : State :=
  if s.boot.st = .checking then
    match imageFault s.otp s.boot.img with
    | some cause => refuse cause s
    | none => bootOn (fun b => { b with st := .starting, checked := some (imageInfo b.img), running := none, img := [] }) s
  else s
/-- IMAGE_CHECK_DONE (02 R58, R60): checks 1 – 12. -/
def execImageCheckDone (s : State) : Host.Outcome State Fault Refusal := .next (happen doImageCheckDone s)
/-- The VDD_CORE target of START_MODE (13 R443). -/
def startMv (i : ImageInfo) : Nat := (modeOf (bits (modeCfgOf ((recordsOf i.cfg).getD [])) 0 2)).mv
def doKeeperConfigCheck (s : State) : State :=
  if s.boot.st = .starting ∧ s.boot.running = none then
    match s.boot.checked with
    | none => s
    | some i => if configBad i then refuse 0x0C s else voutTo (startMv i) (bootOn (fun b => { b with running := some i }) s)
  else s
/-- KEEPER_CONFIG_CHECK (02 R61, R63; 13 R443): check 13, and the VDD_CORE target of START_MODE. -/
def execKeeperConfigCheck (s : State) : Host.Outcome State Fault Refusal := .next (happen doKeeperConfigCheck s)

/-! ### The end of sowing -/

def doTenderStartupDone (s : State) : State :=
  match s.boot.checked, s.boot.running with
  | some i, some _ => bootOn (fun b => { b with checked := none }) (applyConfig i s)
  | _, _ => s
/-- TENDER_STARTUP_DONE (02 R64, R65 steps 4 and 5). -/
def execTenderStartupDone (s : State) : Host.Outcome State Fault Refusal := .next (doTenderStartupDone s)
/-- VDD_CORE has settled at its target (13 R443, R445), or the part runs at the start voltage (17 R575). -/
def State.coreSettled (s : State) : Bool :=
  !s.sup.voutLinear || decide (max s.mode.vout s.mode.voutTarget - min s.mode.vout s.mode.voutTarget ≤ 10)
def doSowingComplete (s : State) : State :=
  if s.boot.st = .starting ∧ s.boot.checked = none ∧ s.coreSettled then
    match s.boot.running with
    | some i => serve i s
    | none => s
  else s
/-- SOWING_COMPLETE (02 R65; 13 R443). -/
def execSowingComplete (s : State) : Host.Outcome State Fault Refusal := .next (happen doSowingComplete s)
def doPersistHoldExpire (p : Nat) (s : State) : State := if s.persisting p && !s.served then persistEnd p 4 s else s
/-- PERSIST_HOLD_EXPIRE (02 R72). -/
def execPersistHoldExpire (p : Port) (s : State) : Host.Outcome State Fault Refusal := .next (happen (doPersistHoldExpire p) s)

end Sys2Proof.Machine
end

