-- ==== Sys2Proof/Machine/Lifecycle.lean ====
section
/-! DEFINITION. The LIFECYCLE command and its commit (02 R78 – R86). -/

namespace Sys2Proof.Machine

open Sys2Proof

/-! ### The token (02 R79) -/

def tokKind (t : List Byte) : Nat := leAt t 4 1
/-- SIGNER_SLOT. -/
def tokSlot (t : List Byte) : Nat := leAt t 5 1
/-- SIGNER_VENDOR: 1 a vendor slot, 0 a customer slot. -/
def tokVendor (t : List Byte) : Bool := bit (leAt t 6 1) 0
def tokPayload (t : List Byte) : List Byte := slice t 0x28 192
def tokSkey (t : List Byte) : List Byte := slice t 0xE8 96
def zeros (bs : List Byte) : Bool := bs.all (· == 0)
/-- One of the four key hashes of a PLANT payload (02 R80). -/
def plantEntry (t : List Byte) (i : Nat) : BitVec 384 := hashAt (tokPayload t) (48 * i)
/-- The hashes a PLANT enrols: the entries that are used. -/
def plantHashes (t : List Byte) : List (BitVec 384) := ([0, 1, 2, 3].map (plantEntry t)).filter (· != 0)
/-- The slot or floor of a REVOKE or RAISE-FLOOR payload: its byte 0. -/
def tokTarget (t : List Byte) : Nat := leAt t 0x28 1

/-! ### TOKEN-INVALID (02 R79, R80, R82) -/

/-- A key slot that OTP holds: any vendor slot, or an enrolled customer slot. -/
def Otp.slotExists (o : Otp) (vendor : Bool) (n : Nat) : Bool := if vendor then decide (n < 4) else decide (n < o.custHash.length)
def payloadBad (o : Otp) (k : LcKind) (t : List Byte) : Bool :=
  match k with
  | .plant => (plantHashes t).isEmpty || !(plantHashes t).isPrefixOf ([0, 1, 2, 3].map (plantEntry t))
  | .uproot => !zeros (tokPayload t)
  | .ret => false
  | .revoke => !zeros ((tokPayload t).drop 1) || !o.slotExists (tokVendor t) (tokTarget t)
  | .raiseFloor => !zeros ((tokPayload t).drop 1) || decide (64 < tokTarget t)
def tokenBad (o : Otp) (k : LcKind) (t : List Byte) : Bool :=
  leAt t 0 4 != 0x4C435431 || tokKind t != k.code || leAt t 6 2 / 2 != 0 || leAt t 8 16 != o.uid.toNat || !zeros (slice t 0x1A8 88) || payloadBad o k t

/-! ### SIGNATURE-INVALID (02 R80 – R82) -/

/-- SIG over bytes 0x000 – 0x147. -/
def sigOk (t : List Byte) : Bool := ecdsaVerify (tokSkey t) (sha384 (slice t 0 0x148)) (slice t 0x148 96)
/-- The consent of a RETURN: an enrolled, unrevoked customer key has signed UID, NONCE and KIND. -/
def consentOk (o : Otp) (t : List Byte) : Bool :=
  (List.range 8).any (fun i => keyOk o.custHash o.custRevoked.toNat i (slice (tokPayload t) 0 96))
    && ecdsaVerify (slice (tokPayload t) 0 96) (sha384 (slice t 8 32 ++ slice t 4 1)) (slice (tokPayload t) 96 96)
def signatureBad (o : Otp) (k : LcKind) (t : List Byte) : Bool :=
  match k with
  | .plant => sha384 (tokSkey t) != plantEntry t 0 || (tokSlot t != o.custHash.length && decide (o.custHash.length < 8)) || !sigOk t
  | _ =>
    !(if tokVendor t then keyOk o.vendHash o.vendRevoked.toNat (tokSlot t) (tokSkey t) else keyOk o.custHash o.custRevoked.toNat (tokSlot t) (tokSkey t))
      || !sigOk t || (k == .ret && !consentOk o t)

/-! ### STATE-REFUSED, OTP-EXHAUSTED, BUSY (02 R80, R82) -/

/-- KIND, lifecycle state and signer go together (02 R80). -/
def permitted (life : Life) (k : LcKind) (vendor : Bool) : Bool :=
  match k, life with
  | .plant, .seedling => !vendor
  | .uproot, .seedling | .raiseFloor, .seedling => vendor
  | .uproot, .planted | .raiseFloor, .planted => !vendor
  | .ret, .planted => vendor
  | .revoke, .seedling | .revoke, .planted => true
  | _, _ => false
def exhausted (o : Otp) (k : LcKind) (t : List Byte) : Bool :=
  match k with
  | .plant => decide (8 < o.custHash.length + (plantHashes t).length)
  | .raiseFloor => decide (64 ≤ o.floor)
  | _ => false
/-- Unrevoked slots of a kind, one slot apart. -/
def Otp.slotsLeft (o : Otp) (vendor : Bool) (but : Nat) : Nat :=
  if vendor then ((List.range 4).filter (fun i => !o.vendRevoked.getLsbD i && i != but)).length
  else ((List.range o.custHash.length).filter (fun i => !o.custRevoked.getLsbD i && i != but)).length
/-- The refusal conditions of R80. -/
def conditionMet (svn : Nat) (o : Otp) (k : LcKind) (t : List Byte) : Bool :=
  match k with
  | .revoke => tokTarget t == tokSlot t || o.slotsLeft (tokVendor t) (tokTarget t) == 0
  | .raiseFloor => decide (svn < tokTarget t) || decide (tokTarget t ≤ o.floor)
  | _ => false
/-- SAFE-HOLD, a keeper swap or rotation in progress, a test step that executes, or a commit in progress (notes/assumptions/36.md). -/
def State.lifecycleBusy (s : State) : Bool :=
  s.flt.safeHold || s.eng.swapping || s.eng.rot.isSome || s.eng.tests.any (·.runs) || s.units.fallowOn || s.otp.mark.isSome
/-- The result of a token, in the order of R82. -/
def tokenCheck (k : LcKind) (t : List Byte) (s : State) : Option (Nat × Nat) :=
  let o := s.otp
  (firstErr [(tokenBad o k t, ccToken), (leAt t 0x18 16 != (Config.nonce s.boot.nonceDraw).toNat, ccNonce), (signatureBad o k t, ccSig),
    (!permitted o.life k (tokVendor t), ccState), (exhausted o k t, ccOtp), (conditionMet s.eng.svn o k t, ccState), (s.lifecycleBusy, ccBusy)]).map (fun c => (c, 0))

/-! ### The command (02 R83) -/

/-- The pending mark of an accepted token. -/
def markOf (k : LcKind) (t : List Byte) : LcMark :=
  match k with
  | .plant => { kind := k, hashes := plantHashes t }
  | .revoke => { kind := k, vendor := tokVendor t, target := tokTarget t }
  | .raiseFloor => { kind := k, target := tokTarget t }
  | _ => { kind := k }
/-- Steps 1 – 4 of R83. -/
def lifecycleAccept (h : CmdHdr) (k : LcKind) (t : List Byte) (s : State) : State :=
  let s := almEvent 5 1 k.code 0 { s with otp := { s.otp with mark := some (markOf k t) } }
  let s := cmdDone h 0x35 ccSuccess 0 0 s
  if k.moves then forEach ports portSafe s else s
/-- LIFECYCLE: a token that is not named as R79 asks is malformed, since R82 gives no other result (notes/assumptions/36.md); its checks, its effect, and a new nonce whatever the result (02 R78). -/
def lifecycle (c : Instr) (h : CmdHdr) (q : Params) (k : LcKind) (t : List Byte) (s : State) : State :=
  command c h [] (fun s =>
    bootOn (fun b => { b with nonceDraw := b.nonceDraw + 1 })
      (if p0 q % 64 ≠ 0 ∨ p1 q ≠ 0 ∨ p2 q ≠ 0 then cmdDone h 0x35 ccToken 0 0 s
       else if h.fn.val ≠ 0 then cmdDone h 0x35 ccState 0 0 s
       else match tokenCheck k t s with
         | some e => cmdDone h 0x35 e.1 e.2 0 s
         | none => lifecycleAccept h k t s)) s

def doLifecyclePlant (c : Instr) (h : CmdHdr) (q : Params) (tok : List Byte) (s : State) : State := lifecycle c h q .plant tok s
/-- LIFECYCLE PLANT (02 R80, R81). -/
def execLifecyclePlant (h : CmdHdr) (q : Params) (tok : List Byte) (s : State) : Host.Outcome State Fault Refusal := .next (doLifecyclePlant (.lifecyclePlant h q tok) h q tok s)
def doLifecycleUproot (c : Instr) (h : CmdHdr) (q : Params) (tok : List Byte) (s : State) : State := lifecycle c h q .uproot tok s
/-- LIFECYCLE UPROOT (02 R80, R85). -/
def execLifecycleUproot (h : CmdHdr) (q : Params) (tok : List Byte) (s : State) : Host.Outcome State Fault Refusal := .next (doLifecycleUproot (.lifecycleUproot h q tok) h q tok s)
def doLifecycleReturn (c : Instr) (h : CmdHdr) (q : Params) (tok : List Byte) (s : State) : State := lifecycle c h q .ret tok s
/-- LIFECYCLE RETURN (02 R80, R86). -/
def execLifecycleReturn (h : CmdHdr) (q : Params) (tok : List Byte) (s : State) : Host.Outcome State Fault Refusal := .next (doLifecycleReturn (.lifecycleReturn h q tok) h q tok s)
def doLifecycleRevoke (c : Instr) (h : CmdHdr) (q : Params) (tok : List Byte) (s : State) : State := lifecycle c h q .revoke tok s
/-- LIFECYCLE REVOKE (02 R80). -/
def execLifecycleRevoke (h : CmdHdr) (q : Params) (tok : List Byte) (s : State) : Host.Outcome State Fault Refusal := .next (doLifecycleRevoke (.lifecycleRevoke h q tok) h q tok s)
def doLifecycleRaiseFloor (c : Instr) (h : CmdHdr) (q : Params) (tok : List Byte) (s : State) : State := lifecycle c h q .raiseFloor tok s
/-- LIFECYCLE RAISE-FLOOR (02 R80). -/
def execLifecycleRaiseFloor (h : CmdHdr) (q : Params) (tok : List Byte) (s : State) : Host.Outcome State Fault Refusal := .next (doLifecycleRaiseFloor (.lifecycleRaiseFloor h q tok) h q tok s)
def doLifecycleCommitDone (s : State) : State := if s.inReset then s else lcCommit s
/-- LIFECYCLE_COMMIT_DONE (02 R83 steps 5 – 7, R84). -/
def execLifecycleCommitDone (s : State) : Host.Outcome State Fault Refusal := .next (happen doLifecycleCommitDone s)

end Sys2Proof.Machine
end

