-- ==== Sys2Proof/Machine/Links.lean ====
section
/-! DEFINITION. Happenings on the links of a port in the host role (08 R278 – R302). -/

namespace Sys2Proof.Machine

open Sys2Proof

def doUsb2ConnectDebounce (p : Port) (low : Bool) (s : State) : State :=
  if (s.link p).u2.st ≠ .disconnected ∨ (s.link p).device then s
  else
    let auto := s.autoReset p
    let s := s.sideOn p .usb2 (fun x => { x with st := .attached, speed := if low then 0 else 1, maxSpeed := s.maxSpeed p })
    let s := portEvent p 0x01 0 .usb2 false s
    if auto then driveReset p .usb2 (s.sideOn p .usb2 (fun x => { x with resetBy := .autoReset, warm := false })) else s
/-- USB2_CONNECT_DEBOUNCE (08 R278, R279). -/
def execUsb2ConnectDebounce (p : Port) (low : Bool) (s : State) : Host.Outcome State Fault Refusal := .next (happen (doUsb2ConnectDebounce p low) s)

def doSsTrainingU0 (p : Port) (gen2 : Bool) (s : State) : State :=
  if (s.link p).ss.st ≠ .disconnected ∨ (s.link p).device then s
  else if s.mode.mode = .fallow ∧ 32 ≤ s.ssUp then
    portEvent p 0x09 2 .ss false (s.sideOn p .ss (fun x => { x with st := .withheld, cause := 2 }))
  else
    let s := s.sideOn p .ss (fun x => { x with st := .enabled, speed := reachedSpeed (s.maxSpeed p) .ss (if gen2 then .gen2 else .gen1), trainRun := 0, ulink := 0,
                                               maxSpeed := s.maxSpeed p })
    portEvent p 0x01 0 .ss false (busStart p s)
/-- SS_TRAINING_U0 (08 R278, R284). -/
def execSsTrainingU0 (p : Port) (gen2 : Bool) (s : State) : Host.Outcome State Fault Refusal := .next (happen (doSsTrainingU0 p gen2) s)

def doSsTrainingTimeout (p : Port) (s : State) : State :=
  if (s.link p).ss.st ≠ .disconnected ∨ (s.link p).device then s
  else
    let s := s.rsAdd (portReg p 0x10C) 8 8 1
    let n := (s.link p).ss.trainRun + 1
    if n < 3 then s.sideOn p .ss (fun x => { x with trainRun := n })
    else portEvent p 0x09 1 .ss false (s.sideOn p .ss (fun x => { x with st := .withheld, cause := 1, trainRun := n }))
/-- SS_TRAINING_TIMEOUT (08 R283, R300). -/
def execSsTrainingTimeout (p : Port) (s : State) : Host.Outcome State Fault Refusal := .next (happen (doSsTrainingTimeout p) s)

/-- A detach that the bed declares on a side (08 R278, R285). -/
def sideDetach (p : Nat) (sd : Side) (s : State) : State :=
  let x := ((s.link p).side sd).st
  if (x.holdsDevice || x == .withheld) && !(s.link p).device then dropSide p sd .disconnected s else s
def doUsb2Detach (p : Port) (s : State) : State := sideDetach p .usb2 s
/-- USB2_DETACH (08 R285). -/
def execUsb2Detach (p : Port) (s : State) : Host.Outcome State Fault Refusal := .next (happen (doUsb2Detach p) s)
def doSsDetach (p : Port) (s : State) : State := if s.profile p = .typec then s else sideDetach p .ss s
/-- SS_DETACH (08 R285): on a TYPEC port the CC wire declares it. -/
def execSsDetach (p : Port) (s : State) : Host.Outcome State Fault Refusal := .next (happen (doSsDetach p) s)

def doRemoteWakeDetected (p : Port) (sd : Side) (s : State) : State :=
  let x := (s.link p).side sd
  if (s.link p).device then s
  else match x.st with
    | .suspended => if s.wakeEn p then startResume p sd .remote s else s
    | .resuming => if x.resumeBy = .action ∧ !x.recovering then s.sideOn p sd (fun x => { x with coincident := true }) else s
    | _ => if x.suspending && x.quiesced then s.sideOn p sd (fun x => { x with wakeLatched := true }) else s
/-- REMOTE_WAKE_DETECTED (08 R294 – R296). -/
def execRemoteWakeDetected (p : Port) (sd : Side) (s : State) : Host.Outcome State Fault Refusal := .next (happen (doRemoteWakeDetected p sd) s)

/-- Whether a side has an entry in a window of its bus. -/
def State.sideHasEntry (s : State) (p : Nat) (sd : Side) : Bool :=
  (s.bus p).windows.any (fun w => w.periodic.any (fun x => sideOf (s.epSpeed x.1) == sd) || w.async.any (fun k => sideOf (s.epSpeed k) == sd))
/-- The conditions under which the part enters L1 (08 R289). -/
def State.l1May (s : State) (p : Nat) : Bool :=
  let x := (s.link p).u2
  s.l1En p && x.st == .enabled && (x.speed == 1 || x.speed == 2) && !x.l1 && !x.lpm && !x.lpmBar && !s.sideHasEntry p .usb2
    && (match s.sideSlots p .usb2 with
        | [k] => (s.slot k).route == 0 && !(s.slot k).isHub && (s.slotEps k).all (fun e => !((s.ep e).periodic && ((s.ep e).st == .running || (s.ep e).inStream)))
        | _ => false)
def doL1IdleExpire (p : Port) (s : State) : State :=
  if s.l1May p then (s.sideOn p .usb2 (fun x => { x with lpm := true })).emit (.bus p .usb2 (.lpm (s.besl p) (s.l1Wake p))) else s
/-- L1_IDLE_EXPIRE (08 R289): the LPM transaction is sent. -/
def execL1IdleExpire (p : Port) (s : State) : Host.Outcome State Fault Refusal := .next (happen (doL1IdleExpire p) s)
def doLpmAnswer (p : Port) (a : LpmAns) (s : State) : State :=
  if !(s.link p).u2.lpm then s
  else s.sideOn p .usb2 (fun x => match a with | .ack => { x with lpm := false, l1 := true } | _ => { x with lpm := false, lpmBar := true })
/-- LPM_ANSWER (08 R289). -/
def execLpmAnswer (p : Port) (a : LpmAns) (s : State) : Host.Outcome State Fault Refusal := .next (happen (doLpmAnswer p a) s)
def doL1Exit (p : Port) (byDevice : Bool) (s : State) : State :=
  if (s.link p).u2.l1 && (!byDevice || s.l1Wake p) then s.sideOn p .usb2 (fun x => { x with l1 := false }) else s
/-- L1_EXIT (08 R289): by work handed over, or by the device when L1_WAKE is 1. -/
def execL1Exit (p : Port) (byDevice : Bool) (s : State) : Host.Outcome State Fault Refusal := .next (happen (doL1Exit p byDevice) s)

def doUStateTimerExpire (p : Port) (u2 : Bool) (s : State) : State :=
  let x := (s.link p).ss
  let allowed := if u2 then s.u2Timeout p else s.u1Timeout p
  let goal := if u2 then 2 else 1
  let unserved := (s.bus p).todo.any (fun y => s.isSs y.key) || (s.bus p).turn.any (fun k => s.isSs k && !(s.ep k).tds.isEmpty && !(s.ep (epRoot k)).waiting)
  if x.st = .enabled ∧ !(s.link p).device ∧ allowed ≠ 0 ∧ x.ulink < goal ∧ !unserved then
    (s.sideOn p .ss (fun x => { x with ulink := goal })).emit (.bus p .ss (.uEntry u2))
  else s
/-- U_STATE_TIMER_EXPIRE (08 R290). -/
def execUStateTimerExpire (p : Port) (u2 : Bool) (s : State) : Host.Outcome State Fault Refusal := .next (happen (doUStateTimerExpire p u2) s)
def doU1U2EntryRequest (p : Port) (u2 : Bool) (s : State) : State :=
  let x := (s.link p).ss
  let accept := if (s.link p).device then (if u2 then s.devU2 p else s.devU1 p) else (if u2 then s.u2Timeout p else s.u1Timeout p) != 0
  if x.st ≠ .enabled then s
  else if accept then (s.sideOn p .ss (fun x => { x with ulink := if u2 then 2 else 1 })).emit (.bus p .ss (.uAccept u2))
  else s.emit (.bus p .ss .uReject)
/-- U1_U2_ENTRY_REQUEST (08 R290; 09 R312). -/
def execU1U2EntryRequest (p : Port) (u2 : Bool) (s : State) : Host.Outcome State Fault Refusal := .next (happen (doU1U2EntryRequest p u2) s)

def doSsInactive (p : Port) (s : State) : State :=
  let st := (s.link p).ss.st
  if (s.link p).device then s
  else
    let s := s.rsAdd (portReg p 0x10C) 16 16 1
    if st = .enabled ∨ st = .suspended ∨ st = .resuming then errorSide p .ss 0x08 0 s else s
/-- SS_INACTIVE (08 R278, R300, R302). -/
def execSsInactive (p : Port) (s : State) : Host.Outcome State Fault Refusal := .next (happen (doSsInactive p) s)
def doPortBabble (p : Port) (loss : Bool) (s : State) : State :=
  let st := (s.link p).u2.st
  if (st = .enabled ∨ st = .suspended) ∧ !(s.link p).device then
    errorSide p .usb2 0x07 (if loss then 2 else 1) (s.rsAdd (portReg p 0x10C) 0 8 1)
  else s
/-- PORT_BABBLE (08 R278, R300, R301). -/
def execPortBabble (p : Port) (loss : Bool) (s : State) : Host.Outcome State Fault Refusal := .next (happen (doPortBabble p loss) s)
def doSsRecoveryEntry (p : Port) (s : State) : State := s.rsAdd (portReg p 0x10C) 16 16 1
/-- SS_RECOVERY_ENTRY (08 R300). -/
def execSsRecoveryEntry (p : Port) (s : State) : Host.Outcome State Fault Refusal := .next (happen (doSsRecoveryEntry p) s)

def doDeviceNotificationReceived (p : Port) (k : DevNotif) (s : State) : State :=
  match k with
  | .latencyTolerance => s
  | .functionWake route =>
    let b := (((s.sideSlots p .ss).filter (fun key => (s.slot key).route == route.toNat)).map (· % 16384)).headD 0
    if (s.link p).ss.st = .resuming then s.sideOn p .ss (fun x => { x with wakeVal := b }) else s
/-- DEVICE_NOTIFICATION_RECEIVED (08 R272, R294). -/
def execDeviceNotificationReceived (p : Port) (k : DevNotif) (s : State) : Host.Outcome State Fault Refusal := .next (happen (doDeviceNotificationReceived p k) s)

end Sys2Proof.Machine
end

