-- ==== Sys2Proof/Machine/PowerCmds.lean ====
section
/-! DEFINITION. SET POWER POLICY (12 R439). -/

namespace Sys2Proof.Machine

open Sys2Proof

/-- SOURCE of a SET POWER POLICY: its port, its bed, or 0. -/
def ppDone (h : CmdHdr) (q : Params) (code result : Nat) (s : State) : State := cmdDone h 0x21 code result (ppNum q) s
/-- A SET POWER POLICY: bits that must be 0 and values out of range, then the function, then the effect, whose RESULT is the value replaced. -/
def powerCmd (c : Instr) (h : CmdHdr) (q : Params) (keys : List WaitKey) (bad : Bool) (refused : State → Bool) (old : State → Nat) (act : State → State) (s : State) : State :=
  command c h keys (fun s =>
    match firstErr [(bits (p0 q) 16 48 != 0 || p2 q != 0 || bad, ccParam), (refused s, ccFunction)] with
    | some e => ppDone h q e 0 s
    | none => ppDone h q ccSuccess (old s) (act s)) s

/-- A new limit of a port (11 R380): with FORCE, a contract above it is ended by Hard Reset. -/
def setLimit (p w : Nat) (force : Bool) (s : State) : State :=
  let s := s.pathOn p (fun x => { x with limit := w })
  let s := match (s.pd p).con with
    | some c => if force ∧ w ≠ 0 ∧ w * 1000 < c.mw ∧ (s.tc p).source then hardSend p 1 s else s
    | none => s
  serveWaiting s
def doPortLimit (c : Instr) (h : CmdHdr) (q : Params) (s : State) : State :=
  powerCmd c h q [.port (ppNum q)] (decide (131072 ≤ p1 q) || decide (4000 < p1 q % 65536)) (fun s => !s.powerAllowed h.fn (ppNum q))
    (fun s => (s.path (ppNum q)).limit) (setLimit (ppNum q) (p1 q % 65536) (bit (p1 q) 16)) s
/-- SET POWER POLICY PORT-LIMIT (12 R439). -/
def execPortLimit (h : CmdHdr) (q : Params) (s : State) : Host.Outcome State Fault Refusal := .next (doPortLimit (.portLimit h q) h q s)

def doShedClass (c : Instr) (h : CmdHdr) (q : Params) (s : State) : State :=
  powerCmd c h q [.port (ppNum q)] (decide (8 ≤ p1 q)) (fun s => !s.powerAllowed h.fn (ppNum q))
    (fun s => (s.path (ppNum q)).shedClass) (fun s => s.pathOn (ppNum q) (fun x => { x with shedClass := p1 q })) s
/-- SET POWER POLICY SHED-CLASS (12 R439). -/
def execShedClass (h : CmdHdr) (q : Params) (s : State) : Host.Outcome State Fault Refusal := .next (doShedClass (.shedClass h q) h q s)

def doBedBudget (c : Instr) (h : CmdHdr) (q : Params) (s : State) : State :=
  powerCmd c h q [] (decide (8 ≤ ppNum q) || decide (4000 < p1 q)) (fun _ => h.fn.val != 0)
    (fun s => (s.bed (ppNum q)).bedW) (fun s => serveWaiting (s.bedOn (ppNum q) (fun x => { x with bedW := p1 q }))) s
/-- SET POWER POLICY BED-BUDGET (12 R439). -/
def execBedBudget (h : CmdHdr) (q : Params) (s : State) : Host.Outcome State Fault Refusal := .next (doBedBudget (.bedBudget h q) h q s)

def doDevBudget (c : Instr) (h : CmdHdr) (q : Params) (s : State) : State :=
  powerCmd c h q [] (ppNum q != 0 || decide (20000 < p1 q)) (fun _ => h.fn.val != 0)
    (fun s => s.budget.devW) (fun s => serveWaiting { s with budget := { s.budget with devW := p1 q } }) s
/-- SET POWER POLICY DEV-BUDGET (12 R439). -/
def execDevBudget (h : CmdHdr) (q : Params) (s : State) : Host.Outcome State Fault Refusal := .next (doDevBudget (.devBudget h q) h q s)

def doIndLevel (c : Instr) (h : CmdHdr) (q : Params) (s : State) : State :=
  let p := ppNum q
  command c h [.port p] (fun s =>
    match firstErr [(bits (p0 q) 16 48 != 0 || p2 q != 0 || decide (2 ≤ p1 q), ccParam), (!s.powerAllowed h.fn p, ccFunction), (s.indMode p != 3, ccState)] with
    | some e => ppDone h q e 0 s
    | none => ppDone h q ccSuccess (b2n (s.path p).indLevel) (s.pathOn p (fun x => { x with indLevel := p1 q == 1 }))) s
/-- SET POWER POLICY IND-LEVEL (12 R431, R439). -/
def execIndLevel (h : CmdHdr) (q : Params) (s : State) : Host.Outcome State Fault Refusal := .next (doIndLevel (.indLevel h q) h q s)

end Sys2Proof.Machine
end

