-- ==== Sys2Proof/Machine/Xfer.lean ====
section
/-! DEFINITION. Results of transactions with devices, credits and OUT staging (06 R217 – R240; 07 R253 – R266; 05 R174, R192). -/

namespace Sys2Proof.Machine

open Sys2Proof

/-! ### Staging and credits -/

/-- Packets that may stand in staging (07 R246, R247, OUT_EN): one window entry's where pre-staging is off and for control and
isochronous endpoints. -/
def State.stageRoom (s : State) (k : Nat) : Bool :=
  let e := s.ep k
  let entry := (e.burst + 1) * (e.mult + 1)
  if s.likeFallow e.port || !s.outEn e.port || e.isIso || e.ty == 1 then decide (e.staged.length < entry) else true
/-- Payload that arrives is staged (07 R265, R270); what an IMM descriptor sends is its own ADDR field (04 R131). -/
def stagePacket (k : Nat) (bytes : List Byte) (s : State) : State :=
  let x := s.ep k
  let s := s.epOn k (fun x => { x with staged := x.staged ++ [immBytes (x.done + (x.staged.map List.length).sum) x.tds bytes] })
  if x.owesErdy then (s.epOn k (fun x => { x with owesErdy := false })).emit (.bus x.port .ss (.erdy (keyEp k))) else s
/-- Whether a packet of `n` bytes may be staged (01 R37; 03 R114; 07 R247, R265, R268 – R270). -/
def State.stageMay (s : State) (k n : Nat) : Bool :=
  let x := s.ep k
  s.epLive k && x.st == .running && !x.skip && x.rev.isNone && !x.stopping && !s.epGone k && !x.headRx && !x.tds.isEmpty && x.nextTx == some n && s.stageRoom k
    && (n == 0 || s.mayHold k n) && !s.throttled k && !s.yields k
def doOutDataFetched (e : EpRef) (bytes : List Byte) (s : State) : State :=
  if s.stageMay e.key bytes.length then onward e.key (stagePacket e.key bytes s) else s
/-- OUT_DATA_FETCHED (07 R265). -/
def execOutDataFetched (e : EpRef) (bytes : List Byte) (s : State) : Host.Outcome State Fault Refusal := .next (doOutDataFetched e bytes s)

/-- Whether a further credit would be covered (07, Credits). -/
def Ep.nextCovered (e : Ep) : Bool := decide (e.credits.length + b2n e.inSplit + e.pkts.length < e.packetsWanted)
/-- Whether a credit may be granted (01 R37; 07 R246, R247, R253, R259, R269, R270; 04 R150; 05 R196). -/
def State.creditMay (s : State) (k : Nat) : Bool :=
  let x := s.ep k
  let r := s.ep (epRoot k)
  x.receives && s.epLive k && (x.st == .idle || x.st == .running) && x.rev.isNone && !x.stopping && !x.skip && !x.dataEnd && x.valid && !s.epGone k
    && !s.evrFull (keyFn k) r.evr && s.mayHold k x.mps && !s.throttled k && !s.yields k
    && (!(r.streams) || (keyStream k != 0 && r.picked == keyStream k && x.cur.count != x.prod))
    && (x.nextCovered || (x.ty != 1 && !x.isIso && !s.likeFallow x.port && s.inEn x.port))
/-- The credit bundle (07 R253): a serial, the number its packet must carry, and the ledger. -/
def grantCredit (k : Nat) (s : State) : State :=
  let x := s.ep k
  let c : Credit := { serial := x.led.granted + 1, tog := (s.nextTog k + x.credits.length + b2n x.inSplit) % (if s.isSs k then 32 else 2), covered := x.nextCovered }
  let l := { x.led with granted := x.led.granted + 1 }
  let s := epBump k (s.epOn k (fun x => { x with credits := x.credits ++ [c], led := l, ledCopy := l }))
  if x.owesErdy then (s.epOn k (fun x => { x with owesErdy := false })).emit (.bus x.port .ss (.erdy (keyEp k))) else s
def doCreditGrant (e : EpRef) (s : State) : State := if s.creditMay e.key then onward e.key (grantCredit e.key s) else s
/-- CREDIT_GRANT (07 R253). -/
def execCreditGrant (e : EpRef) (s : State) : Host.Outcome State Fault Refusal := .next (doCreditGrant e s)

/-- A revocation settles with the counts of the bed (07 R256). -/
def doCreditRevocationSettled (e : EpRef) (revoked consumed : Nat) (s : State) : State :=
  let k := e.key
  let x := s.ep k
  if x.rev.isNone ∨ revoked + consumed ≠ x.revFrom.standing then s
  else
    let l := { x.revFrom with consumed := x.revFrom.consumed + consumed, revoked := x.revFrom.revoked + revoked }
    afterXact k (s.epOn k (fun x => { x.offWire with credits := [], led := l, ledCopy := l }))
/-- CREDIT_REVOCATION_SETTLED (07 R256): the outcomes the bed returns cover the credits that were outstanding. -/
def execCreditRevocationSettled (e : EpRef) (revoked : Nat) (consumed : Nat) (s : State) : Host.Outcome State Fault Refusal :=
  .next (onward e.key (epBundle e.key (.creditRevocationSettled e revoked consumed) (doCreditRevocationSettled e revoked consumed) s))

def doPacketClaim (e : EpRef) (s : State) : State :=
  let k := e.key
  if !s.claimable k then s
  else if (s.ep k).isIso then (if (s.ep k).isoLast then epSettle k (claimIso k s) else s)
  else claimHead k s
/-- PACKET_CLAIM (07 R258, R261, R262). -/
def execPacketClaim (e : EpRef) (s : State) : Host.Outcome State Fault Refusal :=
  .next (onward e.key (epBundle e.key (.packetClaim e) (doPacketClaim e) s))

/-! ### IN packets -/

/-- The ACK of a packet; on SuperSpeed it names the next number and invites `n` more packets (07 R254). -/
def sendAck (k n : Nat) (s : State) : State := if s.isSs k then s.send k (.ack (s.nextTog k) n) else s.send k (.ack 0 0)
/-- How many packets the ACK TP of a full SuperSpeed packet may newly invite: within the burst, and within the credits that are not matched to
packets in flight (06 R227; 07 R254). -/
def Ep.invites (e : Ep) : Nat := if e.rev.isSome || e.stopping then 0 else min e.left (e.credits.length - e.inflight)
/-- The packet on the wire has been answered; on SuperSpeed more of its burst may follow a full one. -/
def inSettle (k : Nat) (full : Bool) (s : State) : State :=
  let ss := s.isSs k
  s.epOn k (fun e =>
    let rest := if ss && full then e.inflight - 1 else 0
    { e with wire := decide (0 < rest), inflight := rest, split := false, cs := false, left := if 0 < rest then e.left else 0 })
/-- A packet is taken: the handshake rests on the committed credit (07 R254; 06 R222, R227, R238). -/
def takeIn (k : Nat) (bytes : List Byte) (pid : Nat) (split : Bool) (s : State) : State :=
  let x := s.ep k
  if x.ty == 1 && (match x.tds with | t :: _ => t.ty == 4 | [] => false) then
    if bytes.isEmpty then
      let s := s.epOn k (fun x => if x.inSplit then { x with inSplit := false } else x.ledConsume)
      statusDone k (inSettle k false (if split then s else sendAck k 0 s))
    else babbleEnd k s
  else if x.isIso then
    let hs := s.epSpeed k == 2
    (commitPacket k bytes (inSettle k (decide (bytes.length = x.mps)) s)).epOn k (fun e => { e with
      isoGot := e.isoGot + 1, isoMore := if hs then pid else 0
      isoLast := e.isoLast || (if hs then pid == 0 else decide (bytes.length < e.mps) || decide ((e.burst + 1) * (e.mult + 1) ≤ e.isoGot + 1)) })
  else
    let s := commitPacket k bytes (inSettle k (decide (bytes.length = x.mps)) s)
    if split then s
    else
      let n := if s.isSs k && bytes.length == x.mps then (s.ep k).invites else 0
      sendAck k n (s.epOn k (fun e => { e with wire := e.wire || decide (0 < n), inflight := e.inflight + n, left := e.left - n }))
/-- A packet met without a credit: silence at root USB 2.0, Retry on SuperSpeed (07 R254). -/
def refuseIn (k : Nat) (s : State) : State :=
  let s := s.epOn k (fun e => { e with wire := decide (1 < e.inflight) && e.rev.isSome, inflight := if e.rev.isSome then e.inflight - 1 else 0, left := 0 })
  if s.isSs k && !(s.ep k).isIso then s.send k (.retry (s.nextTog k) 0) else s
/-- A packet that repeats the number last acknowledged is acknowledged and discarded (05 R191). -/
def repeatIn (k : Nat) (s : State) : State := sendAck k 0 (s.epOn k (fun e => { e with wire := false, inflight := 0, left := 0, split := false, cs := false, inSplit := false, failRun := 0 }))
/-- What the number of an IN packet says: expected, the one last acknowledged again, or neither (05 R191; 06 R222, R237). A high-speed isochronous
PID counts the packets that follow it, and a full-speed one says nothing; a SuperSpeed STATUS answer carries none. -/
inductive InTog | good | again | wrong
  deriving DecidableEq, Repr
def State.inTog (s : State) (k tog : Nat) : InTog :=
  let x := s.ep k
  if x.isIso then
    (if s.epSpeed k = 2 then (if (if x.isoGot = 0 then decide (tog ≤ x.mult) else tog + 1 == x.isoMore) then .good else .wrong) else .good)
  else if s.isSs k then
    (if (x.ty == 1 && (match x.tds with | t :: _ => t.ty == 4 | [] => false)) || tog == s.nextTog k then .good
      else if (tog + 1) % 32 = s.nextTog k then .again else .wrong)
  else if tog = s.nextTog k then .good else .again
/-- A packet arrives for an IN token (05 R191; 06 R220 – R222, R237; 07 R254, R255). A SuperSpeed number that is neither the one expected nor the one
before it is answered with Retry (DESIGN CHOICE, notes/assumptions/71.md). -/
def doInPacketReceived (e : EpRef) (tog : BitVec 5) (bytes : List Byte) (s : State) : State :=
  let k := e.key
  let x := s.ep k
  if !x.wire ∨ x.guest ∨ !x.receives ∨ x.st = .closed then s
  else if x.mps < bytes.length then afterXact k (babbleEnd k s)
  else match s.inTog k tog.toNat with
    | .again => afterXact k (repeatIn k s)
    | .wrong => if x.isIso then xactFailed k s else afterXact k (refuseIn k s)
    | .good =>
      if x.credits.isEmpty then afterXact k (refuseIn k s)
      else if x.rev.isSome then
        let (won, s) := raceAck k s
        afterXact k (if won then takeIn k bytes tog.toNat false s else (refuseIn k s).epOn k (fun e => e.ledRevoke (e.credits.length - 1)))
      else afterXact k (takeIn k bytes tog.toNat false s)
/-- The packet is met without a handshake: its bundle finds no room (01 R34; 04 R150; 05 R201). -/
def dropIn (e : EpRef) (s : State) : State := if (s.ep e.key).wire && !(s.ep e.key).guest && (s.ep e.key).receives then afterXact e.key (refuseIn e.key s) else s
/-- IN_PACKET_RECEIVED (07 R254, R255; 05 R191; 06 R221, R222): the handshake never waits for the core (01 R34). -/
def execInPacketReceived (e : EpRef) (tog : BitVec 5) (bytes : List Byte) (s : State) : Host.Outcome State Fault Refusal :=
  .next (onward e.key (bundleElse (doInPacketReceived e tog bytes) (dropIn e) s))

/-! ### OUT packets -/

/-- Whether a packet toward the device is on the wire. -/
def Ep.sending (e : Ep) : Bool := e.wire && !e.pingOn && !e.guest && !e.headRx && !e.tds.isEmpty
/-- The packet at DEQ is a SETUP. -/
def Ep.atSetup (e : Ep) : Bool := match e.tds with | t :: _ => t.ty == 2 | [] => false
/-- A NAK or NYET counts toward NAK_LIMIT, at which the endpoint is passed over for the rest of the microframe (06 R218). -/
def nakCount (k : Nat) (s : State) : State := s.epOn k (fun e => { e with skipUf := e.skipUf || (!e.periodic && decide (s.nakLimit e.port ≤ e.naks)) })
/-- A handshake to an OUT packet, a SETUP or a PING (06 R218, R238, R239; 07 R266). A NYET to a SETUP counts as a failure (DESIGN CHOICE,
notes/assumptions/71.md: R239 names NAK and no answer). -/
def doOutHandshake (e : EpRef) (hs : Handshake) (s : State) : State :=
  let k := e.key
  if (s.ep k).wire && (s.ep k).pingOn then
    let s := s.epOn k (fun e => { e with wire := false, pingOn := false, failRun := 0 })
    match hs with
    | .ack => afterXact k (startXact k (s.epOn k (fun e => { e with ping := false })))
    | .nak | .nyet => afterXact k (nakCount k (s.epOn k (fun e => { e with naks := e.naks + 1 })))
    | .retry => afterXact k s
  else if !(s.ep k).sending then s
  else match hs with
    | .ack => afterXact k (txAccepted k s)
    | .nyet =>
      if (s.ep k).atSetup then xactFailed k s
      else afterXact k (nakCount k ((txAccepted k s).epOn k (fun e => { e with ping := s.epSpeed k == 2 && !e.periodic, naks := e.naks + 1 })))
    | .nak => if (s.ep k).atSetup then xactFailed k s else afterXact k (nakCount k (txHeld k true s))
    | .retry => afterXact k (txHeld k false s)
/-- OUT_HANDSHAKE (07 R266; 06 R218, R238, R239). -/
def execOutHandshake (e : EpRef) (hs : Handshake) (s : State) : Host.Outcome State Fault Refusal :=
  .next (onward e.key (epBundle e.key (.outHandshake e hs) (doOutHandshake e hs) s))

/-! ### Flow control and failures -/

def doNakLimitReached (e : EpRef) (s : State) : State :=
  let k := e.key
  let x := s.ep k
  if x.guest ∨ x.st = .closed then s
  else
    afterXact k (s.epOn k (fun e => { e with
      wire := false, pingOn := false, inflight := 0, left := 0, naks := max e.naks (s.nakLimit e.port), failRun := 0, skipUf := true,
      ping := e.ping || (!e.receives && s.epSpeed k == 2 && !e.periodic) }))
/-- NAK_LIMIT_REACHED (06 R218): the endpoint is passed over for the rest of the microframe. -/
def execNakLimitReached (e : EpRef) (s : State) : Host.Outcome State Fault Refusal :=
  .next (onward e.key (epBundle e.key (.nakLimitReached e) (doNakLimitReached e) s))

/-- A transaction of a device's endpoint is on the wire. -/
def State.xactOpen (s : State) (k : Nat) : Bool := (s.ep k).wire && !(s.ep k).guest && (s.ep k).st != .closed
def doTransactionTimeout (e : EpRef) (s : State) : State := if s.xactOpen e.key then xactFailed e.key s else s
/-- TRANSACTION_TIMEOUT (06 R220, R237): a PING that goes unanswered is such a transaction. -/
def execTransactionTimeout (e : EpRef) (s : State) : Host.Outcome State Fault Refusal :=
  .next (onward e.key (epBundle e.key (.transactionTimeout e) (doTransactionTimeout e) s))
def doTransactionErrorReceived (e : EpRef) (x : XactErr) (s : State) : State :=
  let k := e.key
  match x with
  | .ssPing => if (s.ep k).periodic && s.isSs k && !(s.ep k).guest then s.epOn k (fun e => { e with noPing := true }) else s
  | .ping => if s.xactOpen k && (s.ep k).pingOn then xactFailed k s else s
  | .ssRetry => if s.xactOpen k then xactFailed k (s.send k (.retry (s.nextTog k) 0)) else s
  | _ => if s.xactOpen k then xactFailed k s else s
/-- TRANSACTION_ERROR_RECEIVED (06 R220, R230, R231, R237). -/
def execTransactionErrorReceived (e : EpRef) (k : XactErr) (s : State) : Host.Outcome State Fault Refusal :=
  .next (onward e.key (epBundle e.key (.transactionErrorReceived e k) (doTransactionErrorReceived e k) s))
def doStallReceived (e : EpRef) (s : State) : State := if s.xactOpen e.key || ((s.ep e.key).split && !(s.ep e.key).guest) then haltXfer e.key ccStall s else s
/-- STALL_RECEIVED (06 R239; 05 R178): of a packet, a split or a PING. -/
def execStallReceived (e : EpRef) (s : State) : Host.Outcome State Fault Refusal := .next (onward e.key (epBundle e.key (.stallReceived e) (doStallReceived e) s))
def doBabbleDetected (e : EpRef) (s : State) : State := if s.xactOpen e.key then afterXact e.key (babbleEnd e.key s) else s
/-- BABBLE_DETECTED (06 R221). -/
def execBabbleDetected (e : EpRef) (s : State) : Host.Outcome State Fault Refusal := .next (onward e.key (epBundle e.key (.babbleDetected e) (doBabbleDetected e) s))

def doNrdyReceived (e : EpRef) (s : State) : State :=
  let k := e.key
  if s.xactOpen k && s.isSs k then
    afterXact k (s.epOn k (fun e => { e with wire := false, inflight := 0, left := 0, waiting := true, failRun := 0, staged := if e.stopping then [] else e.staged }))
  else s
/-- NRDY_RECEIVED (06 R228; 07 R266). -/
def execNrdyReceived (e : EpRef) (s : State) : Host.Outcome State Fault Refusal := .next (onward e.key (epBundle e.key (.nrdyReceived e) (doNrdyReceived e) s))
def doErdyReceived (e : EpRef) (s : State) : State :=
  let k := e.key
  let r := epRoot k
  if (s.ep r).st = .closed ∨ (s.ep r).guest ∨ !s.isSs r then s
  else if !(s.ep r).streams then s.epOn k (fun x => { x with waiting := false })
  else
    let st := keyStream k
    let s := s.epOn r (fun x => { x with waiting := false })
    if st ≠ 0 ∧ (s.ep k).st ≠ .closed ∧ (s.ep k).cur.count ≠ (s.ep k).prod ∧ (s.ep k).seenValid ∧ (s.ep k).valid then
      (s.epOn r (fun x => { x with picked := st })).epOn k (fun x => { x with waiting := false })
    else (s.epOn k (fun x => if x.st = .closed then x else { x with picked := st })).emit (.bus (s.ep r).port .ss (.streamReject (s.busTok k)))
/-- ERDY_RECEIVED (06 R228, R229): the endpoint is served at once when the bus is free. -/
def execErdyReceived (e : EpRef) (s : State) : Host.Outcome State Fault Refusal := .next (onward e.key (doErdyReceived e s))

/-! ### Splits -/

/-- A failed split exchange (06 R226, R237; 05 R204): a failed start-split is issued again and a failed complete-split repeated, up to RETRY; an
isochronous packet is lost. -/
def splitFailed (k : Nat) (cs ended : Bool) (s : State) : State :=
  let r := epRoot k
  let s := epBump r (s.epOn r (fun e => { e with splitErr := satCount e.splitErr }))
  let s := s.epOn k (fun e => { e with split := cs && !ended && !e.isIso, cs := false })
  afterXact k (if ended then epError k ccSplit s else if (s.ep k).isIso then isoLost k (xactCount k (s.epOn k (fun e => { e with inSplit := false }))) else failRun k ccSplit s)
/-- A hub's answer to a start-split or complete-split (06 R224 – R226, R239; 07 R254, R256, R266). -/
def doSplitResult (e : EpRef) (x : SplitRes) (s : State) : State :=
  let k := e.key
  if !(s.ep k).split ∨ (s.ep k).guest ∨ (s.ep k).st = .closed then s
  else match x with
    | .ssFail => splitFailed k false false s
    | .csFail => splitFailed k true false s
    | .err => splitFailed k false true s
    | .nyet => s.epOn k (fun e => { e with failRun := 0, cs := false })
    | .nak =>
      if (s.ep k).atSetup then xactFailed k (s.epOn k (fun e => { e with split := false, cs := false }))
      else afterXact k (nakCount k (txHeld k true (s.epOn k (fun e => { e with inSplit := false }))))
    | .ack => if (s.ep k).headRx then s else afterXact k (txAccepted k s)
    | .data tog bytes =>
      if !(s.ep k).receives then s
      else if (s.ep k).mps < bytes.length then afterXact k (babbleEnd k s)
      else if !(s.ep k).isIso ∧ b2n tog ≠ s.nextTog k then
        afterXact k (s.epOn k (fun e => { e with split := false, cs := false, inSplit := false, failRun := 0 }))
      else afterXact k (takeIn k bytes 0 true s)
/-- SPLIT_RESULT (06 R226; 07 R254, R266). -/
def execSplitResult (e : EpRef) (k : SplitRes) (s : State) : Host.Outcome State Fault Refusal :=
  .next (onward e.key (epBundle e.key (.splitResult e k) (doSplitResult e k) s))

/-! ### Control stages -/

def doSetupStageComplete (e : EpRef) (s : State) : State :=
  let k := e.key
  if (s.ep k).sending && (s.ep k).atSetup then afterXact k (setupDone k s) else s
/-- SETUP_STAGE_COMPLETE (06 R238). -/
def execSetupStageComplete (e : EpRef) (s : State) : Host.Outcome State Fault Refusal := .next (onward e.key (epBundle e.key (.setupStageComplete e) (doSetupStageComplete e) s))
def doSetAddressRecoveryEnd (sl : SlotRef) (s : State) : State := onward sl.ep0 (s.slotOn sl.key (fun x => { x with recovery := false }))
/-- SET_ADDRESS_RECOVERY_END (05 R174). -/
def execSetAddressRecoveryEnd (sl : SlotRef) (s : State) : Host.Outcome State Fault Refusal := .next (doSetAddressRecoveryEnd sl s)
def doToggleSnoopReset (sl : SlotRef) (s : State) : State :=
  let k := sl.ep0
  if (s.ep k).snoop && !(s.snooped k).any s.epBusy then statusCommit k s else s
/-- TOGGLE_SNOOP_RESET (05 R192). -/
def execToggleSnoopReset (sl : SlotRef) (s : State) : Host.Outcome State Fault Refusal := .next (onward sl.ep0 (epBundle sl.ep0 (.toggleSnoopReset sl) (doToggleSnoopReset sl) s))

/-! ### Isochronous service -/

def doIsoStreamEnd (e : EpRef) (s : State) : State :=
  let x := s.ep e.key
  if x.isIso ∧ x.inStream ∧ s.isoHold x.port ≤ x.empty then s.epOn e.key (fun x => { x with inStream := false, empty := 0 }) else s
/-- ISO_STREAM_END (06 R235). -/
def execIsoStreamEnd (e : EpRef) (s : State) : Host.Outcome State Fault Refusal := .next (doIsoStreamEnd e s)
def doIsoCommitDeadline (e : EpRef) (s : State) : State :=
  let k := e.key
  let x := s.ep k
  if !x.isIso ∨ !x.receives ∨ x.pkts.isEmpty then s else isoMiss k (s.epOn k (fun x => { x with pkts := [] }))
/-- ISO_COMMIT_DEADLINE (04 R150; 06 R236, R244): the interval is discarded and counted, and its descriptor retires. -/
def execIsoCommitDeadline (e : EpRef) (s : State) : Host.Outcome State Fault Refusal := .next (happen (doIsoCommitDeadline e) s)

end Sys2Proof.Machine
end

