-- ==== Sys2Proof/Machine/Dispatch.lean ====
section
/-! DEFINITION. One arm per command; each calls its own meaning (Sys2Proof/Machine/<Family>.lean). -/

namespace Sys2Proof.Machine

open Sys2Proof

/-- The effect of a command on everything but the queue. -/
def exec (i : Instr) (s : State) : Host.Outcome State Fault Refusal :=
  match i with
  -- Supply
  | .powerOn vddIoHigh vm => Sys2Proof.Machine.execPowerOn vddIoHigh vm s
  | .supplyMainLow r => Sys2Proof.Machine.execSupplyMainLow r s
  | .supplyMainRecovered => Sys2Proof.Machine.execSupplyMainRecovered s
  | .vddHvLow => Sys2Proof.Machine.execVddHvLow s
  | .vddHvReturn => Sys2Proof.Machine.execVddHvReturn s
  | .vconnInLow => Sys2Proof.Machine.execVconnInLow s
  | .retentionLost => Sys2Proof.Machine.execRetentionLost s
  | .perstAssert => Sys2Proof.Machine.execPerstAssert s
  | .perstRelease => Sys2Proof.Machine.execPerstRelease s
  | .sramWipeComplete => Sys2Proof.Machine.execSramWipeComplete s
  -- Pcie
  | .configSpaceReady => Sys2Proof.Machine.execConfigSpaceReady s
  | .configRequest f q => Sys2Proof.Machine.execConfigRequest f q s
  -- Supply
  | .conventionalReset k => Sys2Proof.Machine.execConventionalReset k s
  -- Pcie
  | .linkRetrain rate width => Sys2Proof.Machine.execLinkRetrain rate width s
  | .linkRecovery => Sys2Proof.Machine.execLinkRecovery s
  -- Supply
  | .flrPf => Sys2Proof.Machine.execFlrPf s
  -- Pcie
  | .flrVf v => Sys2Proof.Machine.execFlrVf v s
  | .flrVfComplete v => Sys2Proof.Machine.execFlrVfComplete v s
  | .vfEnableSet => Sys2Proof.Machine.execVfEnableSet s
  | .vfEnableClear => Sys2Proof.Machine.execVfEnableClear s
  | .maxPayloadSizeChange code => Sys2Proof.Machine.execMaxPayloadSizeChange code s
  | .functionD0Entry f => Sys2Proof.Machine.execFunctionD0Entry f s
  -- Supply
  | .refclk25Lost => Sys2Proof.Machine.execRefclk25Lost s
  -- Pcie
  | .jtagInstruction k => Sys2Proof.Machine.execJtagInstruction k s
  -- Sowing
  | .ldrProdWrite w => Sys2Proof.Machine.execLdrProdWrite w s
  | .ldrRestart w => Sys2Proof.Machine.execLdrRestart w s
  | .loaderDescriptorFetched addr len tag => Sys2Proof.Machine.execLoaderDescriptorFetched addr len tag s
  | .imagePieceReceived bytes => Sys2Proof.Machine.execImagePieceReceived bytes s
  | .loaderReadError e => Sys2Proof.Machine.execLoaderReadError e s
  | .imageCheckDone => Sys2Proof.Machine.execImageCheckDone s
  | .keeperConfigCheck => Sys2Proof.Machine.execKeeperConfigCheck s
  | .tenderStartupDone => Sys2Proof.Machine.execTenderStartupDone s
  | .sowingComplete => Sys2Proof.Machine.execSowingComplete s
  | .persistHoldExpire p => Sys2Proof.Machine.execPersistHoldExpire p s
  -- Access
  | .setupLockWrite w => Sys2Proof.Machine.execSetupLockWrite w s
  | .registerWrite off w => Sys2Proof.Machine.execRegisterWrite off w s
  | .vfBar0Write v off w => Sys2Proof.Machine.execVfBar0Write v off w s
  | .misalignedAccess a => Sys2Proof.Machine.execMisalignedAccess a s
  | .sleepWordAccess a isWrite => Sys2Proof.Machine.execSleepWordAccess a isWrite s
  | .nudge f => Sys2Proof.Machine.execNudge f s
  | .dozeEnClear f w => Sys2Proof.Machine.execDozeEnClear f w s
  | .evrEnableWrite f r w => Sys2Proof.Machine.execEvrEnableWrite f r w s
  | .msixUnmask f vec => Sys2Proof.Machine.execMsixUnmask f vec s
  | .fltStatusClear k w => Sys2Proof.Machine.execFltStatusClear k w s
  | .fltWireClear k w => Sys2Proof.Machine.execFltWireClear k w s
  | .fltCntClear n w => Sys2Proof.Machine.execFltCntClear n w s
  | .safeHoldClear w => Sys2Proof.Machine.execSafeHoldClear w s
  | .fltPinHeldClear w => Sys2Proof.Machine.execFltPinHeldClear w s
  | .fltPinForce w => Sys2Proof.Machine.execFltPinForce w s
  | .injFireTagged w => Sys2Proof.Machine.execInjFireTagged w s
  | .injFireWire w => Sys2Proof.Machine.execInjFireWire w s
  | .prtSieveLostClear p w => Sys2Proof.Machine.execPrtSieveLostClear p w s
  | .tempoStatusRead => Sys2Proof.Machine.execTempoStatusRead s
  | .teleTempRead u => Sys2Proof.Machine.execTeleTempRead u s
  | .prtFrameRead p => Sys2Proof.Machine.execPrtFrameRead p s
  | .tallyLoRead t => Sys2Proof.Machine.execTallyLoRead t s
  | .almDataRead k => Sys2Proof.Machine.execAlmDataRead k s
  -- SlotCmds
  | .noOp h q rsv => Sys2Proof.Machine.execNoOp h q rsv s
  | .unknownCommand h ty op q => Sys2Proof.Machine.execUnknownCommand h ty op q s
  | .openSlot h q => Sys2Proof.Machine.execOpenSlot h q s
  | .assignAddress h q => Sys2Proof.Machine.execAssignAddress h q s
  | .setEndpoints h q blk => Sys2Proof.Machine.execSetEndpoints h q blk s
  | .clearHalt h q => Sys2Proof.Machine.execClearHalt h q s
  | .pauseEndpoint h q => Sys2Proof.Machine.execPauseEndpoint h q s
  | .moveCursor h q => Sys2Proof.Machine.execMoveCursor h q s
  | .closeSlot h q => Sys2Proof.Machine.execCloseSlot h q s
  | .snapshotContext h q => Sys2Proof.Machine.execSnapshotContext h q s
  -- PortCmds
  | .portEnable h q => Sys2Proof.Machine.execPortEnable h q s
  | .portDisable h q => Sys2Proof.Machine.execPortDisable h q s
  | .portReset h q => Sys2Proof.Machine.execPortReset h q s
  | .portResetQuiesced p => Sys2Proof.Machine.execPortResetQuiesced p s
  | .hotResetTimeout p => Sys2Proof.Machine.execHotResetTimeout p s
  | .portResetDone p sd sp => Sys2Proof.Machine.execPortResetDone p sd sp s
  | .portSuspend h q => Sys2Proof.Machine.execPortSuspend h q s
  | .suspendQuiesced p => Sys2Proof.Machine.execSuspendQuiesced p s
  | .ssU3Entered p => Sys2Proof.Machine.execSsU3Entered p s
  | .suspendComplete p => Sys2Proof.Machine.execSuspendComplete p s
  | .portResume h q => Sys2Proof.Machine.execPortResume h q s
  | .resumeKEnd p => Sys2Proof.Machine.execResumeKEnd p s
  | .resumeRecoveryEnd p sd => Sys2Proof.Machine.execResumeRecoveryEnd p sd s
  | .ssResumeTimeout p => Sys2Proof.Machine.execSsResumeTimeout p s
  | .treeSleep h q => Sys2Proof.Machine.execTreeSleep h q s
  | .treeSleepQuiesced p => Sys2Proof.Machine.execTreeSleepQuiesced p s
  | .treeWake h q => Sys2Proof.Machine.execTreeWake h q s
  | .portTest h q => Sys2Proof.Machine.execPortTest h q s
  | .ssRetry h q => Sys2Proof.Machine.execSsRetry h q s
  | .powerOff h q => Sys2Proof.Machine.execPowerOff h q s
  | .powerCycle h q => Sys2Proof.Machine.execPowerCycle h q s
  | .powerCycleDelayExpire p => Sys2Proof.Machine.execPowerCycleDelayExpire p s
  -- GuestCmds
  | .guestOpen h q => Sys2Proof.Machine.execGuestOpen h q s
  | .guestEndpoints h q blk => Sys2Proof.Machine.execGuestEndpoints h q blk s
  | .guestClose h q => Sys2Proof.Machine.execGuestClose h q s
  | .guestConnect h q => Sys2Proof.Machine.execGuestConnect h q s
  | .guestDisconnect h q => Sys2Proof.Machine.execGuestDisconnect h q s
  | .guestWake h q => Sys2Proof.Machine.execGuestWake h q s
  | .guestWakeKStart p => Sys2Proof.Machine.execGuestWakeKStart p s
  | .guestWakeKEnd p => Sys2Proof.Machine.execGuestWakeKEnd p s
  | .guestEpPause h q => Sys2Proof.Machine.execGuestEpPause h q s
  | .guestEpMove h q => Sys2Proof.Machine.execGuestEpMove h q s
  | .guestEpHalt h q => Sys2Proof.Machine.execGuestEpHalt h q s
  | .guestEpUnhalt h q => Sys2Proof.Machine.execGuestEpUnhalt h q s
  | .roleSet h q => Sys2Proof.Machine.execRoleSet h q s
  | .guestSnapshot h q => Sys2Proof.Machine.execGuestSnapshot h q s
  -- PowerCmds
  | .portLimit h q => Sys2Proof.Machine.execPortLimit h q s
  | .shedClass h q => Sys2Proof.Machine.execShedClass h q s
  | .bedBudget h q => Sys2Proof.Machine.execBedBudget h q s
  | .devBudget h q => Sys2Proof.Machine.execDevBudget h q s
  | .indLevel h q => Sys2Proof.Machine.execIndLevel h q s
  -- PdCmds
  | .sendCaps h q => Sys2Proof.Machine.execSendCaps h q s
  | .pdRequestRdo h q => Sys2Proof.Machine.execPdRequestRdo h q s
  | .drSwap h q => Sys2Proof.Machine.execDrSwap h q s
  | .prSwap h q => Sys2Proof.Machine.execPrSwap h q s
  | .vconnSwap h q => Sys2Proof.Machine.execVconnSwap h q s
  | .softReset h q => Sys2Proof.Machine.execSoftReset h q s
  | .hardReset h q => Sys2Proof.Machine.execHardReset h q s
  | .getSourceCaps h q => Sys2Proof.Machine.execGetSourceCaps h q s
  | .getSinkCaps h q => Sys2Proof.Machine.execGetSinkCaps h q s
  | .discover h q => Sys2Proof.Machine.execDiscover h q s
  | .eprEnter h q => Sys2Proof.Machine.execEprEnter h q s
  | .eprExit h q => Sys2Proof.Machine.execEprExit h q s
  | .getStatus h q => Sys2Proof.Machine.execGetStatus h q s
  | .sendVdm h q blk => Sys2Proof.Machine.execSendVdm h q blk s
  -- Modes
  | .setMode h q => Sys2Proof.Machine.execSetMode h q s
  -- Engines
  | .rotateNext h q => Sys2Proof.Machine.execRotateNext h q s
  | .rotateEngine h q => Sys2Proof.Machine.execRotateEngine h q s
  | .rotateUpdate h q => Sys2Proof.Machine.execRotateUpdate h q s
  | .updateCancel h q => Sys2Proof.Machine.execUpdateCancel h q s
  | .selfTestTender h q => Sys2Proof.Machine.execSelfTestTender h q s
  | .selfTestBank h q => Sys2Proof.Machine.execSelfTestBank h q s
  | .selfTestAdc h q => Sys2Proof.Machine.execSelfTestAdc h q s
  | .selfTestBed h q => Sys2Proof.Machine.execSelfTestBed h q s
  | .selfTestKeeper h q => Sys2Proof.Machine.execSelfTestKeeper h q s
  -- Capture
  | .captureStart h q => Sys2Proof.Machine.execCaptureStart h q s
  | .captureStop h q => Sys2Proof.Machine.execCaptureStop h q s
  | .captureFlush h q => Sys2Proof.Machine.execCaptureFlush h q s
  -- Almanac
  | .readAlmanacSlots h q => Sys2Proof.Machine.execReadAlmanacSlots h q s
  | .readAlmanacInfo h q => Sys2Proof.Machine.execReadAlmanacInfo h q s
  -- Lifecycle
  | .lifecyclePlant h q tok => Sys2Proof.Machine.execLifecyclePlant h q tok s
  | .lifecycleUproot h q tok => Sys2Proof.Machine.execLifecycleUproot h q tok s
  | .lifecycleReturn h q tok => Sys2Proof.Machine.execLifecycleReturn h q tok s
  | .lifecycleRevoke h q tok => Sys2Proof.Machine.execLifecycleRevoke h q tok s
  | .lifecycleRaiseFloor h q tok => Sys2Proof.Machine.execLifecycleRaiseFloor h q tok s
  | .lifecycleCommitDone => Sys2Proof.Machine.execLifecycleCommitDone s
  -- Rings
  | .rakeSweep f rd => Sys2Proof.Machine.execRakeSweep f rd s
  | .rakeDozeEnter f rd failed => Sys2Proof.Machine.execRakeDozeEnter f rd failed s
  | .bellReadError f e => Sys2Proof.Machine.execBellReadError f e s
  | .evrConsRead f r v => Sys2Proof.Machine.execEvrConsRead f r v s
  | .eventRingRoomReturns f r => Sys2Proof.Machine.execEventRingRoomReturns f r s
  | .descriptorFetched rg addr d => Sys2Proof.Machine.execDescriptorFetched rg addr d s
  | .hostReadError what e => Sys2Proof.Machine.execHostReadError what e s
  | .streamTableRead e tbl => Sys2Proof.Machine.execStreamTableRead e tbl s
  -- Xfer
  | .outDataFetched e bytes => Sys2Proof.Machine.execOutDataFetched e bytes s
  | .creditGrant e => Sys2Proof.Machine.execCreditGrant e s
  | .creditRevocationSettled e revoked consumed => Sys2Proof.Machine.execCreditRevocationSettled e revoked consumed s
  | .packetClaim e => Sys2Proof.Machine.execPacketClaim e s
  -- Rings
  | .pendClear e => Sys2Proof.Machine.execPendClear e s
  | .msixHoldoffExpire f r => Sys2Proof.Machine.execMsixHoldoffExpire f r s
  -- Sched
  | .microframeStart p => Sys2Proof.Machine.execMicroframeStart p s
  | .windowBuild p => Sys2Proof.Machine.execWindowBuild p s
  | .windowLoadPoint p => Sys2Proof.Machine.execWindowLoadPoint p s
  -- Xfer
  | .inPacketReceived e tog bytes => Sys2Proof.Machine.execInPacketReceived e tog bytes s
  | .outHandshake e hs => Sys2Proof.Machine.execOutHandshake e hs s
  | .nakLimitReached e => Sys2Proof.Machine.execNakLimitReached e s
  | .transactionTimeout e => Sys2Proof.Machine.execTransactionTimeout e s
  | .transactionErrorReceived e k => Sys2Proof.Machine.execTransactionErrorReceived e k s
  | .stallReceived e => Sys2Proof.Machine.execStallReceived e s
  | .babbleDetected e => Sys2Proof.Machine.execBabbleDetected e s
  | .nrdyReceived e => Sys2Proof.Machine.execNrdyReceived e s
  | .erdyReceived e => Sys2Proof.Machine.execErdyReceived e s
  | .splitResult e k => Sys2Proof.Machine.execSplitResult e k s
  | .setupStageComplete e => Sys2Proof.Machine.execSetupStageComplete e s
  | .setAddressRecoveryEnd sl => Sys2Proof.Machine.execSetAddressRecoveryEnd sl s
  | .toggleSnoopReset sl => Sys2Proof.Machine.execToggleSnoopReset sl s
  | .isoStreamEnd e => Sys2Proof.Machine.execIsoStreamEnd e s
  | .isoCommitDeadline e => Sys2Proof.Machine.execIsoCommitDeadline e s
  -- Links
  | .usb2ConnectDebounce p low => Sys2Proof.Machine.execUsb2ConnectDebounce p low s
  | .ssTrainingU0 p gen2 => Sys2Proof.Machine.execSsTrainingU0 p gen2 s
  | .ssTrainingTimeout p => Sys2Proof.Machine.execSsTrainingTimeout p s
  | .usb2Detach p => Sys2Proof.Machine.execUsb2Detach p s
  | .ssDetach p => Sys2Proof.Machine.execSsDetach p s
  | .remoteWakeDetected p sd => Sys2Proof.Machine.execRemoteWakeDetected p sd s
  | .l1IdleExpire p => Sys2Proof.Machine.execL1IdleExpire p s
  | .lpmAnswer p a => Sys2Proof.Machine.execLpmAnswer p a s
  | .l1Exit p byDevice => Sys2Proof.Machine.execL1Exit p byDevice s
  | .uStateTimerExpire p u2 => Sys2Proof.Machine.execUStateTimerExpire p u2 s
  | .ssInactive p => Sys2Proof.Machine.execSsInactive p s
  | .portBabble p loss => Sys2Proof.Machine.execPortBabble p loss s
  | .ssRecoveryEntry p => Sys2Proof.Machine.execSsRecoveryEntry p s
  -- Guests
  | .guestPresent p => Sys2Proof.Machine.execGuestPresent p s
  | .guestBusReset p => Sys2Proof.Machine.execGuestBusReset p s
  | .guestResetEnd p sp => Sys2Proof.Machine.execGuestResetEnd p sp s
  | .guestSetupReceived p pkt => Sys2Proof.Machine.execGuestSetupReceived p pkt s
  | .guestSetupDeliver p => Sys2Proof.Machine.execGuestSetupDeliver p s
  | .guestToken p ep k => Sys2Proof.Machine.execGuestToken p ep k s
  | .guestOutPacket p ep tog bytes => Sys2Proof.Machine.execGuestOutPacket p ep tog bytes s
  | .guestInHandshake p ep acked => Sys2Proof.Machine.execGuestInHandshake p ep acked s
  | .guestSuspendDetect p => Sys2Proof.Machine.execGuestSuspendDetect p s
  | .guestResumeDetect p => Sys2Proof.Machine.execGuestResumeDetect p s
  | .guestHostGone p cause => Sys2Proof.Machine.execGuestHostGone p cause s
  | .guestSsLinkTimeout p => Sys2Proof.Machine.execGuestSsLinkTimeout p s
  -- TypeC
  | .ccTerminationChange p cc1 cc2 => Sys2Proof.Machine.execCcTerminationChange p cc1 cc2 s
  | .ccAttachDebounce p => Sys2Proof.Machine.execCcAttachDebounce p s
  | .ccDetachDebounce p => Sys2Proof.Machine.execCcDetachDebounce p s
  | .vbusSinkDisconnect p => Sys2Proof.Machine.execVbusSinkDisconnect p s
  | .drpPeriodExpire p => Sys2Proof.Machine.execDrpPeriodExpire p s
  | .tryTimerExpire p => Sys2Proof.Machine.execTryTimerExpire p s
  | .errorRecoveryExpire p => Sys2Proof.Machine.execErrorRecoveryExpire p s
  | .moistureReadingStart p => Sys2Proof.Machine.execMoistureReadingStart p s
  | .moistureReadingDone p m => Sys2Proof.Machine.execMoistureReadingDone p m s
  | .vconnOcTrip p => Sys2Proof.Machine.execVconnOcTrip p s
  | .vconnShortTrip p => Sys2Proof.Machine.execVconnShortTrip p s
  -- Pd
  | .pdMessageReceived p m => Sys2Proof.Machine.execPdMessageReceived p m s
  -- TypeC
  | .floodBucketRoll p => Sys2Proof.Machine.execFloodBucketRoll p s
  | .quarantineReleaseExpire p => Sys2Proof.Machine.execQuarantineReleaseExpire p s
  -- Pd
  | .ccLineIdle p => Sys2Proof.Machine.execCcLineIdle p s
  | .ccIdleTimeout p => Sys2Proof.Machine.execCcIdleTimeout p s
  | .ccCollision p => Sys2Proof.Machine.execCcCollision p s
  | .sinktxWaitExpire p => Sys2Proof.Machine.execSinktxWaitExpire p s
  | .goodcrcReceived p sop id => Sys2Proof.Machine.execGoodcrcReceived p sop id s
  | .drSwapAcceptAcked p => Sys2Proof.Machine.execDrSwapAcceptAcked p s
  | .treceiveExpire p => Sys2Proof.Machine.execTreceiveExpire p s
  | .sourceCapsReceived p epr objs => Sys2Proof.Machine.execSourceCapsReceived p epr objs s
  | .requestReceived p rdo => Sys2Proof.Machine.execRequestReceived p rdo s
  | .waitReceived p => Sys2Proof.Machine.execWaitReceived p s
  | .psRdyReceived p => Sys2Proof.Machine.execPsRdyReceived p s
  | .swapRequestReceived p k => Sys2Proof.Machine.execSwapRequestReceived p k s
  | .eprModeReceived p k => Sys2Proof.Machine.execEprModeReceived p k s
  | .eprKeepaliveReceived p => Sys2Proof.Machine.execEprKeepaliveReceived p s
  | .softResetReceived p sop => Sys2Proof.Machine.execSoftResetReceived p sop s
  | .hardResetReceived p => Sys2Proof.Machine.execHardResetReceived p s
  | .hardResetSourceOff p => Sys2Proof.Machine.execHardResetSourceOff p s
  | .srcRecoverExpire p => Sys2Proof.Machine.execSrcRecoverExpire p s
  | .alertReceived p ado => Sys2Proof.Machine.execAlertReceived p ado s
  | .getStatusReceived p => Sys2Proof.Machine.execGetStatusReceived p s
  | .vdmReceived p sop hdr vdos => Sys2Proof.Machine.execVdmReceived p sop hdr vdos s
  | .notSupportedReceived p sop ty => Sys2Proof.Machine.execNotSupportedReceived p sop ty s
  | .pdResponseReceived p r => Sys2Proof.Machine.execPdResponseReceived p r s
  | .srcTransitionExpire p => Sys2Proof.Machine.execSrcTransitionExpire p s
  | .waitHoldExpire p => Sys2Proof.Machine.execWaitHoldExpire p s
  | .snkWaitExpire p => Sys2Proof.Machine.execSnkWaitExpire p s
  | .ppsTimeout p => Sys2Proof.Machine.execPpsTimeout p s
  | .eprKeepaliveTimeout p => Sys2Proof.Machine.execEprKeepaliveTimeout p s
  | .sinkRefreshTimer p => Sys2Proof.Machine.execSinkRefreshTimer p s
  | .senderResponseTimeout p => Sys2Proof.Machine.execSenderResponseTimeout p s
  | .hardResetCountExhausted p => Sys2Proof.Machine.execHardResetCountExhausted p s
  | .cableDiscoveryTimer p => Sys2Proof.Machine.execCableDiscoveryTimer p s
  | .sendSourceCapTimer p => Sys2Proof.Machine.execSendSourceCapTimer p s
  | .offerChange p => Sys2Proof.Machine.execOfferChange p s
  | .swapRetryTimer p => Sys2Proof.Machine.execSwapRetryTimer p s
  | .trellisHelloReceived p vdo1 vdo2 => Sys2Proof.Machine.execTrellisHelloReceived p vdo1 vdo2 s
  | .trellisTimeout p => Sys2Proof.Machine.execTrellisTimeout p s
  -- TypeC
  | .bridgePoll p txProd rxCons tx => Sys2Proof.Machine.execBridgePoll p txProd rxCons tx s
  | .uartByteReceived p b bad => Sys2Proof.Machine.execUartByteReceived p b bad s
  | .uartByteSent p => Sys2Proof.Machine.execUartByteSent p s
  -- Path
  | .pathOrder p o => Sys2Proof.Machine.execPathOrder p o s
  | .rampComplete p => Sys2Proof.Machine.execRampComplete p s
  | .ocTimerStart p => Sys2Proof.Machine.execOcTimerStart p s
  | .ocTimerExpire p => Sys2Proof.Machine.execOcTimerExpire p s
  | .ocTimerReset p => Sys2Proof.Machine.execOcTimerReset p s
  | .shortCircuit p => Sys2Proof.Machine.execShortCircuit p s
  | .rampTimeout p => Sys2Proof.Machine.execRampTimeout p s
  | .overVoltage p => Sys2Proof.Machine.execOverVoltage p s
  | .reverseCurrent p => Sys2Proof.Machine.execReverseCurrent p s
  | .gateOffConfirmed p => Sys2Proof.Machine.execGateOffConfirmed p s
  | .coolExpire p => Sys2Proof.Machine.execCoolExpire p s
  | .onStableExpire p => Sys2Proof.Machine.execOnStableExpire p s
  | .fbTrimTick p => Sys2Proof.Machine.execFbTrimTick p s
  | .powerGoodAssert p => Sys2Proof.Machine.execPowerGoodAssert p s
  | .ppsCurrentLimit p ma => Sys2Proof.Machine.execPpsCurrentLimit p ma s
  | .vbusSafe0vReached p => Sys2Proof.Machine.execVbusSafe0vReached p s
  | .earlywarnEntry b ch => Sys2Proof.Machine.execEarlywarnEntry b ch s
  | .shedNext b => Sys2Proof.Machine.execShedNext b s
  | .earlywarnRestoreExpire b => Sys2Proof.Machine.execEarlywarnRestoreExpire b s
  | .restoreNext => Sys2Proof.Machine.execRestoreNext s
  -- Modes
  | .tempoSample idx => Sys2Proof.Machine.execTempoSample idx s
  | .tempoRecoveredExpire => Sys2Proof.Machine.execTempoRecoveredExpire s
  | .sundialCheck second => Sys2Proof.Machine.execSundialCheck second s
  | .regulatorSettled mv => Sys2Proof.Machine.execRegulatorSettled mv s
  | .regulatorSettleTimeout => Sys2Proof.Machine.execRegulatorSettleTimeout s
  | .modeWindowsDrained => Sys2Proof.Machine.execModeWindowsDrained s
  | .autoRaiseTimer => Sys2Proof.Machine.execAutoRaiseTimer s
  | .regulatorPoll rd => Sys2Proof.Machine.execRegulatorPoll rd s
  | .drowseIdleExpire => Sys2Proof.Machine.execDrowseIdleExpire s
  | .dormantIdleExpire => Sys2Proof.Machine.execDormantIdleExpire s
  | .dormantEntryComplete => Sys2Proof.Machine.execDormantEntryComplete s
  | .wakeCause c => Sys2Proof.Machine.execWakeCause c s
  | .dormantExitComplete => Sys2Proof.Machine.execDormantExitComplete s
  | .brownOut => Sys2Proof.Machine.execBrownOut s
  -- Engines
  | .rotationTimer => Sys2Proof.Machine.execRotationTimer s
  | .rotationCopyDone pauseUs => Sys2Proof.Machine.execRotationCopyDone pauseUs s
  | .engineSelfTestDone pass => Sys2Proof.Machine.execEngineSelfTestDone pass s
  | .spareRefillDone => Sys2Proof.Machine.execSpareRefillDone s
  | .codePageRepair t peerOk => Sys2Proof.Machine.execCodePageRepair t peerOk s
  | .threadRestart t engineLost => Sys2Proof.Machine.execThreadRestart t engineLost s
  | .keeperMemoryRewrite => Sys2Proof.Machine.execKeeperMemoryRewrite s
  | .keeperDivergence => Sys2Proof.Machine.execKeeperDivergence s
  | .updateImageChecked image fmtSame => Sys2Proof.Machine.execUpdateImageChecked image fmtSame s
  | .keeperSwap => Sys2Proof.Machine.execKeeperSwap s
  | .keeperReady => Sys2Proof.Machine.execKeeperReady s
  | .keeperReadyTimeout => Sys2Proof.Machine.execKeeperReadyTimeout s
  | .updateAbandonDone => Sys2Proof.Machine.execUpdateAbandonDone s
  | .bedTestIdle b => Sys2Proof.Machine.execBedTestIdle b s
  | .bedTestDeadline => Sys2Proof.Machine.execBedTestDeadline s
  | .selfTestDone op pass ms => Sys2Proof.Machine.execSelfTestDone op pass ms s
  | .graftRunExpire g hk => Sys2Proof.Machine.execGraftRunExpire g hk s
  | .graftServiceCall g c => Sys2Proof.Machine.execGraftServiceCall g c s
  | .graftTimerExpire g p => Sys2Proof.Machine.execGraftTimerExpire g p s
  -- Dispatch11
  | .dispatcherSourceAssert n entering => Sys2Proof.Machine.execDispatcherSourceAssert n entering s
  | .dispatcherClaim pr => Sys2Proof.Machine.execDispatcherClaim pr s
  | .dispatcherEoi pr n stillHigh seenHigh => Sys2Proof.Machine.execDispatcherEoi pr n stillHigh seenHigh s
  | .holdoffTimerExpire g => Sys2Proof.Machine.execHoldoffTimerExpire g s
  | .dispatcherStackMismatch pr => Sys2Proof.Machine.execDispatcherStackMismatch pr s
  -- Faults
  | .faultLineRaised r => Sys2Proof.Machine.execFaultLineRaised r s
  | .faultLineBroken n v => Sys2Proof.Machine.execFaultLineBroken n v s
  | .faultLineQuiet n => Sys2Proof.Machine.execFaultLineQuiet n s
  | .portHoldDone p => Sys2Proof.Machine.execPortHoldDone p s
  | .bedRestartDone b => Sys2Proof.Machine.execBedRestartDone b s
  | .bedIsolateDone b => Sys2Proof.Machine.execBedIsolateDone b s
  | .collectorMismatch => Sys2Proof.Machine.execCollectorMismatch s
  | .collectorRebuildDone => Sys2Proof.Machine.execCollectorRebuildDone s
  | .faultNPulseEnd => Sys2Proof.Machine.execFaultNPulseEnd s
  | .contextRebuildDone e found => Sys2Proof.Machine.execContextRebuildDone e found s
  -- Core
  | .sramEccError a unit double => Sys2Proof.Machine.execSramEccError a unit double s
  | .scrubTick => Sys2Proof.Machine.execScrubTick s
  | .troughWordRebuild k => Sys2Proof.Machine.execTroughWordRebuild k s
  | .troughBankRetire k lost => Sys2Proof.Machine.execTroughBankRetire k lost s
  | .bankRebuildDone => Sys2Proof.Machine.execBankRebuildDone s
  | .marchTimer => Sys2Proof.Machine.execMarchTimer s
  | .fallowMoveDone => Sys2Proof.Machine.execFallowMoveDone s
  | .marchDone pass => Sys2Proof.Machine.execMarchDone pass s
  | .adcCalTimer b => Sys2Proof.Machine.execAdcCalTimer b s
  | .efuseTestPulse p agree => Sys2Proof.Machine.execEfuseTestPulse p agree s
  | .keeperSelfCheck => Sys2Proof.Machine.execKeeperSelfCheck s
  | .coldFrameWatchTest seen => Sys2Proof.Machine.execColdFrameWatchTest seen s
  | .fabricCheckFail w => Sys2Proof.Machine.execFabricCheckFail w s
  | .fabricHandshakeTimeout hop => Sys2Proof.Machine.execFabricHandshakeTimeout hop s
  | .laneFail b lane => Sys2Proof.Machine.execLaneFail b lane s
  | .ringEngineLost k => Sys2Proof.Machine.execRingEngineLost k s
  | .thermalWarning die => Sys2Proof.Machine.execThermalWarning die s
  | .thermalShutdown die => Sys2Proof.Machine.execThermalShutdown die s
  | .thermalCooled die => Sys2Proof.Machine.execThermalCooled die s
  -- Capture
  | .sievePacketBegin p => Sys2Proof.Machine.execSievePacketBegin p s
  | .sievePacketEnd p r => Sys2Proof.Machine.execSievePacketEnd p r s
  | .sievePointerMismatch p => Sys2Proof.Machine.execSievePointerMismatch p s
  | .exporterPoll p cons => Sys2Proof.Machine.execExporterPoll p cons s
  -- Almanac
  | .smbusIdentity => Sys2Proof.Machine.execSmbusIdentity s
  | .smbusStatus => Sys2Proof.Machine.execSmbusStatus s
  | .smbusAlmanacInfo => Sys2Proof.Machine.execSmbusAlmanacInfo s
  | .smbusAlmanacSelect w => Sys2Proof.Machine.execSmbusAlmanacSelect w s
  | .smbusAlmanacRead => Sys2Proof.Machine.execSmbusAlmanacRead s
  | .smbusTelemetrySelect pg => Sys2Proof.Machine.execSmbusTelemetrySelect pg s
  | .smbusTelemetryRead => Sys2Proof.Machine.execSmbusTelemetryRead s
  | .smbusAlertResponse => Sys2Proof.Machine.execSmbusAlertResponse s
  | .ptmDialogue => Sys2Proof.Machine.execPtmDialogue s
  | .ptmResponse hostTime => Sys2Proof.Machine.execPtmResponse hostTime s
  | .telemetryRefresh t => Sys2Proof.Machine.execTelemetryRefresh t s
  -- Supply
  | .refclk25Restored => Sys2Proof.Machine.execRefclk25Restored s
  -- Pd
  | .psTransitionTimeout p k => Sys2Proof.Machine.execPsTransitionTimeout p k s
  -- Links
  | .u1U2EntryRequest p u2 => Sys2Proof.Machine.execU1U2EntryRequest p u2 s
  | .deviceNotificationReceived p k => Sys2Proof.Machine.execDeviceNotificationReceived p k s

end Sys2Proof.Machine
end

