-- ==== Sys2Proof/Machine/Idle.lean ====
section
/-! DEFINITION. What a step on an empty queue does: the first waiting command whose wait has ended is taken
(04 R139, R150), or the block idles for one period of its timebase (16 R552; notes/assumptions/1.md). -/

namespace Sys2Proof.Machine

open Sys2Proof

/-- A bundle that ends what concerns its target: it takes its turn before what waits for that target (04 R139; 05 R186). -/
def Waiting.ends (w : Waiting) : Bool := w.keys.any (fun k => match k with | .slotHeld .. | .portHeld _ => true | _ => false)
/-- The first waiting command whose wait has ended and that no earlier waiting command of the same target precedes, with
the waiting commands before and after it. -/
def findReady (s : State) : List Waiting → List Waiting → Option (List Waiting × Waiting × List Waiting)
  | _, [] => none
  | before, w :: l =>
    if w.keys.any s.keyBusy || before.any (fun b => sameTarget b.keys w.keys && (!w.ends || b.ends)) then findReady s (before ++ [w]) l
    else some (before, w, l)
def takeReady (s : State) : Option (List Waiting × Waiting × List Waiting) := findReady s [] s.waiting
/-- A bundle of the part's own that waited (05 R174, R182, R187). -/
def runJob : Job → State → State
  | .cmd _, s => s
  | .pauseEnd r, s => pauseTry r { s with blocked := [] }
  | .detach key, s => detachTry key { s with blocked := [] }
  | .hand k prod, s => happen (handOver k prod) s

/-- One period of the local count (16 R552), and the slewing of a PTM error by SLEW_PPM, which never steps the time back (16 R553). -/
def Time.tick (t : Time) (ppm : Nat) : Time :=
  let t := { t with local_ := (t.local_ + 8) % 2 ^ 64 }
  if t.slew = 0 then t
  else
    let acc := t.acc + 8 * ppm
    let n : Nat := if acc < 1000000 then 0 else 1
    let by_ := if t.slew < 0 then -(n : Int) else n
    { t with acc := acc - 1000000 * n, offset := t.offset + by_, slew := t.slew - by_ }
/-- The idle step (DESIGN CHOICE, notes/assumptions/1.md): injections that no record has taken are acknowledged (15 R528), and 8 ns of the
local count pass while REFCLK25 runs. -/
def idleTick (s : State) : State :=
  let s := { injAck { s with blocked := [] } with blocked := [] }
  if s.sup.refclk then { s with time := s.time.tick s.slewPpm } else s

end Sys2Proof.Machine
end

