-- ==== Sys2Proof/Machine/Step.lean ====
section
/-! DEFINITION. One step: the command at the front of the queue runs with the queue's rest; on an empty queue a waiting
command whose wait has ended runs, and else the block idles (notes/assumptions/1.md). -/

namespace Sys2Proof.Machine

open Sys2Proof

/-- A waiting command has run: what it leaves waiting takes its place among the others (04 R139). -/
def putBack (before after : List Waiting) (t : State) : State :=
  { t with waiting := before.filter (t.aside.contains ·) ++ t.waiting ++ after.filter (t.aside.contains ·), aside := [] }
/-- Runs a command that waited, with the others set aside (04 R139, R150). -/
def runWaiting (before : List Waiting) (w : Waiting) (after : List Waiting) (s : State) : Host.Outcome State Fault Refusal :=
  let s := { s with waiting := [], aside := before ++ after }
  match w.job with
  | .cmd c =>
    (match exec c s with
     | .next t => .next (putBack before after t)
     | o => o)
  | j => .next (putBack before after (runJob j s))

/-- One step of the block. -/
def step (s : State) : Host.Outcome State Fault Refusal :=
  match s.pending with
  | c :: rest => exec c { s with pending := rest }
  | [] =>
    match takeReady s with
    | some (before, w, after) => runWaiting before w after s
    | none => .next (idleTick s)

/-- The state with the command that a word spells put at the front of its queue. -/
def State.withFetchWord (s : State) (nbits w : Nat) : State :=
  match decodeTableWord nbits w with
  | some c => { s with pending := c :: s.pending }
  | none => s

end Sys2Proof.Machine
end

