-- ==== Sys2Proof/Safety.lean ====
section
/-! DEFINITION. What a safe run is, in the terms the statements use: a step that completes, the parts of the state and which of them a
command may write, the state in which a command of the command ring starts at once, and the room of the event rings. -/

namespace Sys2Proof.Safety

open Sys2Proof Sys2Proof.Machine

/-- A step that answers a next state: neither a fault nor a refusal. -/
def Completes (c : Instr) (s : State) : Prop := ∃ t, exec c s = .next t
/-- exec answers a next state that satisfies `P`. -/
def Gives (c : Instr) (s : State) (P : State → Prop) : Prop := ∃ t, exec c s = .next t ∧ P t
/-- The bytes written to host memory under a function; a write addressed to the part's own windows is never issued (03 R88). -/
def Wrote (f a : Nat) (bs : List Byte) (s t : State) : Prop := s.pcie.own a = false → Out.hostWrite f a bs ∈ t.out

/-! ### Parts of the state -/

/-- The register of a function's count of unsent records (04 R151, R614). -/
def unsentReg (off : Nat) : Bool := decide (0x1000000 ≤ off) && (off - 0x1000000) % 0x4000 == 0x18
/-- The parts of State, one for each of its fields. Three fields are two parts each: the MSI-X vectors apart from the rest of `pcie`, the
event rings of a function apart from the rest of its run state, and the counts of unsent records apart from the other registers. -/
inductive Part
  | pending | waiting | aside | ops | regs | lock | blockedLast | otp | sup | boot | pcie | fns | slots | eps | short | grants | links | buses | guests | tcs | pds | paths | brgs | caps | capStarts | beds | hooks | budget | mode | eng | grafts | dsp | flt | inj | alm | time | smb | tele | tallies | units | out | blocked | free | msix | evrs | unsent
  deriving DecidableEq, Repr
/-- Two states agree in a part. -/
def Part.same (s t : State) : Part → Prop
  | .pending => t.pending = s.pending
  | .waiting => t.waiting = s.waiting
  | .aside => t.aside = s.aside
  | .ops => t.ops = s.ops
  | .regs => ∀ off, unsentReg off = false → t.rget off = s.rget off
  | .lock => t.lock = s.lock
  | .blockedLast => t.blockedLast = s.blockedLast
  | .otp => t.otp = s.otp
  | .sup => t.sup = s.sup
  | .boot => t.boot = s.boot
  | .pcie => ({ t.pcie with msix := [] } : Pcie) = { s.pcie with msix := [] }
  | .fns => ∀ f, ({ t.fn f with evrs := [] } : FnRun) = { s.fn f with evrs := [] }
  | .slots => t.slots = s.slots
  | .eps => t.eps = s.eps
  | .short => t.short = s.short
  | .grants => t.grants = s.grants
  | .links => t.links = s.links
  | .buses => t.buses = s.buses
  | .guests => t.guests = s.guests
  | .tcs => t.tcs = s.tcs
  | .pds => t.pds = s.pds
  | .paths => t.paths = s.paths
  | .brgs => t.brgs = s.brgs
  | .caps => t.caps = s.caps
  | .capStarts => t.capStarts = s.capStarts
  | .beds => t.beds = s.beds
  | .hooks => t.hooks = s.hooks
  | .budget => t.budget = s.budget
  | .mode => t.mode = s.mode
  | .eng => t.eng = s.eng
  | .grafts => t.grafts = s.grafts
  | .dsp => t.dsp = s.dsp
  | .flt => t.flt = s.flt
  | .inj => t.inj = s.inj
  | .alm => t.alm = s.alm
  | .time => t.time = s.time
  | .smb => t.smb = s.smb
  | .tele => t.tele = s.tele
  | .tallies => t.tallies = s.tallies
  | .units => t.units = s.units
  | .out => t.out = s.out
  | .blocked => t.blocked = s.blocked
  | .free => t.free = s.free
  | .msix => t.pcie.msix = s.pcie.msix
  | .evrs => ∀ f, (t.fn f).evrs = (s.fn f).evrs
  | .unsent => ∀ off, unsentReg off = true → t.rget off = s.rget off
/-- Nothing but the listed parts has changed. -/
def OnlyChanges (l : List Part) (s t : State) : Prop := ∀ p, p ∉ l → p.same s t

/-- What posting an event record may write: the ring and its vector, messages, and the count of records that found no ring
(04 R142 – R152; 03 R108). -/
def eventParts : List Part := [.unsent, .evrs, .msix, .out, .blocked]
/-- What a command of the command ring may write whatever it does: its COMMAND event, or the list of waiting commands (04 R139, R140, R150). -/
def commandParts : List Part := .waiting :: eventParts
/-- Every part. -/
def allParts : List Part :=
  [.pending, .waiting, .aside, .ops, .regs, .lock, .blockedLast, .otp, .sup, .boot, .pcie, .fns, .slots, .eps, .short, .grants, .links, .buses, .guests, .tcs, .pds, .paths, .brgs, .caps, .capStarts, .beds, .hooks, .budget, .mode, .eng, .grafts, .dsp, .flt, .inj, .alm, .time, .smb, .tele, .tallies, .units, .out, .blocked, .free, .msix, .evrs, .unsent]
def allBut (l : List Part) : List Part := allParts.filter (fun p => !l.contains p)

/-- The parts a command may write; every other part is as before (statement CommandFrame). The queue is in no list. -/
def parts : Instr → List Part
    | .powerOn .. =>
      allBut [.pending, .otp, .free]
    | .supplyMainLow .. | .perstAssert =>
      allBut [.pending, .otp, .out, .free]
    | .supplyMainRecovered | .perstRelease | .conventionalReset .. | .flrPf =>
      allBut [.pending, .out, .free]
    | .vddHvLow =>
      allBut [.pending, .aside, .lock, .blockedLast, .otp, .fns, .short, .grants, .brgs, .capStarts, .hooks, .grafts, .time, .tele,
        .tallies, .free]
    | .vddHvReturn =>
      commandParts ++ [.ops, .sup, .slots, .eps, .links, .buses, .guests, .tcs, .pds, .paths, .budget, .flt]
    | .vconnInLow | .vconnOcTrip .. | .vconnShortTrip .. =>
      allBut [.pending, .aside, .lock, .blockedLast, .otp, .sup, .boot, .pcie, .fns, .short, .grants, .brgs, .capStarts, .hooks, .mode,
        .grafts, .time, .tele, .tallies, .units]
    | .retentionLost =>
      commandParts ++ [.ops, .regs, .boot, .slots, .eps, .links, .buses, .caps, .mode, .alm]
    | .sramWipeComplete | .configSpaceReady | .jtagInstruction .. =>
      [.sup]
    | .configRequest .. =>
      allBut [.pending]
    | .linkRetrain .. | .sundialCheck .. | .regulatorPoll .. | .codePageRepair .. | .threadRestart .. | .keeperMemoryRewrite
    | .keeperDivergence | .selfTestDone .. | .dispatcherEoi .. | .dispatcherStackMismatch .. | .faultLineRaised .. | .collectorMismatch
    | .sramEccError .. | .troughWordRebuild .. | .efuseTestPulse .. | .fabricCheckFail .. | .fabricHandshakeTimeout .. | .laneFail ..
    | .ringEngineLost .. | .thermalWarning .. | .thermalShutdown .. | .sievePointerMismatch .. =>
      allBut [.pending, .aside, .lock, .blockedLast, .otp, .sup, .boot, .fns, .short, .grants, .brgs, .capStarts, .hooks, .grafts,
        .time, .tele, .tallies, .free]
    | .linkRecovery | .adcCalTimer .. | .keeperSelfCheck =>
      []
    | .flrVf .. | .vfEnableClear =>
      commandParts ++ [.aside, .ops, .regs, .pcie, .fns, .slots, .eps, .links, .buses, .guests, .brgs, .caps]
    | .flrVfComplete .. | .maxPayloadSizeChange .. =>
      [.pcie, .msix]
    | .vfEnableSet =>
      commandParts ++ [.ops, .pcie, .slots, .eps, .links, .buses]
    | .functionD0Entry .. =>
      commandParts ++ [.ops, .regs, .pcie, .slots, .eps, .links, .buses, .caps, .mode]
    | .refclk25Lost =>
      allBut [.pending, .aside, .lock, .blockedLast, .otp, .boot, .fns, .short, .grants, .brgs, .capStarts, .hooks, .grafts, .time,
        .tele, .tallies, .free]
    | .ldrProdWrite .. | .ldrRestart .. | .setupLockWrite .. | .registerWrite .. | .dozeEnClear .. | .evrEnableWrite ..
    | .fltStatusClear .. | .fltWireClear .. | .fltCntClear .. | .safeHoldClear .. | .fltPinHeldClear .. | .fltPinForce ..
    | .injFireTagged .. | .injFireWire .. | .prtSieveLostClear .. =>
      allBut [.pending, .aside, .otp, .sup, .pcie, .brgs, .capStarts, .hooks, .grafts, .tele, .tallies, .units, .free]
    | .loaderDescriptorFetched .. | .imageCheckDone =>
      [.boot, .alm, .smb, .blocked]
    | .imagePieceReceived .. =>
      [.boot]
    | .loaderReadError .. =>
      [.boot, .pcie, .alm, .smb, .blocked, .msix]
    | .keeperConfigCheck =>
      [.boot, .mode, .alm, .smb, .out, .blocked]
    | .tenderStartupDone =>
      [.regs, .boot, .paths, .beds, .hooks, .budget, .grafts, .unsent]
    | .sowingComplete =>
      commandParts ++ [.ops, .regs, .boot, .slots, .eps, .links, .buses, .tcs, .pds, .paths, .budget, .mode, .eng, .dsp, .alm, .free]
    | .persistHoldExpire .. =>
      [.sup, .boot, .links, .tcs, .pds, .paths, .blocked]
    | .vfBar0Write .. =>
      [.regs, .blockedLast, .unsent]
    | .misalignedAccess .. | .msixUnmask .. =>
      [.regs, .out, .msix, .unsent]
    | .sleepWordAccess .. | .almDataRead .. =>
      [.regs, .out, .unsent]
    | .nudge .. =>
      commandParts ++ [.ops, .regs, .fns, .slots, .eps, .links, .buses, .caps, .mode]
    | .tempoStatusRead =>
      [.regs, .mode, .out, .unsent]
    | .teleTempRead .. =>
      [.regs, .tele, .out, .unsent]
    | .prtFrameRead .. =>
      [.regs, .buses, .out, .unsent]
    | .tallyLoRead .. =>
      [.regs, .time, .tallies, .out, .unsent]
    | .noOp .. | .guestSnapshot .. | .readAlmanacSlots .. | .readAlmanacInfo .. =>
      commandParts
    | .unknownCommand .. | .devBudget .. =>
      commandParts ++ [.tcs, .paths, .budget]
    | .openSlot .. | .guestOpen .. =>
      commandParts ++ [.slots, .eps, .guests, .free]
    | .assignAddress .. | .treeWake .. =>
      commandParts ++ [.slots]
    | .setEndpoints .. | .guestEndpoints .. =>
      commandParts ++ [.slots, .eps, .buses, .guests, .free]
    | .clearHalt .. | .guestEpHalt .. | .guestEpUnhalt .. =>
      commandParts ++ [.eps, .buses]
    | .pauseEndpoint .. | .guestEpPause .. =>
      commandParts ++ [.ops, .eps, .buses]
    | .moveCursor .. | .snapshotContext .. | .guestEpMove .. =>
      commandParts ++ [.eps]
    | .closeSlot .. =>
      commandParts ++ [.aside, .ops, .slots, .eps, .buses]
    | .portEnable .. | .portDisable .. | .usb2Detach .. | .ssDetach .. =>
      commandParts ++ [.ops, .slots, .eps, .links, .buses]
    | .portReset .. | .ssResumeTimeout .. | .contextRebuildDone .. =>
      commandParts ++ [.ops, .eps, .links, .buses]
    | .portResetQuiesced .. =>
      commandParts ++ [.slots, .eps, .links]
    | .hotResetTimeout .. | .ssU3Entered .. =>
      [.links, .out]
    | .portResetDone .. | .portSuspend .. | .resumeRecoveryEnd .. =>
      commandParts ++ [.ops, .links, .buses]
    | .suspendQuiesced .. | .resumeKEnd .. =>
      [.links]
    | .suspendComplete .. =>
      commandParts ++ [.ops, .eps, .links]
    | .portResume .. =>
      commandParts ++ [.ops, .links]
    | .treeSleep .. =>
      commandParts ++ [.ops, .slots, .eps, .buses]
    | .treeSleepQuiesced .. =>
      commandParts ++ [.ops]
    | .portTest .. | .ssRetry .. =>
      commandParts ++ [.links]
    | .powerOff .. | .powerCycle .. | .vbusSinkDisconnect .. | .quarantineReleaseExpire .. | .hardResetCountExhausted .. =>
      commandParts ++ [.ops, .slots, .eps, .links, .buses, .guests, .tcs, .pds, .paths, .budget, .flt]
    | .powerCycleDelayExpire .. =>
      commandParts ++ [.ops, .tcs, .paths, .budget]
    | .guestClose .. | .guestBusReset .. =>
      commandParts ++ [.ops, .eps, .links, .buses, .guests]
    | .guestConnect .. =>
      commandParts ++ [.guests]
    | .guestDisconnect .. | .guestHostGone .. | .guestSsLinkTimeout .. =>
      commandParts ++ [.ops, .eps, .links, .guests]
    | .guestWake .. | .guestResumeDetect .. =>
      commandParts ++ [.ops, .links, .guests]
    | .guestWakeKStart .. =>
      [.links, .guests, .out]
    | .guestWakeKEnd .. | .guestPresent .. =>
      [.guests]
    | .roleSet .. =>
      commandParts ++ [.ops, .slots, .eps, .links, .buses, .guests]
    | .portLimit .. | .hardReset .. | .ccIdleTimeout .. | .ccCollision .. | .treceiveExpire .. | .ppsTimeout .. | .eprKeepaliveTimeout ..
    | .senderResponseTimeout .. =>
      commandParts ++ [.ops, .regs, .slots, .eps, .links, .buses, .guests, .tcs, .pds, .paths, .budget]
    | .shedClass .. | .indLevel .. =>
      commandParts ++ [.paths]
    | .bedBudget .. =>
      commandParts ++ [.tcs, .paths, .beds, .budget]
    | .sendCaps .. =>
      commandParts ++ [.ops, .regs, .tcs, .pds, .free]
    | .pdRequestRdo .. | .drSwap .. | .prSwap .. | .vconnSwap .. | .getSourceCaps .. | .getSinkCaps .. | .discover .. | .eprEnter ..
    | .eprExit .. | .getStatus .. | .sendVdm .. =>
      commandParts ++ [.ops, .tcs, .pds]
    | .softReset .. =>
      commandParts ++ [.ops, .regs, .tcs, .pds]
    | .setMode .. | .autoRaiseTimer | .wakeCause .. =>
      commandParts ++ [.ops, .regs, .slots, .eps, .links, .buses, .caps, .mode]
    | .rotateNext .. | .rotateEngine .. | .rotateUpdate .. | .updateCancel .. | .selfTestTender .. | .selfTestAdc .. | .selfTestBed ..
    | .selfTestKeeper .. | .updateImageChecked .. | .updateAbandonDone | .bedTestDeadline =>
      commandParts ++ [.eng]
    | .selfTestBank .. =>
      commandParts ++ [.eng, .units]
    | .captureStart .. =>
      commandParts ++ [.regs, .caps, .capStarts]
    | .captureStop .. =>
      commandParts ++ [.regs, .caps]
    | .captureFlush .. =>
      commandParts ++ [.caps]
    | .lifecyclePlant .. | .lifecycleUproot .. | .lifecycleReturn .. | .lifecycleRevoke .. | .lifecycleRaiseFloor .. =>
      commandParts ++ [.otp, .boot, .links, .tcs, .pds, .paths, .alm]
    | .lifecycleCommitDone =>
      allBut [.pending, .sup, .out, .free]
    | .rakeSweep .. | .rakeDozeEnter .. =>
      commandParts ++ [.fns, .eps, .links, .buses]
    | .bellReadError .. =>
      allBut [.pending, .aside, .lock, .blockedLast, .otp, .sup, .boot, .short, .grants, .brgs, .capStarts, .hooks, .mode, .grafts,
        .time, .tele, .tallies, .units, .free]
    | .evrConsRead .. | .eventRingRoomReturns .. | .msixHoldoffExpire .. =>
      [.out, .msix, .evrs]
    | .descriptorFetched .. =>
      allBut [.pending, .aside, .lock, .blockedLast, .otp, .sup, .boot, .pcie, .short, .grants, .brgs, .capStarts, .hooks, .mode,
        .grafts, .time, .tele, .units, .free]
    | .hostReadError .. =>
      allBut [.pending, .aside, .lock, .blockedLast, .otp, .sup, .boot, .short, .grants, .brgs, .capStarts, .hooks, .mode, .grafts,
        .time, .tele, .units, .free]
    | .streamTableRead .. | .outDataFetched .. | .creditGrant .. | .creditRevocationSettled .. | .packetClaim .. | .microframeStart ..
    | .nakLimitReached .. | .transactionTimeout .. | .transactionErrorReceived .. | .stallReceived .. | .babbleDetected ..
    | .nrdyReceived .. | .erdyReceived .. | .setupStageComplete .. =>
      commandParts ++ [.ops, .eps, .links, .buses, .tallies]
    | .pendClear .. | .isoStreamEnd .. =>
      [.eps]
    | .windowBuild .. =>
      [.buses]
    | .windowLoadPoint .. | .pdMessageReceived .. | .coolExpire .. | .keeperReadyTimeout | .faultLineBroken .. | .bedIsolateDone ..
    | .collectorRebuildDone =>
      allBut [.pending, .aside, .lock, .blockedLast, .otp, .sup, .boot, .pcie, .fns, .short, .grants, .brgs, .capStarts, .hooks, .mode,
        .grafts, .time, .tele, .tallies, .units, .free]
    | .inPacketReceived .. =>
      commandParts ++ [.ops, .regs, .slots, .eps, .links, .buses, .tallies, .free]
    | .outHandshake .. | .splitResult .. | .setAddressRecoveryEnd .. | .toggleSnoopReset .. =>
      commandParts ++ [.ops, .slots, .eps, .links, .buses, .tallies]
    | .isoCommitDeadline .. =>
      eventParts ++ [.eps, .buses]
    | .usb2ConnectDebounce .. =>
      eventParts ++ [.slots, .eps, .links]
    | .ssTrainingU0 .. =>
      eventParts ++ [.links, .buses]
    | .ssTrainingTimeout .. =>
      eventParts ++ [.regs, .links]
    | .remoteWakeDetected .. | .l1IdleExpire .. | .uStateTimerExpire .. | .u1U2EntryRequest .. =>
      [.links, .out, .blocked]
    | .lpmAnswer .. | .l1Exit .. | .deviceNotificationReceived .. =>
      [.links, .blocked]
    | .ssInactive .. | .portBabble .. =>
      commandParts ++ [.ops, .regs, .eps, .links, .buses]
    | .ssRecoveryEntry .. =>
      [.regs, .blocked, .unsent]
    | .guestResetEnd .. =>
      commandParts ++ [.eps, .links, .buses, .guests]
    | .guestSetupReceived .. =>
      eventParts ++ [.eps, .buses, .guests, .tallies, .free]
    | .guestSetupDeliver .. =>
      commandParts ++ [.eps, .buses, .guests]
    | .guestToken .. =>
      eventParts ++ [.slots, .eps, .links, .buses, .guests, .tallies, .free]
    | .guestOutPacket .. =>
      commandParts ++ [.ops, .regs, .slots, .eps, .buses, .guests, .tallies, .free]
    | .guestInHandshake .. =>
      commandParts ++ [.ops, .slots, .eps, .buses, .guests, .tallies]
    | .guestSuspendDetect .. =>
      commandParts ++ [.links, .guests]
    | .ccTerminationChange .. =>
      commandParts ++ [.ops, .slots, .eps, .links, .buses, .tcs]
    | .ccAttachDebounce .. =>
      commandParts ++ [.ops, .slots, .eps, .links, .buses, .guests, .tcs, .pds, .paths, .budget]
    | .ccDetachDebounce .. =>
      commandParts ++ [.ops, .sup, .boot, .slots, .eps, .links, .buses, .guests, .tcs, .pds, .paths, .budget, .flt]
    | .drpPeriodExpire .. | .tryTimerExpire .. | .errorRecoveryExpire .. =>
      [.tcs, .blocked]
    | .moistureReadingStart .. | .floodBucketRoll .. =>
      [.tcs]
    | .moistureReadingDone .. =>
      commandParts ++ [.ops, .regs, .slots, .eps, .links, .buses, .tcs]
    | .ccLineIdle .. =>
      [.pds, .out]
    | .sinktxWaitExpire .. | .eprKeepaliveReceived .. | .getStatusReceived .. | .notSupportedReceived .. =>
      [.pds]
    | .goodcrcReceived .. =>
      commandParts ++ [.ops, .regs, .slots, .eps, .links, .buses, .guests, .tcs, .pds, .paths, .budget, .flt, .free]
    | .drSwapAcceptAcked .. =>
      commandParts ++ [.ops, .regs, .slots, .eps, .links, .buses, .guests, .tcs, .pds, .free]
    | .sourceCapsReceived .. | .cableDiscoveryTimer .. | .sendSourceCapTimer .. =>
      eventParts ++ [.regs, .tcs, .pds, .free]
    | .requestReceived .. | .swapRequestReceived .. =>
      commandParts ++ [.ops, .regs, .slots, .eps, .links, .buses, .guests, .tcs, .pds, .paths, .budget, .free]
    | .waitReceived .. | .swapRetryTimer .. =>
      eventParts ++ [.ops, .tcs, .pds]
    | .psRdyReceived .. =>
      eventParts ++ [.ops, .regs, .tcs, .pds, .paths, .budget, .free]
    | .eprModeReceived .. =>
      eventParts ++ [.ops, .regs, .tcs, .pds, .free]
    | .softResetReceived .. =>
      eventParts ++ [.ops, .regs, .pds]
    | .hardResetReceived .. =>
      allBut [.pending, .aside, .lock, .blockedLast, .otp, .pcie, .fns, .short, .grants, .brgs, .capStarts, .hooks, .mode, .grafts,
        .time, .tele, .tallies, .units, .free]
    | .hardResetSourceOff .. =>
      commandParts ++ [.ops, .slots, .eps, .links, .buses, .paths, .flt]
    | .srcRecoverExpire .. | .vbusSafe0vReached .. =>
      eventParts ++ [.tcs, .pds, .paths, .budget]
    | .alertReceived .. =>
      eventParts ++ [.pds]
    | .vdmReceived .. =>
      eventParts ++ [.tcs, .pds, .free]
    | .pdResponseReceived .. =>
      commandParts ++ [.ops, .regs, .slots, .eps, .links, .buses, .guests, .tcs, .pds, .paths, .flt, .free]
    | .srcTransitionExpire .. =>
      [.regs, .tcs, .pds, .paths, .blocked, .free, .unsent]
    | .waitHoldExpire .. | .offerChange .. =>
      [.regs, .tcs, .pds, .blocked, .free, .unsent]
    | .snkWaitExpire .. =>
      [.tcs, .pds, .blocked]
    | .sinkRefreshTimer .. =>
      [.tcs, .pds]
    | .trellisHelloReceived .. | .trellisTimeout .. =>
      eventParts ++ [.tcs, .pds]
    | .bridgePoll .. =>
      eventParts ++ [.brgs]
    | .uartByteReceived .. =>
      [.regs, .brgs, .unsent]
    | .uartByteSent .. =>
      [.brgs, .out]
    | .pathOrder .. | .rampComplete .. =>
      commandParts ++ [.ops, .slots, .eps, .links, .buses, .tcs, .paths, .budget, .flt]
    | .ocTimerStart .. =>
      [.regs, .paths, .unsent]
    | .ocTimerExpire .. | .shortCircuit .. | .rampTimeout .. | .overVoltage .. | .reverseCurrent .. =>
      allBut [.pending, .aside, .lock, .blockedLast, .otp, .pcie, .fns, .short, .grants, .brgs, .capStarts, .hooks, .mode, .grafts,
        .time, .tele, .tallies, .units]
    | .ocTimerReset .. | .gateOffConfirmed .. | .onStableExpire .. | .fbTrimTick .. =>
      [.paths]
    | .powerGoodAssert .. =>
      commandParts ++ [.ops, .regs, .slots, .eps, .links, .buses, .tcs, .pds, .paths, .budget, .flt, .free]
    | .ppsCurrentLimit .. =>
      [.pds, .paths, .free]
    | .earlywarnEntry .. =>
      commandParts ++ [.ops, .regs, .slots, .eps, .links, .buses, .tcs, .pds, .paths, .beds, .budget, .flt]
    | .shedNext .. | .psTransitionTimeout .. =>
      commandParts ++ [.ops, .regs, .slots, .eps, .links, .buses, .guests, .tcs, .pds, .paths, .budget, .flt]
    | .earlywarnRestoreExpire .. =>
      eventParts ++ [.tcs, .paths, .beds, .budget]
    | .restoreNext =>
      commandParts ++ [.ops, .regs, .slots, .eps, .links, .buses, .guests, .tcs, .pds, .paths, .beds, .budget]
    | .tempoSample .. | .regulatorSettled .. | .regulatorSettleTimeout | .dormantExitComplete | .spareRefillDone =>
      commandParts ++ [.ops, .regs, .slots, .eps, .links, .buses, .caps, .mode, .eng]
    | .tempoRecoveredExpire | .dormantIdleExpire =>
      eventParts ++ [.mode]
    | .modeWindowsDrained | .dormantEntryComplete =>
      [.mode, .out]
    | .drowseIdleExpire =>
      eventParts ++ [.boot, .mode]
    | .brownOut =>
      [.regs, .mode, .alm, .unsent]
    | .rotationTimer =>
      eventParts ++ [.eng]
    | .rotationCopyDone .. =>
      [.eng, .dsp]
    | .engineSelfTestDone .. =>
      allBut [.pending, .aside, .lock, .blockedLast, .otp, .sup, .boot, .pcie, .fns, .short, .grants, .brgs, .capStarts, .hooks,
        .grafts, .time, .tele, .tallies, .units, .free]
    | .keeperSwap =>
      [.eng]
    | .keeperReady =>
      allBut [.pending, .aside, .lock, .blockedLast, .otp, .sup, .pcie, .fns, .short, .grants, .brgs, .capStarts, .hooks, .mode,
        .grafts, .time, .tele, .tallies, .units, .free]
    | .bedTestIdle .. =>
      [.beds, .eng]
    | .graftRunExpire .. | .graftServiceCall .. =>
      allBut [.pending, .aside, .lock, .blockedLast, .otp, .sup, .boot, .fns, .short, .grants, .brgs, .capStarts, .hooks, .time, .tele,
        .tallies, .free]
    | .graftTimerExpire .. =>
      [.grafts]
    | .dispatcherSourceAssert .. =>
      [.regs, .dsp, .unsent]
    | .dispatcherClaim .. | .holdoffTimerExpire .. =>
      [.dsp]
    | .faultLineQuiet .. | .thermalCooled .. =>
      commandParts ++ [.ops, .slots, .eps, .links, .buses, .guests, .tcs, .pds, .paths, .beds, .budget, .flt]
    | .portHoldDone .. =>
      commandParts ++ [.ops, .eps, .links, .buses, .flt]
    | .bedRestartDone .. =>
      commandParts ++ [.ops, .regs, .eps, .links, .buses, .tcs, .pds]
    | .faultNPulseEnd =>
      [.flt]
    | .scrubTick | .bankRebuildDone | .marchTimer | .fallowMoveDone =>
      [.units]
    | .troughBankRetire .. | .marchDone .. =>
      allBut [.pending, .aside, .lock, .blockedLast, .otp, .sup, .boot, .pcie, .fns, .short, .grants, .brgs, .capStarts, .hooks, .mode,
        .grafts, .time, .tele, .tallies, .free]
    | .coldFrameWatchTest .. =>
      allBut [.pending, .aside, .lock, .blockedLast, .otp, .sup, .fns, .short, .grants, .brgs, .capStarts, .hooks, .grafts, .time,
        .tele, .tallies, .free]
    | .sievePacketBegin .. | .exporterPoll .. =>
      eventParts ++ [.regs, .caps]
    | .sievePacketEnd .. =>
      eventParts ++ [.regs, .caps, .dsp]
    | .smbusIdentity | .smbusStatus | .smbusAlmanacInfo | .smbusTelemetryRead =>
      [.out]
    | .smbusAlmanacSelect .. | .smbusTelemetrySelect .. | .smbusAlertResponse =>
      [.smb]
    | .smbusAlmanacRead =>
      [.smb, .out]
    | .ptmDialogue =>
      [.time, .out]
    | .ptmResponse .. =>
      allBut [.pending, .aside, .lock, .blockedLast, .otp, .sup, .boot, .fns, .short, .grants, .brgs, .capStarts, .hooks, .grafts,
        .tele, .tallies, .free]
    | .telemetryRefresh .. =>
      [.paths, .beds, .tele]
    | .refclk25Restored =>
      [.sup, .flt]

/-! ### Commands of the command ring -/

/-- A command starts at once: its function exists and is served, 32 commands of it are not in progress, its ring runs, and nothing that
concerns its target is in progress or waits (04 R139, R141). -/
def Starts (h : CmdHdr) (keys : List WaitKey) (s : State) : Prop :=
  s.served = true ∧ s.fnExists h.fn.val = true ∧ s.pcie.flr.contains h.fn.val = false ∧ s.mustWait h.fn = false ∧ s.behind keys = false
/-- Free positions of an event ring: from W up to C + N (04 R147). -/
def evrFree (s : State) (f r : Nat) : Nat := sub32 (add32 (s.evr f r).c (s.evrSize f r)) (s.evr f r).w
/-- Every enabled event ring of a function in D0 takes `n` more records at once (04 R147, R150). -/
def Room (n : Nat) (s : State) : Prop :=
  ∀ f r, f < 129 → r < 256 → s.evrEnable f r = true → (s.cfgFn f).d3 = false → (s.evr f r).wait = [] ∧ n ≤ evrFree s f r
/-- A context without its staged records (05 R202) and the place of its second run, which the part may move (05 R172). -/
def unstaged (e : Ep) : Ep := { e with pend := false, stage := [], base := 0 }
/-- A slot record without the place of its run of contexts, which the part may move (05 R172). -/
def unplaced (x : Slot) : Slot := { x with ctxBase := 0 }
/-- A guest record without the place of its run of contexts. -/
def unhoused (x : Guest) : Guest := { x with ctxBase := 0 }
/-- A fault source whose next cause only gives a record, or a record with a notice: its reaction is LOG or NOTIFY, its line is quiet, the
collector is not being rebuilt, and no injection waits on it (15 R505, R507, R520). -/
def Light (n : Nat) (s : State) : Prop :=
  (s.fltSrc n).line = .quiet ∧ s.flt.rebuilding = false ∧ s.reactOf n ≤ 1 ∧ s.inj.any (fun x => x.src == n) = false
/-- A cause on fault source `n` has been recorded: its status bit, its last cause and its count (15 R505, R517). -/
def Recorded (n cause : Nat) (s t : State) : Prop :=
  (t.fltSrc n).status = true ∧ (t.fltSrc n).lastCause = cause ∧ t.fld (fltCntReg n) 0 32 = min (s.fld (fltCntReg n) 0 32 + 1) (2 ^ 32 - 1)
/-- The COMMAND record of a command has been written, when its function's event ring 0 is enabled and the function is in D0
(04 R142, R143). -/
def Answered (h : CmdHdr) (opcode code result src : Nat) (s t : State) : Prop :=
  s.evrEnable h.fn.val 0 = true → (s.cfgFn h.fn.val).d3 = false →
    ∃ pos gen time, Out.record h.fn.val 0 pos gen
      { ty := evCommand, ptr := h.ptr.toNat, code, cookie := h.cookie.toNat, time, detail := cmdDetail opcode result, src } ∈ t.out

/-- No earlier bundle of an endpoint waits for room (04 R150; 05 R190). -/
def Unheld (k : Nat) (s : State) : Prop := s.waiting.any (fun w => w.keys.contains (.epHeld (epRoot k))) = false
/-- exec answers the next state in which the sequencer goes on with the bus of an endpoint (06 R216) from a state that satisfies `P`. -/
def GivesOn (k : Nat) (c : Instr) (s : State) (P : State → Prop) : Prop := ∃ u, exec c s = .next (onward k u) ∧ P u

/-- Of an endpoint of a device no earlier bundle waits, no command pauses it, and no revocation of its credits runs; EVR names one of the 256 rings. -/
def Calm (k : Nat) (s : State) : Prop :=
  Unheld k s ∧ s.opFind (fun o => o.pauses (epRoot k)) = none ∧ (s.ep k).rev = none ∧ (s.ep k).guest = false ∧ (s.ep k).st ≠ .closed ∧ (s.ep (epRoot k)).evr < 256
/-- A TRANSFER record of an endpoint or stream has been written, when its event ring is enabled and its function is in D0 and not under FLR
(04 R142, R143; 03 R116). -/
def Transferred (k code ptr count cookie : Nat) (s t : State) : Prop :=
  s.evrEnable (keyFn k) (s.ep (epRoot k)).evr = true → (s.cfgFn (keyFn k)).d3 = false → s.pcie.flr.contains (keyFn k) = false →
    ∃ pos gen time, Out.record (keyFn k) (s.ep (epRoot k)).evr pos gen
      { ty := evTransfer, ptr, count, code, cookie, time, detail := xferDetail false false (keyStream k), ep := keyEp k, src := keyBell k } ∈ t.out

/-- An event record of a kind has been written to ring 0 of a function, when that ring is enabled and the function is in D0 and not under FLR
(04 R142, R143; 03 R116). -/
def Posted (f : Nat) (P : EvRec → Prop) (s t : State) : Prop :=
  s.evrEnable f 0 = true → (s.cfgFn f).d3 = false → s.pcie.flr.contains f = false → ∃ pos gen e, Out.record f 0 pos gen e ∈ t.out ∧ P e
/-- A PORT event of a port with CHANGE and VALUE (08 R309), to its owner. -/
def Noted (p change value : Nat) (s t : State) : Prop :=
  Posted (s.portOwner p) (fun e => e.ty = evPort ∧ e.src = p ∧ e.ptr = change ∧ e.count = value) s t
/-- A PD event of a port with KIND, CAUSE and VALUE (11 R412). -/
def PdNoted (p kind cause value : Nat) (s t : State) : Prop :=
  Posted (s.portOwner p) (fun e => e.ty = evPd ∧ e.src = p ∧ e.count = value ∧ e.detail % 65536 = kind + cause * 256) s t
/-- A POWER event of a port with KIND, CAUSE and VALUE (12 R440). -/
def PowerNoted (p kind cause value : Nat) (s t : State) : Prop :=
  Posted (s.portOwner p) (fun e => e.ty = evPower ∧ e.src = p ∧ e.count = value ∧ e.detail % 65536 = kind + cause * 256) s t

/-- A command of the command ring that starts at once, with room for its record, answers a next state that holds its COMMAND record and
satisfies `P`. -/
def Does (c : Instr) (h : CmdHdr) (keys : List WaitKey) (opcode code result src : Nat) (s : State) (P : State → Prop) : Prop :=
  Starts h keys s → Room 1 s → Gives c s (fun t => Answered h opcode code result src s t ∧ P t)

end Sys2Proof.Safety
end

