-- ==== Sys2Proof/Certificates/Slice0/Obligations.lean ====
section
/-! DEFINITION. The statements for the provers. -/

open Sys2Proof Sys2Proof.Machine Sys2Proof.Safety

/-- A step takes the command at the front of the queue and runs exec on it with the queue's rest. -/
def Obligations.StepRunsFront : Prop :=
  ∀ (c : Instr) (rest : List Instr) (s : State), step { s with pending := c :: rest } = exec c { s with pending := rest }

/-- Every step completes: the spec gives every command of the table an effect. -/
def Obligations.StepCompletes : Prop := ∀ s : State, ∃ t, step s = .next t

/-- The idle step is the model's choice (DESIGN CHOICE, notes/assumptions/1.md): one 8 ns step of the local count (16 R552). -/
def Obligations.StepIdle : Prop :=
  ∀ s : State, s.pending = [] → s.waiting = [] → s.inj = [] → ∃ t, step s = .next t
    ∧ t.time.local_ = (if s.sup.refclk then (s.time.local_ + 8) % 2 ^ 64 else s.time.local_)
    ∧ t.pending = [] ∧ t.regs = s.regs ∧ t.slots = s.slots ∧ t.eps = s.eps ∧ t.links = s.links ∧ t.tcs = s.tcs ∧ t.pds = s.pds ∧ t.paths = s.paths
    ∧ t.eng = s.eng ∧ t.flt = s.flt ∧ t.boot = s.boot ∧ t.otp = s.otp ∧ t.mode = s.mode

/-- No command writes the queue; only a step takes from it. -/
def Obligations.QueueKept : Prop := ∀ (c : Instr) (s t : State), exec c s = .next t → t.pending = s.pending

/-- The frame of every command: nothing outside its list of parts changes (Safety.parts). -/
def Obligations.CommandFrame : Prop := ∀ (c : Instr) (s t : State), exec c s = .next t → OnlyChanges (parts c) s t

/-- R85. The premise rules out a pending burn in Uprooted, which no step leaves behind (the second half says so); that State.reset meets it is
OtpPremiseAtReset. -/
def Obligations.UprootedStays : Prop :=
  ∀ s t : State, step s = .next t → (s.otp.life = .uprooted → s.otp.mark = none) →
    (s.otp.life = .uprooted → t.otp.life = .uprooted) ∧ (t.otp.life = .uprooted → t.otp.mark = none)

/-- State.reset meets the premise of UprootedStays. -/
def Obligations.OtpPremiseAtReset : Prop := State.reset.otp.life = .uprooted → State.reset.otp.mark = none

/-- OTP is burnt once (02 R80, R83, R86: the slots are a lifetime supply, and slots revoked are never enrolled again). -/
def Obligations.FusesOneWay : Prop :=
  ∀ s t : State, step s = .next t →
    s.otp.custHash <+: t.otp.custHash ∧ (∀ i, s.otp.custRevoked.getLsbD i = true → t.otp.custRevoked.getLsbD i = true)
    ∧ (∀ i, s.otp.vendRevoked.getLsbD i = true → t.otp.vendRevoked.getLsbD i = true)
    ∧ t.otp.uid = s.otp.uid ∧ t.otp.vendHash = s.otp.vendHash ∧ t.otp.gradeE = s.otp.gradeE ∧ t.otp.cal = s.otp.cal

/-- What reset leaves (02 R45, R48, R74). -/
def Obligations.ResetState : Prop :=
  State.reset.pending = [] ∧ State.reset.waiting = [] ∧ State.reset.ops = [] ∧ State.reset.lock = false ∧ State.reset.boot.st = .awaiting ∧ State.reset.sup.perst = true
  ∧ State.reset.served = false ∧ (∀ f, State.reset.fnExists f = decide (f = 0)) ∧ (∀ k, (State.reset.slot k).st = .free) ∧ (∀ k, (State.reset.ep k).st = .closed)
  ∧ (∀ p, (State.reset.guest p).st = .free) ∧ (∀ p d, ((State.reset.link p).side d).st = .off) ∧ (∀ p, (State.reset.path p).st = .off)

/-- R138, for a NO-OP that waits for nothing (04 R139, R150). -/
def Obligations.NoOpRule : Prop :=
  ∀ (s : State) (h : CmdHdr) (q : Params) (rsv : Word), Starts h [] s → Room 1 s →
    (p0 q = 0 ∧ p1 q = 0 ∧ p2 q = 0 ∧ rsv = 0 → Gives (.noOp h q rsv) s (fun t => Answered h 0x01 ccSuccess 0 0 s t ∧ OnlyChanges eventParts s t))
    ∧ (p0 q ≠ 0 ∨ p1 q ≠ 0 ∨ p2 q ≠ 0 ∨ rsv ≠ 0 → Gives (.noOp h q rsv) s (fun t => Answered h 0x01 ccParam 0 0 s t ∧ OnlyChanges eventParts s t))

/-- R75. While the part is in reset, no write reaches it; a LOCK that is set already falls under R600 (WriteRows). -/
def Obligations.EarlyLock : Prop :=
  ∀ (s : State) (w : Word), s.inReset = false → s.lock = false → s.served = false → bit w.toNat 0 = true →
    Gives (.setupLockWrite w) s (fun t => t.lock = false ∧ bit (t.rget 0x44) 16 = true ∧ t.grants = s.grants ∧ t.short = s.short ∧ t.boot = s.boot ∧ t.mode = s.mode
      ∧ (∀ off, off ≠ 0x44 → t.rget off = s.rget off) ∧ (∀ j, j ≠ 16 → j < 32 → bit (t.rget 0x44) j = bit (s.rget 0x44) j))

/-- R139 and R150 (04). -/
def Obligations.CommandWaits : Prop :=
  ∀ (s : State) (h : CmdHdr) (q : Params) (rsv : Word), s.blocked = [] →
    (s.served = true → s.fnExists h.fn.val = true → s.pcie.flr.contains h.fn.val = false → s.keyBusy (.limit h.fn) = true →
      Gives (.noOp h q rsv) s (fun t => ∃ keys, t = { s with waiting := s.waiting ++ [⟨keys, .cmd (.noOp h q rsv)⟩] } ∧ .limit h.fn.val ∈ keys))
    ∧ (Starts h [] s → s.evrEnable h.fn.val 0 = true → (s.cfgFn h.fn.val).d3 = false → s.evrRoom h.fn.val 0 = false →
      Gives (.noOp h q rsv) s (fun t => ∃ keys, t = { s with waiting := s.waiting ++ [⟨keys, .cmd (.noOp h q rsv)⟩] } ∧ .evr h.fn.val 0 ∈ keys))
    ∧ (s.served = false ∨ s.fnExists h.fn.val = false ∨ s.pcie.flr.contains h.fn.val = true → Gives (.noOp h q rsv) s (fun t => t = s))

/-- Resets (02 R45, R46, R50, R74, R84; 03 R118; 17 R568, R570, R571, R575). -/
def Obligations.ResetRows : Prop :=
  ∀ s : State,
    (∀ hi vm, Gives (.powerOn hi vm) s (fun t =>
      t.sup = { s.sup with low := [], perst := true, vddIoHigh := hi, voutLinear := vm == .linear, tap := .idcode, wakeN := false, wiping := true,
                           cfgReady := false }
      ∧ t.otp = s.otp
      ∧ (vm = .linear → t.slots = [] ∧ t.eps = [] ∧ t.guests = [] ∧ t.links = [] ∧ t.tcs = [] ∧ t.pds = [] ∧ t.paths = [] ∧ t.beds = [] ∧ t.fns = []
          ∧ t.lock = false ∧ t.mode = {} ∧ t.eng = {} ∧ t.units = {}
          ∧ t.boot.st = (if s.otp.life = .uprooted then .uprooted else .awaiting)
          ∧ (tget ({} : AlmRec) t.alm.slots s.alm.nextSlot).kind = 2)))
    ∧ (∀ r, s.inReset = false → Gives (.supplyMainLow r) s (fun t =>
        t.sup = { s.sup with low := [r], wiping := true, cfgReady := false } ∧ t.otp = s.otp ∧ t.slots = [] ∧ t.eps = [] ∧ t.guests = [] ∧ t.fns = []
        ∧ t.links = [] ∧ t.lock = false ∧ t.boot.st = (if s.otp.life = .uprooted then .uprooted else .awaiting)))
    ∧ (∀ r, s.inReset = true → Gives (.supplyMainLow r) s (fun t =>
        t = { s with sup := { s.sup with low := if s.sup.low.contains r then s.sup.low else s.sup.low ++ [r] } }))
    ∧ (s.sup.low ≠ [] → s.sup.perst = true → Gives .supplyMainRecovered s (fun t => t = { s with sup := { s.sup with low := [] }, blocked := [] }))
    ∧ (s.sup.low ≠ [] → s.sup.perst = false → Gives .supplyMainRecovered s (fun t =>
        t.sup = { s.sup with low := [], wakeN := false } ∧ t.otp.mark = none ∧ t.alm.journal = none))
    ∧ (s.inReset = false → Gives .perstAssert s (fun t =>
        t.sup = { s.sup with perst := true, wiping := true, cfgReady := false } ∧ t.otp = s.otp ∧ t.slots = [] ∧ t.eps = [] ∧ t.guests = [] ∧ t.fns = []
        ∧ t.links = [] ∧ t.lock = false ∧ t.boot.st = (if s.otp.life = .uprooted then .uprooted else .awaiting)))
    ∧ (s.sup.perst = true → s.sup.low = [] → Gives .perstRelease s (fun t =>
        t.sup = { s.sup with perst := false, wakeN := false } ∧ t.otp.mark = none ∧ t.alm.journal = none ∧ (s.otp.mark = none → t.otp = s.otp ∧ t.boot = s.boot)))
    ∧ Gives .sramWipeComplete s (fun t => t = { s with sup := { s.sup with wiping := false } })
    ∧ (s.inReset = false → s.sup.wiping = false → Gives .configSpaceReady s (fun t => t = { s with sup := { s.sup with cfgReady := true } }))
    ∧ (∀ k, s.inReset = false → Gives (.conventionalReset k) s (fun t =>
        t.sup = { s.sup with wiping := true, cfgReady := false, wakeN := false } ∧ t.slots = [] ∧ t.eps = [] ∧ t.guests = [] ∧ t.fns = [] ∧ t.links = []
        ∧ t.lock = false ∧ t.pcie.vfEn = false ∧ t.otp.mark = none ∧ (s.otp.mark = none → t.otp = s.otp)))
    ∧ (s.inReset = false → Gives .flrPf s (fun t =>
        t.sup = { s.sup with wiping := true, wakeN := false } ∧ t.slots = [] ∧ t.eps = [] ∧ t.guests = [] ∧ t.fns = [] ∧ t.links = []
        ∧ t.lock = false ∧ t.pcie.vfEn = false ∧ t.pcie.rate = s.pcie.rate ∧ t.pcie.width = s.pcie.width ∧ (s.otp.mark = none → t.otp = s.otp)))

/-- Supplies other than the main ones, and REFCLK25 (17 R570, R576; 13 R462; 10 R353). -/
def Obligations.SupplyRows : Prop :=
  ∀ s : State,
    (s.sup.hvLow = false → Gives .vddHvLow s (fun t => t.sup = { s.sup with hvLow := true } ∧ t.otp = s.otp ∧ t.lock = s.lock ∧ t.hooks = s.hooks))
    ∧ (s.sup.hvLow = true → Gives .vddHvReturn s (fun t => t.sup = { s.sup with hvLow := false } ∧ t.otp = s.otp ∧ t.lock = s.lock ∧ t.hooks = s.hooks))
    ∧ (∀ p, p < 128 → (s.tc p).vconnOn = true → (∀ q, q < 128 → q ≠ p → (s.tc q).vconnOn = false) → (s.pd p).attached = false → Light (4 * p + 1) s →
        Gives .vconnInLow s (fun t => (t.tc p).vconnOn = false ∧ (t.tc p).vconnTripped = true ∧ (∀ q, q ≠ p → t.tc q = s.tc q) ∧ t.paths = s.paths
          ∧ t.links = s.links ∧ t.sup = s.sup))
    ∧ Gives .retentionLost s (fun t => t.boot = { s.boot with persistCopy := {} }
        ∧ (s.mode.pwr = .active → t.mode = { s.mode with watchCopy := [], pwrCopy := 0, retention := false, rewriteDue := true }
            ∧ bit (t.rget 0x110004) 4 = true ∧ t.slots = s.slots ∧ t.eps = s.eps ∧ t.links = s.links))
    ∧ (s.sup.refclk = true → Gives .refclk25Lost s (fun t => t.sup = { s.sup with refclk := false }))
    ∧ (s.sup.refclk = false → Gives .refclk25Restored s (fun t => t.sup = { s.sup with refclk := true } ∧ t.regs = s.regs))

/-- The upstream port (02 R46, R78; 03 R87, R93, R95, R96, R103, R104, R107, R116, R117, R121, R607; 13 R457). Identifiers of the PF are those of
R95; the places of the fields within a configuration word are the model's (notes/assumptions/4.md). -/
def Obligations.PcieRows : Prop :=
  ∀ s : State,
    (∀ f q, s.inReset = false → s.sup.cfgReady = false → Gives (.configRequest f q) s (fun t => t = { s with out := .cfgData none :: s.out, blocked := [] }))
    ∧ (∀ f : Fnc, s.inReset = false → s.sup.cfgReady = true → s.fnExists f.val = true →
        Gives (.configRequest f (.read .revision)) s (fun t => t = { s with out := .cfgData (some 0x10) :: s.out, blocked := [] })
        ∧ Gives (.configRequest f (.read .interruptPin)) s (fun t => t = { s with out := .cfgData (some 0) :: s.out, blocked := [] })
        ∧ (f.val = 0 → Gives (.configRequest f (.read .ids)) s (fun t => t = { s with out := .cfgData (some 0x5A801EF7) :: s.out, blocked := [] }))
        ∧ (f.val = 0 → Gives (.configRequest f (.read .serialLo)) s (fun t => t = { s with out := .cfgData (some (s.otp.uid.toNat % 2 ^ 32)) :: s.out, blocked := [] }))
        ∧ (∀ w, Gives (.configRequest f (.write .devCtl2 w)) s (fun t => t.cfgFn f.val = { s.cfgFn f.val with ctoValue := w.toNat % 16 } ∧ t.out = s.out))
        ∧ (∀ w, w.toNat % 4 = 3 → Gives (.configRequest f (.write .pmcsr w)) s (fun t => (t.cfgFn f.val).d3 = true ∧ t.slots = s.slots))
        ∧ (∀ w, f.val = 0 → s.pcie.vfEn = false → Gives (.configRequest f (.write .numVfs w)) s (fun t =>
            t = { s with pcie := { s.pcie with numVfs := w.toNat % 65536 }, blocked := [] })))
    ∧ (∀ (rate : Fin 8) (width : Fin 32), s.inReset = false → 1 ≤ rate.val → rate.val ≤ 6 → width.val ∈ [1, 2, 4, 8, 16] →
        Gives (.linkRetrain rate width) s (fun t => t.pcie.rate = rate.val ∧ t.pcie.width = width.val ∧ t.lock = s.lock ∧ t.otp = s.otp
          ∧ (s.pcie.rate ≤ rate.val → s.pcie.width ≤ width.val → t = { s with pcie := { s.pcie with rate := rate.val, width := width.val }, blocked := [] })))
    ∧ Gives .linkRecovery s (fun t => t = s)
    ∧ (∀ code : Fin 4, s.sup.cfgReady = true → Gives (.maxPayloadSizeChange code) s (fun t => t = { s with pcie := { s.pcie with mps := code.val } }))
    ∧ (∀ v : Vf, s.inReset = false → s.fnExists (v.val + 1) = true → s.pcie.flr.contains (v.val + 1) = false → Gives (.flrVf v) s (fun t =>
        t.pcie.flr.contains (v.val + 1) = true ∧ t.pcie.vfEn = s.pcie.vfEn ∧ t.sup = s.sup ∧ t.otp = s.otp ∧ t.lock = s.lock))
    ∧ (∀ v : Vf, Gives (.flrVfComplete v) s (fun t => t = { s with pcie := { s.pcie with flr := s.pcie.flr.filter (· != v.val + 1) } }))
    ∧ (s.sup.cfgReady = true → s.pcie.vfEn = false → s.otp.life ≠ .uprooted → Gives .vfEnableSet s (fun t => t.pcie.vfEn = true ∧ t.lock = s.lock ∧ t.otp = s.otp))
    ∧ (s.pcie.vfEn = true → Gives .vfEnableClear s (fun t => t.pcie.vfEn = false ∧ t.pcie.flr = [] ∧ t.lock = s.lock ∧ t.otp = s.otp))
    ∧ (∀ f : Fnc, (s.cfgFn f.val).d3 = true → Gives (.functionD0Entry f) s (fun t => (t.cfgFn f.val).d3 = false ∧ t.otp = s.otp ∧ t.lock = s.lock))
    ∧ (∀ k, Gives (.jtagInstruction k) s (fun t => t = { s with sup := { s.sup with tap :=
        match s.otp.life, k with
        | .seedling, x => x
        | .planted, .idcode => .idcode
        | .planted, .sample => .sample
        | .uprooted, .idcode => .idcode
        | _, _ => .bypass } }))

/-- Sowing (02 R51 – R53, R58, R60, R61, R63 – R65, R72). That RESTART acts in every state but Uprooted, and then ends the running image too, is
the model's reading of LDR_CTRL (notes/assumptions/40.md). -/
def Obligations.SowingRows : Prop :=
  ∀ s : State,
    (∀ w : Word, s.inReset = false → s.lock = false → Gives (.ldrProdWrite w) s (fun t => t.rget 0x100C = w.toNat ∧ t.boot.cons = s.boot.cons ∧ t.boot.img = s.boot.img
      ∧ (s.boot.st = .awaiting → bit (s.rget 0x1008) 0 = true → w.toNat ≠ s.boot.cons → s.boot.gotLast = false → t.boot.st = .receiving)))
    ∧ (∀ w : Word, s.inReset = false → s.lock = false → bit w.toNat 1 = true → s.boot.st ≠ .uprooted →
        Gives (.ldrRestart w) s (fun t => t.boot.st = .awaiting ∧ t.boot.img = [] ∧ t.boot.gotLast = false ∧ t.boot.piece = none
          ∧ t.boot.checked = none ∧ t.boot.running = none ∧ t.boot.cons = s.rget 0x100C ∧ t.otp = s.otp))
    ∧ (∀ addr len tag, s.loaderRuns = true → s.boot.piece = none → addr.toNat % 64 = 0 → 0 < len.toNat → len.toNat ≤ 2 ^ 24 →
        (bit tag.toNat 31 = true ∨ len.toNat % 64 = 0) →
        Gives (.loaderDescriptorFetched addr len tag) s (fun t => t.boot = { s.boot with st := .receiving, piece := some (len.toNat, bit tag.toNat 31) }))
    ∧ (∀ addr len tag, s.loaderRuns = true → s.boot.piece = none → addr.toNat % 64 ≠ 0 ∨ 2 ^ 24 < len.toNat →
        Gives (.loaderDescriptorFetched addr len tag) s (fun t => t.boot.st = .refused ∧ t.boot.refusal = 0x0D ∧ t.boot.img = []))
    ∧ (∀ bytes len last, s.boot.piece = some (len, last) → Gives (.imagePieceReceived bytes) s (fun t =>
        t = { s with boot := { s.boot with img := s.boot.img ++ bytes.take len, cons := (s.boot.cons + 1) % 2 ^ 32, piece := none, gotLast := last,
                                           st := if last then .checking else s.boot.st } }))
    ∧ (∀ e, s.boot.piece.isSome = true → Gives (.loaderReadError e) s (fun t => t.boot.st = .refused ∧ t.boot.refusal = 0x0D ∧ t.boot.img = []))
    ∧ (∀ c, s.boot.st = .checking → imageFault s.otp s.boot.img = some c → Gives .imageCheckDone s (fun t =>
        t.boot.st = .refused ∧ t.boot.refusal = c ∧ t.boot.img = [] ∧ t.boot.running = none ∧ t.paths = s.paths))
    ∧ (s.boot.st = .checking → imageFault s.otp s.boot.img = none → Gives .imageCheckDone s (fun t =>
        t.boot.st = .starting ∧ t.boot.checked = some (imageInfo s.boot.img) ∧ t.boot.img = [] ∧ t.paths = s.paths))
    ∧ (∀ i, s.boot.st = .starting → s.boot.running = none → s.boot.checked = some i → Gives .keeperConfigCheck s (fun t =>
        (configBad i = true → t.boot.st = .refused ∧ t.boot.refusal = 0x0C ∧ t.boot.running = none)
        ∧ (configBad i = false → t.boot.st = .starting ∧ t.boot.running = some i
            ∧ (s.sup.voutLinear = true → t.mode.voutTarget = (modeOf (modeCfgOf ((recordsOf i.cfg).getD []) % 4)).mv))))
    ∧ (∀ i j, s.boot.checked = some i → s.boot.running = some j → Gives .tenderStartupDone s (fun t =>
        t.boot.checked = none ∧ t.boot.persist = persistOf ((recordsOf i.cfg).getD []) ∧ t.rget 0x100008 = modeCfgOf ((recordsOf i.cfg).getD [])
        ∧ t.slots = s.slots ∧ t.links = s.links ∧ t.tcs = s.tcs))
    ∧ (∀ i, s.boot.st = .starting → s.boot.checked = none → s.coreSettled = true → s.boot.running = some i → s.boot.held = [] → Gives .sowingComplete s (fun t =>
        t.boot.st = .served ∧ t.eng = s.eng.sown i ∧ t.mode.mode = modeOf (s.rget 0x100008 % 4) ∧ t.otp = s.otp ∧ t.lock = s.lock))
    ∧ (∀ p : Port, s.persisting p.val = true → s.served = false → Gives (.persistHoldExpire p) s (fun t =>
        t.boot.held = terase s.boot.held p.val ∧ t.boot.persistEnds = s.boot.persistEnds ++ [(p.val, 4)] ∧ (t.path p.val).st = .off ∧ (t.tc p.val).st = .disabled
        ∧ t.slots = s.slots ∧ t.eps = s.eps))

/-- Writes (00 R23, R24; 02 R75, R76; 03 R100, R107, R108; 04 R164, R166; 13 R460; 16 R545; 18 R599 – R601). -/
def Obligations.WriteRows : Prop :=
  ∀ s : State, s.inReset = false →
    (∀ w : Word, s.lock = false → s.served = true → bit w.toNat 0 = true → Gives (.setupLockWrite w) s (fun t =>
      t.lock = true ∧ t.grants = (lockPart s).grants ∧ t.short = (lockPart s).short ∧ t.boot.persistCopy = s.boot.persist
      ∧ t.mode.pwrCopy = BitVec.ofNat 32 (s.rget 0x110000) ∧ t.regs = s.regs ∧ t.slots = s.slots ∧ t.links = s.links))
    ∧ (∀ w : Word, s.lock = false → s.served = false → bit w.toNat 0 = true → Gives (.setupLockWrite w) s (fun t =>
        t.lock = false ∧ bit (t.rget 0x44) 16 = true ∧ t.boot = s.boot ∧ t.mode = s.mode ∧ (∀ off, off ≠ 0x44 → t.rget off = s.rget off)))
    ∧ (∀ w : Word, s.lock = true → Gives (.setupLockWrite w) s (fun t =>
        t.lock = true ∧ t.fld 0x44 0 16 = min (s.fld 0x44 0 16 + 1) 65535 ∧ t.blockedLast = 0x40 ∧ (∀ off, off ≠ 0x44 → t.rget off = s.rget off)))
    ∧ (∀ (off : BitVec 26) (w : Word), blockOf off.toNat = none ∨ off.toNat % 4 ≠ 0 → Gives (.registerWrite off w) s (fun t => t = { s with blocked := [] }))
    ∧ (∀ (off : BitVec 26) (w : Word) b, blockOf off.toNat = some b → off.toNat % 4 = 0 → s.asleep b = true → Gives (.registerWrite off w) s (fun t =>
        t.fld 0x110008 0 12 = b % 4096 ∧ bit (t.rget 0x110008) 12 = true ∧ (∀ o, o ≠ 0x110008 → t.rget o = s.rget o)))
    ∧ (∀ (off : BitVec 26) (w : Word) b, blockOf off.toNat = some b → off.toNat % 4 = 0 → s.asleep b = false → s.lock = true →
        0x170000 ≤ off.toNat → off.toNat % 0x10000 ≠ 0x704 → Gives (.registerWrite off w) s (fun t =>
          t.rget off.toNat = writeWord (fields off.toNat) true (s.rget off.toNat) w.toNat
          ∧ (reachesLocked off.toNat = true → t.fld 0x44 0 16 = min (s.fld 0x44 0 16 + 1) 65535 ∧ t.blockedLast = off.toNat)
          ∧ (reachesLocked off.toNat = false → t.rget 0x44 = s.rget 0x44 ∧ t.blockedLast = s.blockedLast)
          ∧ (∀ o, o ≠ off.toNat → o ≠ 0x44 → t.rget o = s.rget o) ∧ t.slots = s.slots ∧ t.links = s.links))
    ∧ (∀ (off : BitVec 26) (w : Word) b, blockOf off.toNat = some b → off.toNat % 4 = 0 → s.asleep b = false → s.lock = false →
        0x3000000 ≤ off.toNat → off.toNat % 0x10000 < 0x400 → Gives (.registerWrite off w) s (fun t =>
          t.rget off.toNat = writeWord (fields off.toNat) false (s.rget off.toNat) w.toNat
          ∧ (∀ o, o ≠ off.toNat → t.rget o = s.rget o) ∧ t.blockedLast = s.blockedLast ∧ t.slots = s.slots ∧ t.links = s.links))
    ∧ (∀ (v : Vf) (off : BitVec 16) (w : Word), s.fnExists (v.val + 1) = true → s.pcie.flr.contains (v.val + 1) = false → s.asleep (0x200 + (v.val + 1)) = false →
        Gives (.vfBar0Write v off w) s (fun t => t.fld 0x44 0 16 = min (s.fld 0x44 0 16 + 1) 65535 ∧ t.blockedLast = off.toNat + 2 ^ 26
          ∧ (∀ o, o ≠ 0x44 → t.rget o = s.rget o)))
    ∧ (∀ f : Fnc, s.served = true → s.mode.pwr = .active → s.fnExists f.val = true → s.pcie.flr.contains f.val = false → (s.fn f.val).doze ≠ .sweeping →
        Gives (.nudge f) s (fun t => (t.fn f.val).doze = .sweeping ∧ (t.fn f.val).idle = 0 ∧ (t.fn f.val).bells = (s.fn f.val).bells ∧ t.slots = s.slots ∧ t.eps = s.eps))
    ∧ (∀ (f : Fnc) (w : Word), s.served = true → s.mode.pwr = .active → s.lock = false → bit w.toNat 16 = false → (s.fn f.val).doze = .dozing →
        Gives (.dozeEnClear f w) s (fun t => (t.fn f.val).doze = .sweeping ∧ t.dozeEn f.val = false ∧ t.slots = s.slots))
    ∧ (∀ (f : Fnc) (r : Evr) (w : Word), s.served = true → s.mode.pwr = .active → s.lock = false → r.val < ringsOf f.val →
        Gives (.evrEnableWrite f r w) s (fun t => t.evrEnable f.val r.val = (bit w.toNat 0 && decide (bits w.toNat 16 11 < vectors f.val))
          ∧ (bit w.toNat 0 = true → bit (t.rget (evrReg f.val r.val 0xC)) 17 = decide (vectors f.val ≤ bits w.toNat 16 11))
          ∧ t.slots = s.slots ∧ t.eps = s.eps ∧ t.links = s.links))
    ∧ (∀ (f : Fnc) (v : Vec), s.served = true → s.fnExists f.val = true → s.pcie.flr.contains f.val = false → v.val < vectors f.val → Gives (.msixUnmask f v) s (fun t =>
        (t.vec f.val v.val).mask = false
        ∧ ((s.cfgFn f.val).msixEn = true → (s.cfgFn f.val).msixMask = false → (s.vec f.val v.val).pba = true →
            (t.vec f.val v.val).pba = false ∧ t.out = .msix f.val v.val :: s.out)
        ∧ ((s.vec f.val v.val).pba = false → t.out = s.out)))
    ∧ (∀ p : Port, s.served = true → s.mode.pwr = .active → (s.bed (bedOf p.val)).isolating = false → (s.bed (bedOf p.val)).retired = false →
        Gives (.prtSieveLostClear p 0) s (fun t => t.rget (portReg p.val 0x704) = 0 ∧ (t.cap p.val).lostSat = false
          ∧ (∀ o, o ≠ portReg p.val 0x704 → t.rget o = s.rget o)))

/-- The fault collector's registers (15 R506, R514, R516, R517, R527, R528, R530). -/
def Obligations.FaultWriteRows : Prop :=
  ∀ s : State, s.inReset = false → s.served = true → s.mode.pwr = .active →
    (∀ (k j : Fin 32) (w : Word), w.toNat = 2 ^ j.val → (s.fltSrc (32 * k.val + j.val)).status = true → Gives (.fltStatusClear k w) s (fun t =>
      ((s.fltSrc (32 * k.val + j.val)).line = .quiet → s.holdRuns (32 * k.val + j.val) = false →
        (t.fltSrc (32 * k.val + j.val)).status = false ∧ (t.fltSrc (32 * k.val + j.val)).still = false)
      ∧ ((s.fltSrc (32 * k.val + j.val)).line ≠ .quiet → (t.fltSrc (32 * k.val + j.val)).status = true ∧ (t.fltSrc (32 * k.val + j.val)).still = true)
      ∧ (∀ n, n ≠ 32 * k.val + j.val → t.fltSrc n = s.fltSrc n) ∧ t.regs = s.regs))
    ∧ (∀ (k j : Fin 32) (w : Word), w.toNat = 2 ^ j.val → (s.fltSrc (32 * k.val + j.val)).line = .quiet → Gives (.fltWireClear k w) s (fun t =>
        (t.fltSrc (32 * k.val + j.val)).wire = false ∧ (∀ n, n ≠ 32 * k.val + j.val → t.fltSrc n = s.fltSrc n) ∧ t.regs = s.regs))
    ∧ (∀ n : Src, Gives (.fltCntClear n 0) s (fun t => t.rget (fltCntReg n.val) = 0 ∧ (t.fltSrc n.val).sat = false
        ∧ (∀ o, o ≠ fltCntReg n.val → t.rget o = s.rget o) ∧ (∀ m, m ≠ n.val → t.fltSrc m = s.fltSrc m)))
    ∧ (∀ w : Word, bit w.toNat 0 = true → s.flt.safeHold = true → s.safeMayEnd = true →
        (∀ p, p < 128 → (s.path p).queued = none ∧ ¬((s.path p).st = .trip ∧ (s.path p).gateOff = true)) → Gives (.safeHoldClear w) s (fun t =>
          t.flt.safeHold = false ∧ t.flt.holdStill = false ∧ t.flt.srcs = s.flt.srcs))
    ∧ (∀ w : Word, bit w.toNat 0 = true → s.flt.safeHold = true → s.safeMayEnd = false → Gives (.safeHoldClear w) s (fun t =>
        t = { s with flt := { s.flt with holdStill := true }, blocked := [] }))
    ∧ (∀ w : Word, bit w.toNat 0 = true → Gives (.fltPinHeldClear w) s (fun t => bit (t.rget 0x163004) 0 = false ∧ (∀ o, o ≠ 0x163004 → o ≠ 0x44 → t.rget o = s.rget o)
        ∧ t.flt = s.flt))
    ∧ (∀ w : Word, Gives (.fltPinForce w) s (fun t => t.pinForce = bit w.toNat 1 ∧ (bit w.toNat 1 = true → t.faultN = true)
        ∧ (∀ o, o ≠ 0x163004 → o ≠ 0x44 → t.rget o = s.rget o) ∧ t.flt = s.flt))
    ∧ (∀ w : Word, s.injEn = true → bits w.toNat 10 2 = 0 → (catalogue (bits w.toNat 0 10)).isSome = true → Gives (.injFireTagged w) s (fun t =>
        t = { s with inj := s.inj ++ [⟨bits w.toNat 0 10, bits w.toNat 12 8, bits w.toNat 20 8, false⟩], blocked := [] }))
    ∧ (∀ w : Word, s.injEn = true → s.injWireEn = true → bits w.toNat 10 2 = 1 ∨ bits w.toNat 10 2 = 2 → (catalogue (bits w.toNat 0 10)).isSome = true →
        Gives (.injFireWire w) s (fun t => t = { s with inj := s.inj ++ [⟨bits w.toNat 0 10, 255, srcUnit (bits w.toNat 0 10), true⟩], blocked := [] }))
    ∧ (∀ w : Word, s.injEn = false → Gives (.injFireTagged w) s (fun t => t = { s with blocked := [] }) ∧ Gives (.injFireWire w) s (fun t => t = { s with blocked := [] }))

/-- Reads (00 R22, R24, R25; 06 R237; 13, TEMPO_STATUS; 16 R551, R560, TELE_TEMP). -/
def Obligations.ReadRows : Prop :=
  ∀ s : State, s.inReset = false →
    (∀ a : RawAccess, a.isWrite = true → (∀ f, bar2Fn a.bar = some f → msixOk f a = false) → Gives (.misalignedAccess a) s (fun t => t = s))
    ∧ (∀ a : RawAccess, a.isWrite = false → a.bits ≠ 32 ∨ a.off.toNat % 4 ≠ 0 → (∀ f, bar2Fn a.bar = some f → s.fnExists f = true ∧ msixOk f a = false) →
        Gives (.misalignedAccess a) s (fun t => t = { s with out := .readData 0 :: s.out }))
    ∧ (∀ (a : RawAccess) f, bar2Fn a.bar = some f → msixOk f a = true → s.fnExists f = true → s.served = true → s.pcie.flr.contains f = false →
        (a.isWrite = false → a.bits = 32 → Gives (.misalignedAccess a) s (fun t => t = { s with out := .readData (s.msixWord f a.off.toNat) :: s.out }))
        ∧ (∀ v, v < vectors f → a.isWrite = true → a.bits = 64 → a.off.toNat = (if f = 0 then 0x10000 else 0x1000) + 16 * v → Gives (.misalignedAccess a) s (fun t =>
            t.vec f v = { s.vec f v with addr := a.data.toNat / 4 * 4 } ∧ (∀ w, w ≠ v → t.vec f w = s.vec f w) ∧ t.out = s.out ∧ t.regs = s.regs)))
    ∧ (∀ (off : BitVec 26) b, blockOf off.toNat = some b → s.asleep b = true →
        Gives (.sleepWordAccess ⟨.pfBar0, off⟩ false) s (fun t => t.out = .readData (0x5EED0000 + b % 4096) :: s.out ∧ t.fld 0x110008 0 12 = b % 4096
          ∧ bit (t.rget 0x110008) 12 = true ∧ (∀ o, o ≠ 0x110008 → t.rget o = s.rget o))
        ∧ Gives (.sleepWordAccess ⟨.pfBar0, off⟩ true) s (fun t => t.out = s.out ∧ t.fld 0x110008 0 12 = b % 4096 ∧ bit (t.rget 0x110008) 12 = true
          ∧ (∀ o, o ≠ 0x110008 → t.rget o = s.rget o)))
    ∧ (∀ off : BitVec 26, s.served = false → Gives (.sleepWordAccess ⟨.pfBar2, off⟩ false) s (fun t => t.out = .readData 0x5EED0200 :: s.out
        ∧ bit (t.rget 0x110008) 12 = true ∧ (∀ o, o ≠ 0x110008 → t.rget o = s.rget o)))
    ∧ (s.served = true → s.mode.pwr = .active →
        Gives .tempoStatusRead s (fun t => t = { s with mode := { s.mode with lowMark := 65535 }, out := .readData (s.view 0x100000) :: s.out })
        ∧ (∀ i : Fin 9, Gives (.teleTempRead i) s (fun t => t.out = .readData (s.view (teleTempReg i.val)) :: s.out
            ∧ tget (0, 0) t.tele.temp i.val = ((tget (0, 0) s.tele.temp i.val).1, 0) ∧ (∀ j, j ≠ i.val → tget (0, 0) t.tele.temp j = tget (0, 0) s.tele.temp j)
            ∧ t.regs = s.regs))
        ∧ (∀ p : Port, (s.bed (bedOf p.val)).isolating = false → (s.bed (bedOf p.val)).retired = false →
            Gives (.prtFrameRead p) s (fun t => t.out = .readData (s.view (portReg p.val 0x208)) :: s.out ∧ t.bus p.val = { s.bus p.val with latch := (s.bus p.val).start }
              ∧ (∀ q, q ≠ p.val → t.bus q = s.bus q) ∧ t.regs = s.regs)
            ∧ Gives (.tallyLoRead (.portIn p)) s (fun t => t.out = .readData (s.view (portReg p.val 0x710)) :: s.out
              ∧ t.tally (tallyKey p.val true) = { s.tally (tallyKey p.val true) with latch := (s.tally (tallyKey p.val true)).n / 2 ^ 32 % 2 ^ 32 } ∧ t.regs = s.regs)
            ∧ Gives (.tallyLoRead (.portOut p)) s (fun t => t.out = .readData (s.view (portReg p.val 0x718)) :: s.out
              ∧ t.tally (tallyKey p.val false) = { s.tally (tallyKey p.val false) with latch := (s.tally (tallyKey p.val false)).n / 2 ^ 32 % 2 ^ 32 } ∧ t.regs = s.regs))
        ∧ Gives (.tallyLoRead .device) s (fun t => t.out = .readData (s.view 0x170010) :: s.out
              ∧ t.tally devTally = { s.tally devTally with latch := (s.tally devTally).n / 2 ^ 32 % 2 ^ 32 } ∧ t.regs = s.regs)
        ∧ Gives (.tallyLoRead .timebase) s (fun t => t = { s with time := { s.time with latch := s.now / 2 ^ 32 % 2 ^ 32 }, out := .readData (s.view 0x170000) :: s.out }))
    ∧ (∀ k : Fin 16, Gives (.almDataRead k) s (fun t => t.out = .readData (s.view (0x1080 + 4 * k.val)) :: s.out
        ∧ (k.val = 15 → bit (s.rget 0x1040) 16 = false → t.fld 0x1040 0 13 = (s.fld 0x1040 0 13 + 1) % 8192)
        ∧ (k.val ≠ 15 ∨ bit (s.rget 0x1040) 16 = true → t.regs = s.regs) ∧ (∀ o, o ≠ 0x1040 → t.rget o = s.rget o) ∧ t.alm = s.alm))

/-- The commands on slots (04 R137, R138; 05 R173, R175, R178, R180, R181, R186, R189). CLOSE SLOT is stated for a slot with no command in progress
or waiting; PORT ACTION POWER-ON, which the table holds under UNKNOWN_COMMAND, is stated in PortCommandRows. -/
def Obligations.SlotCommandRows : Prop :=
  ∀ (s : State) (h : CmdHdr) (q : Params),
    let f := h.fn.val
    let b := bits (p0 q) 0 16
    let key := slotKey f b
    (∀ rsv, Does (.noOp h q rsv) h [] 0x01 (if p0 q = 0 ∧ p1 q = 0 ∧ p2 q = 0 ∧ rsv = 0 then ccSuccess else ccParam) 0 0 s
        (fun t => t.slots = s.slots ∧ t.eps = s.eps))
    ∧ (∀ ty op, ¬(ty = 0xC ∧ op = 0x20 ∧ bits (p0 q) 8 8 = 0x11) → Does (.unknownCommand h ty op q) h [] op.toNat
        (if ty = 0xC ∧ knownOpcodes.contains op.toNat = false then ccUnknown else ccParam) 0 0 s (fun t => t.slots = s.slots ∧ t.eps = s.eps))
    ∧ (∀ e, openSlotCode f q s = some e → Does (.openSlot h q) h [.port (bits (p0 q) 0 7)] 0x10 e 0 0 s (fun t => t.slots = s.slots ∧ t.eps = s.eps))
    ∧ (∀ n, openSlotCode f q s = none → s.freeBell f = some n → Does (.openSlot h q) h [.port (bits (p0 q) 0 7)] 0x10 ccSuccess 0 n s (fun t =>
        (let x := t.slot (slotKey f n); x.st = .dflt ∧ x.gone = false ∧ x.address = 0 ∧ x.port = bits (p0 q) 0 7 ∧ x.speed = bits (p0 q) 8 3
          ∧ x.noSnoop = bit (p0 q) 11 ∧ x.route = bits (p0 q) 12 20 ∧ x.ttHub = bits (p0 q) 32 16 ∧ x.ttPort = bits (p0 q) 48 7 ∧ x.ctxCount = 1
          ∧ x.seq = add32 (s.slot (slotKey f n)).seq 1)
        ∧ (let x := t.ep (epKey f n 0 0); x.st = .idle ∧ x.ty = 1 ∧ x.mps = bits (p2 q) 32 11 ∧ x.evr = bits (p2 q) 48 8 ∧ x.cur.addr = p1 q / 4096 * 4096
          ∧ x.cur.gen = true ∧ x.cur.count = bits (p2 q) 0 32 ∧ x.prod = bits (p2 q) 0 32 ∧ x.cur.len = (bits (p1 q) 0 4 + 1) * 128)
        ∧ (∀ k, k ≠ slotKey f n → unplaced (t.slot k) = unplaced (s.slot k)) ∧ (∀ k, k ≠ epKey f n 0 0 → unstaged (t.ep k) = unstaged (s.ep k))))
    ∧ (∀ a, p0 q < 65536 → p1 q = 0 → p2 q = 0 → slotCheck f b false s = none → (s.slot key).st = .dflt → (s.slot key).address = 0 →
        s.freeAddress (s.slot key).port = some a → Does (.assignAddress h q) h (slotWait h b []) 0x11 ccSuccess a b s (fun t =>
          t.slot key = { s.slot key with address := a, seq := add32 (s.slot key).seq 1 } ∧ (∀ k, k ≠ key → t.slot k = s.slot k) ∧ t.eps = s.eps))
    ∧ (p0 q < 65536 → p1 q = 0 → p2 q = 0 → slotCheck f b false s = none → (s.slot key).st = .dflt → (s.slot key).address = 0 →
        s.freeAddress (s.slot key).port = none → Does (.assignAddress h q) h (slotWait h b []) 0x11 ccResource 0 b s (fun t => t.slots = s.slots ∧ t.eps = s.eps))
    ∧ (p0 q < 65536 → p1 q = 0 → p2 q = 0 → slotCheck f b true s = none → s.slots.any (fun x => x.1 / 16384 == f && x.2.st != .free && x.2.ttHub == b && b != 0) = false →
        (∀ o ∈ s.ops, o.h.fn.val = f → o.bell ≠ b) → (∀ w ∈ s.waiting ++ s.aside, w.keys.contains (.slot f b) = false) →
        Does (.closeSlot h q) h [] 0x16 ccSuccess (s.slotResidual key) b s (fun t =>
          t.slot key = { seq := add32 (s.slot key).seq 1 } ∧ (∀ k, k ≠ key → t.slot k = s.slot k) ∧ (∀ k, epRoot k ∈ s.slotRoots key → t.ep k = {})
          ∧ (∀ k, epRoot k ∉ s.slotRoots key → t.ep k = s.ep k) ∧ t.ops = s.ops))
    ∧ (p0 q < 65536 → p1 q = 0 → p2 q = 0 → slotCheck f b true s = none → s.slots.any (fun x => x.1 / 16384 == f && x.2.st != .free && x.2.ttHub == b && b != 0) = true →
        Does (.closeSlot h q) h [] 0x16 ccContext 0 b s (fun t => t.slots = s.slots ∧ t.eps = s.eps))
    ∧ (bits (p0 q) 42 20 = 0 → p1 q % 64 = 0 → p2 q = 0 → slotCheck f b true s = none → bit (p0 q) 63 = true →
        Does (.snapshotContext h q) h (slotWait h b (s.slotRoots key)) 0x17 ccSuccess 0 b s (fun t =>
          Wrote f (p1 q) (slotBytes f b (s.slot key) ++ (List.range 31).flatMap (fun e => s.ctxBytes (epKey f b e 0))) s t
          ∧ t.slots = s.slots ∧ (bit (p0 q) 62 = false → t.eps = s.eps)))
    ∧ (let e := bits (p0 q) 16 5
       let st := bits (p0 q) 32 10
       let r := epKey f b e 0
       bits (p0 q) 42 20 = 0 → bits (p0 q) 21 11 = 0 → p1 q % 64 = 0 → p2 q = 0 → slotCheck f b true s = none → bit (p0 q) 63 = false → e ≤ 30 → s.epDefined r = true →
        (st = 0 ∨ streamBad (s.ep r) st = false) → Does (.snapshotContext h q) h (slotWait h b [r]) 0x17 ccSuccess 0 b s (fun t =>
          Wrote f (p1 q) (slotBytes f b (s.slot key) ++ s.ctxBytes (r + st)) s t ∧ t.slots = s.slots
          ∧ (bit (p0 q) 62 = true → (t.ep (r + st)).xactErr = 0 ∧ (t.ep (r + st)).splitErr = 0 ∧ (t.ep (r + st)).babble = 0)
          ∧ (bit (p0 q) 62 = false → t.eps = s.eps) ∧ (∀ k, k ≠ r + st → t.ep k = s.ep k)))

/-- The commands on endpoints (05 R178, R182 – R185, R187). A bundle begins with no record of it blocked, which is what `blocked := []` says. -/
def Obligations.EndpointCommandRows : Prop :=
  ∀ (s : State) (h : CmdHdr) (q : Params),
    let f := h.fn.val
    let b := bits (p0 q) 0 16
    let key := slotKey f b
    let r := epKey f b (bits (p0 q) 16 5) 0
    (∀ blk e, setEndpointsCode f b q blk s = some e → Does (.setEndpoints h q blk) h (slotWait h b (s.blkTouched f b blk)) 0x12 e 0 b s (fun t => t.slots = s.slots ∧ t.eps = s.eps))
    ∧ (∀ blk, setEndpointsCode f b q blk s = none →
        let u := setEndpointsTo f b blk { s with blocked := [] }
        let fits := s.ctxFits f (u.ctxOf key (u.slot key).ctxCount - s.ctxOf key (s.slot key).ctxCount)
        let asks := (maskIdx (leAt blk 0 4)).any (fun e => e != 0 && (epIn blk e).ty != 3 && (epIn blk e).ty != 6)
        (fits = false → Does (.setEndpoints h q blk) h (slotWait h b (s.blkTouched f b blk)) 0x12 ccResource 0 b s (fun t => t.slots = s.slots ∧ t.eps = s.eps))
        ∧ (fits = true → asks = true → u.admitted (u.slot key).port f = false →
            Does (.setEndpoints h q blk) h (slotWait h b (s.blkTouched f b blk)) 0x12 ccBandwidth 0 b s (fun t => t.slots = s.slots ∧ t.eps = s.eps))
        ∧ (fits = true → asks = false ∨ u.admitted (u.slot key).port f = true →
            Does (.setEndpoints h q blk) h (slotWait h b (s.blkTouched f b blk)) 0x12 ccSuccess 0 b s (fun t => (∀ k, unplaced (t.slot k) = unplaced (u.slot k)) ∧ (∀ k, unstaged (t.ep k) = unstaged (u.ep k)))))
    ∧ (let bad := bits (p0 q) 21 3 != 0 || bits (p0 q) 25 39 != 0 || p1 q != 0 || p2 q != 0
       (∀ e, epCode f b (bits (p0 q) 16 5) bad s = some e → Does (.clearHalt h q) h (slotWait h b [r]) 0x13 e 0 b s (fun t => t.slots = s.slots ∧ t.eps = s.eps))
       ∧ (epCode f b (bits (p0 q) 16 5) bad s = none → (s.ep r).st ≠ .halted →
            Does (.clearHalt h q) h (slotWait h b [r]) 0x13 ccContext 0 b s (fun t => t.slots = s.slots ∧ t.eps = s.eps))
       ∧ (epCode f b (bits (p0 q) 16 5) bad s = none → (s.ep r).st = .halted → s.epAll r = [r] → (s.ep r).cur.count = (s.ep r).prod → (s.ep r).tds = [] →
            (s.ep r).bad = none → (s.ep r).skip = false → Does (.clearHalt h q) h (slotWait h b [r]) 0x13 ccSuccess 0 b s (fun t =>
              unstaged (t.ep r) = unstaged { s.ep r with
                st := .idle, toggle := !bit (p0 q) 24 && (s.ep r).toggle, seq := if bit (p0 q) 24 then 0 else (s.ep r).seq, commit := add32 (s.ep r).commit 1 }
              ∧ (∀ k, k ≠ r → t.ep k = s.ep k) ∧ t.slots = s.slots)))
    ∧ (epCode f b (bits (p0 q) 16 5) (bits (p0 q) 21 43 != 0 || p1 q != 0 || p2 q != 0) s = none →
        ((s.ep r).st = .halted ∨ (s.ep r).st = .faulted → Does (.pauseEndpoint h q) h (slotWait h b [r]) 0x14 ccContext 0 b s (fun t => t.eps = s.eps))
        ∧ ((s.ep r).st = .paused → Does (.pauseEndpoint h q) h (slotWait h b [r]) 0x14 ccSuccess 0 b s (fun t => t.eps = s.eps))
        ∧ ((s.ep r).st = .idle ∨ (s.ep r).st = .running → s.epBusy r = true → Starts h (slotWait h b [r]) s → Gives (.pauseEndpoint h q) s (fun t =>
            t.ops = s.ops ++ [{ h, kind := .pause (bits (p0 q) 16 5), bell := b }] ∧ (t.ep r).st = (s.ep r).st ∧ t.slots = s.slots))
        ∧ ((s.ep r).st = .idle ∨ (s.ep r).st = .running → s.epAll r = [r] → s.epBusy r = false → (s.ep r).inXfer = false → (s.ep r).missed = 0 → (s.ep r).pkts = [] →
            (∀ o ∈ s.ops, o.pauses r = false) → Does (.pauseEndpoint h q) h (slotWait h b [r]) 0x14 ccSuccess 0 b s (fun t =>
              (t.ep r).st = .paused ∧ (t.ep r).cur = (s.ep r).cur ∧ (t.ep r).credits = [] ∧ (t.ep r).staged = [] ∧ (t.ep r).tds = []
              ∧ (∀ k, k ≠ r → t.ep k = s.ep k) ∧ t.ops = s.ops)))
    ∧ (let st := bits (p0 q) 32 10
       epCode f b (bits (p0 q) 16 5) (bits (p0 q) 21 11 != 0 || bits (p0 q) 42 22 != 0 || bits (p1 q) 1 4 != 0 || bits (p2 q) 32 32 != 0) s = none →
        streamBad (s.ep r) st = false →
        ((s.ep r).st ≠ .paused → (s.ep r).st ≠ .halted → Does (.moveCursor h q) h (slotWait h b [r]) 0x15 ccContext 0 b s (fun t => t.eps = s.eps))
        ∧ ((s.ep r).st = .paused ∨ (s.ep r).st = .halted → Does (.moveCursor h q) h (slotWait h b [r]) 0x15 ccSuccess 0 b s (fun t =>
            (let x := t.ep (r + st); x.cur.addr = p1 q / 32 * 32 ∧ x.cur.gen = (p1 q % 2 == 1) ∧ x.cur.count = bits (p2 q) 0 32 ∧ x.done = 0 ∧ x.skip = false
              ∧ x.tds = [] ∧ x.ahead = [] ∧ x.staged = [] ∧ x.st = (s.ep (r + st)).st ∧ x.toggle = (s.ep (r + st)).toggle ∧ x.seq = (s.ep (r + st)).seq
              ∧ x.prod = (s.ep (r + st)).prod ∧ x.pkts = (s.ep (r + st)).pkts)
            ∧ (∀ k, k ≠ r + st → t.ep k = s.ep k) ∧ t.slots = s.slots)))

/-- PORT ACTION (08 R305 – R308; 06 R241; 08 R291, R293, R297; 10 R345; 12 R424). A bundle begins with no record of it blocked. -/
def Obligations.PortCommandRows : Prop :=
  ∀ (s : State) (h : CmdHdr) (q : Params),
    let p := paPort q
    let f := h.fn.val
    let one := fun (slot sides value : Bool) => paBad q slot sides value = false ∧ paAll q = false ∧ s.owns f p = true
    let calm := fun (d : Side) => ((s.link p).side d).st = .off ∨ ((s.link p).side d).st = .disconnected
    (one false false false → (s.link p).disabled = true → (∀ d, ((s.link p).side d).st = .off) → Does (.portEnable h q) h [.port p] 0x20 ccSuccess 0 p s (fun t =>
        (t.link p).disabled = false ∧ (∀ x, x ≠ p → t.link x = s.link x) ∧ t.slots = s.slots
        ∧ (∀ d, ((t.link p).side d).st = if !(s.link p).device && (s.linkOn p (fun l => { l with disabled := false })).serviceable p d then .disconnected else .off)))
    ∧ (one false false false → (s.link p).disabled = false → Does (.portEnable h q) h [.port p] 0x20 ccState 0 p s (fun t => t.links = s.links))
    ∧ (paBad q false false false = true → Does (.portEnable h q) h (paKeys s f q) 0x20 ccParam 0 (paSrc q) s (fun t => t.links = s.links))
    ∧ (paBad q false false false = false → paAll q = false → s.owns f p = false → Does (.portEnable h q) h [.port p] 0x20 ccFunction 0 p s (fun t => t.links = s.links))
    ∧ (paBad q false false false = false → paAll q = true → (∀ x ∈ s.fnPorts f, (s.link x).disabled = false) →
        Does (.portEnable h q) h (paKeys s f q) 0x20 ccSuccess 0 0xFFFF s (fun t => t.links = s.links))
    ∧ (one false false false → (s.link p).device = false → s.mode.mode ≠ .fallow → (s.portSlots p) = [] → s.ops = [] → (∀ d, calm d) →
        Does (.portDisable h q) h [.port p] 0x20 ccSuccess 0 p s (fun t =>
          (t.link p).disabled = true ∧ (t.link p).test = 0 ∧ (∀ d, ((t.link p).side d).st = .off) ∧ (∀ x, x ≠ p → t.link x = s.link x) ∧ t.slots = s.slots))
    ∧ (one false true false → (s.link p).device = false →
        let ds := (namedSides (paSides q)).filter (fun d => ((s.link p).side d).st.resettable)
        (ds = [] → Does (.portReset h q) h [.port p] 0x20 ccState 0 p s (fun t => t.links = s.links ∧ t.eps = s.eps))
        ∧ (ds ≠ [] → Starts h [.port p] s → Gives (.portReset h q) s (fun t =>
            t.ops = s.ops ++ [{ h, kind := .reset, port := p }] ∧ t.slots = s.slots ∧ (∀ x, x ≠ p → t.link x = s.link x)
            ∧ (∀ d, d ∈ ds → ((t.link p).side d).quiet = true ∧ ((t.link p).side d).resetBy = .action ∧ ((t.link p).side d).warm = paWarm q ∧ ((t.link p).side d).st = ((s.link p).side d).st)
            ∧ (∀ d, d ∉ ds → (t.link p).side d = (s.link p).side d))))
    ∧ (one false false false → canSuspend p s = true → Starts h [.port p] s → Gives (.portSuspend h q) s (fun t =>
        t.ops = s.ops ++ [{ h, kind := .suspend, port := p }] ∧ t.slots = s.slots ∧ t.eps = s.eps ∧ (∀ x, x ≠ p → t.link x = s.link x)
        ∧ (∀ d, ((s.link p).side d).st = .enabled → ((t.link p).side d).suspending = true ∧ ((t.link p).side d).quiesced = false ∧ ((t.link p).side d).st = .enabled)
        ∧ (∀ d, ((s.link p).side d).st ≠ .enabled → (t.link p).side d = (s.link p).side d)))
    ∧ (one false false false → canSuspend p s = false → Does (.portSuspend h q) h [.port p] 0x20 ccState 0 p s (fun t => t.links = s.links))
    ∧ (one false false false → canResume p s = true → Starts h [.port p] s → Gives (.portResume h q) s (fun t =>
        t.ops = s.ops ++ [{ h, kind := .resume, port := p }] ∧ t.slots = s.slots ∧ (∀ x, x ≠ p → t.link x = s.link x)
        ∧ (∀ d, ((s.link p).side d).st = .suspended → ((t.link p).side d).st = .resuming ∧ ((t.link p).side d).resumeBy = .action)
        ∧ (∀ d, ((s.link p).side d).st = .resuming → ((s.link p).side d).resumeBy = .remote → (t.link p).side d = { (s.link p).side d with coincident := true })))
    ∧ (one false false false → canResume p s = false → Does (.portResume h q) h [.port p] 0x20 ccState 0 p s (fun t => t.links = s.links))
    ∧ (one true false false →
        let b := paSlot q
        let key := slotKey f b
        s.slotOpen f b = true → (s.slot key).port = p →
        let keys : List WaitKey := [.port p, .slot f b]
        let roots := (s.treeSlots p key).flatMap s.slotRoots
        let left := fun (t : State) => (∀ r ∈ roots, t.ep r = { s.ep r with inStream := false, empty := 0 }) ∧ ∀ r, r ∉ roots → t.ep r = s.ep r
        ((s.slot key).gone = false → (∀ r ∈ roots, s.epBusy r = false) → Does (.treeSleep h q) h keys 0x20 ccSuccess 0 p s (fun t =>
            t.slot key = { s.slot key with tree := true, seq := add32 (s.slot key).seq 1 } ∧ (∀ k, k ≠ key → t.slot k = s.slot k) ∧ left t))
        ∧ ((s.slot key).gone = false → (∃ r ∈ roots, s.epBusy r = true) → Starts h keys s → Gives (.treeSleep h q) s (fun t =>
            t.ops = s.ops ++ [{ h, kind := .treeSleep, port := p, bell := b }] ∧ (t.slot key).tree = true ∧ (∀ k, k ≠ key → t.slot k = s.slot k) ∧ left t))
        ∧ ((s.slot key).gone = true → Does (.treeSleep h q) h keys 0x20 ccAborted 0 p s (fun t => t.slots = s.slots)
            ∧ Does (.treeWake h q) h keys 0x20 ccAborted 0 p s (fun t => t.slots = s.slots))
        ∧ ((s.slot key).gone = false → (s.slot key).tree = true → Does (.treeWake h q) h keys 0x20 ccSuccess 0 p s (fun t =>
            t.slot key = { s.slot key with tree := false, seq := add32 (s.slot key).seq 1 } ∧ (∀ k, k ≠ key → t.slot k = s.slot k) ∧ t.eps = s.eps))
        ∧ ((s.slot key).gone = false → (s.slot key).tree = false → Does (.treeWake h q) h keys 0x20 ccState 0 p s (fun t => t.slots = s.slots)))
    ∧ (let v := p1 q
       one false false true → 1 ≤ v → v ≤ 5 ∨ v = 8 → s.portSlots p = [] → Does (.portTest h q) h [.port p] 0x20 ccSuccess 0 p s (fun t =>
        (t.link p).test = v ∧ Out.bus p (if v = 8 then .ss else .usb2) (.test v) ∈ t.out ∧ (t.link p).u2 = (s.link p).u2 ∧ (t.link p).ss = (s.link p).ss))
    ∧ (one false false false → (s.link p).ss.st = .withheld → (s.link p).ss.cause = 1 → Does (.ssRetry h q) h [.port p] 0x20 ccSuccess 0 p s (fun t =>
        (t.link p).ss.st = .disconnected ∧ (t.link p).ss.cause = 0 ∧ (t.link p).u2 = (s.link p).u2 ∧ (∀ x, x ≠ p → t.link x = s.link x)))
    ∧ (let v := p1 q
       let may := paAll q = false ∧ s.powerAllowed f p = true
       let idle := s.profile p = .typec ∧ (s.tc p).st.attached = false ∧ (s.tc p).quarantine = false ∧ (s.tc p).bridge = false ∧ (s.pd p).con = none ∧ (s.pd p).epr = false ∧ (s.pd p).trellis = .no
        ∧ s.ops = [] ∧ s.budget.waitOrder = [] ∧ (s.link p).device = false ∧ (∀ d, ((s.link p).side d).st = .off) ∧ (s.path p).st ≠ .latched
       (may → paBad q false false false = false → s.profile p = .disabled → Does (.powerOff h q) h [.port p] 0x20 ccSuccess 0 p s (fun t =>
          t.tc p = { s.tc p with powerOff := true } ∧ (∀ x, x ≠ p → t.tc x = s.tc x) ∧ t.paths = s.paths))
       ∧ (may → paBad q false false false = false → idle → Does (.powerOff h q) h [.port p] 0x20 ccSuccess 0 p s (fun t =>
          (t.tc p).st = .disabled ∧ (t.tc p).powerOff = true ∧ (t.path p).st = .off ∧ (∀ x, x ≠ p → t.tc x = s.tc x ∧ t.path x = s.path x)))
       ∧ (may → paBad q false false true = false → v = 0 ∨ (100 ≤ v ∧ v ≤ 10000) → s.profile p = .disabled ∨ idle → Starts h [.port p] s → Gives (.powerCycle h q) s (fun t =>
          t.ops = s.ops ++ [{ h, kind := .powerCycle, port := p }] ∧ (t.tc p).powerOff = true))
       ∧ (paAll q = false → paBad q false false false = false → s.powerAllowed f p = false →
          Does (.powerOff h q) h [.port p] 0x20 ccFunction 0 p s (fun t => t.tcs = s.tcs ∧ t.paths = s.paths))
       ∧ (bits (p0 q) 8 8 = 0x11 → may → paBad q false false false = false → (s.tc p).powerOff = true → (s.tc p).retired = false → s.profile p = .disabled ∨ s.profile p = .typec →
          Does (.unknownCommand h 0xC 0x20 q) h [.port p] 0x20 ccSuccess 0 p s (fun t => (t.tc p).powerOff = false
            ∧ (s.profile p = .typec → (t.tc p).st = if bits (s.rget (portReg p 0x400)) 2 2 = 0 then .unattachedSrc else .unattachedSnk)))
       ∧ (bits (p0 q) 8 8 = 0x11 → may → paBad q false false false = false → (s.tc p).powerOff = false →
          Does (.unknownCommand h 0xC 0x20 q) h [.port p] 0x20 ccState 0 p s (fun t => t.tcs = s.tcs ∧ t.paths = s.paths)))

/-- The happenings of a reset, a suspend, a resume, a sleeping tree and a power cycle (06 R241 steps 3 – 5; 08 R278, R281, R291, R293 – R297, R302, R306). -/
def Obligations.PortEventRows : Prop :=
  ∀ (s : State) (p : Port),
    let only := fun (t : State) (d : Side) => (∀ x, x ≠ p.val → t.link x = s.link x) ∧ ∀ e, e ≠ d → (t.link p).side e = (s.link p).side e
    (s.portSlots p = [] → Gives (.portResetQuiesced p) s (fun t =>
        (∀ d, ((s.link p).side d).quiet = true → ((t.link p).side d).st = .resetting ∧ ((t.link p).side d).quiet = false
            ∧ Out.bus p d (if d = .ss ∧ ((s.link p).side d).warm = false then .hotReset else .reset ((s.link p).side d).warm) ∈ t.out)
        ∧ (∀ d, ((s.link p).side d).quiet = false → (t.link p).side d = (s.link p).side d) ∧ (∀ x, x ≠ p.val → t.link x = s.link x)))
    ∧ (∀ k r, s.portSlots p = [k] → s.slotRoots k = [r] → keyEp r = 0 → (s.ep r).inXfer = false → s.epBusy r = false → (s.slot k).st ≠ .free →
        ((s.link p).side (sideOf (s.slot k).speed)).quiet = true → ((s.link p).side (if sideOf (s.slot k).speed = .usb2 then .ss else .usb2)).quiet = false →
        Gives (.portResetQuiesced p) s (fun t => t.slot k = { s.slot k with st := .dflt, tree := false, recovery := false, seq := add32 (s.slot k).seq 1 }
          ∧ (∀ j, j ≠ k → t.slot j = s.slot j) ∧ ((t.link p).side (sideOf (s.slot k).speed)).st = .resetting))
    ∧ (Gives (.hotResetTimeout p) s (fun t => only t .ss ∧
        (if (s.link p).ss.st = .resetting ∧ (s.link p).ss.warm = false then
          (t.link p).ss = { (s.link p).ss with warm := true } ∧ Out.bus p .ss (.reset true) ∈ t.out else t = s)))
    ∧ (∀ sd sp, ((s.link p).side sd).st = .resetting → speedOnSide sp sd = true → (s.link p).device = false → ((s.link p).side sd).resetBy ≠ .flr → ((s.link p).side sd).resetBy ≠ .action →
        Room 2 s → Gives (.portResetDone p sd sp) s (fun t => only t sd ∧ ((t.link p).side sd).st = .enabled ∧ ((t.link p).side sd).speed = reachedSpeed (s.maxSpeed p) sd sp
          ∧ (t.bus p).running = true ∧ t.ops = s.ops))
    ∧ (∀ sd sp o, ((s.link p).side sd).st = .resetting → speedOnSide sp sd = true → (s.link p).device = false → ((s.link p).side sd).resetBy = .action →
        (∀ e, e ≠ sd → ((s.link p).side e).st ≠ .resetting) → (∀ e, ((s.link p).side e).quiet = false) → s.opFind (portOp p .reset) = some o →
        Room 3 s → Gives (.portResetDone p sd sp) s (fun t => only t sd ∧ ((t.link p).side sd).st = .enabled ∧ ((t.link p).side sd).speed = reachedSpeed (s.maxSpeed p) sd sp
          ∧ t.ops = s.ops.filter (fun x => !portOp p .reset x)))
    ∧ (Gives (.suspendQuiesced p) s (fun t => t.eps = s.eps ∧ t.slots = s.slots ∧ (∀ x, x ≠ p.val → t.link x = s.link x) ∧
        ∀ d, (t.link p).side d = if ((s.link p).side d).suspending = true ∧ s.sideBusy p d = false then { (s.link p).side d with quiesced := true, ulink := 0 } else (s.link p).side d))
    ∧ (Gives (.ssU3Entered p) s (fun t => only t .ss ∧ (if (s.link p).ss.suspending = true ∧ (s.link p).ss.quiesced = true then
        (t.link p).ss = { (s.link p).ss with ulink := 3 } ∧ Out.bus p .ss .u3 ∈ t.out else t = s)))
    ∧ (∀ d o, ((s.link p).side d).suspending = true → (∀ e, e ≠ d → ((s.link p).side e).suspending = false) → ((s.link p).side d).quiesced = true →
        (d = .ss → (s.link p).ss.ulink = 3) → ((s.link p).side d).wakeLatched = false → s.opFind (portOp p .suspend) = some o → o.bell = 0 →
        (∀ x ∈ s.ops, portOp p .suspend x = false → x.h = o.h → x.kind ≠ .suspend) → Room 3 s →
        Gives (.suspendComplete p) s (fun t => only t d ∧ (t.link p).side d = { (s.link p).side d with st := .suspended, suspending := false, quiesced := false }
          ∧ t.slots = s.slots ∧ t.ops = s.ops.filter (fun x => !portOp p .suspend x)))
    ∧ (Gives (.resumeKEnd p) s (fun t => only t .usb2 ∧ (t.link p).u2 =
        if (s.link p).u2.st = .resuming ∧ (s.link p).device = false then { (s.link p).u2 with recovering := true } else (s.link p).u2))
    ∧ (∀ sd o, ((s.link p).side sd).st = .resuming → (s.link p).device = false → sd = .ss ∨ ((s.link p).side sd).recovering = true →
        (∀ e, e ≠ sd → ((s.link p).side e).st ≠ .resuming) → s.opFind (portOp p .resume) = some o → o.bell = 0 →
        (∀ x ∈ s.ops, portOp p .resume x = false → x.h = o.h → x.kind ≠ .resume) → Room 3 s →
        Gives (.resumeRecoveryEnd p sd) s (fun t => only t sd ∧ ((t.link p).side sd).st = .enabled ∧ ((t.link p).side sd).ulink = 0 ∧ (t.bus p).running = true
          ∧ t.ops = s.ops.filter (fun x => !portOp p .resume x)))
    ∧ ((s.link p).ss.st = .resuming → (s.link p).device = false → s.autoWarm p = false → Gives (.ssResumeTimeout p) s (fun t => only t .ss ∧ (t.link p).ss.st = .error))
    ∧ (∀ o, s.opFind (portOp p .treeSleep) = some o →
        (∀ k ∈ s.portSlots p, inTree (s.slot (slotKey o.h.fn o.bell)) (s.slot k) = true → ∀ r ∈ s.slotRoots k, s.epBusy r = false) → Room 1 s →
        Gives (.treeSleepQuiesced p) s (fun t => t.ops = s.ops.filter (fun x => !portOp p .treeSleep x) ∧ t.slots = s.slots ∧ t.eps = s.eps))
    ∧ (∀ o, s.opFind (portOp p .powerCycle) = some o → (s.tc p).retired = false → s.profile p = .disabled ∨ s.profile p = .typec → Room 1 s →
        Gives (.powerCycleDelayExpire p) s (fun t => (t.tc p).powerOff = false ∧ t.ops = s.ops.filter (fun x => !portOp p .powerCycle x)
          ∧ (s.profile p = .typec → (t.tc p).st = if bits (s.rget (portReg p 0x400)) 2 2 = 0 then .unattachedSrc else .unattachedSnk)))

/-- The role actions (09 R311, R313 – R318, R322, R323, R333, R335, R337). A bundle begins with no record of it blocked. -/
def Obligations.GuestCommandRows : Prop :=
  ∀ (s : State) (h : CmdHdr) (q : Params),
    let p := paPort q
    let f := h.fn.val
    let b := paSlot q
    let key := slotKey f b
    let e := guestEpIdx q
    let r := epKey f b e 0
    let others := fun (t : State) => ∀ x, x ≠ p → t.guest x = s.guest x
    let alone := fun (k : Nat) (t : State) => ∀ x, x ≠ k → t.ep x = s.ep x
    s.owns f p = true →
    (∀ n, gaBad q false false = false → bits (p1 q) 4 8 = 0 → bits (p2 q) 35 5 = 0 → bits (p2 q) 48 16 = 0 → bits (p2 q) 32 3 ≤ 4 → s.evrOk f (bits (p2 q) 40 8) = true →
        (s.guest p).st = .free → s.freeBell f = some n → s.guestFits f = true → s.ctxFits f 1 = true → Does (.guestOpen h q) h [.port p] 0x20 ccSuccess n p s (fun t =>
          (let g := t.guest p; g.st = .ready ∧ g.owner = f ∧ g.bell = n ∧ g.connectReq = false ∧ g.present = false ∧ g.speedMax = min (bits (p2 q) 32 3) (s.maxSpeed p))
          ∧ (let x := t.ep (epKey f n 0 0); x.st = .idle ∧ x.guest = true ∧ x.ty = 1 ∧ x.evr = bits (p2 q) 40 8 ∧ x.cur.addr = p1 q / 4096 * 4096 ∧ x.cur.count = bits (p2 q) 0 32
            ∧ x.mps = (if min (bits (p2 q) 32 3) (s.maxSpeed p) = 0 then 8 else if min (bits (p2 q) 32 3) (s.maxSpeed p) ≤ 2 then 64 else 512))
          ∧ (∀ x, x ≠ p → unhoused (t.guest x) = unhoused (s.guest x)) ∧ (∀ k, k ≠ epKey f n 0 0 → unstaged (t.ep k) = unstaged (s.ep k))
          ∧ (∀ k, unplaced (t.slot k) = unplaced (s.slot k))))
    ∧ (gaBad q false false = false → bits (p1 q) 4 8 = 0 → bits (p2 q) 35 5 = 0 → bits (p2 q) 48 16 = 0 → bits (p2 q) 32 3 ≤ 4 → s.evrOk f (bits (p2 q) 40 8) = true →
        (s.guest p).st ≠ .free → Does (.guestOpen h q) h [.port p] 0x20 ccState 0 p s (fun t => t.guests = s.guests ∧ t.eps = s.eps))
    ∧ (s.guestNamed f q = true → gaBad q true false = false →
        (p1 q = 0 → p2 q = 0 → (∀ o ∈ s.ops, o.port ≠ p) → Does (.guestClose h q) h [] 0x20 ccSuccess (s.slotResidual key) p s (fun t =>
            t.guest p = { seq := add32 (s.guest p).seq 1 } ∧ others t ∧ (∀ k, epRoot k ∈ s.slotRoots key → t.ep k = {}) ∧ (∀ k, epRoot k ∉ s.slotRoots key → t.ep k = s.ep k)))
        ∧ (p1 q = 0 → p2 q = 0 → (s.guest p).connectReq = false → Does (.guestConnect h q) h [.port p] 0x20 ccSuccess 0 p s (fun t =>
            t.guest p = { s.guest p with connectReq := true, seq := add32 (s.guest p).seq 1 } ∧ others t ∧ t.eps = s.eps))
        ∧ (p1 q = 0 → p2 q = 0 → (s.guest p).connectReq = true → Does (.guestConnect h q) h [.port p] 0x20 ccState 0 p s (fun t => t.guests = s.guests))
        ∧ (p1 q = 0 → p2 q = 0 → (s.guest p).connectReq = true → (s.guest p).present = false → Does (.guestDisconnect h q) h [] 0x20 ccSuccess 0 p s (fun t =>
            t.guest p = { s.guest p with connectReq := false, seq := add32 (s.guest p).seq 1 } ∧ others t ∧ t.eps = s.eps))
        ∧ (p1 q = 0 → p2 q = 0 → (s.guest p).connectReq = true → (s.guest p).present = true → s.slotRoots (slotKey (s.guest p).owner (s.guest p).bell) = [] → s.ops = [] →
            Starts h [] s → Room 3 s → Gives (.guestDisconnect h q) s (fun t => (t.guest p).connectReq = false ∧ (t.guest p).present = false ∧ (t.guest p).st = .ready
              ∧ ((t.link p).side (s.guest p).side).st = .disconnected ∧ others t))
        ∧ (∀ blk, p2 q = 0 → guestEndpointsCode f p b q blk s = none →
            let u := applyEndpoints f b p true blk { s with blocked := [] }
            (s.ctxFits f (u.runLength key - (s.guest p).ctxCount) = false → Does (.guestEndpoints h q blk) h (.port p :: (s.blkTouched f b blk).map .ep) 0x20 ccResource 0 p s (fun t => t.eps = s.eps ∧ t.guests = s.guests))
            ∧ (s.ctxFits f (u.runLength key - (s.guest p).ctxCount) = true → Does (.guestEndpoints h q blk) h (.port p :: (s.blkTouched f b blk).map .ep) 0x20 ccSuccess 0 p s (fun t =>
                (∀ k, unstaged (t.ep k) = unstaged (u.ep k)) ∧ (t.guest p).ctxCount = u.runLength key
                ∧ (∀ x, x ≠ p → unhoused (t.guest x) = unhoused (s.guest x)) ∧ (∀ k, unplaced (t.slot k) = unplaced (s.slot k)))))
        ∧ (∀ blk x, p2 q = 0 → guestEndpointsCode f p b q blk s = some x → Does (.guestEndpoints h q blk) h (.port p :: (s.blkTouched f b blk).map .ep) 0x20 x 0 p s (fun t => t.eps = s.eps ∧ t.guests = s.guests))
        ∧ (p1 q < 256 → p2 q = 0 → (s.guest p).suspended = true → Starts h [.port p] s → Gives (.guestWake h q) s (fun t =>
            t.ops = s.ops ++ [{ h, kind := .guestWake, port := p, bell := b }] ∧ (t.guest p).wakeIface = p1 q ∧ (t.guest p).suspended = true ∧ others t ∧ t.eps = s.eps
            ∧ ((s.guest p).side = .ss → (t.link p).ss.st = .resuming ∧ Out.bus p .ss .lfpsExit ∈ t.out) ∧ ((s.guest p).side = .usb2 → t.links = s.links)))
        ∧ (p1 q < 256 → p2 q = 0 → (s.guest p).suspended = false → Does (.guestWake h q) h [.port p] 0x20 ccState 0 p s (fun t => t.guests = s.guests ∧ t.ops = s.ops))
        ∧ (p1 q % 64 = 0 → p2 q = 0 → Does (.guestSnapshot h q) h [.port p] 0x20 ccSuccess 0 p s (fun t =>
            Wrote f (p1 q) (guestBytes p (s.guest p) ++ (List.range 31).flatMap (fun e => s.ctxBytes (epKey f b e 0))) s t ∧ t.eps = s.eps ∧ t.guests = s.guests)))
    ∧ (s.guestNamed f q = true → gaBad q true true = false → (s.guest p).st.bound = true → e ≤ 30 → s.epDefined r = true →
        (p1 q = 0 → p2 q = 0 → (s.ep r).st = .idle ∨ (s.ep r).st = .running → s.epBusy r = true → Starts h [.port p, .ep r] s → Gives (.guestEpPause h q) s (fun t =>
            t.ops = s.ops ++ [{ h, kind := .guestPause e, port := p, bell := b }] ∧ (t.ep r).st = (s.ep r).st))
        ∧ (p1 q = 0 → p2 q = 0 → (s.ep r).st = .idle ∨ (s.ep r).st = .running → b < 16384 → s.epAll r = [r] → s.epBusy r = false → (s.ep r).inXfer = false → (s.ep r).missed = 0 →
            (s.ep r).pkts = [] → (∀ o ∈ s.ops, o.pauses r = false) → Does (.guestEpPause h q) h [.port p, .ep r] 0x20 ccSuccess 0 p s (fun t =>
              (t.ep r).st = .paused ∧ (t.ep r).cur = (s.ep r).cur ∧ (t.ep r).tds = [] ∧ alone r t ∧ t.ops = s.ops))
        ∧ (p1 q = 0 → p2 q = 0 → (s.ep r).st ≠ .idle → (s.ep r).st ≠ .running → Does (.guestEpPause h q) h [.port p, .ep r] 0x20 ccContext 0 p s (fun t => t.eps = s.eps))
        ∧ (bits (p1 q) 1 4 = 0 → p2 q < 4294967296 → (s.ep r).st = .paused ∨ (s.ep r).st = .halted → Does (.guestEpMove h q) h [.port p, .ep r] 0x20 ccSuccess 0 p s (fun t =>
            (t.ep r).cur.addr = p1 q / 32 * 32 ∧ (t.ep r).cur.gen = (p1 q % 2 == 1) ∧ (t.ep r).cur.count = p2 q ∧ (t.ep r).done = 0 ∧ (t.ep r).st = (s.ep r).st ∧ alone r t))
        ∧ (p1 q = 0 → p2 q = 0 → (s.ep r).st = .idle ∨ (s.ep r).st = .running ∨ (s.ep r).st = .paused → s.epAll r = [r] → (s.ep r).inXfer = false → Does (.guestEpHalt h q) h [.port p, .ep r] 0x20 ccSuccess 0 p s (fun t =>
            (t.ep r).st = .halted ∧ (t.ep r).cur = (s.ep r).cur ∧ (t.ep r).credits = [] ∧ alone r t))
        ∧ (p1 q = 0 → p2 q = 0 → (s.ep r).st = .halted → s.epAll r = [r] → (s.ep r).cur.count = (s.ep r).prod → (s.ep r).tds = [] → (s.ep r).bad = none → (s.ep r).skip = false →
            Does (.guestEpUnhalt h q) h [.port p, .ep r] 0x20 ccSuccess 0 p s (fun t => (t.ep r).st = .idle ∧ (t.ep r).toggle = (!bit (p0 q) 60 && (s.ep r).toggle)
              ∧ (t.ep r).seq = (if bit (p0 q) 60 then 0 else (s.ep r).seq) ∧ alone r t)))
    ∧ (gaBad q false false = false → p1 q < 2 → p2 q = 0 →
        (s.profile p = .soldered → s.roleCfg p = 1 → p1 q = 1 → (s.link p).device = false → s.portSlots p = [] → s.ops = [] → s.mode.mode ≠ .fallow →
            (∀ d, ((s.link p).side d).st = .off ∨ ((s.link p).side d).st = .disconnected) → Starts h [] s → Room 3 s → Gives (.roleSet h q) s (fun t =>
              (t.link p).roleSet = true ∧ (t.link p).device = true ∧ (∀ d, ((t.link p).side d).st = .disconnected) ∧ (∀ x, x ≠ p → t.link x = s.link x)))
        ∧ (s.profile p ≠ .soldered ∨ s.roleCfg p ≠ 1 → Does (.roleSet h q) h [] 0x20 ccState 0 p s (fun t => t.links = s.links)))
    ∧ (∀ i : Port,
        Gives (.guestWakeKStart i) s (fun t => if (s.opFind (guestWaking i)).isSome = true ∧ (s.guest i).suspended = true ∧ (s.guest i).wakeDriving = false ∧ (s.guest i).wakeDone = false ∧ (s.guest i).side = .usb2 then
            (t.guest i).wakeDriving = true ∧ (t.link i).u2.st = .resuming ∧ Out.bus i .usb2 .resumeK ∈ t.out else t = s)
        ∧ ((s.guest i).wakeDriving = true → Gives (.guestWakeKEnd i) s (fun t => t.guest i = { s.guest i with wakeDriving := false, wakeDone := true } ∧ t.links = s.links)))

/-- SET POWER POLICY (12 R439, R431; 11 R380). -/
def Obligations.PowerPolicyRows : Prop :=
  ∀ (s : State) (h : CmdHdr) (q : Params),
    let p := ppNum q
    let w := p1 q % 65536
    let others := fun (t : State) => (∀ x, x ≠ p → t.path x = s.path x)
    let keep := fun (t : State) => t.paths = s.paths ∧ t.beds = s.beds ∧ t.budget = s.budget
    (bits (p0 q) 16 48 = 0 → p2 q = 0 →
      (p1 q < 8 → s.powerAllowed h.fn p = true → Does (.shedClass h q) h [.port p] 0x21 ccSuccess (s.path p).shedClass p s (fun t =>
          t.path p = { s.path p with shedClass := p1 q } ∧ others t ∧ t.beds = s.beds ∧ t.budget = s.budget))
      ∧ (p1 q < 131072 → w ≤ 4000 → s.powerAllowed h.fn p = true → s.budget.waitOrder = [] →
          (s.pd p).con = none ∨ bit (p1 q) 16 = false ∨ w = 0 ∨ (s.tc p).source = false ∨ (∃ c, (s.pd p).con = some c ∧ c.mw ≤ w * 1000) →
          Does (.portLimit h q) h [.port p] 0x21 ccSuccess (s.path p).limit p s (fun t =>
          t.path p = { s.path p with limit := w } ∧ others t ∧ t.pds = s.pds))
      ∧ (p < 8 → p1 q ≤ 4000 → h.fn.val = 0 → s.budget.waitOrder = [] → Does (.bedBudget h q) h [] 0x21 ccSuccess (s.bed p).bedW p s (fun t =>
          t.bed p = { s.bed p with bedW := p1 q } ∧ (∀ b, b ≠ p → t.bed b = s.bed b) ∧ t.paths = s.paths))
      ∧ (p = 0 → p1 q ≤ 20000 → h.fn.val = 0 → s.budget.waitOrder = [] → Does (.devBudget h q) h [] 0x21 ccSuccess s.budget.devW 0 s (fun t =>
          t.budget = { s.budget with devW := p1 q } ∧ t.paths = s.paths ∧ t.beds = s.beds))
      ∧ (p1 q < 2 → s.powerAllowed h.fn p = true → s.indMode p = 3 → Does (.indLevel h q) h [.port p] 0x21 ccSuccess (b2n (s.path p).indLevel) p s (fun t =>
          t.path p = { s.path p with indLevel := p1 q == 1 } ∧ others t))
      ∧ (p1 q < 2 → s.powerAllowed h.fn p = true → s.indMode p ≠ 3 → Does (.indLevel h q) h [.port p] 0x21 ccState 0 p s keep)
      ∧ (p1 q < 8 → s.powerAllowed h.fn p = false → Does (.shedClass h q) h [.port p] 0x21 ccFunction 0 p s keep)
      ∧ (p < 8 → p1 q ≤ 4000 → h.fn.val ≠ 0 → Does (.bedBudget h q) h [] 0x21 ccFunction 0 p s keep)
      ∧ (p = 0 → p1 q ≤ 20000 → h.fn.val ≠ 0 → Does (.devBudget h q) h [] 0x21 ccFunction 0 0 s keep))
    ∧ (bits (p0 q) 16 48 ≠ 0 ∨ p2 q ≠ 0 → Does (.portLimit h q) h [.port p] 0x21 ccParam 0 p s keep ∧ Does (.shedClass h q) h [.port p] 0x21 ccParam 0 p s keep
        ∧ Does (.bedBudget h q) h [] 0x21 ccParam 0 p s keep ∧ Does (.devBudget h q) h [] 0x21 ccParam 0 p s keep ∧ Does (.indLevel h q) h [.port p] 0x21 ccParam 0 p s keep)

/-- PD REQUEST (11 R409, R410, R399; 10 R363) and SEND VDM (11 R411). -/
def Obligations.PdRequestRows : Prop :=
  ∀ (s : State) (h : CmdHdr) (q : Params),
    let p := prPort q
    let d := s.pd p
    let tail := fun (o : Op) (m : PdTx) (t : State) =>
      t.ops = s.ops ++ [o] ∧ (t.pd p).txq = d.txq ++ [{ m with sinkTx := d.con3 }] ∧ (∀ x, x ≠ p → t.pd x = s.pd x ∧ t.tc x = s.tc x)
        ∧ ((d.con3 && (s.tc p).source) = true → (t.tc p).rp = 2 ∧ (t.tc p).sinkTxNg = true) ∧ ((d.con3 && (s.tc p).source) = false → t.tc p = s.tc p)
    let sends := fun (c : Instr) (n : Nat) (m : PdTx) => Starts h [.port p] s → Gives c s (tail (prOp h q n) m)
    let refused := fun (c : Instr) => Does c h [.port p] 0x22 ccState 0 p s (fun t => t.pds = s.pds ∧ t.tcs = s.tcs ∧ t.ops = s.ops)
    (prBad q = false → s.powerAllowed h.fn p = true → s.pdLive p = true →
      (prNone q = false →
        ((s.tc p).source = true → s.graftFor 1 0 p = none → sends (.sendCaps h q) 1 { sop := .sop0, ty := if d.epr then 0x11 else 1, ext := d.epr, objs := s.offers p d.epr, use := .caps })
        ∧ ((s.tc p).source = false → refused (.sendCaps h q))
        ∧ (d.con.isSome = true → (d.inTrellis = false → sends (.drSwap h q) 3 (msg 9 [] (.swapReq .dr)))
            ∧ (s.isDrp p = true → sends (.prSwap h q) 4 (msg 10 [] (.swapReq .pr))) ∧ (s.isDrp p = false → refused (.prSwap h q))
            ∧ ((s.tc p).vconnSrc = true ∨ s.vconnEn p = true → sends (.vconnSwap h q) 5 (msg 11 [] (.swapReq .vconn))))
        ∧ (d.con = none → refused (.drSwap h q) ∧ refused (.prSwap h q) ∧ refused (.vconnSwap h q) ∧ refused (.eprEnter h q))
        ∧ (∀ c, (s.tc p).source = false → s.eprEn p = true → d.con = some c → c.epr = false → sends (.eprEnter h q) 11 (msg 0xA [2 ^ 24] .eprEnter))
        ∧ (d.epr = true → sends (.eprExit h q) 12 (msg 0xA [5 * 2 ^ 24] .eprExit)) ∧ (d.epr = false → refused (.eprExit h q))
        ∧ (s.ops = [] → d.trellis = .no → (s.tc p).source = (s.tc p).atSource → (s.tc p).dfp = (s.tc p).atDfp → s.budget.waitOrder = [] → Starts h [.port p] s → Room 7 s →
            Gives (.hardReset h q) s (fun t => (t.pd p).hardPending = true ∧ (t.pd p).hardResets = d.hardResets + 1 ∧ (t.pd p).con = none
              ∧ (t.pd p).next = none ∧ (t.pd p).txq = [] ∧ (t.pd p).awaits = none ∧ (t.pd p).swap = .none ∧ (t.pd p).sinkWait = !(s.tc p).atSource ∧ (t.tc p).vconnSrc = (s.tc p).atVconn
              ∧ (∀ x, x ≠ p → t.pd x = s.pd x) ∧ t.fld (portReg p 0x51C) 0 8 = min (s.fld (portReg p 0x51C) 0 8 + 1) 255)))
      ∧ (p1 q < 2 ^ 32 → p2 q = 0 → (s.tc p).source = false → d.partner ≠ [] → Starts h [.port p] s → Gives (.pdRequestRdo h q) s (fun t =>
          if d.quiet then tail (prOp h q 2) (if d.epr then msg 9 [p1 q, d.partner.getD (bits (p1 q) 28 4 - 1) 0] .request else msg 2 [p1 q] .request) t
          else t.ops = s.ops ++ [prOp h q 2] ∧ t.pd p = { d with override := some (p1 q) } ∧ (∀ x, x ≠ p → t.pd x = s.pd x) ∧ t.tcs = s.tcs))
      ∧ (p1 q < 2 ^ 32 → p2 q = 0 → (s.tc p).source = true ∨ d.partner = [] → refused (.pdRequestRdo h q))
      ∧ (p1 q < 3 → p2 q = 0 → s.sopOk p (p1 q) = true → Starts h [.port p] s → Room 2 s → Gives (.softReset h q) s (fun t =>
          t.ops = s.ops ++ [prOp h q 6] ∧ ((t.pd p).sop (sopOf (p1 q))).tx = 0 ∧ ((t.pd p).sop (sopOf (p1 q))).last = none
          ∧ (p1 q = 0 → (t.pd p).txq = [{ msg 0xD [] (.softReset true) with sinkTx := d.con3 }] ∧ (t.pd p).awaits = none ∧ (t.pd p).swap = .none)
          ∧ (p1 q ≠ 0 → (t.pd p).txq = insReply { msg 0xD [] (.softReset true) with sop := sopOf (p1 q) } d.txq)
          ∧ (t.pd p).con = d.con ∧ (∀ x, x ≠ p → t.pd x = s.pd x) ∧ t.fld (portReg p 0x51C) 8 8 = min (s.fld (portReg p 0x51C) 8 8 + 1) 255))
      ∧ (p1 q < 3 → p2 q = 0 → s.sopOk p (p1 q) = false → refused (.softReset h q))
      ∧ (prOut q = false → sends (.getSourceCaps h q) 8 (msg 7 [] .getSrc) ∧ sends (.getSinkCaps h q) 9 (msg 8 [] .getSnk)
          ∧ (d.con3 = true → sends (.getStatus h q) 13 (msg 0x12 [] .getStatus)) ∧ (d.con3 = false → refused (.getStatus h q)))
      ∧ (discoverBad (p1 q) = false → p2 q % 64 = 0 → s.sopOk p (bits (p1 q) 0 2) = true →
          sends (.discover h q) 10 { sop := sopOf (bits (p1 q) 0 2), ty := 0xF, ext := false, objs := [discoverHdr (p1 q)], use := .discover }))
    ∧ (prBad q = false → prNone q = false → s.powerAllowed h.fn p = true → s.pdLive p = false →
        refused (.sendCaps h q) ∧ refused (.hardReset h q) ∧ refused (.drSwap h q) ∧ refused (.eprExit h q))
    ∧ (∀ blk, svBad q (leAt blk 0 4) = false → s.owns h.fn p = true → s.pdLive p = true → s.sopOk p (svSop q) = true → Starts h [.port p] s → Gives (.sendVdm h q blk) s
        (tail { h, kind := .vdm (p2 q) (sopOf (svSop q)), port := p }
          { sop := sopOf (svSop q), ty := 0xF, ext := false, objs := leAt blk 0 4 :: (List.range (svCount q)).map (fun i => leAt blk (4 + 4 * i) 4), use := .vdmReq }))

/-- SET MODE, tempo and the regulator (13 R441, R444 – R452, R454, R455, R465). -/
def Obligations.ModeRows : Prop :=
  ∀ s : State,
    let m := s.mode
    (∀ (h : CmdHdr) (q : Params), h.fn.val = 0 → bits (p0 q) 2 6 = 0 → bits (p0 q) 9 55 = 0 → p1 q = 0 → p2 q = 0 → bits (p0 q) 0 2 ≠ 3 →
      let g := modeOf (bits (p0 q) 0 2)
      let started := fun (ph : ModePhase) => ({ goal := g, old := m.mode, by_ := .command h (bit (p0 q) 8), phase := ph, withheld := 0, stopped := 0 } : ModeChg)
      (g = m.mode → Does (.setMode h q) h [.mode] 0x30 ccSuccess g.code 0 s (fun t => t.mode = { m with stepped := false }))
      ∧ (m.mode.rank < g.rank → s.flt.safeHold = true → Does (.setMode h q) h [.mode] 0x30 ccState (4 * 65536) 0 s (fun t => t.mode = m))
      ∧ (m.mode.rank < g.rank → s.flt.safeHold = false → s.sup.voutLinear = true → Starts h [.mode] s → Gives (.setMode h q) s (fun t =>
          t.mode = { m with chg := some (started .settle), voutTarget := g.mv, badReads := 0, regSilent := false } ∧ Out.vout g.mv ∈ t.out))
      ∧ (g.rank < m.mode.rank → g ≠ .fallow ∨ s.withholds = [] → s.capsOver (captureLimit g) = [] → Starts h [.mode] s → Gives (.setMode h q) s (fun t =>
          t.mode = { m with mode := g, floor := g.floorOf, reduced := false, lowRun := 0, belowRun := 0, chg := some (started .drain) } ∧ t.links = s.links ∧ t.caps = s.caps))
      ∧ (g = .fallow → m.mode ≠ .fallow → bit (p0 q) 8 = false → s.withholds ≠ [] → Does (.setMode h q) h [.mode] 0x30 ccState (2 * 65536) 0 s (fun t => t.mode = m ∧ t.links = s.links)))
    ∧ (∀ (h : CmdHdr) (q : Params), bits (p0 q) 2 6 ≠ 0 ∨ bits (p0 q) 9 55 ≠ 0 ∨ p1 q ≠ 0 ∨ p2 q ≠ 0 ∨ bits (p0 q) 0 2 = 3 → Does (.setMode h q) h [.mode] 0x30 ccParam 0 0 s (fun t => t.mode = m))
    ∧ (∀ idx : BitVec 16, let n := idx.toNat
        (s.served = false ∨ m.pwr = .dormant → Gives (.tempoSample idx) s (fun t => t.mode = m))
        ∧ (s.served = true → m.pwr ≠ .dormant →
            (m.chg = none → m.floor + s.margin ≤ n → Gives (.tempoSample idx) s (fun t => t.mode = { m with index := n, lowMark := min m.lowMark n, lowRun := 0, belowRun := 0 }))
            ∧ (m.chg = none → m.floor ≤ n → n < m.floor + s.margin → Gives (.tempoSample idx) s (fun t => t.mode.lowRun = min (m.lowRun + 1) 4 ∧ t.mode.belowRun = 0
                ∧ t.mode.reduced = (m.reduced || (m.lowRun == 2 && m.mode != .fallow)) ∧ t.mode.mode = m.mode ∧ t.mode.index = n ∧ t.mode.lowMark = min m.lowMark n))
            ∧ (∀ c, m.chg = some c → c.phase = .confirm → m.floor + s.margin ≤ n → c.goal.floorOf + s.margin ≤ n → c.failed = false → c.good + 1 < 10 →
                Gives (.tempoSample idx) s (fun t => t.mode.chg = some { c with good := c.good + 1 } ∧ t.mode.mode = m.mode))
            ∧ (∀ c, m.chg = some c → c.phase = .confirm → c.by_ = .raise → m.queued = none → m.floor + s.margin ≤ n → c.goal.floorOf + s.margin ≤ n → c.failed = false → 10 ≤ c.good + 1 → Room 4 s →
                Gives (.tempoSample idx) s (fun t => t.mode.chg = none ∧ t.mode.mode = c.goal ∧ t.mode.floor = c.goal.floorOf ∧ t.mode.stepped = false))))
    ∧ Gives .tempoRecoveredExpire s (fun t => t.mode.reduced = false ∧ t.mode.mode = m.mode ∧ (m.reduced = false → t.mode = m))
    ∧ (∀ second : BitVec 16, let a := m.index
        let b := second.toNat
        let apart := (max a b - min a b) * 100 > 4 * b
        (s.served = false ∨ m.pwr = .dormant ∨ ¬apart → Gives (.sundialCheck second) s (fun t => t.mode = m ∧ t.flt = s.flt))
        ∧ (s.served = true → m.pwr ≠ .dormant → apart → m.mode = .fallow → Light 641 s → Gives (.sundialCheck second) s (fun t => Recorded 641 1 s t ∧ t.mode.mode = .fallow ∧ t.mode.chg = m.chg))
        ∧ (s.served = true → m.pwr ≠ .dormant → apart → m.mode = .bloom → m.chg = none → s.capsOver (captureLimit .steady) = [] → Light 641 s →
            Gives (.sundialCheck second) s (fun t => t.mode.mode = .steady ∧ t.mode.floor = Mode.steady.floorOf ∧ t.mode.chg = some { goal := .steady, old := .bloom, by_ := .stepDown, phase := .drain, withheld := 0, stopped := 0 })))
    ∧ (∀ (mv : Nat) (c : ModeChg), m.chg = some c → max mv c.goal.mv - min mv c.goal.mv ≤ 10 →
        (c.phase = .settle → Gives (.regulatorSettled mv) s (fun t => t.mode = { m with vout := mv, chg := some { c with phase := .confirm, good := 0 } }))
        ∧ (c.phase = .settleDown → c.by_ = .stepDown → m.queued = none → Room 3 s → Gives (.regulatorSettled mv) s (fun t => t.mode.chg = none ∧ t.mode.stepped = true ∧ t.mode.steppedFrom = c.old ∧ t.mode.mode = m.mode))
        ∧ (∀ h f, c.phase = .settleDown → c.by_ = .command h f → m.queued = none → Room 3 s → Gives (.regulatorSettled mv) s (fun t => t.mode.chg = none ∧ t.mode.stepped = false ∧ t.mode.mode = m.mode)))
    ∧ (∀ mv c, m.chg = some c → 10 < max mv c.goal.mv - min mv c.goal.mv → Gives (.regulatorSettled mv) s (fun t => t.mode = { m with vout := mv }))
    ∧ (∀ c, m.chg = some c → m.queued = none → Room 3 s → (c.phase = .settle → s.sup.voutLinear = true → Gives .regulatorSettleTimeout s (fun t => t.mode.chg = none ∧ t.mode.mode = m.mode ∧ t.mode.voutTarget = c.old.mv))
        ∧ (c.phase = .settleDown → Gives .regulatorSettleTimeout s (fun t => t.mode.chg = none ∧ t.mode.mode = m.mode ∧ t.mode.voutTarget = m.voutTarget)))
    ∧ (m.chg = none → Gives .regulatorSettleTimeout s (fun t => t.mode = m) ∧ Gives .modeWindowsDrained s (fun t => t = s))
    ∧ (∀ c, m.chg = some c → c.phase = .drain → s.sup.voutLinear = true → Gives .modeWindowsDrained s (fun t =>
        t.mode = { m with chg := some { c with phase := .settleDown }, voutTarget := c.goal.mv, badReads := 0, regSilent := false } ∧ Out.vout c.goal.mv ∈ t.out))
    ∧ (m.stepped = false ∨ s.autoRaise = false → Gives .autoRaiseTimer s (fun t => t.mode = m))
    ∧ (m.stepped = true → s.autoRaise = true → m.chg = none → m.pwr ≠ .dormant → s.flt.safeHold = false → m.mode.rank < m.steppedFrom.rank → s.sup.voutLinear = true → Gives .autoRaiseTimer s (fun t =>
        t.mode.chg = some { goal := m.steppedFrom, old := m.mode, by_ := .raise, phase := .settle, withheld := 0, stopped := 0 } ∧ t.mode.voutTarget = m.steppedFrom.mv ∧ t.mode.mode = m.mode))
    ∧ (s.served = true → m.chg = none → m.pwr ≠ .dormant → m.entering = false → m.leaving = none →
        (∀ mv, max mv m.voutTarget - min mv m.voutTarget ≤ 25 → Gives (.regulatorPoll (some mv)) s (fun t => t.mode = { m with vout := mv, regSilent := false, badReads := 0 }))
        ∧ (∀ mv, 25 < max mv m.voutTarget - min mv m.voutTarget → Gives (.regulatorPoll (some mv)) s (fun t => t.mode.vout = mv ∧ t.mode.badReads = min (m.badReads + 1) 3 ∧ t.mode.mode = m.mode))
        ∧ (m.regSilent = false → Light 648 s → Gives (.regulatorPoll none) s (fun t => t.mode.regSilent = true ∧ t.mode.mode = m.mode ∧ Recorded 648 1 s t))
        ∧ (m.regSilent = true → Gives (.regulatorPoll none) s (fun t => t.mode = m)))

/-- Device power states (13 R456 – R462, R466). -/
def Obligations.PowerStateRows : Prop :=
  ∀ s : State,
    let m := s.mode
    (s.served = true → m.pwr = .active → s.drowseEn = true → s.mayDrowse = true → m.rewriteDue = false →
        Gives .drowseIdleExpire s (fun t => t.mode = { m with pwr := .drowse, brownPend := false }))
    ∧ (s.served = false ∨ m.pwr ≠ .active ∨ s.drowseEn = false ∨ s.mayDrowse = false → Gives .drowseIdleExpire s (fun t => t.mode = m))
    ∧ (m.pwr = .drowse → s.dormantEn = true → m.entering = false → s.mayDormant = true → Gives .dormantIdleExpire s (fun t => t.mode = { m with entering := true, brownPend := false }))
    ∧ (m.pwr ≠ .drowse ∨ s.dormantEn = false ∨ m.entering = true ∨ s.mayDormant = false → Gives .dormantIdleExpire s (fun t => t.mode = m))
    ∧ (m.entering = true → s.sup.voutLinear = true → Gives .dormantEntryComplete s (fun t =>
        t.mode = { m with pwr := .dormant, entering := false, cfLp := true, voutTarget := 700, badReads := 0, regSilent := false } ∧ Out.vout 700 ∈ t.out))
    ∧ (m.entering = false → Gives .dormantEntryComplete s (fun t => t = s))
    ∧ (∀ c : WakeCause, (∀ i, c = .watch i → s.watches i.val = true) →
        (m.pwr = .active → Gives (.wakeCause c) s (fun t => t.mode = m))
        ∧ (m.pwr = .drowse → m.queued = none → Gives (.wakeCause c) s (fun t => t.mode = { m with pwr := .active, entering := false, lastWake := wakeCode c, brownPend := false }))
        ∧ (m.pwr = .dormant → m.leaving = none → s.sup.voutLinear = true → Gives (.wakeCause c) s (fun t =>
            t.mode = { m with leaving := some (wakeCode c), cfLp := false, voutTarget := m.mode.mv, badReads := 0, regSilent := false } ∧ Out.vout m.mode.mv ∈ t.out)))
    ∧ (∀ i : Fin 64, s.watches i.val = false → Gives (.wakeCause (.watch i)) s (fun t => t.mode = m))
    ∧ (∀ c, m.leaving = some c → m.queued = none → Gives .dormantExitComplete s (fun t =>
        t.mode = { m with leaving := none, pwr := .active, lastWake := if c = 0 then m.lastWake else c, brownPend := false }))
    ∧ (m.leaving = none → Gives .dormantExitComplete s (fun t => t.mode = m))
    ∧ (m.cfLp = true → Gives .brownOut s (fun t => t.mode = { m with cfLp := false, brownPend := true } ∧ bit (t.rget 0x110004) 3 = true
        ∧ t.fld 0x110004 16 16 = min (s.fld 0x110004 16 16 + 1) 65535 ∧ t.boot = s.boot))
    ∧ (m.cfLp = false → Gives .brownOut s (fun t => t = s))

/-- READ ALMANAC (16 R559; 03 R112). -/
def Obligations.ReadAlmanacRows : Prop :=
  ∀ (s : State) (h : CmdHdr) (q : Params),
    let keep := OnlyChanges commandParts s
    let good := bits (p0 q) 13 3 = 0 ∧ bits (p0 q) 25 39 = 0 ∧ bits (p0 q) 16 8 ≤ 128 ∧ p1 q % 64 = 0 ∧ p2 q = 0
    let slots := (List.range (max 1 (bits (p0 q) 16 8))).map (fun i => (bits (p0 q) 0 13 + i) % 8192)
    (good → h.fn.val = 0 →
      Does (.readAlmanacSlots h q) h [] 0x34 ccSuccess (slots.filter s.almValid).length 0 s (fun t => keep t
          ∧ Wrote 0 (p1 q) (slots.flatMap s.almSlot) s t)
      ∧ Does (.readAlmanacInfo h q) h [] 0x34 ccSuccess 0 0 s (fun t => keep t ∧ Wrote 0 (p1 q) s.almInfo s t))
    ∧ (good → h.fn.val ≠ 0 → Does (.readAlmanacSlots h q) h [] 0x34 ccFunction 0 0 s keep ∧ Does (.readAlmanacInfo h q) h [] 0x34 ccFunction 0 0 s keep)
    ∧ (bits (p0 q) 13 3 ≠ 0 ∨ bits (p0 q) 25 39 ≠ 0 ∨ 128 < bits (p0 q) 16 8 ∨ p1 q % 64 ≠ 0 ∨ p2 q ≠ 0 →
        Does (.readAlmanacSlots h q) h [] 0x34 ccParam 0 0 s keep ∧ Does (.readAlmanacInfo h q) h [] 0x34 ccParam 0 0 s keep)

/-- The SMBus target (16 R561, R563), the timebase (16 R553) and telemetry (16 R562). -/
def Obligations.ObservationRows : Prop :=
  ∀ s : State,
    (s.sup.perst = true →
      Gives .smbusIdentity s (fun t => t = s) ∧ Gives .smbusStatus s (fun t => t = s) ∧ Gives .smbusAlmanacInfo s (fun t => t = s)
      ∧ Gives .smbusAlmanacRead s (fun t => t = s) ∧ Gives .smbusTelemetryRead s (fun t => t = s) ∧ Gives .smbusAlertResponse s (fun t => t = s))
    ∧ (s.sup.perst = false →
      Gives .smbusIdentity s (fun t => t = { s with out := .smbus s.smbIdentity :: s.out })
      ∧ Gives .smbusStatus s (fun t => t = { s with out := .smbus (leBytes 2 (s.boot.st.code + s.mode.pwr.code * 16 + b2n s.flt.safeHold * 64 + b2n s.faultN * 128)) :: s.out })
      ∧ Gives .smbusAlmanacInfo s (fun t => t = { s with out := .smbus s.almInfo :: s.out })
      ∧ Gives .smbusAlmanacRead s (fun t => t = { s with out := .smbus (s.almSlot s.smb.slot) :: s.out, smb := { s.smb with slot := (s.smb.slot + 1) % 8192 } })
      ∧ Gives .smbusTelemetryRead s (fun t => t = { s with out := .smbus (if s.smb.page = 0 then s.telePage0 else s.telePageBed (s.smb.page - 1)) :: s.out })
      ∧ Gives .smbusAlertResponse s (fun t => t = { s with smb := { s.smb with alert := false } })
      ∧ (∀ w : BitVec 16, Gives (.smbusAlmanacSelect w) s (fun t => if w.toNat < 8192 then t = { s with smb := { s.smb with slot := w.toNat } } else t = s))
      ∧ (∀ b : Byte, Gives (.smbusTelemetrySelect b) s (fun t => if b.toNat < 9 then t = { s with smb := { s.smb with page := b.toNat } } else t = s)))
    ∧ (s.ptmUse = true → s.pcie.ptmEn = true → s.served = true →
        Gives .ptmDialogue s (fun t => t = { s with out := .ptmRequest :: s.out, time := { s.time with asked := true } }))
    ∧ (s.ptmUse = false ∨ s.pcie.ptmEn = false ∨ s.served = false → Gives .ptmDialogue s (fun t => t = s))
    ∧ (∀ x : BitVec 64,
        let err : Int := (x.toNat : Int) - (s.now : Int)
        let held : Int := if 32767 < err then 32767 else if err < -32767 then -32767 else err
        let tm := s.time
        (s.ptmUse = false ∨ s.pcie.ptmEn = false ∨ tm.asked = false → Gives (.ptmResponse x) s (fun t => t = { s with blocked := [] }))
        ∧ (s.ptmUse = true → s.pcie.ptmEn = true → tm.asked = true →
            (tm.stepNext = true → Gives (.ptmResponse x) s (fun t => t.now = x.toNat ∧ t.time.epoch = min 255 (tm.epoch + 1) ∧ t.time.aligned = true ∧ t.time.stepNext = false
                ∧ t.time.rejects = 0 ∧ t.time.errorNs = held ∧ t.time.local_ = tm.local_ ∧ OnlyChanges [.time, .blocked] s t))
            ∧ (tm.stepNext = false → err.natAbs ≤ 1000000 → Gives (.ptmResponse x) s (fun t =>
                t = { s with time := { tm with asked := false, errorNs := held, aligned := true, rejects := 0, slew := err }, blocked := [] }))
            ∧ (tm.stepNext = false → 1000000 < err.natAbs → tm.rejects < 2 → Light 642 s → Gives (.ptmResponse x) s (fun t =>
                t.time = { tm with asked := false, errorNs := held, rejects := tm.rejects + 1 } ∧ Recorded 642 2 s t))
            ∧ (tm.stepNext = false → 1000000 < err.natAbs → 2 ≤ tm.rejects → Light 642 s → Gives (.ptmResponse x) s (fun t =>
                t.now = x.toNat ∧ t.time.rejects = 0 ∧ t.time.epoch = min 255 (tm.epoch + 1) ∧ Recorded 642 2 s t))))
    ∧ (∀ m : TeleSample, s.mode.pwr = .dormant → Gives (.telemetryRefresh m) s (fun t => t = s))
    ∧ (s.mode.pwr ≠ .dormant →
        (∀ (i : Fin 9) (v : Byte), Gives (.telemetryRefresh (.temp i v)) s (fun t =>
            tget (0, 0) t.tele.temp i.val = (v.toNat, max (tget (0, 0) s.tele.temp i.val).2 v.toNat)
            ∧ (∀ j, j ≠ i.val → tget (0, 0) t.tele.temp j = tget (0, 0) s.tele.temp j) ∧ t.tele.rail = s.tele.rail ∧ t.tele.vout = s.tele.vout ∧ t.tele.power = s.tele.power
            ∧ t.paths = s.paths ∧ ∀ b, t.bed b = if i.val ≠ 0 ∧ b = i.val - 1 ∧ v.toNat < s.warnLevel i.val then { s.bed b with warm := false } else s.bed b))
        ∧ (∀ (i : Fin 16) (mv : BitVec 12), Gives (.telemetryRefresh (.rail i mv)) s (fun t =>
            t = { s with tele := { s.tele with rail := tput 0 s.tele.rail i.val mv.toNat } }))
        ∧ (∀ mv pw : BitVec 16, Gives (.telemetryRefresh (.core mv pw)) s (fun t => t = { s with tele := { s.tele with vout := mv.toNat, power := pw.toNat } }))
        ∧ (∀ (p : Port) (mv ma : BitVec 16), Gives (.telemetryRefresh (.port p mv ma)) s (fun t =>
            t.path p = { s.path p with mv := mv.toNat, ma := ma.toNat } ∧ (∀ x, x ≠ p.val → t.path x = s.path x) ∧ t.tele = s.tele)))

/-- CAPTURE CONTROL (16 R536, R537, R542, R545, R549; 13 R441; 03 R111). -/
def Obligations.CaptureCommandRows : Prop :=
  ∀ (s : State) (h : CmdHdr) (q : Params),
    let p := capPort q
    let c := s.cap p
    let good := bits (p0 q) 7 1 = 0 ∧ bits (p0 q) 18 6 = 0 ∧ bits (p0 q) 37 4 = 0 ∧ bits (p0 q) 49 15 = 0 ∧ bits (p0 q) 32 4 ≠ 0 ∧ bits (p1 q) 4 8 = 0
      ∧ bits (p1 q) 0 4 ≤ 10 ∧ bits (p2 q) 4 8 = 0
    let plain := bits (p0 q) 7 1 = 0 ∧ bits (p0 q) 16 48 = 0 ∧ p1 q = 0 ∧ p2 q = 0
    let others := fun (t : State) => ∀ x, x ≠ p → t.cap x = s.cap x
    let keep := fun (t : State) => t.caps = s.caps ∧ t.capStarts = s.capStarts
    (good → s.mayCapture h.fn.val p = true → c.running = false → s.captures < captureLimit s.mode.mode →
      (∀ base, s.sieveRun (2 ^ bits (p0 q) 16 2) = some base → Does (.captureStart h q) h [.port p] 0x33 ccSuccess 0 p s (fun t =>
          (t.cap p).running = true ∧ (t.cap p).fn = h.fn.val ∧ (t.cap p).memBase = base ∧ (t.cap p).size = bits (p0 q) 16 2 ∧ (t.cap p).snap = bits (p0 q) 24 8
          ∧ (t.cap p).kinds = bits (p0 q) 32 4 ∧ (t.cap p).recs = [] ∧ (t.cap p).ring = p1 q / 4096 * 4096 ∧ (t.cap p).ringSize = 65536 * 2 ^ bits (p1 q) 0 4
          ∧ (t.cap p).ctl = p2 q / 4096 * 4096 ∧ others t ∧ t.rget (portReg p 0x704) = 0 ∧ t.rget (portReg p 0x708) = 0))
      ∧ (s.sieveRun (2 ^ bits (p0 q) 16 2) = none → Does (.captureStart h q) h [.port p] 0x33 ccResource 0 p s keep))
    ∧ (good → s.mayCapture h.fn.val p = false → Does (.captureStart h q) h [.port p] 0x33 ccFunction 0 p s keep)
    ∧ (good → s.mayCapture h.fn.val p = true → c.running = true ∨ captureLimit s.mode.mode ≤ s.captures →
        Does (.captureStart h q) h [.port p] 0x33 ccState 0 p s keep)
    ∧ (¬ good → Does (.captureStart h q) h [.port p] 0x33 ccParam 0 p s keep)
    ∧ (plain → s.mayEndCapture h.fn.val p = true → c.running = true → c.inPacket = true → Starts h [.port p] s →
        Gives (.captureStop h q) s (fun t => t.cap p = { c with stop := some (some h) } ∧ others t ∧ t.out = s.out)
        ∧ Gives (.captureFlush h q) s (fun t => t.cap p = { c with flush := some h } ∧ others t ∧ t.out = s.out))
    ∧ (plain → s.mayEndCapture h.fn.val p = true → c.running = true → c.inPacket = false →
        (c.recs = [] → c.fn < 129 → Starts h [.port p] s → Room 2 s → Gives (.captureStop h q) s (fun t =>
            Answered h 0x33 ccSuccess 0 p s t ∧ t.cap p = { lostSat := c.lostSat } ∧ others t))
        ∧ Does (.captureFlush h q) h [.port p] 0x33 ccSuccess (min c.recs.length 16777215) p s (fun t =>
            t.cap p = { c with recs := [], crossed := false, flush := none } ∧ others t))
    ∧ (plain → s.mayEndCapture h.fn.val p = true → c.running = false →
        Does (.captureStop h q) h [.port p] 0x33 ccState 0 p s keep ∧ Does (.captureFlush h q) h [.port p] 0x33 ccState 0 p s keep)
    ∧ (plain → s.mayEndCapture h.fn.val p = false →
        Does (.captureStop h q) h [.port p] 0x33 ccFunction 0 p s keep ∧ Does (.captureFlush h q) h [.port p] 0x33 ccFunction 0 p s keep)
    ∧ (¬ plain → Does (.captureStop h q) h [.port p] 0x33 ccParam 0 p s keep ∧ Does (.captureFlush h q) h [.port p] 0x33 ccParam 0 p s keep)

/-- Sieves and the exporter (16 R535, R539 – R541, R543 – R545, R547, R548). PACKET_END is stated for packets on the bus (KIND other than 4) with no STOP
or FLUSH waiting, the poll for a sieve of one record that fits without PAD or GAP. -/
def Obligations.SieveRows : Prop :=
  ∀ (s : State) (p : Port),
    let c := s.cap p
    let others := fun (t : State) => ∀ x, x ≠ p.val → t.cap x = s.cap x
    (c.running = false →
      Gives (.sievePacketBegin p) s (fun t => t = { s with blocked := [] }) ∧ Gives (.sievePointerMismatch p) s (fun t => t = { s with blocked := [] })
      ∧ ∀ w, Gives (.exporterPoll p w) s (fun t => t = { s with blocked := [] }))
    ∧ (c.running = true → c.inPacket = false → c.count + c.maxRec ≤ c.words → Gives (.sievePacketBegin p) s (fun t =>
        t.cap p = { c with inPacket := true, dropThis := false, beginTime := s.now } ∧ others t ∧ t.regs = s.regs))
    ∧ (∀ r : CapPacket, r.kind.val ≠ 4 → c.inPacket = false → Gives (.sievePacketEnd p r) s (fun t => t = { s with blocked := [] }))
    ∧ (∀ r : CapPacket, r.kind.val ≠ 4 → c.inPacket = true → c.flush = none → c.stop = none → Gives (.sievePacketEnd p r) s (fun t =>
        (t.cap p).inPacket = false ∧ (t.cap p).recs = (if c.dropThis = false ∧ c.takes r = true then c.recs ++ [c.recOf r] else c.recs) ∧ others t))
    ∧ (c.running = true → Light (4 * p + 3) s → Gives (.sievePointerMismatch p) s (fun t =>
        (t.cap p).recs = [] ∧ (t.cap p).running = true ∧ others t ∧ t.fld (portReg p 0x708) 16 8 = min (s.fld (portReg p 0x708) 16 8 + 1) 255
        ∧ t.fld (portReg p 0x704) 0 32 = min (s.fld (portReg p 0x704) 0 32 + c.recs.length) (2 ^ 32 - 1) ∧ Recorded (4 * p + 3) 2 s t))
    ∧ (∀ w : Word, c.running = true → c.recs = [] →
        (c.claimed = true → Gives (.exporterPoll p w) s (fun t => t.cap p = { c with cons := w.toNat, claimed := false } ∧ others t
            ∧ bit (t.rget (portReg p 0x700)) 18 = true))
        ∧ (c.claimed = false → Gives (.exporterPoll p w) s (fun t => (t.cap p).cons = w.toNat ∧ (t.cap p).prod = c.prod ∧ (t.cap p).recs = [] ∧ (t.cap p).ringFull = false
            ∧ others t ∧ t.regs = s.regs ∧ t.out = s.out)))
    ∧ (∀ (w : Word) (r : CapRec), c.running = true → c.recs = [r] → c.keeps r = true → s.rget (portReg p 0x704) ≤ c.lostSeen →
        0 < r.bytes.length → r.bytes.length ≤ c.ringSize - c.prod % c.ringSize → c.prod < 2 ^ 32 → r.bytes.length < 2 ^ 32 →
        sub32 (add32 c.prod r.bytes.length) w.toNat ≤ c.ringSize → Gives (.exporterPoll p w) s (fun t =>
        (t.cap p).recs = [] ∧ (t.cap p).prod = add32 c.prod r.bytes.length ∧ (t.cap p).ringFull = false ∧ others t
        ∧ Wrote c.fn (c.ring + c.prod % c.ringSize) r.bytes s t ∧ Wrote c.fn c.ctl (leBytes 4 (add32 c.prod r.bytes.length)) s t))

/-- LIFECYCLE (02 R78 – R83, R85). That a token not named as R79 asks is TOKEN-INVALID is the model's choice (notes/assumptions/36.md). -/
def Obligations.LifecycleRows : Prop :=
  ∀ s : State,
    (∀ (h : CmdHdr) (q : Params) (tok : List Byte) (k : LcKind),
      let c : Instr := match k with
        | .plant => .lifecyclePlant h q tok | .uproot => .lifecycleUproot h q tok | .ret => .lifecycleReturn h q tok
        | .revoke => .lifecycleRevoke h q tok | .raiseFloor => .lifecycleRaiseFloor h q tok
      let o := s.otp
      let code := if tokenBad o k tok = true then ccToken
        else if leAt tok 0x18 16 ≠ (Config.nonce s.boot.nonceDraw).toNat then ccNonce
        else if signatureBad o k tok = true then ccSig
        else if permitted o.life k (tokVendor tok) = false then ccState
        else if exhausted o k tok = true then ccOtp
        else if conditionMet s.eng.svn o k tok = true then ccState
        else if s.lifecycleBusy = true then ccBusy else ccSuccess
      let drawn := fun (t : State) => t.boot = { s.boot with nonceDraw := s.boot.nonceDraw + 1 }
      let refused := fun (t : State) => drawn t ∧ t.otp = o ∧ t.alm = s.alm ∧ t.links = s.links
      (p0 q % 64 = 0 → p1 q = 0 → p2 q = 0 → h.fn.val = 0 → Does c h [] 0x35 code 0 0 s (fun t => drawn t
          ∧ (code ≠ ccSuccess → refused t)
          ∧ (code = ccSuccess → t.otp = { o with mark := some (markOf k tok) } ∧ t.alm.writes = s.alm.writes + 1
              ∧ (k.moves = true → ∀ p, p < 128 → t.link p = {} ∧ t.pd p = {})
              ∧ (k.moves = false → t.links = s.links ∧ t.pds = s.pds ∧ t.tcs = s.tcs ∧ t.paths = s.paths))))
      ∧ (p0 q % 64 ≠ 0 ∨ p1 q ≠ 0 ∨ p2 q ≠ 0 → Does c h [] 0x35 ccToken 0 0 s refused)
      ∧ (p0 q % 64 = 0 → p1 q = 0 → p2 q = 0 → h.fn.val ≠ 0 → Does c h [] 0x35 ccState 0 0 s refused))
    ∧ (s.inReset = true ∨ s.otp.mark = none → Gives .lifecycleCommitDone s (fun t => t = { s with blocked := [] }))
    ∧ (∀ m, s.inReset = false → s.otp.mark = some m → Gives .lifecycleCommitDone s (fun t => t.otp.mark = none
        ∧ (match m.kind with
          | .plant => t.otp.life = .planted ∧ t.otp.custHash = s.otp.custHash ++ m.hashes
          | .uproot => t.otp.life = .uprooted ∧ t.otp.custHash = s.otp.custHash
          | .ret => t.otp.life = .seedling ∧ ∀ i, i < s.otp.custHash.length → i < 8 → t.otp.custRevoked.getLsbD i = true
          | .revoke => t.otp.life = s.otp.life ∧ (m.vendor = true → m.target < 4 → t.otp.vendRevoked.getLsbD m.target = true)
              ∧ (m.vendor = false → m.target < 8 → t.otp.custRevoked.getLsbD m.target = true)
          | .raiseFloor => t.otp.life = s.otp.life ∧ t.otp.floor = min 64 m.target)
        ∧ (m.kind.moves = true → t.slots = [] ∧ t.eps = [] ∧ t.guests = [] ∧ t.fns = [] ∧ t.lock = false ∧ t.sup = s.sup
            ∧ t.boot.st = (if t.otp.life = .uprooted then .uprooted else .awaiting))
        ∧ (m.kind.moves = false → t.slots = s.slots ∧ t.eps = s.eps ∧ t.boot = s.boot ∧ t.regs = s.regs)))

/-- ROTATE (14 R472, R475, R480 – R482, R484) and SELF-TEST (14 R485). -/
def Obligations.EngineCommandRows : Prop :=
  ∀ (s : State) (h : CmdHdr) (q : Params),
    let e := s.eng
    let u := opUnit q
    let keep := fun (t : State) => t.eng = e ∧ t.units = s.units
    let plain := bits (p0 q) 8 56 = 0 ∧ p1 q = 0 ∧ p2 q = 0
    let unitOk := bits (p0 q) 16 48 = 0 ∧ p1 q = 0 ∧ p2 q = 0
    let tests := fun (op : TestOp) (runs : Bool) (t : State) => t.eng.tests = e.tests ++ [{ op, h, unit := u, runs }]
    let free := fun (op : TestOp) => e.tests.any (fun t => t.op == op) = false
    let rotates := fun (out : Nat) (t : State) =>
      t.eng = { e with rot := some { out_ := out, by_ := .command h, step := if s.rotHeld then .waiting else .copying, test := out } } ∧ t.out = s.out
    (h.fn.val = 0 →
      (plain → s.rotBusy = true ∨ e.spare = noSpare → Does (.rotateNext h q) h [] 0x31 ccBusy 0 0 s keep)
      ∧ (∀ out, plain → s.rotBusy = false → e.spare ≠ noSpare → s.nextOut = some out → Starts h [] s → Gives (.rotateNext h q) s (rotates out))
      ∧ (unitOk → u ∈ e.active → s.rotBusy = true ∨ e.spare = noSpare → Does (.rotateEngine h q) h [] 0x31 ccBusy 0 0 s keep)
      ∧ (unitOk → u ∈ e.active → s.rotBusy = false → e.spare ≠ noSpare → Starts h [] s → Gives (.rotateEngine h q) s (rotates u))
      ∧ (unitOk → u ∉ e.active → Does (.rotateEngine h q) h [] 0x31 ccParam 0 0 s keep)
      ∧ (bits (p0 q) 8 56 = 0 → p1 q % 64 = 0 → 1 ≤ p2 q → p2 q ≤ 1024 →
          (s.rotBusy = true ∨ e.spare = noSpare → Does (.rotateUpdate h q) h [] 0x31 ccBusy 0 0 s keep)
          ∧ (s.rotBusy = false → e.spare ≠ noSpare → Starts h [] s →
              Gives (.rotateUpdate h q) s (fun t => t.eng = { e with upd := some { h, step := .checking } } ∧ t.out = s.out)))
      ∧ (p1 q % 64 ≠ 0 ∨ p2 q = 0 ∨ 1024 < p2 q → Does (.rotateUpdate h q) h [] 0x31 ccParam 0 0 s keep)
      ∧ (plain → e.upd = none → Does (.updateCancel h q) h [] 0x31 ccState 0 0 s keep)
      ∧ (∀ x, plain → e.upd = some x → x.step = .swapping ∨ x.late = true → Does (.updateCancel h q) h [] 0x31 ccState 0 0 s keep)
      ∧ (∀ x, plain → e.upd = some x → x.step ≠ .swapping → x.late = false → Starts h [] s → Room 1 s → Gives (.updateCancel h q) s (fun t =>
          t.eng.upd = some { x with cancels := x.cancels ++ [h], step := .abandoning, newEngines := if e.rot.isNone then x.newEngines.filter (· != e.spare) else x.newEngines }))
      ∧ (unitOk →
          (u < 9 → u ∉ e.retired → free .tender → s.flt.safeHold = false → (u ∈ e.active → e.spare = noSpare → e.rot ≠ none) → Starts h [] s → Room 1 s →
            Gives (.selfTestTender h q) s (tests .tender true))
          ∧ (u < 32 → free .bank → s.units.fallowOn = false → s.units.retiredBanks = [] → Starts h [] s → Gives (.selfTestBank h q) s (fun t =>
              tests .bank true t ∧ t.units = { s.units with fallow := u, fallowOn := true, fallowMoved := true } ∧ t.out = s.out))
          ∧ (u < 32 → free .bank → s.units.fallowOn = true ∨ s.units.retiredBanks ≠ [] → Does (.selfTestBank h q) h [] 0x32 ccState 0 0 s keep)
          ∧ (u < 8 → free .adc → Starts h [] s → Gives (.selfTestAdc h q) s (fun t => t.eng = { e with tests := e.tests ++ [{ op := .adc, h, unit := u, runs := true }] } ∧ t.out = s.out))
          ∧ (u = 0 → free .keeper → Starts h [] s → Gives (.selfTestKeeper h q) s (fun t => t.eng = { e with tests := e.tests ++ [{ op := .keeper, h, unit := 0, runs := true }] } ∧ t.out = s.out))
          ∧ (u < 9 → u ∉ e.retired → ¬ free .tender → Does (.selfTestTender h q) h [] 0x32 ccBusy 0 0 s keep)
          ∧ (u < 9 → u ∉ e.retired → free .tender → s.flt.safeHold = true → Does (.selfTestTender h q) h [] 0x32 ccBusy 0 0 s keep)
          ∧ (u < 8 → ¬ free .adc → Does (.selfTestAdc h q) h [] 0x32 ccBusy 0 0 s keep)
          ∧ (u = 0 → ¬ free .keeper → Does (.selfTestKeeper h q) h [] 0x32 ccBusy 0 0 s keep)
          ∧ (9 ≤ u ∨ u ∈ e.retired → Does (.selfTestTender h q) h [] 0x32 ccParam 0 0 s keep)
          ∧ (32 ≤ u → Does (.selfTestBank h q) h [] 0x32 ccParam 0 0 s keep) ∧ (8 ≤ u → Does (.selfTestAdc h q) h [] 0x32 ccParam 0 0 s keep)
          ∧ (u ≠ 0 → Does (.selfTestKeeper h q) h [] 0x32 ccParam 0 0 s keep))
      ∧ (bits (p0 q) 16 48 = 0 → p2 q = 0 → u < 8 → p1 q ≤ 3600 → free .bed → Starts h [] s → Gives (.selfTestBed h q) s (fun t =>
          t.eng = { e with tests := e.tests ++ [{ op := .bed, h, unit := u, runs := false }] } ∧ t.out = s.out))
      ∧ (bits (p0 q) 16 48 ≠ 0 ∨ p2 q ≠ 0 ∨ 8 ≤ u ∨ 3600 < p1 q → Does (.selfTestBed h q) h [] 0x32 ccParam 0 0 s keep))
    ∧ (h.fn.val ≠ 0 → plain → Does (.rotateNext h q) h [] 0x31 ccFunction 0 0 s keep ∧ Does (.updateCancel h q) h [] 0x31 ccFunction 0 0 s keep)
    ∧ (h.fn.val ≠ 0 → unitOk → u = 0 → 0 ∈ e.active → Does (.rotateEngine h q) h [] 0x31 ccFunction 0 0 s keep
        ∧ Does (.selfTestBank h q) h [] 0x32 ccFunction 0 0 s keep ∧ Does (.selfTestAdc h q) h [] 0x32 ccFunction 0 0 s keep
        ∧ Does (.selfTestBed h q) h [] 0x32 ccFunction 0 0 s keep ∧ Does (.selfTestKeeper h q) h [] 0x32 ccFunction 0 0 s keep)
    ∧ (¬ plain → Does (.rotateNext h q) h [] 0x31 ccParam 0 0 s keep ∧ Does (.updateCancel h q) h [] 0x31 ccParam 0 0 s keep)

/-- Rotations (14 R472 – R476), repairs (14 R477 – R479; 15 R522) and updates (14 R481 – R484). -/
def Obligations.RotationRows : Prop :=
  ∀ s : State,
    let e := s.eng
    let calm := fun (t : State) => t = { s with blocked := [] }
    (s.served = false ∨ s.rotEnable = false ∨ s.lock = false → Gives .rotationTimer s calm)
    ∧ (s.served = true → s.rotEnable = true → s.lock = true →
        (s.rotHeld = true → Gives .rotationTimer s (fun t => t.eng = { e with rotDue := true } ∧ t.regs = s.regs))
        ∧ (∀ out, s.rotHeld = false → e.rot = none → e.upd = none → e.tests = [] → e.spare ≠ noSpare → s.nextOut = some out → Gives .rotationTimer s (fun t =>
            t.eng = { e with rot := some { out_ := out, by_ := .auto, step := .copying, test := out }, rotDue := false } ∧ t.regs = s.regs)))
    ∧ (∀ us : Nat, (∀ r, e.rot = some r → r.step ≠ .copying) → Gives (.rotationCopyDone us) s (fun t => t = s))
    ∧ (∀ (us : Nat) (r : Rot), e.rot = some r → r.step = .copying → Gives (.rotationCopyDone us) s (fun t =>
        t.eng = { e with active := sortBy id (e.spare :: e.active.filter (· != r.out_)), spare := noSpare, lastPause := min 255 us,
                         rot := some { r with step := .selfTest, test := r.out_, moved := true } }
        ∧ t.regs = s.regs ∧ ∀ n, n < 3376 → bit (s.dspSrc n).targets.toNat r.out_ = false → t.dspSrc n = s.dspSrc n))
    ∧ (∀ pass, e.rot = none → e.upd = none → Gives (.engineSelfTestDone pass) s calm)
    ∧ (∀ r, e.rot = some r → r.step = .selfTest ∨ r.step = .retest → Gives (.engineSelfTestDone true) s (fun t =>
        t.eng = { e with rot := some { r with step := .refill }, order := e.order.filter (· != r.test) ++ [r.test] } ∧ t.regs = s.regs))
    ∧ (∀ r, e.rot = some r → r.step = .selfTest → r.test < 9 → Light (627 + r.test) s → Room 4 s → Gives (.engineSelfTestDone false) s (fun t =>
        t.eng = { e with rot := some { r with step := .retest } } ∧ Recorded (627 + r.test) 4 s t
        ∧ t.fld 0x130008 24 8 = min (s.fld 0x130008 24 8 + 1) 255))
    ∧ ((∀ r, e.rot = some r → r.step ≠ .refill) → Gives .spareRefillDone s calm)
    ∧ (∀ r, e.rot = some r → r.step = .refill → r.moved = true → e.upd = none → e.tests = [] → e.rotDue = false → Room 2 s → Gives .spareRefillDone s (fun t =>
        t.eng = { e with spare := r.test, rot := none } ∧ t.fld 0x130008 0 16 = min (s.fld 0x130008 0 16 + 1) 65535))
    ∧ (∀ (n : Tender) (ok : Bool), Light (627 + n) s → Gives (.codePageRepair n ok) s (fun t => Recorded (627 + n) 2 s t ∧ t.eng = e))
    ∧ (∀ n : Tender, Light (627 + n) s → e.rot = none →
        Gives (.threadRestart n false) s (fun t => Recorded (627 + n) 1 s t ∧ t.eng = e)
        ∧ (n.val ∈ e.active → e.spare ≠ noSpare → e.spare ≠ n.val → Gives (.threadRestart n true) s (fun t => Recorded (627 + n) 3 s t
            ∧ t.eng = { e with active := sortBy id (e.spare :: e.active.filter (· != n.val)), spare := noSpare,
                               rot := some { out_ := n.val, by_ := .auto, step := .selfTest, test := n.val, moved := true } })))
    ∧ (Light 637 s → Gives .keeperMemoryRewrite s (fun t => Recorded 637 1 s t ∧ t.eng = e))
    ∧ (Light 636 s → Gives .keeperDivergence s (fun t => Recorded 636 1 s t ∧ t.eng = e ∧ t.fld 0x13000C 16 8 = min (s.fld 0x13000C 16 8 + 1) 255))
    ∧ (∀ img same, (∀ x, e.upd = some x → x.step ≠ .checking) → Gives (.updateImageChecked img same) s calm)
    ∧ (∀ img same x, e.upd = some x → x.step = .checking → Room 1 s → Gives (.updateImageChecked img same) s (fun t => t.eng = { e with upd := match updFault img same s with
            | some _ => none
            | none => some { x with step := .loading false, img := some (imageInfo img) } }))
    ∧ ((∀ x, e.upd = some x → x.step ≠ .rotating) ∨ e.rot ≠ none → Gives .keeperSwap s (fun t => t = s))
    ∧ (∀ x, e.upd = some x → x.step = .rotating → e.rot = none → (∀ n ∈ e.active, n ∈ x.newEngines) →
        Gives .keeperSwap s (fun t => t = { s with eng := { e with swapping := true, upd := some { x with step := .swapping } } }))
    ∧ (e.swapping = false → (∀ x, e.upd = some x → x.step ≠ .swapping) → Gives .keeperReady s calm ∧ Gives .keeperReadyTimeout s calm)
    ∧ (∀ x i, e.swapping = true → e.upd = some x → x.img = some i → Room 2 s → Gives .keeperReady s (fun t =>
        t.eng.swapping = false ∧ t.eng.upd = none ∧ t.eng.svn = i.svn ∧ t.eng.fwVersion = i.fwVersion ∧ t.boot = { s.boot with running := some i }))
    ∧ (∀ x, e.swapping = true → e.upd = some x → Room 2 s → Gives .keeperReadyTimeout s (fun t => t.eng.swapping = false
        ∧ t.eng.upd = some { x with step := .abandoning, newEngines := if e.rot.isNone then x.newEngines.filter (· != e.spare) else x.newEngines }))
    ∧ ((∀ x, e.upd = some x → x.step ≠ .abandoning) → Gives .updateAbandonDone s calm)
    ∧ (∀ x, e.upd = some x → x.step = .abandoning → e.rot = none → (∀ n ∈ e.active, n ∉ x.newEngines) → Room 3 s →
        Gives .updateAbandonDone s (fun t => t.eng.upd = none ∧ t.eng.active = e.active ∧ t.eng.spare = e.spare))

/-- The end of SELF-TEST (14 R474, R485) and grafts (14 R489 – R492). -/
def Obligations.TestAndGraftRows : Prop :=
  ∀ s : State,
    let e := s.eng
    let calm := fun (t : State) => t = { s with blocked := [] }
    let rest := fun (x : SelfTest) => e.tests.filter (fun y => y != x)
    (∀ b : Bed, e.tests.find? (fun t => t.op == .bed && t.unit == b.val && !t.runs) = none ∨ s.bedIdle b = false → Gives (.bedTestIdle b) s (fun t => t = s))
    ∧ (∀ (b : Bed) x, e.tests.find? (fun t => t.op == .bed && t.unit == b.val && !t.runs) = some x → s.bedIdle b = true → Gives (.bedTestIdle b) s (fun t =>
        t.eng = { e with tests := e.tests.map (fun y => if y = x then { y with runs := true } else y) } ∧ t.bed b = { s.bed b with testing := true }
        ∧ ∀ c, c ≠ b.val → t.bed c = s.bed c))
    ∧ (e.tests.find? (fun t => t.op == .bed && !t.runs) = none → Gives .bedTestDeadline s calm)
    ∧ (∀ x, e.tests.find? (fun t => t.op == .bed && !t.runs) = some x → Room 1 s → Gives .bedTestDeadline s (fun t => t.eng = { e with tests := rest x } ∧ t.beds = s.beds))
    ∧ (∀ op pass ms, e.tests.find? (fun t => t.op == op && t.runs) = none → Gives (.selfTestDone op pass ms) s calm)
    ∧ (∀ pass ms x, e.tests.find? (fun t => t.op == .keeper && t.runs) = some x → Room 1 s → Gives (.selfTestDone .keeper pass ms) s (fun t =>
        t.eng = { e with tests := rest x } ∧ t.units = s.units))
    ∧ (∀ ms x, e.tests.find? (fun t => t.op == .bank && t.runs) = some x → Room 1 s → Gives (.selfTestDone .bank true ms) s (fun t =>
        t.eng = { e with tests := rest x } ∧ t.units = { s.units with fallowOn := false, fallowMoved := false }))
    ∧ (∀ ms x, e.tests.find? (fun t => t.op == .adc && t.runs) = some x → Room 3 s → Gives (.selfTestDone .adc true ms) s (fun t =>
        t.eng = { e with tests := rest x } ∧ t.units = s.units)
        ∧ (x.unit < 8 → Light (512 + 8 * x.unit + 5) s →
            Gives (.selfTestDone .adc false ms) s (fun t => t.eng = { e with tests := rest x }
              ∧ Recorded (512 + 8 * x.unit + 5) 2 s t)))
    ∧ (∀ pass ms x, e.tests.find? (fun t => t.op == .bed && t.runs) = some x → x.unit < 8 → (∀ p, p < 128 → (s.tc p).attachDue = false) → Room 1 s →
        Gives (.selfTestDone .bed pass ms) s (fun t => t.eng = { e with tests := rest x } ∧ t.bed x.unit = { s.bed x.unit with testing := false } ∧ t.tcs = s.tcs))
    ∧ (∀ ms x, e.tests.find? (fun t => t.op == .tender && t.runs) = some x → e.spare = x.unit → x.unit ∉ e.active → e.rot = none → e.upd = none → e.rotDue = false →
        (∀ y ∈ rest x, y.op ≠ .tender) → Room 2 s → Gives (.selfTestDone .tender true ms) s (fun t =>
          t.eng = { e with tests := rest x, order := e.order.filter (· != x.unit) ++ [x.unit] }))
    ∧ (∀ (g : Fin 8),
        let x := s.graft g
        let others := fun (t : State) => ∀ j, j ≠ g.val → t.graft j = s.graft j
        let recent := x.times.filter (fun y => decide (s.time.local_ < y + minuteNs))
        let faulted := fun (cause : Nat) (t : State) => t.graft g = { x with times := recent ++ [s.time.local_] } ∧ others t ∧ Recorded (651 + g) cause s t
          ∧ t.fld (graftReg g) 8 8 = min (s.fld (graftReg g) 8 8 + 1) 255
        (∀ k c, x.st ≠ 1 → Gives (.graftRunExpire g k) s calm ∧ Gives (.graftServiceCall g c) s calm)
        ∧ (x.st = 1 →
            (∀ k, recent.length < 15 → Light (651 + g) s → Gives (.graftRunExpire g k) s (faulted 1) ∧ Gives (.graftServiceCall g .unknown) s (faulted 3)
              ∧ Gives (.graftServiceCall g .outOfRegion) s (faulted 2)
              ∧ ∀ p : Port, x.mask.getLsbD p = false → Gives (.graftServiceCall g (.port p)) s (faulted 3) ∧ Gives (.graftServiceCall g (.budget p)) s (faulted 3))
            ∧ Gives (.graftServiceCall g .time) s calm
            ∧ (∀ p : Port, x.mask.getLsbD p = true → Gives (.graftServiceCall g (.port p)) s calm ∧ Gives (.graftServiceCall g (.budget p)) s calm)
            ∧ (∀ v : Word, Gives (.graftServiceCall g (.note v)) s (fun t => t.graft g = { x with note := v.toNat } ∧ others t ∧ t.regs = s.regs))
            ∧ (∀ (p : Port) ms, x.mask.getLsbD p = true → 1 ≤ ms → ms ≤ 60000 → Gives (.graftServiceCall g (.timer p ms)) s (fun t =>
                tget 0 (t.graft g).timers p = ms ∧ (∀ y, y ≠ p.val → tget 0 (t.graft g).timers y = tget 0 x.timers y) ∧ others t ∧ t.regs = s.regs)))
        ∧ ∀ p : Port, Gives (.graftTimerExpire g p) s (fun t => tget 0 (t.graft g).timers p = 0
            ∧ (∀ y, y ≠ p.val → tget 0 (t.graft g).timers y = tget 0 x.timers y) ∧ others t ∧ t.regs = s.regs))

/-- The rake (04 R153, R160, R164; 03 R91). -/
def Obligations.RakeRows : Prop :=
  ∀ (s : State) (f : Fnc),
    let n := s.fn f
    let calm := fun (t : State) => t = { s with blocked := [] }
    let only := fun (t : State) => (∀ x, x ≠ f.val → t.fn x = s.fn x) ∧ t.eps = s.eps ∧ t.regs = s.regs ∧ t.slots = s.slots
    let quiet := fun (rd : SweepReads) => ∀ k v, k < s.groups f → rd.groups[k]? = some v → v.toNat = tget 0 n.groups k
    (∀ rd failed, s.raked f = false ∨ n.doze ≠ .sweeping → Gives (.rakeSweep f rd) s calm ∧ Gives (.rakeDozeEnter f rd failed) s calm)
    ∧ (∀ rd : SweepReads, s.raked f = true → n.doze = .sweeping →
        (rd.grand.toNat = n.grand → Gives (.rakeSweep f rd) s (fun t => t.fn f = { n with idle := n.idle + 1 } ∧ only t ∧ t.out = s.out))
        ∧ (rd.grand.toNat ≠ n.grand → quiet rd → Gives (.rakeSweep f rd) s (fun t => t.fn f = { n with grand := rd.grand.toNat, idle := 0 } ∧ only t ∧ t.out = s.out))
        ∧ (∀ failed, s.dozeEn f = false ∨ n.idle < s.dozeIdle f → Gives (.rakeDozeEnter f rd failed) s calm)
        ∧ (s.dozeEn f = true → s.dozeIdle f ≤ n.idle → s.pcie.own (s.bellBase f + 0x40) = false →
            (let w := fun v => Out.hostWrite f (s.bellBase f + 0x40) (leBytes 4 v)
             (Gives (.rakeDozeEnter f rd true) s (fun t => t.fn f = { n with idle := 0 } ∧ only t ∧ t.out = w 0 :: w 1 :: s.out))
             ∧ (rd.grand.toNat = n.grand → Gives (.rakeDozeEnter f rd false) s (fun t => t.fn f = { n with doze := .dozing } ∧ only t ∧ t.out = w 1 :: s.out))
             ∧ (rd.grand.toNat ≠ n.grand → quiet rd → Gives (.rakeDozeEnter f rd false) s (fun t =>
                 t.fn f = { n with grand := rd.grand.toNat, idle := 0 } ∧ only t ∧ t.out = w 0 :: w 1 :: s.out)))))
    ∧ (∀ e : ReadErr, s.raked f = false → Gives (.bellReadError f e) s calm)
    ∧ (∀ e : ReadErr, s.raked f = true → Light 650 s → Gives (.bellReadError f e) s (fun t => Recorded 650 1 s t
        ∧ (t.cfgFn f).aerUncor = (s.cfgFn f).aerUncor ||| BitVec.ofNat 32 (2 ^ match e with | .ur => 20 | .ca => 15 | .timeout => 14 | .poison => 12)
        ∧ t.eps = s.eps ∧ t.slots = s.slots))

/-- Rings (04 R127, R136, R147 – R152, R606; 03 R91; 05 R195, R202; 07 R251). -/
def Obligations.RingRows : Prop :=
  ∀ s : State,
    let calm := fun (t : State) => t = { s with blocked := [] }
    (∀ (f : Fnc) (r : Evr) (v : Word), s.evrEnable f r = false ∨ s.pcie.flr.contains f.val = true → Gives (.evrConsRead f r v) s (fun t => t = s))
    ∧ (∀ (f : Fnc) (r : Evr), s.evrEnable f r = false ∨ (s.evr f r).wait = [] → Gives (.eventRingRoomReturns f r) s (fun t => t = s))
    ∧ (∀ (f : Fnc) (r : Evr) (v : Word), s.evrEnable f r = true → s.pcie.flr.contains f.val = false →
        ((s.evr f r).wait = [] → Gives (.evrConsRead f r v) s (fun t => t.evr f r = { s.evr f r with c := v.toNat }
            ∧ (∀ g x, g ≠ f.val ∨ x ≠ r.val → t.evr g x = s.evr g x) ∧ t.out = s.out))
        ∧ (∀ e, (s.evr f r).wait = [e] → (s.cfgFn f).d3 = false → (s.evr f r).w ≠ add32 v.toNat (s.evrSize f r) → Gives (.evrConsRead f r v) s (fun t =>
            (t.evr f r).wait = [] ∧ (t.evr f r).c = v.toNat ∧ (t.evr f r).w = add32 (s.evr f r).w 1
            ∧ Out.record f r ((s.evr f r).w % s.evrSize f r) ((s.evr f r).w / s.evrSize f r % 2 == 0) { e with time := s.now } ∈ t.out)))
    ∧ (∀ (f : Fnc) (r : Evr) e, s.evrEnable f r = true → (s.evr f r).wait = [e] → (s.cfgFn f).d3 = false → s.evrRoom f r = true → Gives (.eventRingRoomReturns f r) s (fun t =>
        (t.evr f r).wait = [] ∧ (t.evr f r).w = add32 (s.evr f r).w 1
        ∧ Out.record f r ((s.evr f r).w % s.evrSize f r) ((s.evr f r).w / s.evrSize f r % 2 == 0) { e with time := s.now } ∈ t.out))
    ∧ (∀ (f : Fnc) (a : BitVec 64) (d : Desc),
        let c := s.cmdCursor f
        let n := s.fn f
        let stopped := fun (t : State) => t.fn f = { n with stopped := true, evrs := (t.fn f).evrs } ∧ Recorded 650 2 s t
        (s.cmdEnable f = false ∨ n.stopped = true ∨ a.toNat ≠ c.addr ∨ c.count = n.prod → Gives (.descriptorFetched (.cmd f) a d) s calm)
        ∧ (s.cmdEnable f = true → n.stopped = false → a.toNat = c.addr → c.count ≠ n.prod →
            (let w := d.w7.toNat
             let op := bits w 24 8
             let wrong := d.ty = 0xC ∧ knownOpcodes.contains op = true ∧ op ≠ 1 ∧ cmdRsv w = true
             let next : Cursor := { c with addr := c.addr + 32, count := add32 c.count 1, pos := c.pos + 1 }
             d.gen = c.gen → d.ty ≠ 6 → c.pos + 1 ≠ c.len →
              (¬ wrong → Gives (.descriptorFetched (.cmd f) a d) s (fun t =>
                t.fn f = { n with cur := next, curSet := true } ∧ (∀ x, x ≠ f.val → t.fn x = s.fn x) ∧ t.out = s.out))
              ∧ (wrong → s.pcie.flr.contains f.val = false → Room 1 s → Gives (.descriptorFetched (.cmd f) a d) s (fun t => (t.fn f).cur = next ∧ (t.fn f).prod = n.prod
                ∧ Answered { fn := f, ptr := a, cookie := d.w6 } op ccParam 0 (opcodeSrc op d.q0.toNat) s t)))
            ∧ (d.gen = c.gen → d.ty = 6 → d.q0.toNat % 4096 = 0 → Gives (.descriptorFetched (.cmd f) a d) s (fun t =>
                t.fn f = { n with cur := c.next d, curSet := true } ∧ (t.fn f).cur.addr = d.q0.toNat ∧ (t.fn f).cur.pos = 0))
            ∧ (d.gen ≠ c.gen ∨ (d.ty = 6 ∧ d.q0.toNat % 4096 ≠ 0) ∨ (d.ty ≠ 6 ∧ c.pos + 1 = c.len) → Light 650 s → Room 3 s →
                Gives (.descriptorFetched (.cmd f) a d) s stopped)))
    ∧ (∀ (r : EpRef) (a : BitVec 64) (d : Desc),
        let e := s.ep r.key
        (e.st = .closed ∨ e.bad ≠ none ∨ e.streams = true ∨ e.valid = false ∨ a.toNat ≠ e.readCursor.addr → Unheld r.key s → GivesOn r.key (.descriptorFetched (.ep r) a d) s calm)
        ∧ (e.st ≠ .closed → e.bad = none → e.streams = false → e.valid = true → a.toNat = e.readCursor.addr → s.epGone r.key = false → s.epLive r.key = true →
            e.coveredFrom e.readCursor = 0 → d.gen = e.readCursor.gen → e.ahead.length < s.fetchDepth e.port → Unheld r.key s → GivesOn r.key (.descriptorFetched (.ep r) a d) s (fun t =>
              t.ep r.key = { e with ahead := e.ahead ++ [⟨a.toNat, d⟩] } ∧ (∀ k, k ≠ r.key → t.ep k = s.ep k) ∧ t.out = s.out)))
    ∧ (∀ (f : Fnc) (e : ReadErr), s.pcie.flr.contains f.val = true → Gives (.hostReadError (.command f) e) s calm)
    ∧ (∀ (f : Fnc) (e : ReadErr), s.pcie.flr.contains f.val = false → Light 650 s → Room 3 s → Gives (.hostReadError (.command f) e) s (fun t =>
        (t.fn f).stopped = true ∧ (t.fn f).cur = (s.fn f).cur ∧ (t.fn f).prod = (s.fn f).prod ∧ Recorded 650 1 s t))
    ∧ (∀ (r : EpRef) (tbl : List StreamEntry), (s.ep (epRoot r.key)).streams = false ∨ (s.ep (epRoot r.key)).st = .closed ∨ tbl.length ≤ 1 → Unheld r.key s →
        GivesOn r.key (.streamTableRead r tbl) s calm)
    ∧ (∀ (r : EpRef) (a x : StreamEntry), let k := epRoot r.key + 1
        (s.ep (epRoot r.key)).streams = true → (s.ep (epRoot r.key)).st ≠ .closed → (s.ep k).st ≠ .closed → x.flags.toNat % 2 = 0 → Unheld r.key s →
        GivesOn r.key (.streamTableRead r [a, x]) s (fun t => t.ep k = { s.ep k with seenProd := x.prod.toNat, valid := false } ∧ (∀ j, j ≠ k → t.ep j = s.ep j) ∧ t.out = s.out))
    ∧ (∀ r : EpRef, ((s.ep r.key).pend = false → Gives (.pendClear r) s (fun t => t = s))
        ∧ ((s.ep r.key).pend = true → Gives (.pendClear r) s (fun t =>
            t.ep r.key = { s.ep r.key with pend := false, stage := [], commit := add32 (s.ep r.key).commit 1 } ∧ (∀ j, j ≠ r.key → t.ep j = s.ep j) ∧ t.out = s.out)))
    ∧ (∀ (f : Fnc) (r : Evr),
        let x := s.evr f r
        let v := s.evrVec f r
        let c := s.cfgFn f
        (x.timer = false → Gives (.msixHoldoffExpire f r) s (fun t => t = s))
        ∧ (x.timer = true → x.mark = false → Gives (.msixHoldoffExpire f r) s (fun t => t.evr f r = { x with timer := false } ∧ t.out = s.out))
        ∧ (x.timer = true → x.mark = true → Gives (.msixHoldoffExpire f r) s (fun t => t.evr f r = { x with mark := false }
            ∧ (if c.msixEn = true ∧ c.msixMask = false ∧ (s.vec f v).mask = false then t.out = .msix f v :: s.out ∧ t.pcie = s.pcie
               else t.out = s.out ∧ (t.vec f v).pba = true))))

/-- Windows (06 R205 – R208, R216, R217) and microframes (06 R206; 08 R286). -/
def Obligations.ScheduleRows : Prop :=
  ∀ (s : State) (p : Port),
    let b := s.bus p
    let calm := fun (t : State) => t = { s with blocked := [] }
    let others := fun (t : State) => ∀ x, x ≠ p.val → t.bus x = s.bus x
    let ahead := (b.windows.filter (fun w => decide (b.mf < w.mf))).length
    let first := fun (x : WinEntry) => match x.kind with | .xact 0 | .ssplit 0 => true | _ => false
    (b.running = false ∨ b.mf + 8 < b.nextMf ∨ 8 ≤ ahead → Gives (.windowBuild p) s (fun t => t = s))
    ∧ (b.running = true → b.nextMf ≤ b.mf + 8 → ahead < 8 → Gives (.windowBuild p) s (fun t => others t ∧ t.eps = s.eps ∧ (t.bus p).nextMf = b.nextMf + 1
        ∧ ∃ w, (t.bus p).windows = b.windows ++ [w] ∧ w.mf = b.nextMf ∧ w.st = .built ∧ w.periodic = (s.periodicOf p b.nextMf).take 48 ∧ w.periodic.length + w.async.length ≤ 64
            ∧ w.mode = s.mode.mode ∧ w.reduced = s.mode.reduced ∧ ∀ k ∈ w.async, k ∈ s.asyncOf p))
    ∧ (b.running = false → Gives (.windowLoadPoint p) s calm ∧ Gives (.microframeStart p) s calm)
    ∧ (b.running = true →
        (∀ w ∈ b.windows, w.mf = b.mf + 1 → w.st = .built → Gives (.windowLoadPoint p) s (fun t => others t ∧ t.eps = s.eps
            ∧ (t.bus p).windows.length = b.windows.length ∧ (t.bus p).windows.map (·.mf) = b.windows.map (·.mf)
            ∧ (∀ v ∈ (t.bus p).windows, v.mf = b.mf + 1 → v.st ≠ .built) ∧ (∀ v ∈ b.windows, v.mf ≠ b.mf + 1 → v ∈ (t.bus p).windows)))
        ∧ ((∃ w ∈ b.windows, w.mf = b.mf + 1) → (∀ w ∈ b.windows, w.mf = b.mf + 1 → w.st ≠ .built) → Gives (.windowLoadPoint p) s calm)
        ∧ ((∀ w ∈ b.windows, w.mf ≠ b.mf + 1) → (∀ x ∈ s.periodicOf p (b.mf + 1), (s.ep x.key).isIso = false) → Light (4 * p + 3) s → Gives (.windowLoadPoint p) s (fun t =>
            t.bus p = { b with windows := { mf := b.mf + 1, st := .abandoned, periodic := [], async := [], mode := s.mode.mode, reduced := s.mode.reduced } :: b.windows, nextMf := max b.nextMf (b.mf + 2) } ∧ others t
            ∧ (∀ k, let n := ((s.periodicOf p (b.mf + 1)).filter (fun x => x.key == k && first x)).length
                t.ep k = { s.ep k with missed := (s.ep k).missed + if (s.ep k).owesBus = true then n else 0 }) ∧ Recorded (4 * p + 3) 1 s t))
        ∧ (b.todo = [] → s.splitsLeft p = [] →
            let i := (b.interval + 1) % 16384
            let w := (b.windows.find? (fun w => w.mf == b.mf + 1 && w.st == .sealed)).getD { mf := b.mf + 1, st := .none, periodic := [], async := [] }
            Gives (.microframeStart p) s (fun t => ∃ v, t = { busRun p .ss (busRun p .usb2 v) with blocked := [] }
              ∧ v.bus p = { b with mf := b.mf + 1, interval := i, start := s.now, windows := b.windows.filter (fun w => decide (b.mf + 1 ≤ w.mf)), nextMf := max b.nextMf (b.mf + 2), todo := w.periodic, turn := w.async }
              ∧ others v ∧ v.slots = s.slots ∧ v.regs = s.regs ∧ (∀ k, (v.ep k).tds = (s.ep k).tds ∧ (v.ep k).credits = (s.ep k).credits ∧ (v.ep k).staged = (s.ep k).staged)
              ∧ ((s.link p).u2.st = .enabled → (s.link p).u2.l1 = false → (s.link p).u2.speed = 2 → s.sup.refclk = true → Out.bus p .usb2 (.sof (i / 8 % 2048)) ∈ v.out)
              ∧ ((s.link p).ss.st = .enabled → (s.link p).ss.ulink = 0 → s.sup.refclk = true → Out.bus p .ss (.itp i) ∈ v.out)
              ∧ (w.periodic = [] → w.async = [] → t = { v with blocked := [] }))))

/-- The dispatcher (14 R493, R495 – R503; 15 R512, R522). -/
def Obligations.DispatcherRows : Prop :=
  ∀ s : State,
    let others := fun (l : List Nat) (t : State) => ∀ k, k ∉ l → t.dspSrc k = s.dspSrc k
    (∀ n : Dsp, 3376 ≤ n.val → Gives (.dispatcherSourceAssert n none) s (fun t => t = s))
    ∧ (∀ n : Dsp, n.val < 3376 →
        let d := s.dspSrc n
        let g := s.holdoff d.group
        (d.pending = false → d.inService = false →
          (g.running = true → Gives (.dispatcherSourceAssert n none) s (fun t => t.dspSrc n = { d with pending := true, held := true } ∧ others [n.val] t
              ∧ t.dsp.groups = s.dsp.groups ∧ t.dsp.procs = s.dsp.procs ∧ t.regs = s.regs))
          ∧ (g.running = false → Gives (.dispatcherSourceAssert n none) s (fun t => t.dspSrc n = { d with pending := true, held := false } ∧ others [n.val] t
              ∧ t.holdoff d.group = { g with running := decide (0 < g.len) } ∧ (∀ x, x ≠ d.group → t.holdoff x = s.holdoff x) ∧ t.dsp.procs = s.dsp.procs ∧ t.regs = s.regs))
          ∧ (∀ (pr : Proc) (m pm : Nat) rest, g.running = false → (s.proc (procOf pr)).stack = (m, pm) :: rest → m ≠ n.val → pm < d.prio → d.aimsAt pr = true →
              Gives (.dispatcherSourceAssert n (some pr)) s (fun t => (t.proc (procOf pr)).stack = (n.val, d.prio) :: rest ∧ (t.dspSrc n).inService = true
                ∧ (t.dspSrc n).pending = false ∧ (t.dspSrc m).pending = true ∧ (t.dspSrc m).inService = false ∧ others [n.val, m] t)))
        ∧ (d.pending = true ∨ d.inService = true → dspLevel n = true → Gives (.dispatcherSourceAssert n none) s (fun t => t = s))
        ∧ (d.pending = true → dspLevel n = false → Gives (.dispatcherSourceAssert n none) s (fun t => t.dsp = s.dsp ∧ t.fld 0x144000 24 8 = min (s.fld 0x144000 24 8 + 1) 255))
        ∧ (d.pending = false → d.inService = true → dspLevel n = false → Gives (.dispatcherSourceAssert n none) s (fun t =>
            (t.dspSrc n).pending = true ∧ (t.dspSrc n).inService = true ∧ others [n.val] t ∧ t.fld 0x144000 24 8 = min (s.fld 0x144000 24 8 + 1) 255)))
    ∧ (∀ pr : Proc, (s.offered pr = none → Gives (.dispatcherClaim pr) s (fun t => t = s))
        ∧ (∀ n, s.offered pr = some n → Gives (.dispatcherClaim pr) s (fun t => t.dspSrc n = { s.dspSrc n with pending := false, inService := true } ∧ others [n] t
            ∧ (t.proc (procOf pr)).stack = (n, (s.dspSrc n).prio) :: (s.proc (procOf pr)).stack ∧ (∀ x, x ≠ procOf pr → t.proc x = s.proc x) ∧ t.regs = s.regs)))
    ∧ (∀ (pr : Proc) (n : BitVec 12) (high seen : Bool),
        let st := (s.proc (procOf pr)).stack
        (st = [] → Gives (.dispatcherEoi pr n high seen) s (fun t => t.dsp = s.dsp ∧ t.fld 0x144000 0 8 = min (s.fld 0x144000 0 8 + 1) 255))
        ∧ (st ≠ [] → n.toNat = 4095 → Gives (.dispatcherEoi pr n high seen) s (fun t => t.dsp = s.dsp ∧ t.fld 0x144000 0 8 = min (s.fld 0x144000 0 8 + 1) 255))
        ∧ (∀ pm rest, st = (n.toNat, pm) :: rest → n.toNat ≠ 4095 → (∀ k, (s.dspSrc k).pending = false) → dspLevel n.toNat = false ∨ high = false →
            Gives (.dispatcherEoi pr n high seen) s (fun t => (t.proc (procOf pr)).stack = rest ∧ t.dspSrc n.toNat = { s.dspSrc n.toNat with inService := false } ∧ others [n.toNat] t
              ∧ t.fld 0x144000 16 8 = if dspLevel n.toNat = true ∧ seen = false then min (s.fld 0x144000 16 8 + 1) 255 else s.fld 0x144000 16 8))
        ∧ (∀ m pm rest, st = (m, pm) :: rest → n.toNat ≠ m → n.toNat ≠ 4095 → Light 639 s → Gives (.dispatcherEoi pr n high seen) s (fun t =>
            (t.proc (procOf pr)).stack = st ∧ t.fld 0x144000 8 8 = min (s.fld 0x144000 8 8 + 1) 255 ∧ Recorded 639 1 s t)))
    ∧ (∀ g : Fin 256, ((s.holdoff g).running = false → Gives (.holdoffTimerExpire g) s (fun t => t = s))
        ∧ ((s.holdoff g).running = true → s.heldIn g = [] → Gives (.holdoffTimerExpire g) s (fun t => t.holdoff g = { s.holdoff g with running := false }
            ∧ (∀ x, x ≠ g.val → t.holdoff x = s.holdoff x) ∧ t.dsp.srcs = s.dsp.srcs))
        ∧ ((s.holdoff g).running = true → s.heldIn g ≠ [] → Gives (.holdoffTimerExpire g) s (fun t =>
            (∀ k ∈ s.heldIn g, t.dspSrc k = { s.dspSrc k with held := false }) ∧ others (s.heldIn g) t ∧ t.dsp.groups = s.dsp.groups)))
    ∧ (∀ pr : Proc, (s.fltSrc 638).line = .quiet → s.flt.rebuilding = false → s.inj.any (fun x => x.src == 638) = false → s.flt.safeHold = false →
        Gives (.dispatcherStackMismatch pr) s (fun t => t.flt.safeHold = true ∧ t.flt.rebuilding = true ∧ t.dsp.procs = s.dsp.procs ∧ Recorded 638 1 s t))

/-- Fault lines and reactions (15 R504 – R512, R516, R517, R520; 05 R203; 08 R304). -/
def Obligations.FaultRows : Prop :=
  ∀ s : State,
    let calm := fun (t : State) => t = { s with blocked := [] }
    let fresh := fun (n : Nat) => (s.fltSrc n).line = .quiet ∧ s.flt.rebuilding = false ∧ s.inj.any (fun x => x.src == n) = false
    (∀ r : FaultRep, catalogue r.src = none → Gives (.faultLineRaised r) s calm)
    ∧ (∀ (n : Src) v, catalogue n = none → Gives (.faultLineBroken n v) s calm)
    ∧ (∀ r : FaultRep, r.src.val < 512 →
        let p := r.src.val / 4
        (Light r.src s → Gives (.faultLineRaised r) s (fun t => Recorded r.src r.cause.toNat s t ∧ (t.fltSrc r.src).line = (if r.lasting then .fault else .quiet)
            ∧ t.links = s.links ∧ t.paths = s.paths ∧ t.flt.safeHold = s.flt.safeHold))
        ∧ (fresh r.src → s.reactOf r.src = 2 → s.flt.portHolds.any (fun x => x.1 == p) = false → (s.bed (bedOf p)).isolating = false → (s.bed (bedOf p)).retired = false →
            Gives (.faultLineRaised r) s (fun t => Recorded r.src r.cause.toNat s t ∧ (t.link p).held = true ∧ (∀ x, x ≠ p → t.link x = s.link x) ∧ t.flt.safeHold = s.flt.safeHold
              ∧ t.flt.portHolds.any (fun x => x.1 == p) = true ∧ ∀ r ∈ s.portRoots p, (t.ep r).st = (s.ep r).st))
        ∧ (fresh r.src → s.reactOf r.src = 4 → s.flt.safeHold = false → Gives (.faultLineRaised r) s (fun t => Recorded r.src r.cause.toNat s t
            ∧ t.flt.safeHold = true ∧ t.flt.rebuilding = true ∧ t.links = s.links))
        ∧ ((s.fltSrc r.src).line ≠ .quiet → Gives (.faultLineRaised r) s (fun t =>
            t.fld (fltCntReg r.src) 0 32 = min (s.fld (fltCntReg r.src) 0 32 + 1) (2 ^ 32 - 1) ∧ (t.fltSrc r.src).status = (s.fltSrc r.src).status
            ∧ (t.fltSrc r.src).lastCause = (s.fltSrc r.src).lastCause ∧ (t.fltSrc r.src).line = (s.fltSrc r.src).line ∧ t.alm = s.alm ∧ t.dsp = s.dsp)))
    ∧ (∀ (n : Src) v, (catalogue n).isSome = true → Light n s → Gives (.faultLineBroken n v) s (fun t => Recorded n 255 s t ∧ (t.fltSrc n).line = .broken v
        ∧ (t.fltSrc n).wire = true ∧ t.links = s.links ∧ t.flt.safeHold = s.flt.safeHold))
    ∧ (∀ n : Src, n.val ≠ 659 → n.val < 512 ∨ 576 ≤ n.val ∨ n.val % 8 ≠ 6 → Gives (.faultLineQuiet n) s (fun t => t.fltSrc n = { s.fltSrc n with line := .quiet }
        ∧ (∀ m, m ≠ n.val → t.fltSrc m = s.fltSrc m) ∧ t.regs = s.regs ∧ t.links = s.links ∧ t.paths = s.paths))
    ∧ (∀ p : Port, (s.flt.portHolds.find? (fun x => x.1 == p.val) = none → Gives (.portHoldDone p) s calm)
        ∧ (∀ x, s.flt.portHolds.find? (fun x => x.1 == p.val) = some x → s.portRoots p = [] → Gives (.portHoldDone p) s (fun t =>
            t.link p = { s.link p with held := false } ∧ (∀ y, y ≠ p.val → t.link y = s.link y) ∧ t.flt.portHolds = s.flt.portHolds.filter (fun y => y.1 != p.val))))
    ∧ (∀ b : Bed, ((s.bed b).isolating = false → Gives (.bedRestartDone b) s calm)
        ∧ (∀ p : Port, bedOf p = b.val → (s.bed b).isolating = true → (∀ x ∈ portsOf b, (s.pd x).attached = false) → (s.link p).device = false → (s.link p).u2.st = .enabled →
            Gives (.bedRestartDone b) s (fun t => (t.link p).u2.st = .resuming ∧ (t.link p).u2.resumeBy = .bed ∧ (t.bed b).isolating = true
              ∧ (∀ x, bedOf x ≠ b.val → t.link x = s.link x) ∧ Out.bus p .usb2 .resumeK ∈ t.out)))
    ∧ (∀ b : Bed, (s.flt.isolations.find? (fun x => x.1 == b.val) = none → Gives (.bedIsolateDone b) s calm)
        ∧ (∀ x, s.flt.isolations.find? (fun x => x.1 == b.val) = some x → (∀ p ∈ portsOf b, (s.path p).st = .off ∧ (s.path p).queued = none ∧ s.profile p = .disabled ∧ s.portRoots p = []) →
            (∀ p ∈ portsOf b, ∀ d, ((s.link p).side d).st ≠ .resuming) →
            Gives (.bedIsolateDone b) s (fun t => t.bed b = { s.bed b with isolating := false } ∧ t.flt.isolations = s.flt.isolations.filter (fun y => y.1 != b.val)
              ∧ t.links = s.links ∧ t.paths = s.paths)))
    ∧ (Gives .collectorMismatch s (fun t => t.flt.rebuilding = true))
    ∧ (fresh 640 → s.flt.safeHold = false → Gives .collectorMismatch s (fun t => Recorded 640 1 s t ∧ t.flt.safeHold = true ∧ t.flt.rebuilding = true))
    ∧ (s.flt.rebuilding = false → Gives .collectorRebuildDone s calm)
    ∧ (s.flt.rebuilding = true → s.flt.deferred = [] → Gives .collectorRebuildDone s (fun t => t = { s with flt := { s.flt with rebuilding := false }, blocked := [] }))
    ∧ (Gives .faultNPulseEnd s (fun t => t = { s with flt := { s.flt with pulse := false } }))
    ∧ (∀ (r : EpRef) (c : CopyFound), ((s.ep r.key).st ≠ .faulted → Gives (.contextRebuildDone r c) s calm)
        ∧ ((s.ep r.key).st = .faulted → (s.ep r.key).was = .paused ∨ (s.ep r.key).was = .halted → (s.ep r.key).pend = false → (s.ep r.key).prod = (s.ep r.key).wasProd → s.ops = [] →
            (s.bus (s.ep r.key).port).windows = [] → Gives (.contextRebuildDone r c) s (fun t => (t.ep r.key).st = (s.ep r.key).was ∧ (t.ep r.key).was = .closed
              ∧ (t.ep r.key).prod = (s.ep r.key).prod ∧ (∀ k, k ≠ r.key → t.ep k = s.ep k) ∧ t.out = s.out)))

/-- SRAM (01 R29, R30) and the trough (15 R523, R532, R533). -/
def Obligations.MemoryRows : Prop :=
  ∀ s : State,
    let calm := fun (t : State) => t = { s with blocked := [] }
    let u := s.units
    let recent := fun (k : Nat) => u.rebuilt.any (fun x => x.1 == k && decide (s.time.local_ < x.2 + 24 * 60 * minuteNs)) = true
    let worn := fun (k : Nat) (t : State) => t.units = { u with rebuilt := u.rebuilt.filter (fun x => x.1 != k) ++ [(k, s.time.local_)] }
    let retired := fun (k cause : Nat) (t : State) => t.units.retiredBanks = sortBy id (k :: u.retiredBanks) ∧ t.units.rebuildingBank = some k ∧ t.units.fallowOn = false
      ∧ Recorded (592 + k) cause s t
    (∀ a unit, Gives (.sramEccError a unit false) s (fun t => t.fld 0x16302C 0 32 = min (s.fld 0x16302C 0 32 + 1) (2 ^ 32 - 1) ∧ t.flt = s.flt ∧ t.units = u
        ∧ ∀ off, off ≠ 0x16302C → t.rget off = s.rget off))
    ∧ (∀ unit, Light 637 s → Gives (.sramEccError .keeper unit true) s (Recorded 637 1 s))
    ∧ (∀ unit, Light 626 s → Gives (.sramEccError .capture unit true) s (fun t => Recorded 626 1 s t ∧ (t.cap (unit % 128)).recs = if (s.cap (unit % 128)).running then [] else (s.cap (unit % 128)).recs))
    ∧ (∀ unit, Light (512 + 8 * (unit % 8) + 2) s → Gives (.sramEccError .staging unit true) s (Recorded (512 + 8 * (unit % 8) + 2) 1 s))
    ∧ (∀ unit, Light (627 + unit % 9) s → s.eng.rot = none → Gives (.sramEccError .tender unit true) s (fun t => Recorded (627 + unit % 9) 1 s t ∧ t.eng = s.eng))
    ∧ (∀ unit, Light 624 s → (s.ep unit).st ≠ .closed → (s.ep unit).st ≠ .faulted → Gives (.sramEccError .context unit true) s (fun t => Recorded 624 1 s t
        ∧ (t.ep unit).st = .faulted ∧ (t.ep unit).was = (s.ep unit).st ∧ (t.ep unit).credits = []))
    ∧ (∀ unit, (s.fltSrc 625).line = .quiet → s.flt.rebuilding = false → s.inj.any (fun x => x.src == 625) = false → s.reactOf 625 = 2 →
        s.flt.portHolds.any (fun x => x.1 == unit % 128) = false → (s.bed (bedOf (unit % 128))).isolating = false → (s.bed (bedOf (unit % 128))).retired = false →
        Gives (.sramEccError .schedule unit true) s (fun t => Recorded 625 1 s t ∧ (t.link (unit % 128)).held = true))
    ∧ (∀ unit, (s.slot unit).port < 128 → (s.fltSrc 625).line = .quiet → s.flt.rebuilding = false → s.inj.any (fun x => x.src == 625) = false → s.reactOf 625 = 2 →
        s.flt.portHolds.any (fun x => x.1 == (s.slot unit).port) = false → (s.bed (bedOf (s.slot unit).port)).isolating = false → (s.bed (bedOf (s.slot unit).port)).retired = false →
        Gives (.sramEccError .slot unit true) s (fun t => Recorded 625 2 s t ∧ (t.link (s.slot unit).port).held = true))
    ∧ (∀ k : Bank, Light (592 + k) s → ¬ recent k → Gives (.troughWordRebuild k) s (fun t => Recorded (592 + k) 1 s t ∧ worn k t)
        ∧ Gives (.sramEccError .trough k true) s (fun t => Recorded (592 + k) 1 s t ∧ worn k t))
    ∧ (∀ k : Bank, Light (592 + k) s → recent k → Gives (.troughWordRebuild k) s (fun t => k.val ∈ t.units.retiredBanks))
    ∧ (s.scrubEn = false → Gives .scrubTick s (fun t => t = s))
    ∧ (s.scrubEn = true → Gives .scrubTick s (fun t => t = { s with units := { u with scrubPos := (u.scrubPos + 1) % 9306112 } }))
    ∧ (∀ (k : Bank) lost, k.val ∈ u.retiredBanks → Gives (.troughBankRetire k lost) s calm)
    ∧ (∀ (k : Bank) lost, k.val ∉ u.retiredBanks → Light (592 + k) s → Gives (.troughBankRetire k lost) s (retired k 2))
    ∧ (Gives .bankRebuildDone s (fun t => t = { s with units := { u with rebuildingBank := none } }))
    ∧ (Gives .fallowMoveDone s (fun t => t = { s with units := { u with fallowMoved := u.fallowOn } }))
    ∧ (s.served = false ∨ s.marchEn = false ∨ u.retiredBanks ≠ [] ∨ s.flt.safeHold = true ∨ s.bankTest = true ∨ u.fallowOn = true → Gives .marchTimer s (fun t => t = s))
    ∧ (s.served = true → s.marchEn = true → u.retiredBanks = [] → s.flt.safeHold = false → s.bankTest = false → u.fallowOn = false → Gives .marchTimer s (fun t =>
        t = { s with units := { u with fallow := u.nextBank, fallowOn := true, fallowMoved := false, nextBank := (u.nextBank + 1) % 32 } }))
    ∧ (∀ pass, u.fallowOn = false ∨ u.fallowMoved = false ∨ s.bankTest = true → Gives (.marchDone pass) s calm)
    ∧ (u.fallowOn = true → u.fallowMoved = true → s.bankTest = false →
        (Gives (.marchDone true) s (fun t => t = { s with units := { u with fallowOn := false, fallowMoved := false }, blocked := [] }))
        ∧ (u.fallow < 32 → u.fallow ∉ u.retiredBanks → Light (592 + u.fallow) s → Gives (.marchDone false) s (retired u.fallow 3)))

/-- Core units (01 R39 – R41; 13 R462; 15 R519, R521, R522, R531). -/
def Obligations.CoreUnitRows : Prop :=
  ∀ s : State,
    let calm := fun (t : State) => t = { s with blocked := [] }
    let u := s.units
    (∀ b : Bed, Gives (.adcCalTimer b) s (fun t => t = s))
    ∧ Gives .keeperSelfCheck s (fun t => t = s)
    ∧ (∀ p : Port, Gives (.efuseTestPulse p true) s calm)
    ∧ (∀ p : Port, Light (512 + 8 * bedOf p + 4) s → (s.path p).chainAside = false → Gives (.efuseTestPulse p false) s (fun t => Recorded (512 + 8 * bedOf p + 4) 1 s t
        ∧ t.path p = { s.path p with chainAside := true } ∧ ∀ x, x ≠ p.val → t.path x = s.path x))
    ∧ (Light 643 s → Gives (.coldFrameWatchTest false) s (fun t => Recorded 643 1 s t ∧ t.mode = { s.mode with rewriteDue := true }))
    ∧ (s.mode.rewriteDue = false ∨ s.lock = false → Gives (.coldFrameWatchTest true) s calm)
    ∧ (s.mode.rewriteDue = true → s.lock = true → Gives (.coldFrameWatchTest true) s (fun t => t.mode.rewriteDue = false ∧ t.mode.retention = true
        ∧ t.mode.pwrCopy = BitVec.ofNat 32 (s.rget 0x110000) ∧ t.boot = { s.boot with persistCopy := s.boot.persist } ∧ t.regs = s.regs))
    ∧ (∀ hop : Nat,
        let x := s.hopOf hop
        let hops := fun (v : HopSt) (t : State) => t.hopOf hop = v ∧ ∀ y, y ≠ hop → t.hopOf y = s.hopOf y
        (∀ w : HopWord, w.hop = hop →
          let n := if x.fails ≠ 0 ∧ w.word = x.latest + 1 then x.fails + 1 else 1
          (n < 3 ∨ x.second = true → Light 661 s → Gives (.fabricCheckFail w) s (fun t => Recorded 661 1 s t ∧ hops { x with fails := n, latest := w.word } t))
          ∧ (3 ≤ n → x.second = false → Gives (.fabricCheckFail w) s (hops { second := true })))
        ∧ (x.second = true → Gives (.fabricHandshakeTimeout hop) s calm)
        ∧ (x.second = false → Light 661 s → Gives (.fabricHandshakeTimeout hop) s (fun t => Recorded 661 2 s t ∧ hops { second := true } t)))
    ∧ (∀ (b : Bed) (lane : Nat),
        let l := (s.bed b).lanesLost
        (lane ∈ l → Gives (.laneFail b lane) s calm)
        ∧ (l = [] → Light (512 + 8 * b) s → Gives (.laneFail b lane) s (fun t => Recorded (512 + 8 * b) 1 s t ∧ t.bed b = { s.bed b with lanesLost := [lane] }))
        ∧ (l ≠ [] → lane ∉ l → (s.fltSrc (512 + 8 * b + 1)).line = .quiet → s.flt.rebuilding = false → s.inj.any (fun x => x.src == 512 + 8 * b + 1) = false →
            s.reactOf (512 + 8 * b + 1) = 3 → (s.bed b).isolating = false → (s.bed b).retired = false → (s.bed b).isoTimes = [] → Gives (.laneFail b lane) s (fun t =>
              (t.bed b).isolating = true ∧ (t.bed b).lanesLost = l ++ [lane] ∧ Recorded (512 + 8 * b + 1) 1 s t)))
    ∧ (∀ k : Fin 16, Light (576 + k) s → Gives (.ringEngineLost k) s (fun t => Recorded (576 + k) 2 s t ∧ k.val ∈ t.units.ringLost))
    ∧ (Light 659 s → Gives (.thermalWarning 8) s (fun t => Recorded 659 1 s t ∧ t.mode = s.mode))
    ∧ (Light 659 s → Gives (.thermalShutdown 8) s (fun t => t.flt.safeHold = true ∧ (t.fltSrc 659).status = true ∧ (t.fltSrc 659).lastCause = 2))
    ∧ (∀ d : Fin 9, d.val < 8 → Light (512 + 8 * d + 6) s →
        ((∀ p ∈ portsOf d, s.alerts p = false) → Gives (.thermalWarning d) s (fun t => Recorded (512 + 8 * d + 6) 1 s t ∧ t.bed d = { s.bed d with warm := true } ∧ t.paths = s.paths))
        ∧ Gives (.thermalShutdown d) s (fun t => (t.fltSrc (512 + 8 * d + 6)).status = true ∧ (t.fltSrc (512 + 8 * d + 6)).lastCause = 2 ∧ (t.bed d).hot = true
            ∧ ∀ p ∈ portsOf d, 4 ∈ (t.path p).hold))
    ∧ (Gives (.thermalCooled 8) s (fun t => (t.fltSrc 659).line ≠ .fault ∧ t.beds = s.beds ∧ t.paths = s.paths))
    ∧ (∀ d : Fin 9, d.val < 8 →
        ((s.bed d).hot = false → Gives (.thermalCooled d) s (fun t => (t.fltSrc (512 + 8 * d + 6)).line ≠ .fault ∧ t.beds = s.beds ∧ t.paths = s.paths))
        ∧ ((s.bed d).hot = true → (∀ p ∈ portsOf d, (s.path p).st = .latched) → Gives (.thermalCooled d) s (fun t =>
            t.bed d = { s.bed d with hot := false, warm := false } ∧ (∀ p ∈ portsOf d, t.path p = { s.path p with hold := (s.path p).hold.filter (· != 4) })
            ∧ ∀ p, p ∉ portsOf d → t.path p = s.path p)))

/-- Staging, credits and flow control (05 R174; 06 R218, R228, R229, R235, R236; 07 R253, R256, R265). -/
def Obligations.FlowRows : Prop :=
  ∀ (s : State) (e : EpRef),
    let k := e.key
    let x := s.ep k
    let r := epRoot k
    let only := fun (t : State) => ∀ j, j ≠ k → t.ep j = s.ep j
    (∀ bytes, s.stageMay k bytes.length = true → GivesOn k (.outDataFetched e bytes) s (fun t => only t
        ∧ t.ep k = { x with staged := x.staged ++ [immBytes (x.done + (x.staged.map List.length).sum) x.tds bytes], owesErdy := false }
        ∧ (x.owesErdy = true → Out.bus x.port .ss (.erdy (keyEp k)) ∈ t.out)))
    ∧ (∀ bytes, s.stageMay k bytes.length = false → Gives (.outDataFetched e bytes) s (fun t => t = s))
    ∧ (s.creditMay k = true →
        let l := { x.led with granted := x.led.granted + 1 }
        let tog := (s.nextTog k + x.credits.length + b2n x.inSplit) % (if s.isSs k then 32 else 2)
        GivesOn k (.creditGrant e) s (fun t => only t
          ∧ t.ep k = { x with credits := x.credits ++ [{ serial := l.granted, tog, covered := x.nextCovered }], led := l, ledCopy := l, commit := add32 x.commit 1, owesErdy := false }))
    ∧ (s.creditMay k = false → Gives (.creditGrant e) s (fun t => t = s))
    ∧ (∀ revoked consumed why, Unheld k s → s.opFind (fun o => o.pauses r) = none → x.rev = some why → revoked + consumed = x.revFrom.standing →
        let l := { x.revFrom with consumed := x.revFrom.consumed + consumed, revoked := x.revFrom.revoked + revoked }
        GivesOn k (.creditRevocationSettled e revoked consumed) s (fun t => only t
          ∧ t.ep k = { x.offWire with credits := [], led := l, ledCopy := l, rev := if why = .snoop ∨ why = .hold then none else some why }))
    ∧ (∀ revoked consumed, Unheld k s → x.rev = none ∨ revoked + consumed ≠ x.revFrom.standing →
        GivesOn k (.creditRevocationSettled e revoked consumed) s (fun t => t = { s with blocked := [] }))
    ∧ (Calm k s → GivesOn k (.nakLimitReached e) s (fun t => only t
        ∧ t.ep k = { x with wire := false, pingOn := false, inflight := 0, left := 0, naks := max x.naks (s.nakLimit x.port), failRun := 0, skipUf := true, ping := x.ping || (!x.receives && s.epSpeed k == 2 && !x.periodic) }))
    ∧ (Calm k s → s.xactOpen k = true → s.isSs k = true → GivesOn k (.nrdyReceived e) s (fun t => only t
        ∧ t.ep k = { x with wire := false, inflight := 0, left := 0, waiting := true, failRun := 0, staged := if x.stopping then [] else x.staged }))
    ∧ ((s.ep r).st ≠ .closed → (s.ep r).guest = false → s.isSs r = true →
        ((s.ep r).streams = false → GivesOn k (.erdyReceived e) s (fun t => only t ∧ t.ep k = { x with waiting := false }))
        ∧ ((s.ep r).streams = true → keyStream k ≠ 0 → x.st ≠ .closed → x.cur.count ≠ x.prod → x.seenValid = true → x.valid = true →
            GivesOn k (.erdyReceived e) s (fun t => (∀ j, j ≠ k → j ≠ r → t.ep j = s.ep j) ∧ t.ep k = { x with waiting := false }
              ∧ t.ep r = { s.ep r with waiting := false, picked := keyStream k }))
        ∧ ((s.ep r).streams = true → keyStream k ≠ 0 → x.st = .closed ∨ x.cur.count = x.prod →
            GivesOn k (.erdyReceived e) s (fun t => (∀ j, j ≠ k → j ≠ r → t.ep j = s.ep j) ∧ t.ep r = { s.ep r with waiting := false }
              ∧ Out.bus (s.ep r).port .ss (.streamReject (s.busTok k)) ∈ t.out)))
    ∧ (∀ sl : SlotRef, GivesOn sl.ep0 (.setAddressRecoveryEnd sl) s (fun t => t.slot sl.key = { s.slot sl.key with recovery := false }
        ∧ (∀ j, j ≠ sl.key → t.slot j = s.slot j) ∧ t.eps = s.eps))
    ∧ (Gives (.isoStreamEnd e) s (fun t => only t ∧ t.ep k = if x.isIso ∧ x.inStream ∧ s.isoHold x.port ≤ x.empty then { x with inStream := false, empty := 0 } else x))
    ∧ (∀ t0 t1 ts, x.ty = 5 → x.guest = false → x.pkts ≠ [] → x.tds = t0 :: t1 :: ts → t1.ty = 5 → x.skip = false → x.dataEnd = false → s.epLive k = true →
        Gives (.isoCommitDeadline e) s (fun t => only t ∧ t.ep k = { x with
          pkts := [], missed := x.missed + 1, staged := [], isoOn := false, isoLast := false, isoMore := 0, isoGot := 0, tds := t1 :: ts, cur := t0.next, curRd := t0.rd, done := 0, moved := if t0.chain then x.moved + x.done else 0, begun := x.begun && t0.chain, commit := add32 x.commit 1 }))
    ∧ (x.isIso = false ∨ x.receives = false ∨ x.pkts = [] → Gives (.isoCommitDeadline e) s (fun t => t = { s with blocked := [] }))

/-- The outcomes of transactions toward a device (04 R134; 05 R178, R204; 06 R218, R220, R221, R231, R238, R239; 07 R266). -/
def Obligations.OutcomeRows : Prop :=
  ∀ (s : State) (e : EpRef),
    let k := e.key
    let x := s.ep k
    let r := epRoot k
    let only := fun (t : State) => ∀ j, j ≠ k → t.ep j = s.ep j
    let again := fun (c : Instr) => x.isIso = false → x.failRun + 1 < (s.ep r).retry → GivesOn k c s (fun t =>
      (t.ep k).wire = false ∧ (t.ep k).failRun = x.failRun + 1 ∧ (t.ep k).tds = x.tds ∧ (t.ep k).credits = x.credits ∧ (t.ep k).staged = x.staged
        ∧ (t.ep r).xactErr = min 255 ((s.ep r).xactErr + 1) ∧ (t.ep r).st = (s.ep r).st ∧ ∀ j, j ≠ k → j ≠ r → t.ep j = s.ep j)
    let halts := fun (code : Nat) (c : Instr) => ∀ t0 ts, x.tds = t0 :: ts → Room 1 s → GivesOn k c s (fun t =>
      (t.ep r).st = .halted ∧ Transferred k code t0.addr (t0.len - x.done) t0.cookie s t ∧ ∀ j, epRoot j ≠ r → t.ep j = s.ep j)
    let fails := fun (c : Instr) => again c ∧ (x.isIso = false → (s.ep r).retry ≤ x.failRun + 1 → halts ccXact c)
    Calm k s →
    (s.xactOpen k = true → fails (.transactionTimeout e) ∧ (∀ y, y ≠ .ssPing → (y = .ping → x.pingOn = true) → fails (.transactionErrorReceived e y))
      ∧ halts ccStall (.stallReceived e) ∧ halts ccBabble (.babbleDetected e)
      ∧ (∀ t0 ts, x.tds = t0 :: ts → Room 1 s → GivesOn k (.babbleDetected e) s (fun t => (t.ep r).babble = min 255 ((s.ep r).babble + 1))))
    ∧ (x.split = true → halts ccStall (.stallReceived e))
    ∧ (x.periodic = true → s.isSs k = true → GivesOn k (.transactionErrorReceived e .ssPing) s (fun t => only t ∧ t.ep k = { x with noPing := true }))
    ∧ (x.wire = true → x.pingOn = true →
        (∀ hs, hs = .nak ∨ hs = .nyet → GivesOn k (.outHandshake e hs) s (fun t => only t
          ∧ t.ep k = { x with wire := false, pingOn := false, failRun := 0, naks := x.naks + 1, skipUf := x.skipUf || (!x.periodic && decide (s.nakLimit x.port ≤ x.naks + 1)) }))
        ∧ GivesOn k (.outHandshake e .retry) s (fun t => only t ∧ t.ep k = { x with wire := false, pingOn := false, failRun := 0 })
        ∧ GivesOn k (.outHandshake e .ack) s (fun t =>
            let u := startXact k (({ s with blocked := [] } : State).epOn k (fun y => { y with wire := false, pingOn := false, failRun := 0, ping := false }))
            (∀ j, t.ep j = u.ep j) ∧ t.out = u.out))
    ∧ (x.sending = true → x.atSetup = false →
        GivesOn k (.outHandshake e .nak) s (fun t => only t
          ∧ t.ep k = { x with wire := false, inflight := 0, split := false, cs := false, failRun := 0, naks := x.naks + 1, ping := s.epSpeed k == 2 && !x.periodic, staged := if x.stopping then [] else x.staged, skipUf := x.skipUf || (!x.periodic && decide (s.nakLimit x.port ≤ x.naks + 1)) })
        ∧ GivesOn k (.outHandshake e .retry) s (fun t => only t
          ∧ t.ep k = { x with wire := false, inflight := 0, split := false, cs := false, ping := false, staged := if x.stopping then [] else x.staged })
        ∧ (∀ t0 ts pk rest, r = k → x.ty = 3 ∨ x.ty = 4 → x.tds = t0 :: ts → t0.ty = 1 → x.staged = pk :: rest → x.skip = false → x.dataEnd = false →
            (pk.length < t0.len - x.done → GivesOn k (.outHandshake e .ack) s (fun t => only t ∧ (t.ep k).staged = rest ∧ (t.ep k).done = x.done + pk.length ∧ (t.ep k).tds = x.tds
              ∧ (t.ep k).failRun = 0 ∧ (t.ep k).naks = 0 ∧ (if s.isSs k then (t.ep k).seq = (x.seq + 1) % 32 else (t.ep k).toggle = !x.toggle)))
            ∧ (∀ t1 u, pk.length = t0.len - x.done → pk.length ≠ 0 → ts = t1 :: u → t1.ty = 1 → Room 1 s → GivesOn k (.outHandshake e .ack) s (fun t => only t ∧ (t.ep k).staged = rest
                ∧ (t.ep k).tds = ts ∧ (t.ep k).cur = t0.next ∧ (t.ep k).done = 0 ∧ (t0.eoc = true → Transferred k ccSuccess t0.addr 0 t0.cookie s t)))))
    ∧ (x.sending = true → x.atSetup = true → fails (.outHandshake e .nak) ∧ fails (.outHandshake e .nyet)
        ∧ (∀ t0 t1 ts, x.ty = 1 → r = k → x.tds = t0 :: t1 :: ts → t1.ty = 3 ∨ t1.ty = 4 → x.skip = false → Room 1 s →
            let done := fun (t : State) => only t ∧ (t.ep k).tds = t1 :: ts ∧ (t.ep k).cur = t0.next ∧ (t.ep k).setup = t0.buf ∧ (t.ep k).toggle = true ∧ (t.ep k).seq = 0
              ∧ (t.ep k).wire = false ∧ (t.ep k).failRun = 0 ∧ (t0.eoc = true → Transferred k ccSuccess t0.addr 0 t0.cookie s t)
            GivesOn k (.setupStageComplete e) s done ∧ GivesOn k (.outHandshake e .ack) s done))

/-- Packets from devices (05 R174, R191, R192, R204; 06 R222, R224, R226; 07 R254, R258 – R260). -/
def Obligations.PacketRows : Prop :=
  ∀ (s : State) (e : EpRef),
    let k := e.key
    let x := s.ep k
    let r := epRoot k
    let only := fun (t : State) => ∀ j, j ≠ k → t.ep j = s.ep j
    let ack := Out.bus x.port .usb2 (.host (s.busTok k) (.ack 0 0))
    (∀ tog bytes, x.wire = false ∨ x.guest = true ∨ x.receives = false ∨ x.st = .closed → GivesOn k (.inPacketReceived e tog bytes) s (fun t => t = { s with blocked := [] }))
    ∧ (∀ tog bytes, Calm k s → x.wire = true → x.receives = true → bytes.length ≤ x.mps → x.inSplit = false →
        (s.inTog k tog.toNat = .again → GivesOn k (.inPacketReceived e tog bytes) s (fun t => only t
          ∧ t.ep k = { x with wire := false, inflight := 0, left := 0, split := false, cs := false, inSplit := false, failRun := 0 } ∧ (s.isSs k = false → ack ∈ t.out)))
        ∧ (s.inTog k tog.toNat = .good → x.credits = [] → GivesOn k (.inPacketReceived e tog bytes) s (fun t => only t
          ∧ t.ep k = { x with wire := false, inflight := 0, left := 0 }
          ∧ (s.isSs k = true → x.isIso = false → Out.bus x.port .ss (.host (s.busTok k) (.retry (s.nextTog k) 0)) ∈ t.out)))
        ∧ (s.inTog k tog.toNat = .good → x.credits ≠ [] → r = k → x.ty = 6 ∨ x.ty = 7 → GivesOn k (.inPacketReceived e tog bytes) s (fun t => only t
          ∧ (t.ep k).pkts = x.pkts ++ [bytes] ∧ (t.ep k).credits = x.credits.tail ∧ (t.ep k).led = { x.led with consumed := x.led.consumed + 1 } ∧ (t.ep k).failRun = 0
          ∧ (if s.isSs k then (t.ep k).seq = (x.seq + 1) % 32 else (t.ep k).toggle = (!x.toggle) ∧ (t.ep k).wire = false ∧ ack ∈ t.out))))
    ∧ (Unheld k s → s.claimable k = false → GivesOn k (.packetClaim e) s (fun t => t = { s with blocked := [] }))
    ∧ (∀ pk rest t0 ts, Unheld k s → s.claimable k = true → x.ty = 6 ∨ x.ty = 7 → x.guest = false → x.dataEnd = false → x.pkts = pk :: rest → x.tds = t0 :: ts → t0.ty = 1 →
        pk.length = x.mps → pk.length < t0.len - x.done → pk ≠ [] → GivesOn k (.packetClaim e) s (fun t => only t
          ∧ t.ep k = { x with pkts := rest, done := x.done + pk.length, commit := add32 x.commit 1 }
          ∧ (s.pcie.own (t0.buf + x.done) = false → Out.dataWrite (keyFn k) (t0.buf + x.done) (s.cfgFn (keyFn k)).relaxed pk ∈ t.out)))
    ∧ (∀ y, Unheld k s → x.split = false ∨ x.guest = true ∨ x.st = .closed → GivesOn k (.splitResult e y) s (fun t => t = { s with blocked := [] }))
    ∧ (Calm k s → x.split = true →
        GivesOn k (.splitResult e .nyet) s (fun t => only t ∧ t.ep k = { x with failRun := 0, cs := false })
        ∧ (x.atSetup = false → GivesOn k (.splitResult e .nak) s (fun t => only t ∧ (t.ep k).split = false ∧ (t.ep k).inSplit = false ∧ (t.ep k).naks = x.naks + 1
            ∧ (t.ep k).failRun = 0 ∧ (t.ep k).tds = x.tds ∧ (t.ep k).credits = x.credits))
        ∧ (x.isIso = false → x.failRun + 1 < (s.ep r).retry → ∀ cs, GivesOn k (.splitResult e (if cs then .csFail else .ssFail)) s (fun t =>
            (t.ep k).split = cs ∧ (t.ep k).failRun = x.failRun + 1 ∧ (t.ep k).tds = x.tds ∧ (t.ep r).splitErr = min 255 ((s.ep r).splitErr + 1) ∧ (t.ep r).st = (s.ep r).st
              ∧ ∀ j, j ≠ k → j ≠ r → t.ep j = s.ep j))
        ∧ (∀ t0 ts, x.tds = t0 :: ts → Room 1 s → GivesOn k (.splitResult e .err) s (fun t => (t.ep r).st = .halted
            ∧ Transferred k ccSplit t0.addr (t0.len - x.done) t0.cookie s t ∧ (t.ep r).splitErr = min 255 ((s.ep r).splitErr + 1) ∧ ∀ j, epRoot j ≠ r → t.ep j = s.ep j))
        ∧ (∀ tog bytes, r = k → x.ty = 6 ∨ x.ty = 7 → x.inSplit = true → bytes.length ≤ x.mps →
            (b2n tog = s.nextTog k → GivesOn k (.splitResult e (.data tog bytes)) s (fun t => only t ∧ (t.ep k).pkts = x.pkts ++ [bytes] ∧ (t.ep k).split = false ∧ (t.ep k).inSplit = false
              ∧ (t.ep k).credits = x.credits ∧ (s.isSs k = false → (t.ep k).toggle = !x.toggle)))
            ∧ (b2n tog ≠ s.nextTog k → GivesOn k (.splitResult e (.data tog bytes)) s (fun t => only t ∧ t.ep k = { x with split := false, cs := false, inSplit := false, failRun := 0 }))))
    ∧ (∀ sl : SlotRef,
        let z := s.ep sl.ep0
        (Unheld sl.ep0 s → z.snoop = false ∨ (s.snooped sl.ep0).any s.epBusy = true → GivesOn sl.ep0 (.toggleSnoopReset sl) s (fun t => t = { s with blocked := [] }))
        ∧ (∀ t0, Unheld sl.ep0 s → z.snoop = true → (s.snooped sl.ep0).any s.epBusy = false → z.guest = false → z.evr < 256 → z.tds = [t0] → t0.ty = 4 → z.bad = none → z.skip = false → z.dataEnd = false →
            Room 1 s → GivesOn sl.ep0 (.toggleSnoopReset sl) s (fun t =>
              (∀ j ∈ s.snooped sl.ep0, (t.ep j).toggle = false ∧ (t.ep j).seq = 0) ∧ (∀ j, epRoot j ∉ s.snooped sl.ep0 → j ≠ sl.ep0 → t.ep j = s.ep j)
              ∧ (t.ep sl.ep0).snoop = false ∧ (t.ep sl.ep0).tds = [] ∧ (t.ep sl.ep0).cur = t0.next ∧ (t0.eoc = true → Transferred sl.ep0 ccSuccess t0.addr 0 t0.cookie s t)
              ∧ (bits z.setup 0 16 = 0x0500 → (t.slot sl.key).st = .addressed ∧ (t.slot sl.key).recovery = true)
              ∧ (bits z.setup 0 16 ≠ 0x0500 → t.slots = s.slots))))

/-- Connection, training, detach and errors (08 R278, R279, R283 – R285, R300 – R302). -/
def Obligations.LinkService : Prop :=
  ∀ (s : State) (p : Port),
    let l := s.link p
    let others := fun (t : State) => ∀ q, q ≠ p.val → t.link q = s.link q
    let idle := ({ s with blocked := [] } : State)
    let cnt := fun (lo w : Nat) (t : State) => t.fld (portReg p 0x10C) lo w = min (s.fld (portReg p 0x10C) lo w + 1) (2 ^ w - 1)
    (∀ low, l.u2.st = .disconnected → l.device = false →
        Gives (.usb2ConnectDebounce p low) s (fun t => others t ∧ (t.link p).ss = l.ss ∧ (Room 1 s → Noted p 1 0 s t)
          ∧ (s.autoReset p = false → (t.link p).u2 = { l.u2 with st := .attached, speed := if low then 0 else 1, maxSpeed := s.maxSpeed p } ∧ t.slots = s.slots ∧ t.eps = s.eps)
          ∧ (s.autoReset p = true → (t.link p).u2.st = .resetting ∧ (t.link p).u2.resetBy = .autoReset ∧ Out.bus p .usb2 (.reset false) ∈ t.out)))
    ∧ (∀ low, l.u2.st ≠ .disconnected ∨ l.device = true → Gives (.usb2ConnectDebounce p low) s (fun t => t = idle))
    ∧ (∀ gen2, l.ss.st = .disconnected → l.device = false → Gives (.ssTrainingU0 p gen2) s (fun t => others t ∧ (t.link p).u2 = l.u2
        ∧ (s.mode.mode = .fallow → 32 ≤ s.ssUp → (t.link p).ss = { l.ss with st := .withheld, cause := 2 } ∧ (Room 1 s → Noted p 9 2 s t) ∧ t.buses = s.buses)
        ∧ (s.mode.mode ≠ .fallow ∨ s.ssUp < 32 →
            (t.link p).ss = { l.ss with st := .enabled, speed := if gen2 = true ∧ s.maxSpeed p ≠ 3 then 4 else 3, trainRun := 0, ulink := 0, maxSpeed := s.maxSpeed p }
            ∧ (Room 1 s → Noted p 1 0 s t) ∧ (t.bus p).running = true ∧ ((s.bus p).running = true → t.buses = s.buses) ∧ ((s.bus p).running = false → (t.bus p).interval = 0))))
    ∧ (∀ gen2, l.ss.st ≠ .disconnected ∨ l.device = true → Gives (.ssTrainingU0 p gen2) s (fun t => t = idle))
    ∧ (l.ss.st = .disconnected → l.device = false → Gives (.ssTrainingTimeout p) s (fun t => others t ∧ (t.link p).u2 = l.u2 ∧ cnt 8 8 t
        ∧ (l.ss.trainRun + 1 < 3 → (t.link p).ss = { l.ss with trainRun := l.ss.trainRun + 1 })
        ∧ (3 ≤ l.ss.trainRun + 1 → (t.link p).ss = { l.ss with st := .withheld, cause := 1, trainRun := l.ss.trainRun + 1 } ∧ (Room 1 s → Noted p 9 1 s t))))
    ∧ (l.ss.st ≠ .disconnected ∨ l.device = true → Gives (.ssTrainingTimeout p) s (fun t => t = idle))
    ∧ (∀ sd, let c := match sd with | .usb2 => Instr.usb2Detach p | .ss => Instr.ssDetach p
        let x := l.side sd
        let n := ((s.sideSlots p sd).filter (fun k => !(s.slot k).gone)).length
        ((sd = .ss → s.profile p ≠ .typec) → x.st.holdsDevice = true ∨ x.st = .withheld → l.device = false → Gives c s (fun t =>
          (t.link p).side sd = { st := .disconnected, maxSpeed := s.maxSpeed p } ∧ (∀ d, d ≠ sd → (t.link p).side d = l.side d) ∧ (sd = .usb2 → others t)
          ∧ ((∀ k ∈ s.sideSlots p sd, s.slotRoots k = []) → s.ops = [] → (∀ k ∈ s.sideSlots p sd, (t.slot k).gone = true) ∧ (Room 1 s → Noted p 2 n s t))))
        ∧ ((sd = .ss ∧ s.profile p = .typec) ∨ (x.st.holdsDevice = false ∧ x.st ≠ .withheld) ∨ l.device = true → Gives c s (fun t => t = idle)))
    ∧ (l.device = false → Gives (.ssInactive p) s (fun t => cnt 16 16 t ∧ others t ∧ (t.link p).u2 = l.u2
        ∧ (l.ss.st = .enabled ∨ l.ss.st = .suspended ∨ l.ss.st = .resuming → (t.link p).ss.st = .error ∧ (s.autoWarm p = true → (t.link p).ss.quiet = true)
            ∧ (s.sideSlots p .ss = [] → Room 1 s → Noted p 8 0 s t))
        ∧ (l.ss.st ≠ .enabled → l.ss.st ≠ .suspended → l.ss.st ≠ .resuming → t.links = s.links ∧ t.eps = s.eps ∧ t.out = s.out)))
    ∧ (l.device = true → Gives (.ssInactive p) s (fun t => t = idle))
    ∧ (∀ loss, l.u2.st = .enabled ∨ l.u2.st = .suspended → l.device = false → Gives (.portBabble p loss) s (fun t => cnt 0 8 t ∧ others t ∧ (t.link p).ss = l.ss
        ∧ (t.link p).u2.st = .error ∧ (s.sideSlots p .usb2 = [] → Room 1 s → Noted p 7 (if loss then 2 else 1) s t)))
    ∧ (∀ loss, (l.u2.st ≠ .enabled ∧ l.u2.st ≠ .suspended) ∨ l.device = true → Gives (.portBabble p loss) s (fun t => t = idle))
    ∧ Gives (.ssRecoveryEntry p) s (fun t => cnt 16 16 t ∧ OnlyChanges [.regs, .blocked] s t ∧ ∀ off, off ≠ portReg p 0x10C → t.rget off = s.rget off)

/-- Remote wake, L1 and the U states (08 R272, R289, R290, R294 – R296; 09 R312). -/
def Obligations.LinkPower : Prop :=
  ∀ (s : State) (p : Port),
    let l := s.link p
    let idle := ({ s with blocked := [] } : State)
    let now := fun (sd : Side) (x : SideSt) (sent : List Out) (t : State) =>
      (t.link p) = l.sidePut sd x ∧ (∀ q, q ≠ p.val → t.link q = s.link q) ∧ t.out = sent ++ s.out ∧ OnlyChanges [.links, .out, .blocked] s t
    (∀ sd, let x := l.side sd
        (l.device = true → Gives (.remoteWakeDetected p sd) s (fun t => t = idle))
        ∧ (l.device = false →
          (x.st = .suspended → s.wakeEn p = true → Gives (.remoteWakeDetected p sd) s
            (now sd { x with st := .resuming, resumeBy := .remote, coincident := false, recovering := false, wakeVal := 0, wakeLatched := false }
              [.bus p sd (match sd with | .ss => .lfpsExit | .usb2 => .resumeK)]))
          ∧ (x.st = .suspended → s.wakeEn p = false → Gives (.remoteWakeDetected p sd) s (fun t => t = idle))
          ∧ (x.st = .resuming → x.resumeBy = .action → x.recovering = false → Gives (.remoteWakeDetected p sd) s (now sd { x with coincident := true } []))
          ∧ (x.st = .resuming → x.resumeBy ≠ .action ∨ x.recovering = true → Gives (.remoteWakeDetected p sd) s (fun t => t = idle))
          ∧ (x.st ≠ .suspended → x.st ≠ .resuming → x.suspending = true → x.quiesced = true → Gives (.remoteWakeDetected p sd) s (now sd { x with wakeLatched := true } []))
          ∧ (x.st ≠ .suspended → x.st ≠ .resuming → x.suspending = false ∨ x.quiesced = false → Gives (.remoteWakeDetected p sd) s (fun t => t = idle))))
    ∧ (s.l1May p = true → Gives (.l1IdleExpire p) s (now .usb2 { l.u2 with lpm := true } [.bus p .usb2 (.lpm (s.besl p) (s.l1Wake p))]))
    ∧ (s.l1May p = false → Gives (.l1IdleExpire p) s (fun t => t = idle))
    ∧ (l.u2.lpm = true → Gives (.lpmAnswer p .ack) s (now .usb2 { l.u2 with lpm := false, l1 := true } [])
        ∧ ∀ a, a ≠ .ack → Gives (.lpmAnswer p a) s (now .usb2 { l.u2 with lpm := false, lpmBar := true } []))
    ∧ (∀ a, l.u2.lpm = false → Gives (.lpmAnswer p a) s (fun t => t = idle))
    ∧ (∀ dev, l.u2.l1 = true → dev = false ∨ s.l1Wake p = true → Gives (.l1Exit p dev) s (now .usb2 { l.u2 with l1 := false } []))
    ∧ (∀ dev, l.u2.l1 = false ∨ (dev = true ∧ s.l1Wake p = false) → Gives (.l1Exit p dev) s (fun t => t = idle))
    ∧ (∀ u2 : Bool,
        let goal := if u2 then 2 else 1
        let allowed := if u2 then s.u2Timeout p else s.u1Timeout p
        let unserved := (s.bus p).todo.any (fun y => s.isSs y.key) || (s.bus p).turn.any (fun k => s.isSs k && !(s.ep k).tds.isEmpty && !(s.ep (epRoot k)).waiting)
        let entered := { l.ss with ulink := goal }
        (l.ss.st = .enabled → l.device = false → allowed ≠ 0 → l.ss.ulink < goal → unserved = false →
          Gives (.uStateTimerExpire p u2) s (now .ss entered [.bus p .ss (.uEntry u2)]))
        ∧ (l.ss.st ≠ .enabled ∨ l.device = true ∨ allowed = 0 ∨ goal ≤ l.ss.ulink ∨ unserved = true →
          Gives (.uStateTimerExpire p u2) s (fun t => t = idle))
        ∧ (l.ss.st ≠ .enabled → Gives (.u1U2EntryRequest p u2) s (fun t => t = idle))
        ∧ (l.ss.st = .enabled →
          let may := if l.device then (if u2 then s.devU2 p else s.devU1 p) else allowed != 0
          (may = true → Gives (.u1U2EntryRequest p u2) s (now .ss entered [.bus p .ss (.uAccept u2)]))
          ∧ (may = false → Gives (.u1U2EntryRequest p u2) s (fun t => t = { idle with out := .bus p .ss .uReject :: s.out }))))
    ∧ Gives (.deviceNotificationReceived p .latencyTolerance) s (fun t => t = idle)
    ∧ (∀ route, (l.ss.st ≠ .resuming → Gives (.deviceNotificationReceived p (.functionWake route)) s (fun t => t = idle))
        ∧ (l.ss.st = .resuming → (∀ k ∈ s.sideSlots p .ss, (s.slot k).route ≠ route.toNat) → Gives (.deviceNotificationReceived p (.functionWake route)) s (now .ss { l.ss with wakeVal := 0 } []))
        ∧ (∀ k, l.ss.st = .resuming → (s.sideSlots p .ss).filter (fun j => (s.slot j).route == route.toNat) = [k] →
            Gives (.deviceNotificationReceived p (.functionWake route)) s (now .ss { l.ss with wakeVal := k % 16384 } [])))

/-- The external host's bus (09 R315, R318, R331 – R336). -/
def Obligations.GuestBusRows : Prop :=
  ∀ (s : State) (p : Port),
    let g := s.guest p
    let key := slotKey g.owner g.bell
    let k := s.guestKey p 0
    let idle := ({ s with blocked := [] } : State)
    let others := fun (t : State) => ∀ q, q ≠ p.val → t.guest q = s.guest q ∧ t.link q = s.link q
    let x := (s.link p).side g.side
    let quiet := ∀ r ∈ s.slotRoots key, (s.ep r).st ≠ .idle ∧ (s.ep r).st ≠ .running
    (g.st = .ready → g.present = false → g.connectReq = true → (s.link p).device = true → s.fnExists (s.portFunc p) = true →
        Gives (.guestPresent p) s (fun t => t.guest p = { g with present := true, seq := add32 g.seq 1 } ∧ others t ∧ OnlyChanges [.guests] s t))
    ∧ (g.st ≠ .ready ∨ g.present = true ∨ g.connectReq = false ∨ (s.link p).device = false ∨ s.fnExists (s.portFunc p) = false → Gives (.guestPresent p) s (fun t => t = s))
    ∧ (g.present = false → Gives (.guestBusReset p) s (fun t => t = idle))
    ∧ (g.present = true → (s.ep k).tds = [] → (s.ep k).inXfer = false → (s.ep k).bad = none → s.ops = [] →
        (∀ r ∈ s.slotRoots key, keyEp r ≠ 0 → (s.ep r).st ≠ .idle ∧ (s.ep r).st ≠ .running) → Gives (.guestBusReset p) s (fun t =>
          t.guest p = { g with dropped := if g.held then min 65535 (g.dropped + 1) else g.dropped, held := false, setup := 0, newAddr := none, addrSent := false, address := 0, suspended := false, st := .dflt, resetting := true, oldSpeed := g.speed, wakeDriving := false, seq := add32 g.seq 1 }
          ∧ (t.link p).side g.side = { x with st := .resetting, l1 := false, ulink := 0 } ∧ others t
          ∧ (∀ r ∈ s.slotRoots key, (t.ep r).toggle = false ∧ (t.ep r).seq = 0 ∧ (keyEp r ≠ 0 → (s.ep r).st = .halted → (t.ep r).st = .paused))
          ∧ (∀ j, keySlot j ≠ key → t.ep j = s.ep j)))
    ∧ (∀ sp, g.resetting = false ∨ g.attains (speedCode sp) = false → Gives (.guestResetEnd p sp) s (fun t => t = idle))
    ∧ (∀ sp, let v := speedCode sp
        let rest := (s.slotRoots key).filter (fun r => keyEp r != 0)
        let lost := ((rest.flatMap s.epAll).map (fun j => (s.ep j).residual)).sum
        g.resetting = true → g.attains v = true → Room 1 s → Gives (.guestResetEnd p sp) s (fun t => Noted p 0x20 v s t ∧ others t
          ∧ (t.link p).side g.side = { x with st := .enabled, speed := v }
          ∧ (v = g.oldSpeed → t.guest p = { g with speed := v, resetting := false, seq := add32 g.seq 1 } ∧ t.ep k = { s.ep k with mps := guestMps v } ∧ ∀ j, j ≠ k → t.ep j = s.ep j)
          ∧ (v ≠ g.oldSpeed → t.guest p = { g with speed := v, resetting := false, discarded := min 16777215 (g.discarded + lost), ctxCount := 1, seq := add32 g.seq 1 }
              ∧ ∀ r ∈ rest, ∀ j ∈ s.epAll r, j ≠ k → t.ep j = {})))
    ∧ (s.guestServes p = true → g.st ≠ .ready → Room 1 s → Gives (.guestSuspendDetect p) s (fun t => Noted p 0x22 0 s t ∧ others t ∧ t.eps = s.eps
        ∧ t.guest p = { g with suspended := true, seq := add32 g.seq 1 } ∧ (t.link p).side g.side = { x with st := .suspended, l1 := false, ulink := if g.side = .ss then 3 else 0 }))
    ∧ (s.guestServes p = false ∨ g.st = .ready → Gives (.guestSuspendDetect p) s (fun t => t = idle))
    ∧ (g.suspended = false → Gives (.guestResumeDetect p) s (fun t => t = idle))
    ∧ (g.suspended = true →
        let woken := fun (t : State) => t.guest p = { g with suspended := false, wakeDriving := false, seq := add32 g.seq 1 } ∧ (t.link p).side g.side = { x with st := .enabled, ulink := 0 } ∧ others t ∧ t.eps = s.eps
        (s.opFind (guestWaking p) = none → Room 1 s → Gives (.guestResumeDetect p) s (fun t => woken t ∧ Noted p 0x23 0 s t ∧ t.ops = s.ops))
        ∧ (∀ o, s.opFind (guestWaking p) = some o → s.pcie.flr.contains o.h.fn.val = false → Room 2 s → Gives (.guestResumeDetect p) s (fun t => woken t ∧ Noted p 0x23 1 s t
            ∧ Answered o.h 0x20 ccSuccess 0 p s t ∧ t.ops = s.ops.filter (fun o => !guestWaking p o) ∧ (g.side = .ss → Out.bus p .ss (.functionWake g.wakeIface) ∈ t.out))))
    ∧ (let gone := fun (v : Nat) (t : State) => Noted p 0x24 v s t ∧ others t ∧ (t.link p).side g.side = { st := .disconnected, maxSpeed := s.maxSpeed p }
          ∧ t.guest p = { g with present := false, st := .ready, suspended := false, resetting := false, newAddr := none, addrSent := false, stallSetup := false, seq := add32 g.seq 1 }
          ∧ (∀ r ∈ s.slotRoots key, (s.ep r).st = .halted → (t.ep r).st = .paused) ∧ (∀ j, keySlot j ≠ key → t.ep j = s.ep j)
       (∀ cause, g.present = true → quiet → s.ops = [] → Room 1 s → Gives (.guestHostGone p cause) s (gone (match cause with | .disconnect => 1 | .vbus => 2 | .cc => 3 | .ssLink => 4 | .role => 5)))
       ∧ (g.side = .ss → g.present = true → quiet → s.ops = [] → Room 1 s → Gives (.guestSsLinkTimeout p) s (gone 4)))
    ∧ (∀ cause, g.present = false → Gives (.guestHostGone p cause) s (fun t => t = idle))
    ∧ (g.side = .usb2 ∨ g.present = false → Gives (.guestSsLinkTimeout p) s (fun t => t = idle))

/-- Transfers of a guest (09 R312, R319, R324 – R330; 05 R191; 07 R254). -/
def Obligations.GuestTransferRows : Prop :=
  ∀ (s : State) (p : Port),
    let g := s.guest p
    let z := s.guestKey p 0
    let idle := ({ s with blocked := [] } : State)
    let others := fun (t : State) => ∀ q, q ≠ p.val → t.guest q = s.guest q
    let tells := fun (b : BusOut) (t : State) => t = { idle with out := .bus p g.side b :: s.out }
    (∀ pkt : BitVec 64, s.guestServes p = true → g.newAddr = none ∨ g.addrSent = false →
        let v := bits pkt.toNat 16 16
        let y := { g with dropped := if g.held then min 65535 (g.dropped + 1) else g.dropped, held := false, setup := 0, newAddr := none, addrSent := false, stallSetup := false, seq := add32 g.seq 1 }
        Gives (.guestSetupReceived p pkt) s (fun t => others t ∧ Out.bus p g.side (.ack 0) ∈ t.out ∧ (t.ep z).credits = [] ∧ (t.ep z).staged = [] ∧ (∀ j, epRoot j ≠ z → t.ep j = s.ep j)
          ∧ t.guest p = (if bits pkt.toNat 0 16 = 0x0500 ∧ bits pkt.toNat 32 32 = 0 then (if v ≤ 127 ∧ g.st ≠ .ready then { y with newAddr := some v } else { y with stallSetup := true })
              else { y with held := true, setup := pkt.toNat })))
    ∧ (∀ pkt, s.guestServes p = false → Gives (.guestSetupReceived p pkt) s (fun t => t = idle))
    ∧ (∀ t0, g.held = true → g.bell < 16384 → g.owner < 129 → (s.ep z).st = .running → (s.ep z).skip = false → (s.ep z).guest = true → (s.ep z).bad = none → (s.ep z).evr < 256 → (s.ep z).tds = [t0] → t0.ty = 2 → Room 1 s →
        Gives (.guestSetupDeliver p) s (fun t => t.guest p = { g with held := false, setup := 0, seq := add32 g.seq 1 } ∧ others t ∧ (∀ j, epRoot j ≠ z → t.ep j = s.ep j)
          ∧ (t.ep z).setup = g.setup ∧ (t.ep z).toggle = true ∧ (t.ep z).seq = 0 ∧ (t.ep z).tds = [] ∧ (t.ep z).cur = t0.next ∧ Transferred z ccSuccess t0.addr 0 t0.cookie s t
          ∧ (s.pcie.own t0.buf = false → Out.dataWrite g.owner t0.buf (s.cfgFn g.owner).relaxed (leBytes 8 g.setup) ∈ t.out)))
    ∧ (g.held = false ∨ (s.ep z).st ≠ .running ∨ (s.ep z).skip = true ∨ (∀ t0 ∈ (s.ep z).tds.head?, t0.ty ≠ 2) → Gives (.guestSetupDeliver p) s (fun t => t = idle))
    ∧ (∀ ep c, s.guestServes p = false → Gives (.guestToken p ep c) s (fun t => t = idle))
    ∧ (∀ ep, s.guestServes p = true → g.side = .usb2 →
        (s.devL1 p = true → Gives (.guestToken p ep .tokLpm) s (fun t => (t.link p).u2 = { (s.link p).u2 with l1 := true } ∧ t.out = .bus p .usb2 .lpmAck :: s.out ∧ OnlyChanges [.links, .out, .blocked] s t))
        ∧ (s.devL1 p = false → Gives (.guestToken p ep .tokLpm) s (tells .lpmNyet)))
    ∧ (∀ ep, s.guestServes p = true → g.side = .ss → Gives (.guestToken p ep .tokLpm) s (fun t => t = idle))
    ∧ (∀ (ep : Fin 31), let k := s.guestKey p ep
        let x := s.ep k
        let only := fun (t : State) => (∀ j, j ≠ k → t.ep j = s.ep j) ∧ t.guests = s.guests
        let waits := fun (c : Instr) => (s.isSs k = true → Gives c s (fun t => only t ∧ t.ep k = { x with owesErdy := true } ∧ t.out = .bus p g.side (.nrdy ep) :: s.out))
          ∧ (s.isSs k = false → Gives c s (tells (.nak ep)))
        s.guestServes p = true → ep.val ≠ 0 → x.st ≠ .closed → x.ty ≠ 1 →
        (x.rx = true → x.periodic = false → g.speed = 2 →
          (x.st = .halted → Gives (.guestToken p ep .tokPing) s (tells (.stall ep)))
          ∧ (s.guestRuns p k = true → x.credits ≠ [] → Gives (.guestToken p ep .tokPing) s (tells (.ack ep)))
          ∧ (x.st ≠ .halted → s.guestRuns p k = false ∨ x.credits = [] → Gives (.guestToken p ep .tokPing) s (tells (.nak ep))))
        ∧ (x.rx = true → Gives (.guestToken p ep .tokIn) s (fun t => t = idle))
        ∧ (x.rx = false →
          (x.st = .halted → Gives (.guestToken p ep .tokIn) s (tells (.stall ep)))
          ∧ (x.isIso = false → x.st ≠ .halted → s.guestRuns p k = false ∨ x.tds = [] ∨ x.staged = [] → (∀ d ∈ x.tds.head?, d.ty ≠ 4) → waits (.guestToken p ep .tokIn))
          ∧ (∀ d ds pk pks, x.isIso = false → s.guestRuns p k = true → x.tds = d :: ds → d.ty ≠ 4 → x.staged = pk :: pks → Gives (.guestToken p ep .tokIn) s (fun t => only t
              ∧ t.ep k = { x with wire := true, begun := true } ∧ t.out = .bus p g.side (.data ep (s.nextTog k) pk) :: s.out))
          ∧ (x.isIso = true → x.st ≠ .halted → x.staged = [] → Gives (.guestToken p ep .tokIn) s (fun t => only t ∧ t.ep k = { x with empty := x.empty + 1 } ∧ t.out = .bus p g.side (.data ep 0 []) :: s.out)))
        ∧ (∀ (tog : BitVec 5) bytes,
          let c := Instr.guestOutPacket p ep tog bytes
          (x.rx = false ∨ x.mps < bytes.length → Gives c s (fun t => t = idle))
          ∧ (x.rx = true → x.isIso = false → bytes.length ≤ x.mps →
            (x.st = .halted → Gives c s (tells (.stall ep)))
            ∧ (x.st ≠ .halted → tog.toNat ≠ s.nextTog k → Gives c s (tells (.ack ep)))
            ∧ (x.st ≠ .halted → tog.toNat = s.nextTog k → (s.guestRuns p k = false ∧ x.rev = none) ∨ (s.guestRuns p k = true ∧ x.credits = []) → waits c)
            ∧ (epRoot k = k → x.inSplit = false → s.guestRuns p k = true → tog.toNat = s.nextTog k → x.credits ≠ [] → Gives c s (fun t => only t ∧ (t.ep k).pkts = x.pkts ++ [bytes] ∧ (t.ep k).credits = x.credits.tail
                ∧ (if s.isSs k then (t.ep k).seq = (x.seq + 1) % 32 else (t.ep k).toggle = !x.toggle)
                ∧ t.out = .bus p g.side (if g.speed = 2 ∧ x.periodic = false ∧ x.credits.length = 1 then .nyet ep else .ack ep) :: s.out)))
          ∧ (x.rx = true → x.isIso = true → bytes.length ≤ x.mps → x.tds = [] ∨ x.credits = [] → Gives c s (fun t => only t ∧ t.ep k = { x with empty := x.empty + 1 } ∧ t.out = s.out)))
        ∧ (∀ acked, Unheld k s → x.wire = false → Gives (.guestInHandshake p ep acked) s (fun t => t = idle))
        ∧ (Unheld k s → x.wire = true → x.rev = none → s.opFind (fun o => o.pauses (epRoot k)) = none →
          Gives (.guestInHandshake p ep false) s (fun t => only t ∧ t.ep k = { x with wire := false })
          ∧ (∀ d ds pk pks, epRoot k = k → x.isIso = false → x.tds = d :: ds → d.ty = 1 → x.staged = pk :: pks → x.skip = false → x.dataEnd = false → pk.length < d.len - x.done →
              Gives (.guestInHandshake p ep true) s (fun t => only t ∧ (t.ep k).staged = pks ∧ (t.ep k).done = x.done + pk.length ∧ (t.ep k).tds = x.tds
                ∧ (if s.isSs k then (t.ep k).seq = (x.seq + 1) % 32 else (t.ep k).toggle = !x.toggle)))))
    ∧ (∀ acked, s.guestServes p = false → Unheld z s → Gives (.guestInHandshake p 0 acked) s (fun t => t = idle))
    ∧ (∀ a, s.guestServes p = true → g.addrSent = true → g.newAddr = some a → Unheld z s →
        (Room 1 s → Gives (.guestInHandshake p 0 true) s (fun t => t.guest p = { g with address := a, st := if a = 0 then .dflt else .addressed, newAddr := none, addrSent := false, seq := add32 g.seq 1 }
          ∧ others t ∧ t.eps = s.eps ∧ Noted p 0x21 a s t))
        ∧ Gives (.guestInHandshake p 0 false) s (fun t => t = idle))

/-- Connections (10 R343 – R351, R354, R355; 02 R71, R72; 12 R424). -/
def Obligations.TypeCConnect : Prop :=
  ∀ (s : State) (p : Port),
    let x := s.tc p
    let idle := ({ s with blocked := [] } : State)
    let hold := (s.bed (bedOf p)).isolating = true
    let cfg := s.rget (portReg p 0x400)
    let said := fun (change : Nat) (t : State) => Posted (s.portOwner p) (fun e => e.ty = evPort ∧ e.src = p.val ∧ e.ptr = change ∧ e.count / 65536 = 0) s t
    let set := fun (v : Tc) (t : State) => t.tc p = v ∧ (∀ q, q ≠ p.val → t.tc q = s.tc q) ∧ OnlyChanges [.tcs, .blocked] s t
    let unatt := fun (src : Bool) (t : State) =>
      let r := if bits cfg 2 2 = 2 then src else bits cfg 2 2 == 0
      (t.tc p).st = (if r then .unattachedSrc else .unattachedSnk) ∧ (t.tc p).source = r ∧ (t.tc p).rp = (if r then min 2 (bits cfg 6 2) + 1 else 0) ∧ (t.tc p).cfg = BitVec.ofNat 32 cfg
        ∧ (t.tc p).cc1 = x.cc1 ∧ (t.tc p).cc2 = x.cc2 ∧ (t.tc p).quarantine = false
    let toggles := fun (c : Instr) (src : Bool) => Gives c s (fun t => unatt src t ∧ (∀ q, q ≠ p.val → t.tc q = s.tc q) ∧ OnlyChanges [.tcs, .blocked] s t)
    let attach := fun (st : TcSt) (src : Bool) => Gives (.ccAttachDebounce p) s (fun t =>
      let o := if src then x.srcOrient else x.snkOrient
      let cable := src && st == .attachedSrc && (if o then x.cc1 else x.cc2).isRa
      (t.tc p).st = st ∧ (t.tc p).orient = o ∧ (t.tc p).source = src ∧ (t.tc p).dfp = src ∧ (t.tc p).vconnSrc = cable ∧ (t.tc p).vconnOn = (cable && bit x.cfg.toNat 8)
        ∧ (t.link p).lane = (o && st != .unorientedDebug) ∧ (t.pd p).attached = (bit x.cfg.toNat 14 && st != .audio && st != .unorientedDebug) ∧ (x.rp < 4 → Room 1 s → said 0x30 t))
    let detach := fun (c : Instr) => Gives c s (fun t => unatt false t ∧ t.pd p = {} ∧ (t.path p).st = .off ∧ (s.ops = [] → Room 5 s → said 0x31 t))
    (∀ a b, let v := { x with cc1 := a, cc2 := b, attachDue := false }
        let c := Instr.ccTerminationChange p a b
        (x.reading = true ∨ hold ∨ s.persisting p = true → Gives c s (set v))
        ∧ (x.reading = false → (s.bed (bedOf p)).isolating = false → s.persisting p = false →
          (x.st = .unattachedSrc → Gives c s (set (if v.waitsSrc then { v with st := .attachWaitSrc } else v)))
          ∧ (x.st = .unattachedSnk → Gives c s (set (if v.waitsSnk then { v with st := .attachWaitSnk } else v)))
          ∧ (x.st = .attachWaitSrc → v.waitsSrc = true → Gives c s (set v))
          ∧ (x.st = .attachWaitSrc → v.waitsSrc = false → Gives c s (fun t => (t.tc p).st = (if bits cfg 2 2 = 0 then .unattachedSrc else .unattachedSnk) ∧ (t.tc p).cc1 = a ∧ (t.tc p).cc2 = b
              ∧ ∀ q, q ≠ p.val → t.tc q = s.tc q))
          ∧ (x.st = .attachedSnk ∨ x.st = .debugSnk → let l := if x.orient then b.level else a.level; Gives c s (set (if l = 0 then v else { v with rp := l })))
          ∧ (x.st = .unorientedDebug → a.isRd = true → b.isRd = true → Gives c s (set v))
          ∧ (x.st = .unorientedDebug → a.isRd = true → b.isRd = false → Gives c s (fun t => t.tc p = { v with st := .orientedDebug, orient := false } ∧ (t.link p).lane = false))
          ∧ (x.st = .unorientedDebug → a.isRd = false → b.isRd = true → Gives c s (fun t => t.tc p = { v with st := .orientedDebug, orient := true } ∧ (t.link p).lane = true))
          ∧ (x.st ∉ [.unattachedSrc, .unattachedSnk, .attachWaitSrc, .attachedSnk, .debugSnk, .unorientedDebug] → Gives c s (set v))))
    ∧ (x.reading = true ∨ hold → Gives (.ccAttachDebounce p) s (fun t => t = idle))
    ∧ (x.reading = false → (s.bed (bedOf p)).isolating = false → (s.bed (bedOf p)).testing = true → Gives (.ccAttachDebounce p) s (set { x with attachDue := true }))
    ∧ (x.reading = false → (s.bed (bedOf p)).isolating = false → (s.bed (bedOf p)).testing = false →
        (x.st = .attachWaitSrc → (x.seesDebugSink = true → attach .unorientedDebug true)
          ∧ (x.seesDebugSink = false → x.seesAudio = true → attach .audio true)
          ∧ (x.seesDebugSink = false → x.seesAudio = false → x.seesSink = true → (x.tryRole = 2 → Gives (.ccAttachDebounce p) s (set { x with st := .trySnk, source := false, rp := 0 }))
              ∧ (x.tryRole ≠ 2 → attach .attachedSrc true))
          ∧ (x.seesDebugSink = false → x.seesAudio = false → x.seesSink = false → Gives (.ccAttachDebounce p) s (fun t => t = idle)))
        ∧ (x.st = .attachWaitSnk → (x.seesDebugSource = true → attach .debugSnk false)
          ∧ (x.seesDebugSource = false → x.seesSource = true → (x.tryRole = 1 → Gives (.ccAttachDebounce p) s (set { x with st := .trySrc, source := true, rp := min 2 (bits x.cfg.toNat 6 2) + 1 }))
              ∧ (x.tryRole ≠ 1 → attach .attachedSnk false))
          ∧ (x.seesDebugSource = false → x.seesSource = false → Gives (.ccAttachDebounce p) s (fun t => t = idle)))
        ∧ (x.st = .trySrc ∨ x.st = .tryWaitSrc → (x.seesSink = true → attach .attachedSrc true) ∧ (x.seesSink = false → Gives (.ccAttachDebounce p) s (fun t => t = idle)))
        ∧ (x.st = .trySnk ∨ x.st = .tryWaitSnk → (x.seesSource = true → attach .attachedSnk false) ∧ (x.seesSource = false → Gives (.ccAttachDebounce p) s (fun t => t = idle)))
        ∧ (x.st ∉ [.attachWaitSrc, .attachWaitSnk, .trySrc, .tryWaitSrc, .trySnk, .tryWaitSnk] → Gives (.ccAttachDebounce p) s (fun t => t = idle)))
    ∧ (s.persisting p = true → Gives (.ccDetachDebounce p) s (fun t => t.persisting p = false ∧ t.boot.persistEnds = s.boot.persistEnds ++ [(p.val, 1)] ∧ t.pd p = {}
        ∧ (t.path p).st = .off ∧ (t.tc p).st = .disabled ∧ ∀ q, q ≠ p.val → t.tc q = s.tc q ∧ t.path q = s.path q))
    ∧ (s.persisting p = false → hold → Gives (.ccDetachDebounce p) s (fun t => t = idle))
    ∧ (s.persisting p = false → (s.bed (bedOf p)).isolating = false →
        (x.st ∈ [.attachedSrc, .unorientedDebug, .orientedDebug, .audio] → detach (.ccDetachDebounce p))
        ∧ (x.st = .attachWaitSnk → toggles (.ccDetachDebounce p) true) ∧ (x.st = .tryWaitSnk → toggles (.ccDetachDebounce p) false)
        ∧ (x.st ∉ [.attachedSrc, .unorientedDebug, .orientedDebug, .audio, .attachWaitSnk, .tryWaitSnk] → Gives (.ccDetachDebounce p) s (fun t => t = idle)))
    ∧ (let directed := (s.pd p).sinkWait = true ∨ ∃ m, (s.pd p).swap = .transit .pr m
       ((s.bed (bedOf p)).isolating = false → ¬ directed → x.st = .attachedSnk ∨ x.st = .debugSnk → detach (.vbusSinkDisconnect p))
       ∧ (hold ∨ directed ∨ (x.st ≠ .attachedSnk ∧ x.st ≠ .debugSnk) → Gives (.vbusSinkDisconnect p) s (fun t => t = idle)))
    ∧ (s.isDrp p = true → (x.st = .unattachedSnk → toggles (.drpPeriodExpire p) true) ∧ (x.st = .unattachedSrc → toggles (.drpPeriodExpire p) false))
    ∧ (s.isDrp p = false ∨ (x.st ≠ .unattachedSnk ∧ x.st ≠ .unattachedSrc) → Gives (.drpPeriodExpire p) s (fun t => t = idle))
    ∧ (let c := Instr.tryTimerExpire p
       (x.st = .trySrc → x.seesSink = false → Gives c s (set { x with st := .tryWaitSnk, source := false, rp := 0 }))
       ∧ (x.st = .trySnk → x.seesSource = false → Gives c s (set { x with st := .tryWaitSrc, source := true, rp := min 2 (bits x.cfg.toNat 6 2) + 1 }))
       ∧ (x.st = .tryWaitSrc → x.seesSink = false → toggles c false) ∧ (x.st = .tryWaitSnk → x.seesSource = false → toggles c false)
       ∧ ((x.st = .trySrc ∨ x.st = .tryWaitSrc) → x.seesSink = true → Gives c s (fun t => t = idle))
       ∧ ((x.st = .trySnk ∨ x.st = .tryWaitSnk) → x.seesSource = true → Gives c s (fun t => t = idle))
       ∧ (x.st ∉ [.trySrc, .trySnk, .tryWaitSrc, .tryWaitSnk] → Gives c s (fun t => t = idle)))
    ∧ (x.st = .errorRecovery → toggles (.errorRecoveryExpire p) true)
    ∧ (x.st ≠ .errorRecovery → Gives (.errorRecoveryExpire p) s (fun t => t = idle))

/-- The guards of a connector and its UART bridge (10 R353, R357 – R360, R366, R369 – R372). -/
def Obligations.TypeCGuard : Prop :=
  ∀ (s : State) (p : Port),
    let x := s.tc p
    let b := s.brg p
    let idle := ({ s with blocked := [] } : State)
    let others := fun (t : State) => ∀ q, q ≠ p.val → t.tc q = s.tc q
    let cfg := s.rget (portReg p 0x400)
    let said := fun (change detail : Nat) (t : State) => Posted (s.portOwner p) (fun e => e.ty = evPort ∧ e.src = p.val ∧ e.ptr = change ∧ e.count / 65536 = detail) s t
    let rests := x.st = .unattachedSnk ∨ x.st = .unattachedSrc
    let may := x.moistEn = true ∧ (s.bed (bedOf p)).isolating = false ∧ (rests ∨ x.st = .drying)
    let own := s.portOwner p
    let flr := s.pcie.flr.contains own
    (may → Gives (.moistureReadingStart p) s (fun t => t.tc p = { x with reading := true } ∧ others t ∧ OnlyChanges [.tcs] s t))
    ∧ (¬ may → Gives (.moistureReadingStart p) s (fun t => t = s))
    ∧ (∀ m, x.reading = false → Gives (.moistureReadingDone p m) s (fun t => t = idle))
    ∧ (∀ m, let c := Instr.moistureReadingDone p m
        let v := { x with reading := false, wetLast := x.wet m }
        x.reading = true →
        (x.st = .drying →
          (x.wet m = true → Gives c s (fun t => t.tc p = { v with dry := 0 } ∧ others t))
          ∧ (x.wet m = false → x.dry < 2 → Gives c s (fun t => t.tc p = { v with dry := x.dry + 1 } ∧ others t))
          ∧ (x.wet m = false → 2 ≤ x.dry → Gives c s (fun t => (t.tc p).st = (if bits cfg 2 2 = 0 then .unattachedSrc else .unattachedSnk) ∧ (t.tc p).dry = 0 ∧ (t.tc p).wetLast = false ∧ others t
              ∧ (Room 1 s → said 0x32 0 t))))
        ∧ (rests →
          (x.wet m = true → Gives c s (fun t => t.tc p = { v with st := .drying, dry := 0, rp := 0 } ∧ others t ∧ (Room 1 s → said 0x32 1 t)
              ∧ t.fld (portReg p 0x418) 26 6 = min (s.fld (portReg p 0x418) 26 6 + 1) 63))
          ∧ (x.wet m = false → (x.st = .unattachedSrc → x.waitsSrc = false) → (x.st = .unattachedSnk → x.waitsSnk = false) → Gives c s (fun t => t.tc p = v ∧ others t))
          ∧ (x.wet m = false → x.st = .unattachedSrc → x.waitsSrc = true → Gives c s (fun t => t.tc p = { v with st := .attachWaitSrc } ∧ others t))
          ∧ (x.wet m = false → x.st = .unattachedSnk → x.waitsSnk = true → Gives c s (fun t => t.tc p = { v with st := .attachWaitSnk } ∧ others t)))
        ∧ (¬ rests → x.st ≠ .drying → Gives c s (fun t => t.tc p = v ∧ others t)))
    ∧ (∀ oc : Bool, let c := if oc then Instr.vconnOcTrip p else .vconnShortTrip p
        (x.vconnOn = false → Gives c s (fun t => t = idle))
        ∧ (x.vconnOn = true → Light (4 * p + 1) s → Gives c s (fun t => (t.tc p).vconnOn = false ∧ (t.tc p).vconnTripped = true ∧ others t ∧ Recorded (4 * p + 1) (if oc then 2 else 3) s t
            ∧ t.fld (portReg p 0x418) 20 6 = min (s.fld (portReg p 0x418) 20 6 + 1) 63 ∧ (t.pd p).cableKnown = ((s.pd p).cableKnown && !(s.pd p).attached)
            ∧ (x.rp < 4 → Room 1 s → said 0x34 (if oc then 1 else 2) t))))
    ∧ Gives (.floodBucketRoll p) s (fun t => t.tc p = { x with buckets := 0 :: x.buckets.take 7 } ∧ others t ∧ OnlyChanges [.tcs] s t)
    ∧ (x.quarantine = false ∨ bits x.guard.toNat 16 8 = 0 ∨ x.floodLimit < x.flood → Gives (.quarantineReleaseExpire p) s (fun t => t = idle))
    ∧ (x.quarantine = true → bits x.guard.toNat 16 8 ≠ 0 → x.flood ≤ x.floodLimit → Gives (.quarantineReleaseExpire p) s (fun t =>
        (t.tc p).st = .errorRecovery ∧ (t.tc p).quarantine = false ∧ t.pd p = {} ∧ (t.path p).st = .off ∧ (s.ops = [] → Room 5 s → said 0x33 3 t)))
    ∧ (∀ txProd rxCons tx, let c := Instr.bridgePoll p txProd rxCons tx
        let got := b.txBytes ++ tx.take (sub32 txProd.toNat b.txProd)
        (x.bridge = false ∨ flr = true → Gives c s (fun t => t = idle))
        ∧ (x.bridge = true → flr = false → Gives c s (fun t => t.brg p = { b with txProd := txProd.toNat, rxCons := rxCons.toNat, txBytes := got, rxBytes := [], rxWritten := b.rxProd }
            ∧ (∀ q, q ≠ p.val → t.brg q = s.brg q) ∧ (b.rxBytes = [] → t.out = s.out)
            ∧ (b.rxBytes ≠ [] → Wrote own (s.brgBase p + 0x80) (leBytes 4 b.rxProd) s t ∧ Wrote own (s.brgBase p + (0x2000 + b.rxWritten % 4096)) (b.rxBytes.take (4096 - b.rxWritten % 4096)) s t)
            ∧ (b.rxBytes ≠ [] → rxCons.toNat = b.rxWritten → Room 1 s → Noted p 0x36 (sub32 b.rxProd rxCons.toNat % 8192) s t))))
    ∧ (∀ y bad, let c := Instr.uartByteReceived p y bad
        let full := 4096 < sub32 (add32 b.rxProd 1) b.rxCons
        (x.bridge = false → Gives c s (fun t => t = s))
        ∧ (x.bridge = true → bad = true → Gives c s (fun t => t.fld (portReg p 0x42C) 16 16 = min (s.fld (portReg p 0x42C) 16 16 + 1) 65535 ∧ OnlyChanges [.regs] s t))
        ∧ (x.bridge = true → bad = false → full → Gives c s (fun t => t.fld (portReg p 0x42C) 0 16 = min (s.fld (portReg p 0x42C) 0 16 + 1) 65535 ∧ OnlyChanges [.regs] s t))
        ∧ (x.bridge = true → bad = false → ¬ full → Gives c s (fun t => t.brg p = { b with rxProd := add32 b.rxProd 1, rxBytes := b.rxBytes ++ [y] } ∧ (∀ q, q ≠ p.val → t.brg q = s.brg q)
            ∧ OnlyChanges [.brgs] s t)))
    ∧ (x.bridge = false ∨ b.txBytes = [] → Gives (.uartByteSent p) s (fun t => t = s))
    ∧ (∀ y ys, x.bridge = true → b.txBytes = y :: ys → Gives (.uartByteSent p) s (fun t => t.brg p = { b with txBytes := ys, txCons := add32 b.txCons 1 }
        ∧ Out.uart p (s.txOnSbu1 p) y ∈ t.out ∧ (flr = false → Wrote own (s.brgBase p + 0x40) (leBytes 4 (add32 b.txCons 1)) s t) ∧ OnlyChanges [.brgs, .out] s t))

/-- The power path (12 R420 – R428, R440; 11 R400; 02 R48, R71, R72; 15 R513). -/
def Obligations.PathStates : Prop :=
  ∀ (s : State) (p : Port),
    let x := s.path p
    let idle := ({ s with blocked := [] } : State)
    let others := fun (t : State) => ∀ q, q ≠ p.val → t.path q = s.path q
    let set := fun (v : Path) (t : State) => t.path p = v ∧ others t ∧ OnlyChanges [.paths, .blocked] s t
    let cnt := fun (lo : Nat) (t : State) => t.fld (portReg p 0x620) lo 8 = min (s.fld (portReg p 0x620) lo 8 + 1) 255
    let ramps := fun (mv ma : Nat) (sink : Bool) (t : State) => others t ∧ (t.path p).st = .ramp ∧ (t.path p).sinking = sink ∧ (t.path p).target = mv
      ∧ (t.path p).fb = (if sink then 0 else fbCode (s.hook p) mv) ∧ (t.path p).ocp = s.ocpOf p ma ∧ (t.path p).pg = false
    let trips := fun (c : Instr) (cause : Nat) =>
      (s.persisting p = false → Light (4 * p) s → Gives c s (fun t => (t.path p).st = .trip ∧ (t.path p).retries = x.retries + 1 ∧ (t.path p).lastTrip = cause ∧ (t.path p).pg = false
          ∧ (t.path p).disch = true ∧ (t.path p).queued = none ∧ (t.pd p).con = none ∧ cnt 0 t ∧ (cause = 2 → cnt 8 t) ∧ Recorded (4 * p) cause s t
          ∧ (Room 1 s → PowerNoted p 1 cause (min 255 (x.retries + 1)) s t)))
      ∧ (s.persisting p = true → Gives c s (fun t => t.persisting p = false ∧ t.boot.persistEnds = s.boot.persistEnds ++ [(p.val, 3)] ∧ (t.path p).st = .off ∧ t.pd p = {}))
    let still := fun (c : Instr) => Gives c s (fun t => t = idle)
    let off := { x with pg := false, ocTimer := false, disch := true, queued := none, next := none, slewing := false, retrying := false, target := 0, fb := 0, sinking := false, gateOff := false, st := if x.st = .latched then .latched else .off }
    (∀ o, s.served = false → still (.pathOrder p o))
    ∧ (s.served = true →
        Gives (.pathOrder p .off) s (fun t => t.path p = off ∧ others t)
        ∧ (∀ o, o ≠ .off → x.orderBusy = true ∨ s.hwOnly p = true → Gives (.pathOrder p o) s (set { x with queued := some o }))
        ∧ (x.orderBusy = false → s.hwOnly p = false →
          (∀ mv ma, (x.st ≠ .on → still (.pathOrder p (.target mv ma)))
            ∧ (x.st = .on → Gives (.pathOrder p (.target mv ma)) s (fun t => others t ∧ (t.path p).st = .on ∧ (t.path p).target = mv ∧ (t.path p).next = some (mv, ma)
                ∧ (t.path p).ocp = max x.ocp (s.ocpOf p ma) ∧ (t.path p).slewing = decide (x.target ≠ mv) ∧ (t.path p).fb = (if x.sinking then 0 else fbCode (s.hook p) mv))))
          ∧ (x.st ≠ .off ∨ x.hold ≠ [] ∨ x.forceOff = true ∨ x.shed = true → still (.pathOrder p .sourceOn))
          ∧ (∀ l, x.st = .off → x.hold = [] → x.forceOff = false → x.shed = false → (s.tc p).retired = false → s.profile p = .typec → s.rpFits p = some l →
              Gives (.pathOrder p .sourceOn) s (fun t => ramps 5000 (rpMa l) false t ∧ (t.tc p).rp = l ∧ (t.tc p).rpHeld = l ∧ (t.path p).waitBudget = false))
          ∧ (x.st = .off → x.hold = [] → x.forceOff = false → (s.hook p).sinkEn = true → (s.tc p).st.attached = true → (s.tc p).source = false →
              Gives (.pathOrder p .sinkOn) s (ramps (s.pathGoal p).1 (s.pathGoal p).2 true))
          ∧ (x.st ≠ .off ∨ x.hold ≠ [] ∨ x.forceOff = true ∨ (s.hook p).sinkEn = false ∨ (s.tc p).st.attached = false ∨ (s.tc p).source = true → still (.pathOrder p .sinkOn))))
    ∧ (x.st ≠ .ramp → still (.rampComplete p))
    ∧ (x.st = .ramp → x.queued = none ∨ s.hwOnly p = true → Gives (.rampComplete p) s (fun t => t.path p = { x with st := .on, retrying := false, sc := s.scOf p x.ocp } ∧ others t
        ∧ (x.retrying = true → Room 1 s → PowerNoted p 3 0 (min 255 x.retries) s t)))
    ∧ (x.st ≠ .on ∨ x.ocTimer = true → Gives (.ocTimerStart p) s (fun t => t = s))
    ∧ (x.st = .on → x.ocTimer = false → Gives (.ocTimerStart p) s (fun t => t.path p = { x with ocTimer := true, pg := false } ∧ others t ∧ (x.pg = true → cnt 24 t)
        ∧ (x.pg = false → t.regs = s.regs) ∧ OnlyChanges [.paths, .regs] s t))
    ∧ Gives (.ocTimerReset p) s (set { x with ocTimer := false })
    ∧ (x.st = .on → x.ocTimer = true → trips (.ocTimerExpire p) 1) ∧ (x.st ≠ .on ∨ x.ocTimer = false → still (.ocTimerExpire p))
    ∧ (x.st = .ramp ∨ x.st = .on → trips (.shortCircuit p) 2 ∧ trips (.overVoltage p) 4) ∧ (x.st ≠ .ramp → x.st ≠ .on → still (.shortCircuit p) ∧ still (.overVoltage p))
    ∧ (x.st = .ramp → trips (.rampTimeout p) 3) ∧ (x.st ≠ .ramp → still (.rampTimeout p))
    ∧ (x.st = .on → x.sinking = false → trips (.reverseCurrent p) 5) ∧ (x.st ≠ .on ∨ x.sinking = true → still (.reverseCurrent p))
    ∧ Gives (.gateOffConfirmed p) s (set (if x.st ≠ .trip then x else if s.hwOnly p then { x with gateOff := true } else { x with st := .cool, gateOff := false }))
    ∧ (x.st ≠ .cool → still (.coolExpire p))
    ∧ (x.st = .cool → s.hwOnly p = true → Gives (.coolExpire p) s (set { x with queued := some .sourceOn }))
    ∧ (x.st = .cool → s.hwOnly p = false →
        (s.retryLimit p = 0 ∨ x.retries < s.retryLimit p → Gives (.coolExpire p) s (fun t => ramps (s.baseGoal p).1 (s.baseGoal p).2 x.sinking t ∧ (t.path p).retrying = true ∧ (t.path p).retries = x.retries))
        ∧ (s.retryLimit p ≠ 0 → s.retryLimit p ≤ x.retries → Light (4 * p) s → Gives (.coolExpire p) s (fun t => t.path p = { x with st := .latched, queued := none } ∧ others t ∧ cnt 16 t
            ∧ Recorded (4 * p) 6 s t ∧ (t.fltSrc (4 * p)).line = .fault ∧ (x.lastTrip < 256 → Room 1 s → PowerNoted p 2 x.lastTrip (min 255 x.retries) s t))))
    ∧ Gives (.onStableExpire p) s (set (if x.st = .on then { x with retries := 0 } else x))
    ∧ (s.hwOnly p = true → Gives (.fbTrimTick p) s (fun t => t = s))
    ∧ (s.hwOnly p = false →
        let n := trimCodes (s.hook p) x.mv x.target
        Gives (.fbTrimTick p) s (set (if x.st ≠ .on ∨ x.sinking ∨ (s.pd p).ppsCl then x else { x with fb := if x.mv < x.target then min 4095 (x.fb + n) else x.fb - n })) ∧ n ≤ 4)

/-- Power-good, current limit and early warning (12 R422, R429, R430, R435 – R438, R440; 11 R385, R389, R395, R396, R402). -/
def Obligations.PathBudget : Prop :=
  ∀ (s : State) (p : Port) (b : Bed),
    let x := s.path p
    let d := s.pd p
    let bd := s.bed b
    let idle := ({ s with blocked := [] } : State)
    let others := fun (t : State) => ∀ q, q ≠ p.val → t.path q = s.path q
    let ready := msg 6 [] .psRdy
    let waits := d.txq.any (fun m => m.use == .psRdy)
    let warned := fun (cause : Nat) (t : State) => Posted 0 (fun e => e.ty = evPower ∧ e.src = 0x8000 + b ∧ e.count = b.val ∧ e.detail = 7 + cause * 256) s t
    let low := fun (q : Nat) (t : State) => (t.path q).st = .off ∨ (t.path q).st = .latched
    (x.st ≠ .on ∨ x.ocTimer = true → Gives (.powerGoodAssert p) s (fun t => t = idle))
    ∧ (x.st = .on → x.ocTimer = false → x.queued = none ∨ s.hwOnly p = true → Gives (.powerGoodAssert p) s (fun t => others t
        ∧ t.path p = (match x.next with
          | some n => { x with pg := true, next := none, slewing := false, disch := false, ocp := s.ocpOf p n.2, sc := s.scOf p (s.ocpOf p n.2) }
          | none => { x with pg := true, slewing := false, disch := false })
        ∧ (x.sinking = false → d.transition = true → waits = false → s.pdLive p = true → (t.pd p).txq = insReply ready d.txq)
        ∧ (x.sinking = true ∨ waits = true → t.pds = s.pds)))
    ∧ (∀ ma c, d.con = some c → c.kind = .pps → (s.tc p).source = true → x.st = .on → s.hwOnly p = false →
        let lo := fbCode (s.hook p) 3300
        (c.ma < ma → Gives (.ppsCurrentLimit p ma) s (fun t => others t ∧ (t.pd p).ppsCl = true ∧ t.path p = { x with fb := (t.path p).fb }
          ∧ (lo < x.fb → lo ≤ (t.path p).fb ∧ (t.path p).fb ≤ x.fb) ∧ (x.fb ≤ lo → (t.path p).fb = x.fb)))
        ∧ (ma ≤ c.ma → d.ppsCl = true → Gives (.ppsCurrentLimit p ma) s (fun t => others t ∧ t.pd p = { d with ppsCl := false } ∧ t.path p = { x with fb := fbCode (s.hook p) x.target }))
        ∧ (ma ≤ c.ma → d.ppsCl = false → Gives (.ppsCurrentLimit p ma) s (fun t => t = s)))
    ∧ (∀ ma, (∀ c, d.con = some c → c.kind ≠ .pps) ∨ (s.tc p).source = false ∨ x.st ≠ .on ∨ s.hwOnly p = true → Gives (.ppsCurrentLimit p ma) s (fun t => t = s))
    ∧ (let swaps := ∃ m, d.swap = .transit .pr m
       (swaps → (s.tc p).source = true → waits = false → Gives (.vbusSafe0vReached p) s (fun t => (t.path p).mv = 0 ∧ (t.tc p).source = false ∧ (t.pd p).grant = 0 ∧ (t.pd p).oldGrant = 0
          ∧ ((s.tc p).st = .attachedSrc → (t.tc p).st = .attachedSnk) ∧ (s.pdLive p = true → (t.pd p).txq = insReply ready d.txq)))
       ∧ (¬ swaps ∨ (s.tc p).source = false ∨ waits = true → Gives (.vbusSafe0vReached p) s (fun t => t.path p = { x with mv := 0 } ∧ others t ∧ OnlyChanges [.paths, .blocked] s t)))
    ∧ (∀ ch : Fin 2, bd.threshold ch = 0 → Gives (.earlywarnEntry b ch) s (fun t => t = idle))
    ∧ (∀ ch : Fin 2, bd.threshold ch ≠ 0 → bd.warn = true → Gives (.earlywarnEntry b ch) s (fun t => t.bed b = { bd with low := bd.low.set ch true } ∧ (∀ y, y ≠ b.val → t.bed y = s.bed y) ∧ OnlyChanges [.beds, .blocked] s t))
    ∧ (∀ ch : Fin 2, bd.threshold ch ≠ 0 → bd.warn = false → Gives (.earlywarnEntry b ch) s (fun t =>
        t.bed b = { bd with low := bd.low.set ch true, warn := true, restoring := false, cut := if s.flt.safeHold then bd.cut else true, cutMw := if s.flt.safeHold then bd.cutMw else bd.bedW * bd.cutPct * 10 }
        ∧ t.budget.earlyWarnN = true ∧ t.fld (bedReg b 0x8) 0 16 = min (s.fld (bedReg b 0x8) 0 16 + 1) 65535
        ∧ (∀ q ∈ portsOf b, (s.path q).shedClass = 0 → (s.path q).shed = false → (s.path q).st ≠ .off → (t.path q).shed = true ∧ low q t)
        ∧ (∀ q ∈ portsOf b, (s.path q).shedClass ≠ 0 → t.path q = s.path q)
        ∧ ((∀ q ∈ portsOf b, (s.path q).shedClass ≠ 0) → s.flt.safeHold = false → Room 1 s → warned 1 t)))
    ∧ (bd.cut = false ∨ s.flt.safeHold = true ∨ s.bedHeld b ≤ s.bedEffective b ∨ s.shedNext b = none → Gives (.shedNext b) s (fun t => t = idle))
    ∧ (∀ q, bd.cut = true → s.flt.safeHold = false → s.bedEffective b < s.bedHeld b → s.shedNext b = some q → Gives (.shedNext b) s (fun t =>
        (t.path q).shed = true ∧ low q t ∧ t.budget.shedOrder = s.budget.shedOrder ++ [q] ∧ t.fld (bedReg (bedOf q) 0x8) 16 16 = min (s.fld (bedReg (bedOf q) 0x8) 16 16 + 1) 65535
        ∧ ((s.pd q).con.isSome = true → (s.tc q).source = true → 1 ∈ (t.path q).hold)
        ∧ ((s.pd q).con = none → s.profile q = .typec → Room 1 s → PowerNoted q 5 0 (s.path q).shedClass s t)))
    ∧ (bd.warn = false → Gives (.earlywarnRestoreExpire b) s (fun t => t = idle))
    ∧ (bd.warn = true → Gives (.earlywarnRestoreExpire b) s (fun t =>
        t.bed b = { bd with low := [false, false], warn := false, cut := false, cutMw := 0, restoring := (portsOf b).any (fun q => (s.path q).shed) } ∧ (∀ y, y ≠ b.val → t.bed y = s.bed y)
        ∧ t.budget.earlyWarnN = bedsAll.any (fun y => y != b.val && (s.bed y).warn) ∧ (bd.cut = true → Room 1 s → warned 0 t)))
    ∧ (s.restoreNext = none → Gives .restoreNext s (fun t => t = idle))
    ∧ (∀ q, s.restoreNext = some q → Gives .restoreNext s (fun t => (t.path q).shed = false ∧ t.budget.shedOrder = s.budget.shedOrder.filter (· != q)
        ∧ (t.bed (bedOf q)).restoring = (portsOf (bedOf q)).any (fun y => y != q && (s.path y).shed)
        ∧ ((s.path q).shedClass ≠ 0 ∨ (s.pd q).con = none ∨ (s.path q).st = .latched → Room 2 s → PowerNoted q 6 0 (s.path q).shedClass s t)))

/-- The protocol layer (10 R361 – R368; 11 R375 – R379, R385, R396 – R398; 02 R71). -/
def Obligations.PdProtocol : Prop :=
  ∀ (s : State) (p : Port),
    let d := s.pd p
    let x := s.tc p
    let idle := ({ s with blocked := [] } : State)
    let live := s.pdLive p = true
    let cut := (s.bed (bedOf p)).isolating
    let others := fun (t : State) => ∀ q, q ≠ p.val → t.pd q = s.pd q
    let cnt := fun (off lo w : Nat) (t : State) => t.fld (portReg p off) lo w = min (s.fld (portReg p off) lo w + 1) (2 ^ w - 1)
    let still := fun (c : Instr) => Gives c s (fun t => t = idle)
    let hard := fun (t : State) => (t.pd p).con = none ∧ (t.pd p).txq = [] ∧ (t.pd p).hardPending = true ∧ (t.pd p).hardResets = d.hardResets + 1 ∧ (t.tc p).source = x.atSource
      ∧ (t.tc p).dfp = x.atDfp ∧ cnt 0x51C 0 8 t
    let soft := fun (t : State) => (t.pd p).s0 = {} ∧ (t.pd p).txq = [msg 0xD [] (.softReset false)] ∧ (t.pd p).awaits = none ∧ (t.pd p).next = none ∧ (t.pd p).swap = .none ∧ cnt 0x51C 8 8 t
    let again := fun (c : Instr) (yields : Bool) (more : State → Prop) => ∀ m rest, d.txq = m :: rest →
      (m.tries < 2 → Gives c s (fun t => t.pd p = { d with txq := { m with tries := m.tries + 1, onWire := false } :: rest, yields := yields } ∧ others t ∧ more t))
      ∧ (2 ≤ m.tries → live → (∀ b, m.use = .softReset b → Gives c s (fun t => hard t ∧ more t))
          ∧ (m.sop = .sop0 → m.use ∈ [.request, .accept, .psRdy, .getSrc, .getSnk, .getStatus, .eprEnter] → Gives c s (fun t => soft t ∧ more t)))
    (∀ m : PdRx,
      let c := Instr.pdMessageReceived p m
      let h := m.hdr.toNat
      let id := bits h 9 3
      let seen := fun (t : State) => ((t.pd p).sop m.sop).last = some id ∧ ((t.pd p).sop m.sop).stored = some (h, m.objs.map (·.toNat)) ∧ ((t.pd p).sop m.sop).tx = (d.sop m.sop).tx
      let quiet := x.quarantine = true ∨ bit x.guard.toNat 11 = true ∨ x.flood + 1 ≤ x.floodLimit
      let floods := fun (t : State) => t.tc p = { x with buckets := (x.buckets.headD 0 + 1) :: x.buckets.tail } ∧ cnt 0x414 0 16 t
      let ack := Out.cc p (.goodCrc m.sop id)
      let dup := (d.sop m.sop).last = some id
      let odd := badHeader m (bits h 0 5) (bits h 12 3) (bit h 15) = true ∨ (m.sop = .sop0 ∧ s.unexpected p (bits h 0 5) (bits h 12 3) (bit h 15) = true)
      (s.persisting p = true → (m.good = true → Gives c s (fun t => t = { idle with out := ack :: s.out })) ∧ (m.good = false → still c))
      ∧ (s.persisting p = false → x.st.attached = false ∨ cut = true → still c)
      ∧ (s.persisting p = false → x.st.attached = true → cut = false →
        (m.sop ≠ .sop0 → x.vconnSrc = false → Gives c s (fun t => cnt 0x418 0 12 t ∧ OnlyChanges [.regs, .blocked] s t))
        ∧ (m.sop = .sop0 ∨ x.vconnSrc = true →
          (m.good = false → (quiet → Gives c s (fun t => floods t ∧ t.pds = s.pds ∧ t.out = s.out)) ∧ (¬ quiet → Light (4 * p + 1) s → Gives c s (fun t => (t.tc p).quarantine = true)))
          ∧ (m.good = true → d.attached = false → still c)
          ∧ (m.good = true → d.attached = true → x.quarantine = true → (dup → still c) ∧ (¬ dup → Gives c s (fun t => seen t ∧ floods t ∧ others t ∧ t.out = s.out)))
          ∧ (m.good = true → d.attached = true → x.quarantine = false → m.sop ≠ .sop0 → d.awaiting = false ∨ d.awaitSop ≠ m.sop → quiet → Gives c s (fun t => floods t ∧ t.pds = s.pds ∧ t.out = s.out))
          ∧ (m.good = true → d.attached = true → x.quarantine = false → m.sop = .sop0 ∨ (d.awaiting = true ∧ d.awaitSop = m.sop) →
            (dup → Gives c s (fun t => t = { idle with out := ack :: s.out }))
            ∧ (¬ dup → ¬ odd → Gives c s (fun t => seen t ∧ others t ∧ t.out = ack :: s.out ∧ t.tcs = s.tcs ∧ (t.pd p).rev3 = (d.rev3 && !(m.sop == .sop0 && bits h 6 2 == 1))))
            ∧ (¬ dup → odd → quiet → Gives c s (fun t => seen t ∧ floods t ∧ others t ∧ t.out = ack :: s.out))))))
    ∧ (cut = true → Gives (.ccLineIdle p) s (fun t => t = s) ∧ still (.ccIdleTimeout p))
    ∧ (cut = false → d.hardPending = true →
        let goes := fun (t : State) => t.pd p = { d with hardPending := false } ∧ others t ∧ t.out = .cc p .hardReset :: s.out ∧ OnlyChanges [.pds, .out, .blocked] s t
        Gives (.ccLineIdle p) s goes ∧ Gives (.ccIdleTimeout p) s goes)
    ∧ (cut = false → d.hardPending = false → d.txq = [] ∨ ¬ live ∨ (∀ m ∈ d.txq.head?, s.mayStart p m = false) → Gives (.ccLineIdle p) s (fun t => t = s) ∧ still (.ccIdleTimeout p))
    ∧ (∀ m rest, cut = false → d.hardPending = false → live → d.txq = m :: rest → s.mayStart p m = true →
        Gives (.ccLineIdle p) s (fun t => others t ∧ t.out = .cc p (.msg m.sop (d.sop m.sop).tx m.ty m.ext m.objs) :: s.out ∧ OnlyChanges [.pds, .out] s t
          ∧ t.pd p = { d with txq := { m with onWire := true, sinkTx := false } :: rest, offered := if m.use = .caps then m.objs else d.offered, offeredEpr := if m.use = .caps then m.ext else d.offeredEpr })
        ∧ again (.ccIdleTimeout p) d.yields (cnt 0x414 16 8))
    ∧ (s.onWire p = true → again (.treceiveExpire p) d.yields (fun _ => True)
        ∧ again (.ccCollision p) (d.yields || (((d.txq.head?.map (·.use.opens)).getD false) && !s.startsFirst p)) (cnt 0x414 24 8))
    ∧ (s.onWire p = false → still (.treceiveExpire p) ∧ still (.ccCollision p))
    ∧ (x.source = true → Gives (.sinktxWaitExpire p) s (fun t => t.pd p = { d with txq := d.txq.map (fun m => { m with sinkTx := false }) } ∧ others t ∧ OnlyChanges [.pds] s t))
    ∧ (x.source = false → Gives (.sinktxWaitExpire p) s (fun t => t = s))
    ∧ (∀ sop (id : BitVec 3), d.txq = [] ∨ (∀ m ∈ d.txq.head?, m.onWire = false ∨ m.sop ≠ sop ∨ (d.sop sop).tx ≠ id.toNat) → still (.goodcrcReceived p sop id))
    ∧ (∀ sop (id : BitVec 3) m rest, d.txq = m :: rest → m.onWire = true → m.sop = sop → (d.sop sop).tx = id.toNat →
        Gives (.goodcrcReceived p sop id) s (fun t => ((t.pd p).sop sop).tx = (id.toNat + 1) % 8
          ∧ (∀ c, m.use = .accept → d.next = some c → (t.pd p).con = some c ∧ (t.pd p).next = none ∧ (t.pd p).transition = true)
          ∧ (m.use ∈ [.request, .getSrc, .getSnk, .getStatus] → (t.pd p).awaits = some m.use ∧ (t.pd p).awaitSop = sop)
          ∧ (∀ k, m.use = .swapReq k → (t.pd p).swap = .mine k ∧ (t.pd p).awaits = some (.swapReq k))
          ∧ (∀ c, m.use = .psRdy → d.swap = .none → d.transition = true → d.con = some c → (t.pd p).transition = false ∧ (t.pd p).oldGrant = 0 ∧ (t.pd p).con = some c
              ∧ (Room 1 s → PdNoted p 1 (b2n c.epr) (d.grant % 2 ^ 24) s t))))
    ∧ (∀ m rest, d.txq = m :: rest → m.onWire = true → m.use = .swapAccept .dr → Gives (.drSwapAcceptAcked p) s (fun t => (t.tc p).dfp = (!x.dfp) ∧ (t.pd p).swap = .none
        ∧ ((t.pd p).sop m.sop).tx = ((d.sop m.sop).tx + 1) % 8))
    ∧ (d.txq = [] ∨ (∀ m ∈ d.txq.head?, m.onWire = false ∨ m.use ≠ .swapAccept .dr) → still (.drSwapAcceptAcked p))

/-- The port as source (11 R381 – R387, R390, R406; 12 R421, R422; 14 R490; 15 R513). -/
def Obligations.PdSource : Prop :=
  ∀ (s : State) (p : Port),
    let d := s.pd p
    let x := s.tc p
    let y := s.path p
    let idle := ({ s with blocked := [] } : State)
    let live := s.pdLive p = true
    let others := fun (t : State) => ∀ q, q ≠ p.val → t.pd q = s.pd q
    let cnt := fun (lo : Nat) (t : State) => t.fld (portReg p 0x51C) lo 8 = min (s.fld (portReg p 0x51C) lo 8 + 1) 255
    let still := fun (c : Instr) => Gives c s (fun t => t = idle)
    let hard := fun (t : State) => (t.pd p).con = none ∧ (t.pd p).txq = [] ∧ (t.pd p).hardPending = true ∧ (t.pd p).hardResets = d.hardResets + 1 ∧ (t.tc p).source = x.atSource
      ∧ (t.tc p).dfp = x.atDfp ∧ cnt 0 t
    let soft := fun (t : State) => (t.pd p).s0 = {} ∧ (t.pd p).txq = [msg 0xD [] (.softReset false)] ∧ (t.pd p).awaits = none ∧ (t.pd p).next = none ∧ (t.pd p).swap = .none ∧ cnt 8 t
    let sends := fun (m : PdTx) (t : State) => (t.pd p).txq = d.txq ++ [{ m with sinkTx := d.con3 }]
    let replies := fun (m : PdTx) (t : State) => (t.pd p).txq = insReply m d.txq
    let caps := fun (t : State) => sends { sop := .sop0, ty := if d.epr then 0x11 else 1, ext := d.epr, objs := (graftOffers p (s.offers p d.epr) s).1, use := .caps } t
      ∧ (t.pd p).capsDue = false ∧ (t.pd p).waitSince = none
    (∀ rdo : Word, let c := Instr.requestReceived p rdo
      (¬ live ∨ x.source = false ∨ d.offered = [] → still c)
      ∧ (live → x.source = true → d.offered ≠ [] →
        (d.transition = true → Gives c s hard)
        ∧ (d.transition = false → d.next.isSome = true → Gives c s soft)
        ∧ (d.transition = false → d.next = none →
          let ans := s.requestAnswer p rdo.toNat
          let a := match s.graftFor 1 1 p with | some _ => max ans.1 (Config.freeNat s.free % 3) | none => ans.1
          (∀ k, ans.2 = some k → a = 0 → Gives c s (fun t => replies (msg 3 [] .accept) t ∧ others t ∧ (t.pd p).next = some k ∧ (t.pd p).grant = k.mw ∧ (t.pd p).oldGrant = s.holding p
              ∧ (t.pd p).con = d.con ∧ t.paths = s.paths))
          ∧ (∀ k, ans.2 = some k → a = 1 → Gives c s (fun t => replies (msg 0xC [] .wait) t ∧ others t ∧ (t.pd p).waitSince = some (d.waitSince.getD s.time.local_) ∧ (t.pd p).next = none
              ∧ (t.pd p).grant = d.grant ∧ cnt 16 t ∧ (Room 1 s → PdNoted p 6 0 (k.mw % 2 ^ 24) s t)))
          ∧ (ans.2 = none ∨ 2 ≤ a → Gives c s (fun t => replies (msg 4 [] .reject) t ∧ others t ∧ (t.pd p).next = none ∧ (t.pd p).con = d.con ∧ (t.pd p).grant = d.grant)))))
    ∧ (d.con = none ∨ d.transition = false ∨ x.source = false → still (.srcTransitionExpire p))
    ∧ (∀ c, d.con = some c → d.transition = true → x.source = true →
        (s.hwOnly p = true → y.target ≠ c.mv → Gives (.srcTransitionExpire p) s (fun t => t.path p = { y with queued := some (.target c.mv c.fuseMa) } ∧ OnlyChanges [.paths, .blocked] s t))
        ∧ (s.hwOnly p = false → y.st = .on → y.target ≠ c.mv → Gives (.srcTransitionExpire p) s (fun t => (t.path p).target = c.mv ∧ (t.path p).next = some (c.mv, c.fuseMa)
            ∧ (t.path p).slewing = true ∧ (t.path p).fb = (if y.sinking then 0 else fbCode (s.hook p) c.mv) ∧ (t.path p).ocp = max y.ocp (s.ocpOf p c.fuseMa) ∧ t.pds = s.pds))
        ∧ (y.st = .on → y.target = c.mv → y.pg = true → y.sinking = false → live → d.txq.any (fun m => m.use == .psRdy) = false → Gives (.srcTransitionExpire p) s (fun t =>
            replies (msg 6 [] .psRdy) t ∧ (t.path p).next = none ∧ (t.path p).ocp = s.ocpOf p c.fuseMa ∧ (t.path p).target = c.mv)))
    ∧ (d.waitSince.isSome = true → d.next = none → live → x.source = true → Gives (.waitHoldExpire p) s (fun t => caps t ∧ others t))
    ∧ (d.waitSince = none ∨ d.next.isSome = true ∨ ¬ live ∨ x.source = false → still (.waitHoldExpire p))
    ∧ (∀ c, d.con = some c → x.source = true → live →
        (c.kind = .pps → Gives (.ppsTimeout p) s (fun t => hard t ∧ cnt 24 t ∧ (Room 1 s → PdNoted p 13 1 0 s t)))
        ∧ (c.epr = true → Gives (.eprKeepaliveTimeout p) s (fun t => hard t ∧ cnt 24 t ∧ (Room 1 s → PdNoted p 13 2 0 s t))))
    ∧ ((∀ c, d.con = some c → c.kind ≠ .pps) ∨ x.source = false ∨ ¬ live → still (.ppsTimeout p))
    ∧ ((∀ c, d.con = some c → c.epr = false) ∨ x.source = false ∨ ¬ live → still (.eprKeepaliveTimeout p))
    ∧ (live → x.source = true → d.epr = true → Gives (.eprKeepaliveReceived p) s (fun t => others t ∧ OnlyChanges [.pds] s t
        ∧ t.pd p = { d with s0 := { d.s0 with stored := none }, txq := insReply { sop := .sop0, ty := 0x10, ext := true, objs := [4], use := .other } d.txq }))
    ∧ (¬ live ∨ x.source = false ∨ d.epr = false → Gives (.eprKeepaliveReceived p) s (fun t => t = s))
    ∧ (¬ live ∨ x.source = false ∨ d.con = none ∨ d.quiet = false ∨ s.offers p d.epr = d.offered → still (.offerChange p))
    ∧ (live → x.source = true → d.con.isSome = true → d.quiet = true → s.offers p d.epr ≠ d.offered → offerFalls d.offered (s.offers p d.epr) = false ∨ s.alerts p = false →
        (d.epr = false ∨ 100000 < s.available p → Gives (.offerChange p) s (fun t => caps t ∧ others t))
        ∧ (d.epr = true → s.available p ≤ 100000 → Gives (.offerChange p) s (fun t => sends (msg 0xA [5 * 2 ^ 24] .eprExit) t ∧ others t)))
    ∧ (¬ live ∨ d.cableDone = true ∨ d.cableKnown = true → still (.cableDiscoveryTimer p))
    ∧ (live → d.cableDone = false → d.cableKnown = false →
        (d.cableTries < 3 → Gives (.cableDiscoveryTimer p) s (fun t => others t ∧ (t.pd p).cableTries = d.cableTries + 1
          ∧ (t.pd p).txq = d.txq.filter (fun m => m.use != .cable) ++ [{ sop := .sop1, ty := 0xF, ext := false, objs := [vdmHdr 0xFF00 0 0 1], use := .cable, sinkTx := d.con3 }]))
        ∧ (3 ≤ d.cableTries → Gives (.cableDiscoveryTimer p) s (fun t => (t.pd p).cableDone = true ∧ (t.pd p).cableKnown = false ∧ (t.pd p).cableVdo = 0 ∧ (Room 1 s → PdNoted p 11 0 0 s t))))
    ∧ (¬ live ∨ x.source = false ∨ d.capsDue = false → still (.sendSourceCapTimer p))
    ∧ (live → x.source = true → d.capsDue = true →
        (d.cableDone = false → Gives (.sendSourceCapTimer p) s (fun t => (t.pd p).cableDone = true ∧ (t.pd p).cableKnown = false ∧ (Room 1 s → PdNoted p 11 0 0 s t)))
        ∧ (d.cableDone = true → d.cableKnown = false → y.st = .on → y.pg = true → d.txq = [] → Gives (.sendSourceCapTimer p) s (fun t => caps t ∧ others t)))

/-- The port as sink, swaps and EPR (11 R387, R390 – R397, R409, R412; 14 R490; 15 R513). -/
def Obligations.PdSink : Prop :=
  ∀ (s : State) (p : Port),
    let d := s.pd p
    let x := s.tc p
    let idle := ({ s with blocked := [] } : State)
    let live := s.pdLive p = true
    let others := fun (t : State) => ∀ q, q ≠ p.val → t.pd q = s.pd q
    let still := fun (c : Instr) => Gives c s (fun t => t = idle)
    let hard := fun (t : State) => (t.pd p).con = none ∧ (t.pd p).txq = [] ∧ (t.pd p).hardPending = true ∧ (t.pd p).hardResets = d.hardResets + 1 ∧ (t.tc p).source = x.atSource
      ∧ (t.tc p).dfp = x.atDfp ∧ t.fld (portReg p 0x51C) 0 8 = min (s.fld (portReg p 0x51C) 0 8 + 1) 255
    let sends := fun (m : PdTx) (t : State) => (t.pd p).txq = d.txq ++ [{ m with sinkTx := d.con3 }]
    let replies := fun (m : PdTx) (t : State) => (t.pd p).txq = insReply m d.txq
    let request := fun (l : List Nat) (r : Nat) => let o := l.getD (bits r 28 4 - 1) 0; if d.epr then msg 9 [r, o] .request else msg 2 [r] .request
    let used := fun (t : State) => t.pd p = { d with s0 := { d.s0 with stored := none } } ∧ others t ∧ OnlyChanges [.pds, .blocked] s t
    let pass : Nat → Nat → Nat := fun hook dflt => match s.graftFor 1 hook p with | some _ => max dflt (Config.freeNat s.free % 3) | none => dflt
    (∀ epr objs, ¬ live ∨ x.source = true → still (.sourceCapsReceived p epr objs))
    ∧ (∀ epr (objs : List Word), live → x.source = false →
        let l := objs.map (·.toNat)
        let u := s.pdOn p (fun d => { d with partner := l })
        let r := match d.override with | some r => r | none => (graftSinkChoose p (u.sinkChoice p) u).1
        Gives (.sourceCapsReceived p epr objs) s (fun t => (t.pd p).partner = l ∧ (t.pd p).partnerEpr = epr ∧ (t.pd p).override = none ∧ (t.pd p).sentRdo = r ∧ (t.pd p).con = d.con
          ∧ replies (request l r) t ∧ others t ∧ t.tcs = s.tcs ∧ (Room 1 s → PdNoted p 7 (b2n epr) (l.length % 2 ^ 24) s t)))
    ∧ (d.awaits = some .request → Gives (.waitReceived p) s (fun t => (t.pd p).awaits = none ∧ (t.pd p).next = none ∧ (t.pd p).rePending = true ∧ (t.pd p).con = d.con ∧ others t))
    ∧ (∀ k, d.awaits = some (.swapReq k) → Gives (.waitReceived p) s (fun t => (t.pd p).awaits = none ∧ (t.pd p).swap = .none ∧ others t))
    ∧ (d.awaits ≠ some .request → (∀ k, d.awaits ≠ some (.swapReq k)) → still (.waitReceived p))
    ∧ (d.rePending = true → live → x.source = false → Gives (.snkWaitExpire p) s (fun t => sends (request d.partner d.sentRdo) t ∧ (t.pd p).rePending = false ∧ others t))
    ∧ (d.rePending = false ∨ ¬ live ∨ x.source = true → still (.snkWaitExpire p))
    ∧ (¬ live ∨ x.source = true ∨ d.con = none → Gives (.sinkRefreshTimer p) s (fun t => t = s))
    ∧ (∀ c, live → x.source = false → d.con = some c →
        (c.kind = .pps → d.quiet = true → d.epr = false → Gives (.sinkRefreshTimer p) s (fun t => sends (request d.partner c.rdo) t ∧ others t))
        ∧ (c.kind ≠ .pps ∨ d.quiet = false → d.epr = true → Gives (.sinkRefreshTimer p) s (fun t => sends { sop := .sop0, ty := 0x10, ext := true, objs := [3], use := .keepAlive } t ∧ others t))
        ∧ (c.kind ≠ .pps ∨ d.quiet = false → d.epr = false → Gives (.sinkRefreshTimer p) s (fun t => t = s)))
    ∧ (∀ me, d.swap = .transit .pr me →
        (d.awaits ≠ some .psRdy → still (.psRdyReceived p))
        ∧ (d.awaits = some .psRdy → (s.path p).sinking = true ∨ d.grant ≠ 0 → Gives (.psRdyReceived p) s (fun t => (t.tc p).source = true ∧ (t.pd p).awaits = none ∧ (t.pd p).grant = 0
            ∧ (t.pd p).oldGrant = 0 ∧ (t.pd p).swap = d.swap ∧ (x.st = .attachedSnk → (t.tc p).st = .attachedSrc)))
        ∧ (d.awaits = some .psRdy → (s.path p).sinking = false → d.grant = 0 → Gives (.psRdyReceived p) s (fun t => (t.pd p).swap = .none ∧ (t.pd p).awaits = none
            ∧ (Room 1 s → PdNoted p 5 2 (if me then 1 else 2) s t))))
    ∧ (∀ me, d.swap = .transit .vconn me →
        (d.awaits = some .psRdy → Gives (.psRdyReceived p) s (fun t => (t.tc p).vconnSrc = false ∧ (t.tc p).vconnOn = false ∧ (t.pd p).swap = .none ∧ (Room 1 s → PdNoted p 5 3 (if me then 1 else 2) s t)))
        ∧ (d.awaits ≠ some .psRdy → still (.psRdyReceived p)))
    ∧ ((∀ me, d.swap ≠ .transit .pr me ∧ d.swap ≠ .transit .vconn me) →
        (∀ c, d.next = some c → d.transition = true → x.source = false → Gives (.psRdyReceived p) s (fun t => (t.pd p).con = some c ∧ (t.pd p).next = none ∧ (t.pd p).transition = false
            ∧ (t.pd p).hardResets = 0 ∧ ((s.path p).st = .on → (t.path p).target = c.mv) ∧ (Room 1 s → PdNoted p 1 (b2n c.epr) 0 s t)))
        ∧ (d.next = none ∨ d.transition = false ∨ x.source = true → still (.psRdyReceived p)))
    ∧ (∀ k : SwapKind, let c := Instr.swapRequestReceived p k
        let a : Nat := pass 2 (s.swapAnswer p k)
        let trellis := k = .dr ∧ (d.trellis = .hello ∨ d.trellis = .entered)
        (¬ live → still c)
        ∧ (live → trellis → Gives c s hard)
        ∧ (∀ m, live → ¬ trellis → d.swap = .mine m → x.source = true → Gives c s (fun t => replies (msg 0xC [] .swapAnswer) t ∧ others t ∧ (t.pd p).swap = d.swap ∧ t.tcs = s.tcs))
        ∧ (live → ¬ trellis → (∀ m, d.swap ≠ .mine m) ∨ x.source = false →
          (a = 0 → Gives c s (fun t => replies (msg 3 [] (.swapAccept k)) t ∧ others t ∧ (t.pd p).swap = .theirs k
              ∧ (k ≠ .pr ∨ x.source = true → t.tcs = s.tcs ∧ (t.pd p).grant = d.grant)
              ∧ (∀ l, k = .pr → x.source = false → s.rpFits p = some l → (t.tc p).rpHeld = l ∧ (t.pd p).grant = (match l with | 1 => 4500 | 2 => 7500 | 3 => 15000 | _ => 0))))
          ∧ (∀ ty : Nat, (a = 1 ∧ ty = 0xC) ∨ (2 ≤ a ∧ ty = 4) → Gives c s (fun t => replies (msg ty [] .swapAnswer) t ∧ others t ∧ t.tcs = s.tcs ∧ ((∀ m, d.swap ≠ .mine m) → (t.pd p).swap = d.swap)))))
    ∧ (d.swapRetry = none → still (.swapRetryTimer p))
    ∧ (∀ k, d.swapRetry = some k → Gives (.swapRetryTimer p) s (fun t => (t.pd p).swapRetry = none ∧ (t.pd p).reSent = true ∧ others t
        ∧ (live → d.con.isSome = true → sends (msg (match k with | .dr => 9 | .pr => 0xA | .vconn => 0xB) [] (.swapReq k)) t ∧ t.ops = s.ops) ∧ (¬ live ∨ d.con = none → (t.pd p).txq = d.txq)))
    ∧ (∀ k, ¬ live → still (.eprModeReceived p k))
    ∧ (live →
        (x.source = false → Gives (.eprModeReceived p .enter) s used)
        ∧ (x.source = true → Gives (.eprModeReceived p .enter) s (fun t => others t ∧ (t.pd p).epr = d.epr
            ∧ replies (if s.eprOk p then msg 0xA [2 * 2 ^ 24] .eprAck else msg 0xA [4 * 2 ^ 24] .eprFail) t))
        ∧ (d.epr = false → Gives (.eprModeReceived p .exit) s used)
        ∧ (d.epr = true → Gives (.eprModeReceived p .exit) s (fun t => (t.pd p).epr = false ∧ others t ∧ (t.pd p).con = d.con ∧ (Room 1 s → PdNoted p 14 0 0 s t)))
        ∧ Gives (.eprModeReceived p .enterAck) s used
        ∧ (d.awaits = some .eprEnter → Gives (.eprModeReceived p .enterOk) s (fun t => (t.pd p).epr = true ∧ (t.pd p).awaits = none ∧ others t ∧ (Room 1 s → PdNoted p 14 0 1 s t))
            ∧ Gives (.eprModeReceived p .enterFail) s (fun t => (t.pd p).epr = d.epr ∧ (t.pd p).awaits = none ∧ others t))
        ∧ (d.awaits ≠ some .eprEnter → Gives (.eprModeReceived p .enterOk) s used ∧ Gives (.eprModeReceived p .enterFail) s used))

/-- Resets and timers of Power Delivery (11 R374, R376, R379, R399 – R403; 10 R345, R365; 12 R424; 02 R72). -/
def Obligations.PdResets : Prop :=
  ∀ (s : State) (p : Port),
    let d := s.pd p
    let x := s.tc p
    let idle := ({ s with blocked := [] } : State)
    let live := s.pdLive p = true
    let others := fun (t : State) => ∀ q, q ≠ p.val → t.pd q = s.pd q
    let cnt := fun (lo : Nat) (t : State) => t.fld (portReg p 0x51C) lo 8 = min (s.fld (portReg p 0x51C) lo 8 + 1) 255
    let still := fun (c : Instr) => Gives c s (fun t => t = idle)
    let ended := fun (t : State) => (t.pd p).con = none ∧ (t.pd p).next = none ∧ (t.pd p).txq = [] ∧ (t.pd p).awaits = none ∧ (t.pd p).swap = .none ∧ (t.pd p).epr = false
      ∧ (t.pd p).grant = 0 ∧ (t.pd p).hardResets = d.hardResets + 1 ∧ (t.tc p).source = x.atSource ∧ (t.tc p).dfp = x.atDfp ∧ (t.tc p).vconnSrc = x.atVconn ∧ cnt 0 t
    let recovers := fun (t : State) => (t.tc p).st = .errorRecovery ∧ (t.tc p).source = false ∧ t.pd p = {} ∧ (t.path p).st = .off
    (∀ sop, ¬ live → still (.softResetReceived p sop))
    ∧ (∀ sop, live → Gives (.softResetReceived p sop) s (fun t => (t.pd p).sop sop = { last := (d.sop sop).last } ∧ cnt 8 t ∧ others t
        ∧ (s.ops = [] → Room 1 s → PdNoted p 4 1 (match sop with | .sop0 => 0 | .sop1 => 1 | .sop2 => 2) s t)
        ∧ (sop = .sop0 → (t.pd p).txq = [msg 3 [] .other] ∧ (t.pd p).awaits = none ∧ (t.pd p).next = none ∧ (t.pd p).swap = .none ∧ (t.pd p).con = d.con ∧ (x.source = true → (t.pd p).capsDue = true))
        ∧ (sop ≠ .sop0 → (t.pd p).txq = insReply { msg 3 [] .other with sop := sop } d.txq)))
    ∧ (s.persisting p = true → Gives (.hardResetReceived p) s (fun t => t.persisting p = false ∧ t.boot.persistEnds = s.boot.persistEnds ++ [(p.val, 2)] ∧ (t.path p).st = .off ∧ t.pd p = {}))
    ∧ (s.persisting p = false → d.attached = false ∨ (s.bed (bedOf p)).isolating = true → still (.hardResetReceived p))
    ∧ (s.persisting p = false → d.attached = true → (s.bed (bedOf p)).isolating = false →
        x.st.attached = false ∨ x.quarantine = true ∨ bit x.guard.toNat 11 = true ∨ x.flood + 1 ≤ x.floodLimit →
        Gives (.hardResetReceived p) s (fun t => ended t ∧ (t.pd p).hardPending = d.hardPending
          ∧ (x.st.attached = true → t.fld (portReg p 0x414) 0 16 = min (s.fld (portReg p 0x414) 0 16 + 1) 65535)
          ∧ (s.ops = [] → Room 1 s → PdNoted p 3 (if d.swap = .none then 1 else 3) 0 s t)))
    ∧ (x.source = true → x.st.attached = true → Gives (.hardResetSourceOff p) s (fun t => ((t.path p).st = .off ∨ (t.path p).st = .latched) ∧ (t.path p).hold = 1 :: (s.path p).hold.filter (· != 1)
        ∧ (t.path p).pg = false ∧ (t.path p).target = 0 ∧ ∀ q, q ≠ p.val → t.path q = s.path q))
    ∧ (x.source = false ∨ x.st.attached = false → still (.hardResetSourceOff p))
    ∧ ((s.path p).hold.contains 1 = false → still (.srcRecoverExpire p))
    ∧ ((s.path p).hold.contains 1 = true → Gives (.srcRecoverExpire p) s (fun t => (t.path p).hold = (s.path p).hold.filter (· != 1)
        ∧ (t.pd p).capsDue = (d.attached && !x.quarantine && x.source) ∧ (t.tc p).source = x.source ∧ others t
        ∧ (∀ l, s.served = true → (s.path p).st = .off → (s.path p).hold.filter (· != 1) = [] → (s.path p).forceOff = false → (s.path p).shed = false → x.retired = false → s.hwOnly p = false →
            s.profile p = .typec → (s.pathOn p (fun y => { y with hold := [] })).rpFits p = some l → (t.path p).st = .ramp ∧ (t.path p).target = 5000 ∧ (t.tc p).rpHeld = l)))
    ∧ (d.attached = true → d.con = none → 2 ≤ d.hardResets → Gives (.hardResetCountExhausted p) s (fun t => recovers t ∧ (Room 1 s → PdNoted p 3 4 0 s t)))
    ∧ (d.attached = false ∨ d.con.isSome = true ∨ d.hardResets < 2 → still (.hardResetCountExhausted p))
    ∧ (live → d.transition = true → x.source = false → Gives (.psTransitionTimeout p .psTransition) s (fun t => ended t ∧ (t.pd p).hardPending = true))
    ∧ (d.transition = false ∨ x.source = true → still (.psTransitionTimeout p .psTransition))
    ∧ (let pr := (∃ m, d.swap = .transit .pr m) ∧ d.awaits = some .psRdy
       ∀ k, k = .psSourceOff ∨ k = .psSourceOn → (pr → Gives (.psTransitionTimeout p k) s recovers) ∧ (¬ pr → still (.psTransitionTimeout p k)))
    ∧ (d.sinkWait = true → x.source = false → (live → d.hardResets < 2 → Gives (.psTransitionTimeout p .noResponse) s (fun t => ended t ∧ (t.pd p).hardPending = true))
        ∧ (2 ≤ d.hardResets → Gives (.psTransitionTimeout p .noResponse) s (fun t => recovers t ∧ (Room 1 s → PdNoted p 3 4 0 s t))))
    ∧ (d.sinkWait = false ∨ x.source = true → still (.psTransitionTimeout p .noResponse))
    ∧ (live → d.awaits = some .eprEnter → Gives (.psTransitionTimeout p .enterEpr) s (fun t => (t.pd p).s0 = {} ∧ (t.pd p).txq = [msg 0xD [] (.softReset false)] ∧ (t.pd p).awaits = none ∧ cnt 8 t))
    ∧ (d.awaits ≠ some .eprEnter → still (.psTransitionTimeout p .enterEpr))
    ∧ (∀ ado : Word, (live → x.source = false → Gives (.alertReceived p ado) s (fun t => t.pd p = { d with s0 := { d.s0 with stored := none } } ∧ others t ∧ t.tcs = s.tcs ∧ (Room 1 s → PdNoted p 8 0 0 s t)))
        ∧ (¬ live ∨ x.source = true → still (.alertReceived p ado)))
    ∧ (live → Gives (.getStatusReceived p) s (fun t => t.pd p = { d with s0 := { d.s0 with stored := none }, txq := insReply { sop := .sop0, ty := 2, ext := true, objs := s.statusBytes p, use := .status } d.txq }
        ∧ others t ∧ OnlyChanges [.pds] s t))
    ∧ (¬ live → Gives (.getStatusReceived p) s (fun t => t = s))
    ∧ (∀ sop (ty : BitVec 5), let c := Instr.notSupportedReceived p sop ty
        (live → s.bistCarrier p ty.toNat = false → Gives c s (fun t => ((t.pd p).sop sop).stored = none ∧ others t ∧ OnlyChanges [.pds] s t
          ∧ (t.pd p).txq = insReply { sop := sop, ty := if d.rev3 then 0x10 else 4, ext := false, objs := [], use := .notSupported } d.txq))
        ∧ (¬ live ∨ s.bistCarrier p ty.toNat = true → Gives c s (fun t => ((t.pd p).sop sop).stored = none ∧ (t.pd p).txq = d.txq ∧ others t ∧ OnlyChanges [.pds] s t)))

/-- VDMs, trellis mode and answers (11 R376, R382, R396 – R398, R404 – R410, R412; 14 R490). -/
def Obligations.PdVdm : Prop :=
  ∀ (s : State) (p : Port),
    let d := s.pd p
    let x := s.tc p
    let idle := ({ s with blocked := [] } : State)
    let live := s.pdLive p = true
    let others := fun (t : State) => ∀ q, q ≠ p.val → t.pd q = s.pd q
    let still := fun (c : Instr) => Gives c s (fun t => t = idle)
    let replies := fun (m : PdTx) (t : State) => (t.pd p).txq = insReply m d.txq
    let inside := d.trellis = .hello ∨ d.trellis = .entered
    let hard := fun (t : State) => (t.pd p).con = none ∧ (t.pd p).txq = [] ∧ (t.pd p).hardPending = true ∧ (t.pd p).hardResets = d.hardResets + 1 ∧ (t.tc p).source = x.atSource
      ∧ (t.tc p).dfp = x.atDfp ∧ t.fld (portReg p 0x51C) 0 8 = min (s.fld (portReg p 0x51C) 0 8 + 1) 255
    (∀ sop (hdr : Word) (vdos : List Word),
      let c := Instr.vdmReceived p sop hdr vdos
      let h := hdr.toNat
      let answers := fun (kind : Nat) (objs : List Nat) (use : MsgUse) => Gives c s (fun t =>
        replies (msg 0xF (vdmHdr (bits h 16 16) (bits h 8 3) kind (bits h 0 5) :: objs) use) t ∧ others t ∧ (t.pd p).s0 = { d.s0 with stored := none } ∧ t.tcs = s.tcs)
      (¬ live → still c)
      ∧ (live → bit h 15 = false → Gives c s (fun t => ((t.pd p).sop sop).stored = none ∧ (t.pd p).txq = d.txq ∧ others t ∧ OnlyChanges [.pds, .blocked] s t))
      ∧ (live → bit h 15 = true → bits h 6 2 ≠ 0 ∨ bits h 0 5 = 6 → Gives c s (fun t => ((t.pd p).sop sop).stored = none ∧ (t.pd p).txq = d.txq ∧ others t ∧ t.tcs = s.tcs
          ∧ (Room 1 s → PdNoted p 10 (match sop with | .sop0 => 0 | .sop1 => 1 | .sop2 => 2) (vdos.length % 2 ^ 24) s t)))
      ∧ (live → bit h 15 = true → bits h 6 2 = 0 → bits h 0 5 ≠ 6 →
        (sop ≠ .sop0 → Gives c s (fun t => ((t.pd p).sop sop).stored = none ∧ (t.pd p).txq = d.txq ∧ others t))
        ∧ (sop = .sop0 → bits h 16 16 = 0x1EF7 →
          (bits h 0 5 = 3 → if s.trellisEn p then answers 1 [1] .vdmAns else answers 2 [] .vdmAns)
          ∧ (bits h 0 5 = 4 → if s.trellisEn p ∧ bits h 8 3 = 1 ∧ d.con3 ∧ x.dfp = false ∧ ¬ inside then answers 1 [] .enterMode else answers 2 [] .vdmAns)
          ∧ (bits h 0 5 = 5 → if bits h 8 3 = 1 ∧ inside then answers 1 [] .exitMode else answers 2 [] .vdmAns)
          ∧ (bits h 0 5 = 0x11 → if inside then answers 1 (s.telemetryObjs p) .vdmAns else answers 2 [] .vdmAns)
          ∧ (bits h 0 5 ∉ [3, 4, 5, 0x10, 0x11] → answers 2 [] .vdmAns))
        ∧ (sop = .sop0 → bits h 16 16 ≠ 0x1EF7 → s.graftFor 1 4 p = none →
          (bits h 16 16 = 0xFF00 → bits h 0 5 = 1 → answers 1 (s.identityObjs p) .vdmAns)
          ∧ (bits h 16 16 = 0xFF00 → bits h 0 5 = 2 → if s.trellisEn p then answers 1 [0x1EF7 * 65536] .vdmAns else answers 2 [] .vdmAns)
          ∧ (bits h 16 16 ≠ 0xFF00 ∨ (bits h 0 5 ≠ 1 ∧ bits h 0 5 ≠ 2) → answers 2 [] .vdmAns))
        ∧ (sop = .sop0 → bits h 16 16 ≠ 0x1EF7 → (s.graftFor 1 4 p).isSome = true → answers (Config.freeNat s.free % 3 + 1) ((Config.graftObjs s.free).take 6) .vdmAns)))
    ∧ (∀ v w : Word, let c := Instr.trellisHelloReceived p v w
        let ans := fun (ok : Bool) => msg 0xF (vdmHdr 0x1EF7 1 (if ok then 1 else 2) 0x10 :: if ok then s.helloObjs p else []) .vdmAns
        (¬ live → still c)
        ∧ (live → ¬ inside → Gives c s (fun t => replies (ans false) t ∧ others t ∧ (t.pd p).trellis = d.trellis))
        ∧ (live → d.trellis = .entered → Gives c s (fun t => replies (ans true) t ∧ others t ∧ (t.pd p).trellisPeer = d.trellisPeer))
        ∧ (live → d.trellis = .hello → Gives c s (fun t => replies (ans true) t ∧ others t ∧ (t.pd p).trellisPeer = some (v.toNat, w.toNat)
            ∧ (t.pd p).trellis = (if d.helloAcked then .entered else .hello) ∧ (d.helloAcked = true → Room 1 s → PdNoted p 12 0 1 s t))))
    ∧ (d.trellis ≠ .hello ∨ x.dfp = false → still (.trellisTimeout p))
    ∧ (d.trellis = .hello → x.dfp = true → Gives (.trellisTimeout p) s (fun t => (t.pd p).trellis = .no ∧ (t.pd p).trellisPeer = none ∧ others t
        ∧ (live → (t.pd p).txq = d.txq ++ [{ msg 0xF [vdmHdr 0x1EF7 1 0 5] .other with sinkTx := d.con3 }])))
    ∧ (∀ r : PdResp, let c := Instr.pdResponseReceived p r
        let ok := respAnswer r = 1
        let block := answerBlock r.hdr.toNat (r.data.map (·.toNat))
        (d.awaits = none ∨ ¬ live ∨ d.awaitSop ≠ r.sop → still c)
        ∧ (live → d.awaitSop = r.sop →
          (d.awaits = some .request → Gives c s (fun t => (t.pd p).awaits = none ∧ (t.pd p).con = d.con ∧ others t ∧ (ok → (t.pd p).transition = d.next.isSome ∧ (t.pd p).next = d.next)
              ∧ (¬ ok → (t.pd p).next = none)))
          ∧ (∀ k, d.awaits = some (.swapReq k) →
            (¬ ok → Gives c s (fun t => (t.pd p).awaits = none ∧ (t.pd p).swap = .none ∧ (t.pd p).reSent = false ∧ others t ∧ (t.tc p).source = x.source ∧ (t.tc p).dfp = x.dfp))
            ∧ (ok → k = .dr → Gives c s (fun t => (t.tc p).dfp = (!x.dfp) ∧ (t.pd p).swap = .none))
            ∧ (ok → k = .pr → Gives c s (fun t => (t.pd p).swap = .transit .pr true ∧ (t.pd p).con = none ∧ (t.pd p).epr = false ∧ ((t.path p).st = .off ∨ (t.path p).st = .latched)
                ∧ (t.pd p).awaits = (if x.source then none else some .psRdy)))
            ∧ (ok → k = .vconn → Gives c s (fun t => (t.pd p).swap = .transit .vconn true ∧ (t.pd p).awaits = (if x.vconnSrc then some .psRdy else none) ∧ (t.tc p).vconnSrc = true)))
          ∧ (∀ u ∈ [MsgUse.getSrc, .getSnk, .getStatus, .vdmReq], d.awaits = some u → Gives c s (fun t => (t.pd p).awaits = none ∧ others t
              ∧ (∀ o, s.opFind (opServes p u) = some o → o ∉ t.ops
                  ∧ (∀ out, (match o.kind with | .pd _ a _ => a | .vdm a _ => a | _ => 0) = out → out ≠ 0 → Wrote o.h.fn out block s t)
                  ∧ (s.pcie.flr.contains o.h.fn.val = false → Room 1 s → Answered o.h (match o.kind with | .vdm .. => 0x23 | _ => 0x22) ccSuccess (respAnswer r) p s t))))
          ∧ (d.awaits = some .cable → ok → Gives c s (fun t => (t.pd p).cableKnown = true ∧ (t.pd p).cableVdo = (r.data.map (·.toNat)).getD 4 0 ∧ (t.pd p).cableDone = true
              ∧ (Room 1 s → PdNoted p 11 0 1 s t)))
          ∧ (d.awaits = some .hello → ok → d.trellis = .hello → Gives c s (fun t => (t.pd p).helloAcked = true ∧ (t.pd p).trellis = (if d.trellisPeer.isSome then .entered else .hello)))
          ∧ (∀ b, d.awaits = some (.softReset b) → Gives c s (fun t => (t.pd p).awaits = none ∧ (x.source = true → r.sop = .sop0 → d.cableDone = false → (t.pd p).capsDue = true)))))
    ∧ (let c := Instr.senderResponseTimeout p
       (d.awaits = none ∨ d.awaits = some .psRdy ∨ d.awaits = some .eprEnter → still c)
       ∧ (live → (d.awaits = some .caps ∨ d.awaits = some .request ∨ ∃ b, d.awaits = some (.softReset b)) → Gives c s hard)
       ∧ (∀ k, d.awaits = some (.swapReq k) → Gives c s (fun t => (t.pd p).awaits = none ∧ (t.pd p).swap = .none ∧ (t.pd p).reSent = false ∧ others t ∧ (t.pd p).con = d.con))
       ∧ (d.awaits = some .trellisReq → ¬ inside → Gives c s (fun t => (t.pd p).awaits = none ∧ (t.pd p).trellis = .no ∧ others t))
       ∧ (∀ u ∈ [MsgUse.getSrc, .getSnk, .getStatus, .vdmReq], d.awaits = some u → Gives c s (fun t => (t.pd p).awaits = none ∧ others t ∧ (t.pd p).txq = d.txq
          ∧ (∀ o, s.opFind (opServes p u) = some o → o ∉ t.ops
              ∧ (s.pcie.flr.contains o.h.fn.val = false → Room 1 s → Answered o.h (match o.kind with | .vdm .. => 0x23 | _ => 0x22) ccSuccess 5 p s t)))))
end

