-- ==== Sys2Proof/Laws/Table.lean ====
section
/-! SUPPORT. The laws of a sparse table: a read after a write, a read elsewhere, and the canonical form that a write keeps. -/

namespace Sys2Proof.Machine

open Sys2Proof

/-! ### Reads -/

theorem tget_terase_same {α : Type} (d : α) (t : Tbl α) (k : Nat) : tget d (terase t k) k = d := by
  induction t with
  | nil => rfl
  | cons e t ih =>
    obtain ⟨j, v⟩ := e
    by_cases h : j = k
    · simp [terase, h, ih]
    · simp [terase, tget, h, ih]
theorem tget_terase_ne {α : Type} (d : α) (t : Tbl α) (k j : Nat) (h : j ≠ k) : tget d (terase t k) j = tget d t j := by
  induction t with
  | nil => rfl
  | cons e t ih =>
    obtain ⟨i, v⟩ := e
    by_cases hk : i = k
    · simp [terase, tget, hk, ih, Ne.symm h]
    · simp only [terase, hk, if_false, tget, ih]
theorem tget_tins_same {α : Type} (d : α) (t : Tbl α) (k : Nat) (v : α) (h : ∀ e ∈ t, e.1 ≠ k) : tget d (tins t k v) k = v := by
  induction t with
  | nil => simp [tins, tget]
  | cons e t ih =>
    obtain ⟨j, w⟩ := e
    have hj : j ≠ k := h (j, w) (List.mem_cons_self ..)
    have := ih (fun x hx => h x (List.mem_cons_of_mem _ hx))
    by_cases hk : k < j
    · simp [tins, tget, hk]
    · simp [tins, tget, hk, hj, this]
theorem tget_tins_ne {α : Type} (d : α) (t : Tbl α) (k j : Nat) (v : α) (h : j ≠ k) : tget d (tins t k v) j = tget d t j := by
  induction t with
  | nil => simp [tins, tget, Ne.symm h]
  | cons e t ih =>
    obtain ⟨i, w⟩ := e
    by_cases hk : k < i
    · simp [tins, tget, hk, Ne.symm h]
    · simp only [tins, hk, if_false, tget, ih]
theorem terase_ne {α : Type} (t : Tbl α) (k : Nat) : ∀ e ∈ terase t k, e.1 ≠ k := by
  induction t with
  | nil => simp [terase]
  | cons e t ih =>
    obtain ⟨j, v⟩ := e
    by_cases h : j = k
    · simpa [terase, h] using ih
    · intro x hx
      simp only [terase, h, if_false, List.mem_cons] at hx
      rcases hx with rfl | hx
      · exact h
      · exact ih x hx
/-- The value written is the value read. -/
@[simp] theorem tget_tput_same {α : Type} [DecidableEq α] (d : α) (t : Tbl α) (k : Nat) (v : α) : tget d (tput d t k v) k = v := by
  unfold tput
  split
  · next h => rw [tget_terase_same, h]
  · exact tget_tins_same d _ k v (terase_ne t k)
/-- A write leaves every other key. -/
theorem tget_tput_ne {α : Type} [DecidableEq α] (d : α) (t : Tbl α) (k j : Nat) (v : α) (h : j ≠ k) : tget d (tput d t k v) j = tget d t j := by
  unfold tput
  split
  · exact tget_terase_ne d t k j h
  · rw [tget_tins_ne d _ k j v h, tget_terase_ne d t k j h]

/-- The same, for a key that reads as another value when it is not listed. -/
theorem tget_tput_ne2 {α : Type} [DecidableEq α] (d d' : α) (t : Tbl α) (k j : Nat) (v : α) (h : j ≠ k) : tget d (tput d' t k v) j = tget d t j := by
  unfold tput
  split
  · exact tget_terase_ne d t k j h
  · rw [tget_tins_ne d _ k j v h, tget_terase_ne d t k j h]

/-! ### The canonical form -/

/-- Every key is at least `n`. -/
theorem tsorted_cons {α : Type} (j : Nat) (v : α) (t : Tbl α) (h : tsorted ((j, v) :: t) = true) : tsorted t = true ∧ ∀ e ∈ t, j < e.1 := by
  induction t generalizing j v with
  | nil => simp [tsorted]
  | cons e t ih =>
    obtain ⟨k, w⟩ := e
    simp only [tsorted, Bool.and_eq_true, decide_eq_true_eq] at h
    refine ⟨h.2, ?_⟩
    intro x hx
    rcases List.mem_cons.mp hx with rfl | hx
    · exact h.1
    · exact Nat.lt_trans h.1 ((ih k w h.2).2 x hx)
theorem tsorted_of {α : Type} (j : Nat) (v : α) (t : Tbl α) (h : tsorted t = true) (hj : ∀ e ∈ t, j < e.1) : tsorted ((j, v) :: t) = true := by
  cases t with
  | nil => rfl
  | cons e t => simp [tsorted, h, hj e (List.mem_cons_self ..)]
theorem terase_mem {α : Type} (t : Tbl α) (k : Nat) : ∀ e ∈ terase t k, e ∈ t := by
  induction t with
  | nil => simp [terase]
  | cons e t ih =>
    obtain ⟨j, v⟩ := e
    intro x hx
    by_cases h : j = k
    · simp only [terase, h, if_true] at hx
      exact List.mem_cons_of_mem _ (ih x hx)
    · simp only [terase, h, if_false, List.mem_cons] at hx
      rcases hx with rfl | hx
      · exact List.mem_cons_self ..
      · exact List.mem_cons_of_mem _ (ih x hx)
theorem tsorted_terase {α : Type} (t : Tbl α) (k : Nat) (h : tsorted t = true) : tsorted (terase t k) = true := by
  induction t with
  | nil => rfl
  | cons e t ih =>
    obtain ⟨j, v⟩ := e
    have ht := tsorted_cons j v t h
    by_cases hk : j = k
    · simpa [terase, hk] using ih ht.1
    · simp only [terase, hk, if_false]
      exact tsorted_of j v _ (ih ht.1) (fun x hx => ht.2 x (terase_mem t k x hx))
theorem tins_mem {α : Type} (t : Tbl α) (k : Nat) (v : α) : ∀ e ∈ tins t k v, e = (k, v) ∨ e ∈ t := by
  induction t with
  | nil => simp [tins]
  | cons e t ih =>
    obtain ⟨j, w⟩ := e
    intro x hx
    by_cases h : k < j
    · simp only [tins, h, if_true, List.mem_cons] at hx
      rcases hx with rfl | rfl | hx
      · exact .inl rfl
      · exact .inr (List.mem_cons_self ..)
      · exact .inr (List.mem_cons_of_mem _ hx)
    · simp only [tins, h, if_false, List.mem_cons] at hx
      rcases hx with rfl | hx
      · exact .inr (List.mem_cons_self ..)
      · rcases ih x hx with rfl | hx
        · exact .inl rfl
        · exact .inr (List.mem_cons_of_mem _ hx)
theorem tsorted_tins {α : Type} (t : Tbl α) (k : Nat) (v : α) (h : tsorted t = true) (hk : ∀ e ∈ t, e.1 ≠ k) : tsorted (tins t k v) = true := by
  induction t with
  | nil => rfl
  | cons e t ih =>
    obtain ⟨j, w⟩ := e
    have ht := tsorted_cons j w t h
    have hj : j ≠ k := hk (j, w) (List.mem_cons_self ..)
    by_cases hl : k < j
    · simp only [tins, hl, if_true]
      refine tsorted_of k v _ h ?_
      intro x hx
      rcases List.mem_cons.mp hx with rfl | hx
      · exact hl
      · exact Nat.lt_trans hl (ht.2 x hx)
    · simp only [tins, hl, if_false]
      refine tsorted_of j w _ (ih ht.1 (fun x hx => hk x (List.mem_cons_of_mem _ hx))) ?_
      intro x hx
      rcases tins_mem t k v x hx with rfl | hx
      · exact Nat.lt_of_le_of_ne (Nat.le_of_not_lt hl) hj
      · exact ht.2 x hx
/-- A write keeps the canonical form. -/
theorem twf_tput {α : Type} [DecidableEq α] (d : α) (t : Tbl α) (k : Nat) (v : α) (h : twf d t = true) : twf d (tput d t k v) = true := by
  simp only [twf, Bool.and_eq_true, List.all_eq_true, decide_eq_true_eq] at h ⊢
  unfold tput
  split
  · exact ⟨tsorted_terase t k h.1, fun x hx => h.2 x (terase_mem t k x hx)⟩
  · next hv =>
    refine ⟨tsorted_tins _ k v (tsorted_terase t k h.1) (terase_ne t k), ?_⟩
    intro x hx
    rcases tins_mem _ k v x hx with rfl | hx
    · exact hv
    · exact h.2 x (terase_mem t k x hx)

end Sys2Proof.Machine
end

