-- ==== Sys2Proof/Laws/Outside.lean ====
section
/-! SUPPORT. The frame of an operation: the state outside a set of its parts, a set given as a bit mask in the order of State's fields. For
each operation the files Laws/Outside*.lean say that the state outside the parts the operation may write is as before. -/

namespace Sys2Proof.Machine

open Sys2Proof Sys2Proof.Safety

/-- The state with the parts of a mask blanked: what two states agree on when they differ in those parts alone. -/
def State.outside (m : Nat) (s : State) : State × (Nat → FnRun) × (Nat → Nat) :=
  ({
    pending := if m.testBit 0 then [] else s.pending,
    waiting := if m.testBit 1 then [] else s.waiting,
    aside := if m.testBit 2 then [] else s.aside,
    ops := if m.testBit 3 then [] else s.ops,
    regs := if m.testBit 4 || m.testBit 45 then [] else s.regs,
    lock := if m.testBit 5 then false else s.lock,
    blockedLast := if m.testBit 6 then 0 else s.blockedLast,
    otp := if m.testBit 7 then {} else s.otp,
    sup := if m.testBit 8 then {} else s.sup,
    boot := if m.testBit 9 then {} else s.boot,
    pcie := if m.testBit 10 then {} else if m.testBit 43 then { s.pcie with msix := [] } else s.pcie,
    fns := if m.testBit 11 || m.testBit 44 then [] else s.fns,
    slots := if m.testBit 12 then [] else s.slots,
    eps := if m.testBit 13 then [] else s.eps,
    short := if m.testBit 14 then [] else s.short,
    grants := if m.testBit 15 then [] else s.grants,
    links := if m.testBit 16 then [] else s.links,
    buses := if m.testBit 17 then [] else s.buses,
    guests := if m.testBit 18 then [] else s.guests,
    tcs := if m.testBit 19 then [] else s.tcs,
    pds := if m.testBit 20 then [] else s.pds,
    paths := if m.testBit 21 then [] else s.paths,
    brgs := if m.testBit 22 then [] else s.brgs,
    caps := if m.testBit 23 then [] else s.caps,
    capStarts := if m.testBit 24 then 0 else s.capStarts,
    beds := if m.testBit 25 then [] else s.beds,
    hooks := if m.testBit 26 then [] else s.hooks,
    budget := if m.testBit 27 then {} else s.budget,
    mode := if m.testBit 28 then {} else s.mode,
    eng := if m.testBit 29 then {} else s.eng,
    grafts := if m.testBit 30 then [] else s.grafts,
    dsp := if m.testBit 31 then {} else s.dsp,
    flt := if m.testBit 32 then {} else s.flt,
    inj := if m.testBit 33 then [] else s.inj,
    alm := if m.testBit 34 then {} else s.alm,
    time := if m.testBit 35 then {} else s.time,
    smb := if m.testBit 36 then {} else s.smb,
    tele := if m.testBit 37 then {} else s.tele,
    tallies := if m.testBit 38 then [] else s.tallies,
    units := if m.testBit 39 then {} else s.units,
    out := if m.testBit 40 then [] else s.out,
    blocked := if m.testBit 41 then [] else s.blocked,
    free := if m.testBit 42 then 0 else s.free },
   fun f => if m.testBit 11 then {} else { (tget {} s.fns f : FnRun) with evrs := if m.testBit 44 then [] else (tget {} s.fns f : FnRun).evrs },
   fun off => if (if unsentReg off then m.testBit 45 else m.testBit 4) then 0 else tget (resetVal off) s.regs off)

theorem sub_trans {a b m : Nat} (h : a &&& m = a) (hb : b &&& a = b) : b &&& m = b := by
  rw [← hb, Nat.land_assoc, h]
theorem sub_bit {a m : Nat} (h : a &&& m = a) (i : Nat) (hi : a.testBit i = true) : m.testBit i = true := by
  rw [← h, Nat.testBit_land] at hi
  exact (Bool.and_eq_true_iff.mp hi).2

/-! ### The field of a part that is not in the mask -/

theorem eq_pending_of_outside {m : Nat} {s t : State} (h : t.outside m = s.outside m) (hm0 : m.testBit 0 = false) : t.pending = s.pending := by
  simpa [State.outside, hm0] using congrArg (fun x => State.pending x.1) h
theorem eq_waiting_of_outside {m : Nat} {s t : State} (h : t.outside m = s.outside m) (hm0 : m.testBit 1 = false) : t.waiting = s.waiting := by
  simpa [State.outside, hm0] using congrArg (fun x => State.waiting x.1) h
theorem eq_aside_of_outside {m : Nat} {s t : State} (h : t.outside m = s.outside m) (hm0 : m.testBit 2 = false) : t.aside = s.aside := by
  simpa [State.outside, hm0] using congrArg (fun x => State.aside x.1) h
theorem eq_ops_of_outside {m : Nat} {s t : State} (h : t.outside m = s.outside m) (hm0 : m.testBit 3 = false) : t.ops = s.ops := by
  simpa [State.outside, hm0] using congrArg (fun x => State.ops x.1) h
theorem eq_regs_of_outside {m : Nat} {s t : State} (h : t.outside m = s.outside m) (hm0 : m.testBit 4 = false) (hm1 : m.testBit 45 = false) : t.regs = s.regs := by
  simpa [State.outside, hm0, hm1] using congrArg (fun x => State.regs x.1) h
theorem eq_lock_of_outside {m : Nat} {s t : State} (h : t.outside m = s.outside m) (hm0 : m.testBit 5 = false) : t.lock = s.lock := by
  simpa [State.outside, hm0] using congrArg (fun x => State.lock x.1) h
theorem eq_blockedLast_of_outside {m : Nat} {s t : State} (h : t.outside m = s.outside m) (hm0 : m.testBit 6 = false) : t.blockedLast = s.blockedLast := by
  simpa [State.outside, hm0] using congrArg (fun x => State.blockedLast x.1) h
theorem eq_otp_of_outside {m : Nat} {s t : State} (h : t.outside m = s.outside m) (hm0 : m.testBit 7 = false) : t.otp = s.otp := by
  simpa [State.outside, hm0] using congrArg (fun x => State.otp x.1) h
theorem eq_sup_of_outside {m : Nat} {s t : State} (h : t.outside m = s.outside m) (hm0 : m.testBit 8 = false) : t.sup = s.sup := by
  simpa [State.outside, hm0] using congrArg (fun x => State.sup x.1) h
theorem eq_boot_of_outside {m : Nat} {s t : State} (h : t.outside m = s.outside m) (hm0 : m.testBit 9 = false) : t.boot = s.boot := by
  simpa [State.outside, hm0] using congrArg (fun x => State.boot x.1) h
theorem eq_pcie_of_outside {m : Nat} {s t : State} (h : t.outside m = s.outside m) (hm0 : m.testBit 10 = false) (hm1 : m.testBit 43 = false) : t.pcie = s.pcie := by
  simpa [State.outside, hm0, hm1] using congrArg (fun x => State.pcie x.1) h
theorem eq_fns_of_outside {m : Nat} {s t : State} (h : t.outside m = s.outside m) (hm0 : m.testBit 11 = false) (hm1 : m.testBit 44 = false) : t.fns = s.fns := by
  simpa [State.outside, hm0, hm1] using congrArg (fun x => State.fns x.1) h
theorem eq_slots_of_outside {m : Nat} {s t : State} (h : t.outside m = s.outside m) (hm0 : m.testBit 12 = false) : t.slots = s.slots := by
  simpa [State.outside, hm0] using congrArg (fun x => State.slots x.1) h
theorem eq_eps_of_outside {m : Nat} {s t : State} (h : t.outside m = s.outside m) (hm0 : m.testBit 13 = false) : t.eps = s.eps := by
  simpa [State.outside, hm0] using congrArg (fun x => State.eps x.1) h
theorem eq_short_of_outside {m : Nat} {s t : State} (h : t.outside m = s.outside m) (hm0 : m.testBit 14 = false) : t.short = s.short := by
  simpa [State.outside, hm0] using congrArg (fun x => State.short x.1) h
theorem eq_grants_of_outside {m : Nat} {s t : State} (h : t.outside m = s.outside m) (hm0 : m.testBit 15 = false) : t.grants = s.grants := by
  simpa [State.outside, hm0] using congrArg (fun x => State.grants x.1) h
theorem eq_links_of_outside {m : Nat} {s t : State} (h : t.outside m = s.outside m) (hm0 : m.testBit 16 = false) : t.links = s.links := by
  simpa [State.outside, hm0] using congrArg (fun x => State.links x.1) h
theorem eq_buses_of_outside {m : Nat} {s t : State} (h : t.outside m = s.outside m) (hm0 : m.testBit 17 = false) : t.buses = s.buses := by
  simpa [State.outside, hm0] using congrArg (fun x => State.buses x.1) h
theorem eq_guests_of_outside {m : Nat} {s t : State} (h : t.outside m = s.outside m) (hm0 : m.testBit 18 = false) : t.guests = s.guests := by
  simpa [State.outside, hm0] using congrArg (fun x => State.guests x.1) h
theorem eq_tcs_of_outside {m : Nat} {s t : State} (h : t.outside m = s.outside m) (hm0 : m.testBit 19 = false) : t.tcs = s.tcs := by
  simpa [State.outside, hm0] using congrArg (fun x => State.tcs x.1) h
theorem eq_pds_of_outside {m : Nat} {s t : State} (h : t.outside m = s.outside m) (hm0 : m.testBit 20 = false) : t.pds = s.pds := by
  simpa [State.outside, hm0] using congrArg (fun x => State.pds x.1) h
theorem eq_paths_of_outside {m : Nat} {s t : State} (h : t.outside m = s.outside m) (hm0 : m.testBit 21 = false) : t.paths = s.paths := by
  simpa [State.outside, hm0] using congrArg (fun x => State.paths x.1) h
theorem eq_brgs_of_outside {m : Nat} {s t : State} (h : t.outside m = s.outside m) (hm0 : m.testBit 22 = false) : t.brgs = s.brgs := by
  simpa [State.outside, hm0] using congrArg (fun x => State.brgs x.1) h
theorem eq_caps_of_outside {m : Nat} {s t : State} (h : t.outside m = s.outside m) (hm0 : m.testBit 23 = false) : t.caps = s.caps := by
  simpa [State.outside, hm0] using congrArg (fun x => State.caps x.1) h
theorem eq_capStarts_of_outside {m : Nat} {s t : State} (h : t.outside m = s.outside m) (hm0 : m.testBit 24 = false) : t.capStarts = s.capStarts := by
  simpa [State.outside, hm0] using congrArg (fun x => State.capStarts x.1) h
theorem eq_beds_of_outside {m : Nat} {s t : State} (h : t.outside m = s.outside m) (hm0 : m.testBit 25 = false) : t.beds = s.beds := by
  simpa [State.outside, hm0] using congrArg (fun x => State.beds x.1) h
theorem eq_hooks_of_outside {m : Nat} {s t : State} (h : t.outside m = s.outside m) (hm0 : m.testBit 26 = false) : t.hooks = s.hooks := by
  simpa [State.outside, hm0] using congrArg (fun x => State.hooks x.1) h
theorem eq_budget_of_outside {m : Nat} {s t : State} (h : t.outside m = s.outside m) (hm0 : m.testBit 27 = false) : t.budget = s.budget := by
  simpa [State.outside, hm0] using congrArg (fun x => State.budget x.1) h
theorem eq_mode_of_outside {m : Nat} {s t : State} (h : t.outside m = s.outside m) (hm0 : m.testBit 28 = false) : t.mode = s.mode := by
  simpa [State.outside, hm0] using congrArg (fun x => State.mode x.1) h
theorem eq_eng_of_outside {m : Nat} {s t : State} (h : t.outside m = s.outside m) (hm0 : m.testBit 29 = false) : t.eng = s.eng := by
  simpa [State.outside, hm0] using congrArg (fun x => State.eng x.1) h
theorem eq_grafts_of_outside {m : Nat} {s t : State} (h : t.outside m = s.outside m) (hm0 : m.testBit 30 = false) : t.grafts = s.grafts := by
  simpa [State.outside, hm0] using congrArg (fun x => State.grafts x.1) h
theorem eq_dsp_of_outside {m : Nat} {s t : State} (h : t.outside m = s.outside m) (hm0 : m.testBit 31 = false) : t.dsp = s.dsp := by
  simpa [State.outside, hm0] using congrArg (fun x => State.dsp x.1) h
theorem eq_flt_of_outside {m : Nat} {s t : State} (h : t.outside m = s.outside m) (hm0 : m.testBit 32 = false) : t.flt = s.flt := by
  simpa [State.outside, hm0] using congrArg (fun x => State.flt x.1) h
theorem eq_inj_of_outside {m : Nat} {s t : State} (h : t.outside m = s.outside m) (hm0 : m.testBit 33 = false) : t.inj = s.inj := by
  simpa [State.outside, hm0] using congrArg (fun x => State.inj x.1) h
theorem eq_alm_of_outside {m : Nat} {s t : State} (h : t.outside m = s.outside m) (hm0 : m.testBit 34 = false) : t.alm = s.alm := by
  simpa [State.outside, hm0] using congrArg (fun x => State.alm x.1) h
theorem eq_time_of_outside {m : Nat} {s t : State} (h : t.outside m = s.outside m) (hm0 : m.testBit 35 = false) : t.time = s.time := by
  simpa [State.outside, hm0] using congrArg (fun x => State.time x.1) h
theorem eq_smb_of_outside {m : Nat} {s t : State} (h : t.outside m = s.outside m) (hm0 : m.testBit 36 = false) : t.smb = s.smb := by
  simpa [State.outside, hm0] using congrArg (fun x => State.smb x.1) h
theorem eq_tele_of_outside {m : Nat} {s t : State} (h : t.outside m = s.outside m) (hm0 : m.testBit 37 = false) : t.tele = s.tele := by
  simpa [State.outside, hm0] using congrArg (fun x => State.tele x.1) h
theorem eq_tallies_of_outside {m : Nat} {s t : State} (h : t.outside m = s.outside m) (hm0 : m.testBit 38 = false) : t.tallies = s.tallies := by
  simpa [State.outside, hm0] using congrArg (fun x => State.tallies x.1) h
theorem eq_units_of_outside {m : Nat} {s t : State} (h : t.outside m = s.outside m) (hm0 : m.testBit 39 = false) : t.units = s.units := by
  simpa [State.outside, hm0] using congrArg (fun x => State.units x.1) h
theorem eq_out_of_outside {m : Nat} {s t : State} (h : t.outside m = s.outside m) (hm0 : m.testBit 40 = false) : t.out = s.out := by
  simpa [State.outside, hm0] using congrArg (fun x => State.out x.1) h
theorem eq_blocked_of_outside {m : Nat} {s t : State} (h : t.outside m = s.outside m) (hm0 : m.testBit 41 = false) : t.blocked = s.blocked := by
  simpa [State.outside, hm0] using congrArg (fun x => State.blocked x.1) h
theorem eq_free_of_outside {m : Nat} {s t : State} (h : t.outside m = s.outside m) (hm0 : m.testBit 42 = false) : t.free = s.free := by
  simpa [State.outside, hm0] using congrArg (fun x => State.free x.1) h
/-- Configuration space and the link, the vectors apart. -/
theorem eq_link_of_outside {m : Nat} {s t : State} (h : t.outside m = s.outside m) (hm : m.testBit 10 = false) :
    ({ t.pcie with msix := [] } : Pcie) = { s.pcie with msix := [] } := by
  have e := congrArg (fun x => State.pcie x.1) h
  by_cases h2 : m.testBit 43 = true
  · simpa [State.outside, hm, h2] using e
  · have h3 : t.pcie = s.pcie := by simpa [State.outside, hm, h2] using e
    rw [h3]
/-- The run state of a function, its event rings apart. -/
theorem eq_fn_of_outside {m : Nat} {s t : State} (h : t.outside m = s.outside m) (hm : m.testBit 11 = false) (f : Nat) :
    ({ t.fn f with evrs := [] } : FnRun) = { s.fn f with evrs := [] } := by
  have e := congrArg (fun x => x.2.1 f) h
  simp only [State.outside, hm, Bool.false_eq_true, if_false] at e
  unfold State.fn
  cases hx : m.testBit 44
  · rw [hx] at e
    exact congrArg (fun x : FnRun => { x with evrs := [] }) e
  · rw [hx] at e
    exact e
/-- A register that is no count of unsent records. -/
theorem eq_rget_of_outside {m : Nat} {s t : State} (h : t.outside m = s.outside m) (hm : m.testBit 4 = false) (off : Nat) (ho : unsentReg off = false) :
    t.rget off = s.rget off := by
  have e := congrArg (fun x => x.2.2 off) h
  unfold State.rget
  simpa [State.outside, hm, ho] using e
theorem eq_unsent_of_outside {m : Nat} {s t : State} (h : t.outside m = s.outside m) (hm : m.testBit 45 = false) (off : Nat) (ho : unsentReg off = true) :
    t.rget off = s.rget off := by
  have e := congrArg (fun x => x.2.2 off) h
  unfold State.rget
  simpa [State.outside, hm, ho] using e
theorem eq_msix_of_outside {m : Nat} {s t : State} (h : t.outside m = s.outside m) (hm : m.testBit 10 = false) (hm' : m.testBit 43 = false) :
    t.pcie.msix = s.pcie.msix := congrArg Pcie.msix (eq_pcie_of_outside h hm hm')
theorem eq_evrs_of_outside {m : Nat} {s t : State} (h : t.outside m = s.outside m) (hm : m.testBit 11 = false) (hm' : m.testBit 44 = false) (f : Nat) :
    (t.fn f).evrs = (s.fn f).evrs := by
  have e := eq_fns_of_outside h hm hm'
  unfold State.fn; rw [e]

/-! ### Updates of one part -/

theorem set_pending_outside (s : State) (x : List Instr) (m : Nat) (hm : 1 &&& m = 1) :
    State.outside m { s with pending := x } = s.outside m := by
  simp only [State.outside, sub_bit hm 0 rfl, if_true]
theorem set_waiting_outside (s : State) (x : List Waiting) (m : Nat) (hm : 2 &&& m = 2) :
    State.outside m { s with waiting := x } = s.outside m := by
  simp only [State.outside, sub_bit hm 1 rfl, if_true]
theorem set_aside_outside (s : State) (x : List Waiting) (m : Nat) (hm : 4 &&& m = 4) :
    State.outside m { s with aside := x } = s.outside m := by
  simp only [State.outside, sub_bit hm 2 rfl, if_true]
theorem set_ops_outside (s : State) (x : List Op) (m : Nat) (hm : 8 &&& m = 8) :
    State.outside m { s with ops := x } = s.outside m := by
  simp only [State.outside, sub_bit hm 3 rfl, if_true]
theorem set_regs_outside (s : State) (x : Tbl Nat) (m : Nat) (hm : 35184372088848 &&& m = 35184372088848) :
    State.outside m { s with regs := x } = s.outside m := by
  simp only [State.outside, sub_bit hm 4 rfl, sub_bit hm 45 rfl, if_true, Bool.or_true, Bool.true_or, ite_self]
theorem set_lock_outside (s : State) (x : Bool) (m : Nat) (hm : 32 &&& m = 32) :
    State.outside m { s with lock := x } = s.outside m := by
  simp only [State.outside, sub_bit hm 5 rfl, if_true]
theorem set_blockedLast_outside (s : State) (x : Nat) (m : Nat) (hm : 64 &&& m = 64) :
    State.outside m { s with blockedLast := x } = s.outside m := by
  simp only [State.outside, sub_bit hm 6 rfl, if_true]
theorem set_otp_outside (s : State) (x : Otp) (m : Nat) (hm : 128 &&& m = 128) :
    State.outside m { s with otp := x } = s.outside m := by
  simp only [State.outside, sub_bit hm 7 rfl, if_true]
theorem set_sup_outside (s : State) (x : Supply) (m : Nat) (hm : 256 &&& m = 256) :
    State.outside m { s with sup := x } = s.outside m := by
  simp only [State.outside, sub_bit hm 8 rfl, if_true]
theorem set_boot_outside (s : State) (x : Boot) (m : Nat) (hm : 512 &&& m = 512) :
    State.outside m { s with boot := x } = s.outside m := by
  simp only [State.outside, sub_bit hm 9 rfl, if_true]
theorem set_pcie_outside (s : State) (x : Pcie) (m : Nat) (hm : 8796093023232 &&& m = 8796093023232) :
    State.outside m { s with pcie := x } = s.outside m := by
  simp only [State.outside, sub_bit hm 10 rfl, sub_bit hm 43 rfl, if_true, Bool.or_true, Bool.true_or]
theorem set_fns_outside (s : State) (x : Tbl FnRun) (m : Nat) (hm : 17592186046464 &&& m = 17592186046464) :
    State.outside m { s with fns := x } = s.outside m := by
  simp only [State.outside, sub_bit hm 11 rfl, sub_bit hm 44 rfl, if_true, Bool.or_true, Bool.true_or]
theorem set_slots_outside (s : State) (x : Tbl Slot) (m : Nat) (hm : 4096 &&& m = 4096) :
    State.outside m { s with slots := x } = s.outside m := by
  simp only [State.outside, sub_bit hm 12 rfl, if_true]
theorem set_eps_outside (s : State) (x : Tbl Ep) (m : Nat) (hm : 8192 &&& m = 8192) :
    State.outside m { s with eps := x } = s.outside m := by
  simp only [State.outside, sub_bit hm 13 rfl, if_true]
theorem set_short_outside (s : State) (x : List Nat) (m : Nat) (hm : 16384 &&& m = 16384) :
    State.outside m { s with short := x } = s.outside m := by
  simp only [State.outside, sub_bit hm 14 rfl, if_true]
theorem set_grants_outside (s : State) (x : Tbl Nat) (m : Nat) (hm : 32768 &&& m = 32768) :
    State.outside m { s with grants := x } = s.outside m := by
  simp only [State.outside, sub_bit hm 15 rfl, if_true]
theorem set_links_outside (s : State) (x : Tbl Link) (m : Nat) (hm : 65536 &&& m = 65536) :
    State.outside m { s with links := x } = s.outside m := by
  simp only [State.outside, sub_bit hm 16 rfl, if_true]
theorem set_buses_outside (s : State) (x : Tbl Bus) (m : Nat) (hm : 131072 &&& m = 131072) :
    State.outside m { s with buses := x } = s.outside m := by
  simp only [State.outside, sub_bit hm 17 rfl, if_true]
theorem set_guests_outside (s : State) (x : Tbl Guest) (m : Nat) (hm : 262144 &&& m = 262144) :
    State.outside m { s with guests := x } = s.outside m := by
  simp only [State.outside, sub_bit hm 18 rfl, if_true]
theorem set_tcs_outside (s : State) (x : Tbl Tc) (m : Nat) (hm : 524288 &&& m = 524288) :
    State.outside m { s with tcs := x } = s.outside m := by
  simp only [State.outside, sub_bit hm 19 rfl, if_true]
theorem set_pds_outside (s : State) (x : Tbl Pd) (m : Nat) (hm : 1048576 &&& m = 1048576) :
    State.outside m { s with pds := x } = s.outside m := by
  simp only [State.outside, sub_bit hm 20 rfl, if_true]
theorem set_paths_outside (s : State) (x : Tbl Path) (m : Nat) (hm : 2097152 &&& m = 2097152) :
    State.outside m { s with paths := x } = s.outside m := by
  simp only [State.outside, sub_bit hm 21 rfl, if_true]
theorem set_brgs_outside (s : State) (x : Tbl Bridge) (m : Nat) (hm : 4194304 &&& m = 4194304) :
    State.outside m { s with brgs := x } = s.outside m := by
  simp only [State.outside, sub_bit hm 22 rfl, if_true]
theorem set_caps_outside (s : State) (x : Tbl Capture) (m : Nat) (hm : 8388608 &&& m = 8388608) :
    State.outside m { s with caps := x } = s.outside m := by
  simp only [State.outside, sub_bit hm 23 rfl, if_true]
theorem set_capStarts_outside (s : State) (x : Nat) (m : Nat) (hm : 16777216 &&& m = 16777216) :
    State.outside m { s with capStarts := x } = s.outside m := by
  simp only [State.outside, sub_bit hm 24 rfl, if_true]
theorem set_beds_outside (s : State) (x : Tbl BedSt) (m : Nat) (hm : 33554432 &&& m = 33554432) :
    State.outside m { s with beds := x } = s.outside m := by
  simp only [State.outside, sub_bit hm 25 rfl, if_true]
theorem set_hooks_outside (s : State) (x : Tbl Hook) (m : Nat) (hm : 67108864 &&& m = 67108864) :
    State.outside m { s with hooks := x } = s.outside m := by
  simp only [State.outside, sub_bit hm 26 rfl, if_true]
theorem set_budget_outside (s : State) (x : Budget) (m : Nat) (hm : 134217728 &&& m = 134217728) :
    State.outside m { s with budget := x } = s.outside m := by
  simp only [State.outside, sub_bit hm 27 rfl, if_true]
theorem set_mode_outside (s : State) (x : ModeSt) (m : Nat) (hm : 268435456 &&& m = 268435456) :
    State.outside m { s with mode := x } = s.outside m := by
  simp only [State.outside, sub_bit hm 28 rfl, if_true]
theorem set_eng_outside (s : State) (x : Eng) (m : Nat) (hm : 536870912 &&& m = 536870912) :
    State.outside m { s with eng := x } = s.outside m := by
  simp only [State.outside, sub_bit hm 29 rfl, if_true]
theorem set_grafts_outside (s : State) (x : Tbl Graft) (m : Nat) (hm : 1073741824 &&& m = 1073741824) :
    State.outside m { s with grafts := x } = s.outside m := by
  simp only [State.outside, sub_bit hm 30 rfl, if_true]
theorem set_dsp_outside (s : State) (x : Dispatch) (m : Nat) (hm : 2147483648 &&& m = 2147483648) :
    State.outside m { s with dsp := x } = s.outside m := by
  simp only [State.outside, sub_bit hm 31 rfl, if_true]
theorem set_flt_outside (s : State) (x : Flt) (m : Nat) (hm : 4294967296 &&& m = 4294967296) :
    State.outside m { s with flt := x } = s.outside m := by
  simp only [State.outside, sub_bit hm 32 rfl, if_true]
theorem set_inj_outside (s : State) (x : List Inj) (m : Nat) (hm : 8589934592 &&& m = 8589934592) :
    State.outside m { s with inj := x } = s.outside m := by
  simp only [State.outside, sub_bit hm 33 rfl, if_true]
theorem set_alm_outside (s : State) (x : Alm) (m : Nat) (hm : 17179869184 &&& m = 17179869184) :
    State.outside m { s with alm := x } = s.outside m := by
  simp only [State.outside, sub_bit hm 34 rfl, if_true]
theorem set_time_outside (s : State) (x : Time) (m : Nat) (hm : 34359738368 &&& m = 34359738368) :
    State.outside m { s with time := x } = s.outside m := by
  simp only [State.outside, sub_bit hm 35 rfl, if_true]
theorem set_smb_outside (s : State) (x : Smb) (m : Nat) (hm : 68719476736 &&& m = 68719476736) :
    State.outside m { s with smb := x } = s.outside m := by
  simp only [State.outside, sub_bit hm 36 rfl, if_true]
theorem set_tele_outside (s : State) (x : Tele) (m : Nat) (hm : 137438953472 &&& m = 137438953472) :
    State.outside m { s with tele := x } = s.outside m := by
  simp only [State.outside, sub_bit hm 37 rfl, if_true]
theorem set_tallies_outside (s : State) (x : Tbl TallySt) (m : Nat) (hm : 274877906944 &&& m = 274877906944) :
    State.outside m { s with tallies := x } = s.outside m := by
  simp only [State.outside, sub_bit hm 38 rfl, if_true]
theorem set_units_outside (s : State) (x : Units) (m : Nat) (hm : 549755813888 &&& m = 549755813888) :
    State.outside m { s with units := x } = s.outside m := by
  simp only [State.outside, sub_bit hm 39 rfl, if_true]
theorem set_out_outside (s : State) (x : List Out) (m : Nat) (hm : 1099511627776 &&& m = 1099511627776) :
    State.outside m { s with out := x } = s.outside m := by
  simp only [State.outside, sub_bit hm 40 rfl, if_true]
theorem set_blocked_outside (s : State) (x : List (Nat × Nat)) (m : Nat) (hm : 2199023255552 &&& m = 2199023255552) :
    State.outside m { s with blocked := x } = s.outside m := by
  simp only [State.outside, sub_bit hm 41 rfl, if_true]
theorem set_free_outside (s : State) (x : Nat) (m : Nat) (hm : 4398046511104 &&& m = 4398046511104) :
    State.outside m { s with free := x } = s.outside m := by
  simp only [State.outside, sub_bit hm 42 rfl, if_true]
theorem set_boot_budget_outside (s : State) (x0 : Boot) (x1 : Budget) (m : Nat) (hm : 134218240 &&& m = 134218240) :
    State.outside m { s with boot := x0, budget := x1 } = s.outside m := by
  simp only [State.outside, sub_bit hm 9 rfl, sub_bit hm 27 rfl, if_true]
theorem set_eng_dsp_outside (s : State) (x0 : Eng) (x1 : Dispatch) (m : Nat) (hm : 2684354560 &&& m = 2684354560) :
    State.outside m { s with eng := x0, dsp := x1 } = s.outside m := by
  simp only [State.outside, sub_bit hm 29 rfl, sub_bit hm 31 rfl, if_true]
theorem set_eng_flt_outside (s : State) (x0 : Eng) (x1 : Flt) (m : Nat) (hm : 4831838208 &&& m = 4831838208) :
    State.outside m { s with eng := x0, flt := x1 } = s.outside m := by
  simp only [State.outside, sub_bit hm 29 rfl, sub_bit hm 32 rfl, if_true]
theorem set_lock_short_grants_outside (s : State) (x0 : Bool) (x1 : List Nat) (x2 : Tbl Nat) (m : Nat) (hm : 49184 &&& m = 49184) :
    State.outside m { s with lock := x0, short := x1, grants := x2 } = s.outside m := by
  simp only [State.outside, sub_bit hm 5 rfl, sub_bit hm 14 rfl, sub_bit hm 15 rfl, if_true]
theorem set_slots_eps_guests_outside (s : State) (x0 : Tbl Slot) (x1 : Tbl Ep) (x2 : Tbl Guest) (m : Nat) (hm : 274432 &&& m = 274432) :
    State.outside m { s with slots := x0, eps := x1, guests := x2 } = s.outside m := by
  simp only [State.outside, sub_bit hm 12 rfl, sub_bit hm 13 rfl, sub_bit hm 18 rfl, if_true]
theorem set_sup_boot_outside (s : State) (x0 : Supply) (x1 : Boot) (m : Nat) (hm : 768 &&& m = 768) :
    State.outside m { s with sup := x0, boot := x1 } = s.outside m := by
  simp only [State.outside, sub_bit hm 8 rfl, sub_bit hm 9 rfl, if_true]
theorem set_waiting_aside_outside (s : State) (x0 : List Waiting) (x1 : List Waiting) (m : Nat) (hm : 6 &&& m = 6) :
    State.outside m { s with waiting := x0, aside := x1 } = s.outside m := by
  simp only [State.outside, sub_bit hm 1 rfl, sub_bit hm 2 rfl, if_true]
theorem set_waiting_aside_ops_pcie_slots_eps_outside (s : State) (x0 : List Waiting) (x1 : List Waiting) (x2 : List Op) (x3 : Pcie) (x4 : Tbl Slot) (x5 : Tbl Ep) (m : Nat) (hm : 8796093035534 &&& m = 8796093035534) :
    State.outside m { s with waiting := x0, aside := x1, ops := x2, pcie := x3, slots := x4, eps := x5 } = s.outside m := by
  simp only [State.outside, sub_bit hm 1 rfl, sub_bit hm 2 rfl, sub_bit hm 3 rfl, sub_bit hm 10 rfl, sub_bit hm 12 rfl, sub_bit hm 13 rfl, sub_bit hm 43 rfl, if_true, Bool.or_true, Bool.true_or]
theorem set_waiting_blocked_outside (s : State) (x0 : List Waiting) (x1 : List (Nat × Nat)) (m : Nat) (hm : 2199023255554 &&& m = 2199023255554) :
    State.outside m { s with waiting := x0, blocked := x1 } = s.outside m := by
  simp only [State.outside, sub_bit hm 1 rfl, sub_bit hm 41 rfl, if_true]

/-! ### Folds and results in pairs -/

theorem forEach_outside {α : Type} (l : List α) (g : α → State → State) (s : State) (m : Nat) (hg : ∀ x s, (g x s).outside m = s.outside m) :
    (forEach l g s).outside m = s.outside m := by
  induction l generalizing s with
  | nil => rfl
  | cons x l ih => exact (ih (g x s)).trans (hg x s)
theorem ite_outside {c : Prop} [Decidable c] {a b s : State} {m : Nat} (ha : a.outside m = s.outside m) (hb : b.outside m = s.outside m) :
    (if c then a else b).outside m = s.outside m := by
  split
  · exact ha
  · exact hb
theorem opt_outside {p : Option State} {s t : State} {m : Nat} (h : ∀ u, p = some u → u.outside m = s.outside m) (e : p = some t) :
    t.outside m = s.outside m := h t e
theorem snd_outside {α : Type} {p : α × State} {a : α} {s t : State} {m : Nat} (h : p.2.outside m = s.outside m) (e : p = (a, t)) :
    t.outside m = s.outside m := by rw [← h, e]

end Sys2Proof.Machine
end

