-- ==== Sys2Proof/Laws/OutsideBase.lean ====
section
/-! SUPPORT. What each operation leaves as it was, by Machine file: State, Ops, Regs, ImgOps, Flags, Events, Operands, AlmOps, DspOps, CapOps. -/

namespace Sys2Proof.Machine

open Sys2Proof

/-! ### State -/


/-! ### Ops -/

theorem State.linkPut_outside (s : State) (k : Nat) (v : Link) (msk : Nat) (hm : 65536 &&& msk = 65536) :
    (State.linkPut s k v).outside msk = s.outside msk := by
  unfold State.linkPut
  try dsimp only
  repeat' first
    | with_reducible rfl
    | simp only [set_links_outside _ _ msk (sub_trans hm rfl)]
theorem State.linkOn_outside (s : State) (k : Nat) (g : Link → Link) (msk : Nat) (hm : 65536 &&& msk = 65536) :
    (State.linkOn s k g).outside msk = s.outside msk := by
  unfold State.linkOn
  try dsimp only
  repeat' first
    | with_reducible rfl
    | with_reducible refine (State.linkPut_outside _ _ _ msk (sub_trans hm rfl)).trans ?_
theorem State.busPut_outside (s : State) (k : Nat) (v : Bus) (msk : Nat) (hm : 131072 &&& msk = 131072) :
    (State.busPut s k v).outside msk = s.outside msk := by
  unfold State.busPut
  try dsimp only
  repeat' first
    | with_reducible rfl
    | simp only [set_buses_outside _ _ msk (sub_trans hm rfl)]
theorem State.busOn_outside (s : State) (k : Nat) (g : Bus → Bus) (msk : Nat) (hm : 131072 &&& msk = 131072) :
    (State.busOn s k g).outside msk = s.outside msk := by
  unfold State.busOn
  try dsimp only
  repeat' first
    | with_reducible rfl
    | with_reducible refine (State.busPut_outside _ _ _ msk (sub_trans hm rfl)).trans ?_
theorem State.guestPut_outside (s : State) (k : Nat) (v : Guest) (msk : Nat) (hm : 262144 &&& msk = 262144) :
    (State.guestPut s k v).outside msk = s.outside msk := by
  unfold State.guestPut
  try dsimp only
  repeat' first
    | with_reducible rfl
    | simp only [set_guests_outside _ _ msk (sub_trans hm rfl)]
theorem State.guestOn_outside (s : State) (k : Nat) (g : Guest → Guest) (msk : Nat) (hm : 262144 &&& msk = 262144) :
    (State.guestOn s k g).outside msk = s.outside msk := by
  unfold State.guestOn
  try dsimp only
  repeat' first
    | with_reducible rfl
    | with_reducible refine (State.guestPut_outside _ _ _ msk (sub_trans hm rfl)).trans ?_
theorem State.tcPut_outside (s : State) (k : Nat) (v : Tc) (msk : Nat) (hm : 524288 &&& msk = 524288) :
    (State.tcPut s k v).outside msk = s.outside msk := by
  unfold State.tcPut
  try dsimp only
  repeat' first
    | with_reducible rfl
    | simp only [set_tcs_outside _ _ msk (sub_trans hm rfl)]
theorem State.tcOn_outside (s : State) (k : Nat) (g : Tc → Tc) (msk : Nat) (hm : 524288 &&& msk = 524288) :
    (State.tcOn s k g).outside msk = s.outside msk := by
  unfold State.tcOn
  try dsimp only
  repeat' first
    | with_reducible rfl
    | with_reducible refine (State.tcPut_outside _ _ _ msk (sub_trans hm rfl)).trans ?_
theorem State.pdPut_outside (s : State) (k : Nat) (v : Pd) (msk : Nat) (hm : 1048576 &&& msk = 1048576) :
    (State.pdPut s k v).outside msk = s.outside msk := by
  unfold State.pdPut
  try dsimp only
  repeat' first
    | with_reducible rfl
    | simp only [set_pds_outside _ _ msk (sub_trans hm rfl)]
theorem State.pdOn_outside (s : State) (k : Nat) (g : Pd → Pd) (msk : Nat) (hm : 1048576 &&& msk = 1048576) :
    (State.pdOn s k g).outside msk = s.outside msk := by
  unfold State.pdOn
  try dsimp only
  repeat' first
    | with_reducible rfl
    | with_reducible refine (State.pdPut_outside _ _ _ msk (sub_trans hm rfl)).trans ?_
theorem State.pathPut_outside (s : State) (k : Nat) (v : Path) (msk : Nat) (hm : 2097152 &&& msk = 2097152) :
    (State.pathPut s k v).outside msk = s.outside msk := by
  unfold State.pathPut
  try dsimp only
  repeat' first
    | with_reducible rfl
    | simp only [set_paths_outside _ _ msk (sub_trans hm rfl)]
theorem State.pathOn_outside (s : State) (k : Nat) (g : Path → Path) (msk : Nat) (hm : 2097152 &&& msk = 2097152) :
    (State.pathOn s k g).outside msk = s.outside msk := by
  unfold State.pathOn
  try dsimp only
  repeat' first
    | with_reducible rfl
    | with_reducible refine (State.pathPut_outside _ _ _ msk (sub_trans hm rfl)).trans ?_
theorem State.brgPut_outside (s : State) (k : Nat) (v : Bridge) (msk : Nat) (hm : 4194304 &&& msk = 4194304) :
    (State.brgPut s k v).outside msk = s.outside msk := by
  unfold State.brgPut
  try dsimp only
  repeat' first
    | with_reducible rfl
    | simp only [set_brgs_outside _ _ msk (sub_trans hm rfl)]
theorem State.brgOn_outside (s : State) (k : Nat) (g : Bridge → Bridge) (msk : Nat) (hm : 4194304 &&& msk = 4194304) :
    (State.brgOn s k g).outside msk = s.outside msk := by
  unfold State.brgOn
  try dsimp only
  repeat' first
    | with_reducible rfl
    | with_reducible refine (State.brgPut_outside _ _ _ msk (sub_trans hm rfl)).trans ?_
theorem State.capPut_outside (s : State) (k : Nat) (v : Capture) (msk : Nat) (hm : 8388608 &&& msk = 8388608) :
    (State.capPut s k v).outside msk = s.outside msk := by
  unfold State.capPut
  try dsimp only
  repeat' first
    | with_reducible rfl
    | simp only [set_caps_outside _ _ msk (sub_trans hm rfl)]
theorem State.capOn_outside (s : State) (k : Nat) (g : Capture → Capture) (msk : Nat) (hm : 8388608 &&& msk = 8388608) :
    (State.capOn s k g).outside msk = s.outside msk := by
  unfold State.capOn
  try dsimp only
  repeat' first
    | with_reducible rfl
    | with_reducible refine (State.capPut_outside _ _ _ msk (sub_trans hm rfl)).trans ?_
theorem State.bedPut_outside (s : State) (k : Nat) (v : BedSt) (msk : Nat) (hm : 33554432 &&& msk = 33554432) :
    (State.bedPut s k v).outside msk = s.outside msk := by
  unfold State.bedPut
  try dsimp only
  repeat' first
    | with_reducible rfl
    | simp only [set_beds_outside _ _ msk (sub_trans hm rfl)]
theorem State.bedOn_outside (s : State) (k : Nat) (g : BedSt → BedSt) (msk : Nat) (hm : 33554432 &&& msk = 33554432) :
    (State.bedOn s k g).outside msk = s.outside msk := by
  unfold State.bedOn
  try dsimp only
  repeat' first
    | with_reducible rfl
    | with_reducible refine (State.bedPut_outside _ _ _ msk (sub_trans hm rfl)).trans ?_
theorem State.hookPut_outside (s : State) (k : Nat) (v : Hook) (msk : Nat) (hm : 67108864 &&& msk = 67108864) :
    (State.hookPut s k v).outside msk = s.outside msk := by
  unfold State.hookPut
  try dsimp only
  repeat' first
    | with_reducible rfl
    | simp only [set_hooks_outside _ _ msk (sub_trans hm rfl)]
theorem State.hookOn_outside (s : State) (k : Nat) (g : Hook → Hook) (msk : Nat) (hm : 67108864 &&& msk = 67108864) :
    (State.hookOn s k g).outside msk = s.outside msk := by
  unfold State.hookOn
  try dsimp only
  repeat' first
    | with_reducible rfl
    | with_reducible refine (State.hookPut_outside _ _ _ msk (sub_trans hm rfl)).trans ?_
theorem State.fnPut_outside (s : State) (k : Nat) (v : FnRun) (msk : Nat) (hm : 17592186046464 &&& msk = 17592186046464) :
    (State.fnPut s k v).outside msk = s.outside msk := by
  unfold State.fnPut
  try dsimp only
  repeat' first
    | with_reducible rfl
    | simp only [set_fns_outside _ _ msk (sub_trans hm rfl)]
theorem State.fnOn_outside (s : State) (k : Nat) (g : FnRun → FnRun) (msk : Nat) (hm : 17592186046464 &&& msk = 17592186046464) :
    (State.fnOn s k g).outside msk = s.outside msk := by
  unfold State.fnOn
  try dsimp only
  repeat' first
    | with_reducible rfl
    | with_reducible refine (State.fnPut_outside _ _ _ msk (sub_trans hm rfl)).trans ?_
theorem State.slotPut_outside (s : State) (k : Nat) (v : Slot) (msk : Nat) (hm : 4096 &&& msk = 4096) :
    (State.slotPut s k v).outside msk = s.outside msk := by
  unfold State.slotPut
  try dsimp only
  repeat' first
    | with_reducible rfl
    | simp only [set_slots_outside _ _ msk (sub_trans hm rfl)]
theorem State.slotOn_outside (s : State) (k : Nat) (g : Slot → Slot) (msk : Nat) (hm : 4096 &&& msk = 4096) :
    (State.slotOn s k g).outside msk = s.outside msk := by
  unfold State.slotOn
  try dsimp only
  repeat' first
    | with_reducible rfl
    | with_reducible refine (State.slotPut_outside _ _ _ msk (sub_trans hm rfl)).trans ?_
theorem State.epPut_outside (s : State) (k : Nat) (v : Ep) (msk : Nat) (hm : 8192 &&& msk = 8192) :
    (State.epPut s k v).outside msk = s.outside msk := by
  unfold State.epPut
  try dsimp only
  repeat' first
    | with_reducible rfl
    | simp only [set_eps_outside _ _ msk (sub_trans hm rfl)]
theorem State.epOn_outside (s : State) (k : Nat) (g : Ep → Ep) (msk : Nat) (hm : 8192 &&& msk = 8192) :
    (State.epOn s k g).outside msk = s.outside msk := by
  unfold State.epOn
  try dsimp only
  repeat' first
    | with_reducible rfl
    | with_reducible refine (State.epPut_outside _ _ _ msk (sub_trans hm rfl)).trans ?_
theorem State.graftPut_outside (s : State) (k : Nat) (v : Graft) (msk : Nat) (hm : 1073741824 &&& msk = 1073741824) :
    (State.graftPut s k v).outside msk = s.outside msk := by
  unfold State.graftPut
  try dsimp only
  repeat' first
    | with_reducible rfl
    | simp only [set_grafts_outside _ _ msk (sub_trans hm rfl)]
theorem State.graftOn_outside (s : State) (k : Nat) (g : Graft → Graft) (msk : Nat) (hm : 1073741824 &&& msk = 1073741824) :
    (State.graftOn s k g).outside msk = s.outside msk := by
  unfold State.graftOn
  try dsimp only
  repeat' first
    | with_reducible rfl
    | with_reducible refine (State.graftPut_outside _ _ _ msk (sub_trans hm rfl)).trans ?_
theorem State.tallyPut_outside (s : State) (k : Nat) (v : TallySt) (msk : Nat) (hm : 274877906944 &&& msk = 274877906944) :
    (State.tallyPut s k v).outside msk = s.outside msk := by
  unfold State.tallyPut
  try dsimp only
  repeat' first
    | with_reducible rfl
    | simp only [set_tallies_outside _ _ msk (sub_trans hm rfl)]
theorem State.tallyOn_outside (s : State) (k : Nat) (g : TallySt → TallySt) (msk : Nat) (hm : 274877906944 &&& msk = 274877906944) :
    (State.tallyOn s k g).outside msk = s.outside msk := by
  unfold State.tallyOn
  try dsimp only
  repeat' first
    | with_reducible rfl
    | with_reducible refine (State.tallyPut_outside _ _ _ msk (sub_trans hm rfl)).trans ?_
theorem State.cfgFnOn_outside (s : State) (f : Nat) (g : FnCfg → FnCfg) (msk : Nat) (hm : 8796093023232 &&& msk = 8796093023232) :
    (State.cfgFnOn s f g).outside msk = s.outside msk := by
  unfold State.cfgFnOn
  try dsimp only
  repeat' first
    | with_reducible rfl
    | simp only [set_pcie_outside _ _ msk (sub_trans hm rfl)]
theorem State.vecOn_outside (s : State) (f v : Nat) (g : MsixVec → MsixVec) (msk : Nat) (hm : 8796093022208 &&& msk = 8796093022208) :
    (State.vecOn s f v g).outside msk = s.outside msk := by
  simp only [State.outside, State.vecOn, sub_bit hm 43 rfl, if_true]
theorem State.evrOn_outside (s : State) (f r : Nat) (g : EvRing → EvRing) (msk : Nat) (hm : 17592186044416 &&& msk = 17592186044416) :
    (State.evrOn s f r g).outside msk = s.outside msk := by
  have hb := sub_bit hm 44 rfl
  simp only [State.outside, State.evrOn, State.fnOn, State.fnPut, hb, Bool.or_true, if_true, Prod.mk.injEq, true_and, and_true]
  funext f'
  split
  · rfl
  · by_cases h : f' = f
    · subst h
      rw [tget_tput_same]
      rfl
    · rw [tget_tput_ne _ _ _ _ _ h]
theorem State.dspSrcOn_outside (s : State) (n : Nat) (g : DspSrc → DspSrc) (msk : Nat) (hm : 2147483648 &&& msk = 2147483648) :
    (State.dspSrcOn s n g).outside msk = s.outside msk := by
  unfold State.dspSrcOn
  try dsimp only
  repeat' first
    | with_reducible rfl
    | simp only [set_dsp_outside _ _ msk (sub_trans hm rfl)]
theorem State.procOn_outside (s : State) (n : Nat) (g : ProcSt → ProcSt) (msk : Nat) (hm : 2147483648 &&& msk = 2147483648) :
    (State.procOn s n g).outside msk = s.outside msk := by
  unfold State.procOn
  try dsimp only
  repeat' first
    | with_reducible rfl
    | simp only [set_dsp_outside _ _ msk (sub_trans hm rfl)]
theorem State.holdoffOn_outside (s : State) (n : Nat) (g : Holdoff → Holdoff) (msk : Nat) (hm : 2147483648 &&& msk = 2147483648) :
    (State.holdoffOn s n g).outside msk = s.outside msk := by
  unfold State.holdoffOn
  try dsimp only
  repeat' first
    | with_reducible rfl
    | simp only [set_dsp_outside _ _ msk (sub_trans hm rfl)]
theorem State.fltSrcOn_outside (s : State) (n : Nat) (g : FltSrc → FltSrc) (msk : Nat) (hm : 4294967296 &&& msk = 4294967296) :
    (State.fltSrcOn s n g).outside msk = s.outside msk := by
  unfold State.fltSrcOn
  try dsimp only
  repeat' first
    | with_reducible rfl
    | simp only [set_flt_outside _ _ msk (sub_trans hm rfl)]
theorem State.sideOn_outside (s : State) (p : Nat) (sd : Side) (g : SideSt → SideSt) (msk : Nat) (hm : 65536 &&& msk = 65536) :
    (State.sideOn s p sd g).outside msk = s.outside msk := by
  unfold State.sideOn
  try dsimp only
  repeat' first
    | with_reducible rfl
    | with_reducible refine (State.linkOn_outside _ _ _ msk (sub_trans hm rfl)).trans ?_
theorem State.emit_outside (s : State) (o : Out) (msk : Nat) (hm : 1099511627776 &&& msk = 1099511627776) :
    (State.emit s o).outside msk = s.outside msk := by
  unfold State.emit
  try dsimp only
  repeat' first
    | with_reducible rfl
    | with_reducible refine ite_outside ?_ ?_
    | simp only [set_out_outside _ _ msk (sub_trans hm rfl)]
    | split
theorem State.draw_outside (s : State) (msk : Nat) (hm : 4398046511104 &&& msk = 4398046511104) :
    (State.draw s).2.outside msk = s.outside msk := by
  unfold State.draw
  try dsimp only
  repeat' first
    | with_reducible rfl
    | simp only [set_free_outside _ _ msk (sub_trans hm rfl)]

/-! ### Regs -/

theorem State.rput_outside (s : State) (off v : Nat) (msk : Nat) (hm : 35184372088848 &&& msk = 35184372088848) :
    (State.rput s off v).outside msk = s.outside msk := by
  unfold State.rput
  try dsimp only
  repeat' first
    | with_reducible rfl
    | simp only [set_regs_outside _ _ msk (sub_trans hm rfl)]
theorem State.fldPut_outside (s : State) (off lo w v : Nat) (msk : Nat) (hm : 35184372088848 &&& msk = 35184372088848) :
    (State.fldPut s off lo w v).outside msk = s.outside msk := by
  unfold State.fldPut
  try dsimp only
  repeat' first
    | with_reducible rfl
    | with_reducible refine (State.rput_outside _ _ _ msk (sub_trans hm rfl)).trans ?_
theorem State.rsAdd_outside (s : State) (off lo w n : Nat) (msk : Nat) (hm : 35184372088848 &&& msk = 35184372088848) :
    (State.rsAdd s off lo w n).outside msk = s.outside msk := by
  unfold State.rsAdd
  try dsimp only
  repeat' first
    | with_reducible rfl
    | with_reducible refine (State.fldPut_outside _ _ _ _ _ msk (sub_trans hm rfl)).trans ?_
theorem State.countBlocked_outside (s : State) (off : Nat) (vf : Bool) (msk : Nat) (hm : 35184372088912 &&& msk = 35184372088912) :
    (State.countBlocked s off vf).outside msk = s.outside msk := by
  unfold State.countBlocked
  try dsimp only
  repeat' first
    | with_reducible rfl
    | with_reducible refine ite_outside ?_ ?_
    | with_reducible refine (State.rsAdd_outside _ _ _ _ _ msk (sub_trans hm rfl)).trans ?_
    | simp only [set_blockedLast_outside _ _ msk (sub_trans hm rfl)]
    | split
theorem State.plainWrite_outside (s : State) (off w : Nat) (msk : Nat) (hm : 35184372088912 &&& msk = 35184372088912) :
    (State.plainWrite s off w).outside msk = s.outside msk := by
  unfold State.plainWrite
  try dsimp only
  repeat' first
    | with_reducible rfl
    | with_reducible refine ite_outside ?_ ?_
    | with_reducible refine (State.countBlocked_outside _ _ _ msk (sub_trans hm rfl)).trans ?_
    | with_reducible refine (State.rput_outside _ _ _ msk (sub_trans hm rfl)).trans ?_
    | split
theorem State.sleepHit_outside (s : State) (blk : Nat) (msk : Nat) (hm : 35184372088848 &&& msk = 35184372088848) :
    (State.sleepHit s blk).outside msk = s.outside msk := by
  unfold State.sleepHit
  try dsimp only
  repeat' first
    | with_reducible rfl
    | with_reducible refine (State.fldPut_outside _ _ _ _ _ msk (sub_trans hm rfl)).trans ?_
    | with_reducible refine (State.rsAdd_outside _ _ _ _ _ msk (sub_trans hm rfl)).trans ?_

/-! ### ImgOps -/

theorem applyPort_outside (l : List CfgRec) (p : Nat) (s : State) (msk : Nat) (hm : 35184441294864 &&& msk = 35184441294864) :
    (applyPort l p s).outside msk = s.outside msk := by
  unfold applyPort
  try dsimp only
  repeat' first
    | with_reducible rfl
    | with_reducible refine (State.hookPut_outside _ _ _ msk (sub_trans hm rfl)).trans ?_
    | with_reducible refine (State.pathOn_outside _ _ _ msk (sub_trans hm rfl)).trans ?_
    | with_reducible refine (State.rput_outside _ _ _ msk (sub_trans hm rfl)).trans ?_
    | split
theorem applyBed_outside (l : List CfgRec) (b : Nat) (s : State) (msk : Nat) (hm : 33554432 &&& msk = 33554432) :
    (applyBed l b s).outside msk = s.outside msk := by
  unfold applyBed
  try dsimp only
  repeat' first
    | with_reducible rfl
    | with_reducible refine ite_outside ?_ ?_
    | with_reducible refine (State.bedOn_outside _ _ _ msk (sub_trans hm rfl)).trans ?_
    | split
theorem applyConfig_outside (i : ImageInfo) (s : State) (msk : Nat) (hm : 35185682809360 &&& msk = 35185682809360) :
    (applyConfig i s).outside msk = s.outside msk := by
  unfold applyConfig
  try dsimp only
  repeat' first
    | with_reducible rfl
    | with_reducible refine (State.graftPut_outside _ _ _ msk (sub_trans hm rfl)).trans ?_
    | with_reducible refine (State.rput_outside _ _ _ msk (sub_trans hm rfl)).trans ?_
    | with_reducible refine (applyBed_outside _ _ _ msk (sub_trans hm rfl)).trans ?_
    | with_reducible refine (applyPort_outside _ _ _ msk (sub_trans hm rfl)).trans ?_
    | with_reducible refine (forEach_outside _ _ _ msk ?_).trans ?_
    | simp only [set_boot_budget_outside _ _ _ msk (sub_trans hm rfl)]
    | (intro _)
    | split

/-! ### Events -/

theorem msixSend_outside (f v : Nat) (s : State) (msk : Nat) (hm : 9895604649984 &&& msk = 9895604649984) :
    (msixSend f v s).outside msk = s.outside msk := by
  unfold msixSend
  try dsimp only
  repeat' first
    | with_reducible rfl
    | with_reducible refine ite_outside ?_ ?_
    | with_reducible refine (State.emit_outside _ _ msk (sub_trans hm rfl)).trans ?_
    | with_reducible refine (State.vecOn_outside _ _ _ _ msk (sub_trans hm rfl)).trans ?_
    | split
theorem evrSignal_outside (f r : Nat) (s : State) (msk : Nat) (hm : 27487790694400 &&& msk = 27487790694400) :
    (evrSignal f r s).outside msk = s.outside msk := by
  unfold evrSignal
  try dsimp only
  repeat' first
    | with_reducible rfl
    | with_reducible refine ite_outside ?_ ?_
    | with_reducible refine (State.evrOn_outside _ _ _ _ msk (sub_trans hm rfl)).trans ?_
    | with_reducible refine (msixSend_outside _ _ _ msk (sub_trans hm rfl)).trans ?_
    | split
theorem writeRec_outside (f r : Nat) (e : EvRec) (s : State) (msk : Nat) (hm : 27487790694400 &&& msk = 27487790694400) :
    (writeRec f r e s).outside msk = s.outside msk := by
  unfold writeRec
  try dsimp only
  repeat' first
    | with_reducible rfl
    | with_reducible refine (State.emit_outside _ _ msk (sub_trans hm rfl)).trans ?_
    | with_reducible refine (State.evrOn_outside _ _ _ _ msk (sub_trans hm rfl)).trans ?_
    | with_reducible refine (evrSignal_outside _ _ _ msk (sub_trans hm rfl)).trans ?_
theorem unsentAdd_outside (f : Nat) (s : State) (msk : Nat) (hm : 35184372088832 &&& msk = 35184372088832) :
    (unsentAdd f s).outside msk = s.outside msk := by
  have hb := sub_bit hm 45 rfl
  simp only [State.outside, unsentAdd, State.rsAdd, State.fldPut, State.rput, hb, Bool.or_true, if_true, Prod.mk.injEq, true_and]
  funext off
  by_cases h : off = fnReg f 0x18
  · subst h
    have : Safety.unsentReg (fnReg f 0x18) = true := by
      unfold Safety.unsentReg fnReg
      have : 0x1000000 + f * 0x4000 + 0x18 - 0x1000000 = f * 0x4000 + 0x18 := by omega
      simp only [Bool.and_eq_true, decide_eq_true_eq, beq_iff_eq]
      omega
    rw [this]; rfl
  · rw [tget_tput_ne2 _ _ _ _ _ _ h]
theorem post_outside (f r : Nat) (e : EvRec) (s : State) (msk : Nat) (hm : 64871186038784 &&& msk = 64871186038784) :
    (post f r e s).outside msk = s.outside msk := by
  unfold post
  try dsimp only
  repeat' first
    | with_reducible rfl
    | with_reducible refine ite_outside ?_ ?_
    | with_reducible refine (State.emit_outside _ _ msk (sub_trans hm rfl)).trans ?_
    | with_reducible refine (State.evrOn_outside _ _ _ _ msk (sub_trans hm rfl)).trans ?_
    | with_reducible refine (unsentAdd_outside _ _ msk (sub_trans hm rfl)).trans ?_
    | with_reducible refine (writeRec_outside _ _ _ _ msk (sub_trans hm rfl)).trans ?_
    | simp only [set_blocked_outside _ _ msk (sub_trans hm rfl)]
    | split
theorem flushWait_outside (f r : Nat) (v0 : Nat) (s : State) (msk : Nat) (hm : 27487790694400 &&& msk = 27487790694400) :
    (flushWait f r v0 s).outside msk = s.outside msk := by
  induction v0 generalizing s with
  | zero => rfl
  | succ n ih =>
    unfold flushWait
    try dsimp only
    repeat' first
      | with_reducible rfl
      | with_reducible refine (ih _ ).trans ?_
      | with_reducible refine ite_outside ?_ ?_
      | with_reducible refine (State.evrOn_outside _ _ _ _ msk (sub_trans hm rfl)).trans ?_
      | with_reducible refine (writeRec_outside _ _ _ _ msk (sub_trans hm rfl)).trans ?_
      | split
theorem flushRing_outside (f r : Nat) (s : State) (msk : Nat) (hm : 27487790694400 &&& msk = 27487790694400) :
    (flushRing f r s).outside msk = s.outside msk := by
  unfold flushRing
  try dsimp only
  repeat' first
    | with_reducible rfl
    | with_reducible refine (flushWait_outside _ _ _ _ msk (sub_trans hm rfl)).trans ?_
theorem postPort_outside (p : Nat) (e : EvRec) (s : State) (msk : Nat) (hm : 64871186038784 &&& msk = 64871186038784) :
    (postPort p e s).outside msk = s.outside msk := by
  unfold postPort
  try dsimp only
  repeat' first
    | with_reducible rfl
    | with_reducible refine ite_outside ?_ ?_
    | with_reducible refine (post_outside _ _ _ _ msk (sub_trans hm rfl)).trans ?_
    | split
theorem postPd_outside (p : Nat) (e : EvRec) (s : State) (msk : Nat) (hm : 64871186038784 &&& msk = 64871186038784) :
    (postPd p e s).outside msk = s.outside msk := by
  unfold postPd
  try dsimp only
  repeat' first
    | with_reducible rfl
    | with_reducible refine (post_outside _ _ _ _ msk (sub_trans hm rfl)).trans ?_
theorem postFault_outside (f : Nat) (e : EvRec) (s : State) (msk : Nat) (hm : 64871186038784 &&& msk = 64871186038784) :
    (postFault f e s).outside msk = s.outside msk := by
  unfold postFault
  try dsimp only
  repeat' first
    | with_reducible rfl
    | with_reducible refine ite_outside ?_ ?_
    | with_reducible refine (post_outside _ _ _ _ msk (sub_trans hm rfl)).trans ?_
    | split
theorem postPf_outside (e : EvRec) (s : State) (msk : Nat) (hm : 64871186038784 &&& msk = 64871186038784) :
    (postPf e s).outside msk = s.outside msk := by
  unfold postPf
  try dsimp only
  repeat' first
    | with_reducible rfl
    | with_reducible refine (post_outside _ _ _ _ msk (sub_trans hm rfl)).trans ?_
theorem cmdDone_outside (h : CmdHdr) (opcode code result src : Nat) (s : State) (msk : Nat) (hm : 64871186038784 &&& msk = 64871186038784) :
    (cmdDone h opcode code result src s).outside msk = s.outside msk := by
  unfold cmdDone
  try dsimp only
  repeat' first
    | with_reducible rfl
    | with_reducible refine (post_outside _ _ _ _ msk (sub_trans hm rfl)).trans ?_
theorem opStart_outside (o : Op) (s : State) (msk : Nat) (hm : 8 &&& msk = 8) :
    (opStart o s).outside msk = s.outside msk := by
  unfold opStart
  try dsimp only
  repeat' first
    | with_reducible rfl
    | simp only [set_ops_outside _ _ msk (sub_trans hm rfl)]
theorem opDrop_outside (t : Op → Bool) (s : State) (msk : Nat) (hm : 8 &&& msk = 8) :
    (opDrop t s).outside msk = s.outside msk := by
  unfold opDrop
  try dsimp only
  repeat' first
    | with_reducible rfl
    | simp only [set_ops_outside _ _ msk (sub_trans hm rfl)]
theorem jobFor_outside (keys : List WaitKey) (j : Job) (g : State → State) (s : State) (msk : Nat) (hm : 2199023255554 &&& msk = 2199023255554) (hg0 : ∀ y0, (g y0).outside msk = y0.outside msk) :
    (jobFor keys j g s).outside msk = s.outside msk := by
  unfold jobFor
  try dsimp only
  repeat' first
    | with_reducible rfl
    | with_reducible refine ite_outside ?_ ?_
    | with_reducible refine (hg0 _ ).trans ?_
    | simp only [set_blocked_outside _ _ msk (sub_trans hm rfl)]
    | simp only [set_waiting_blocked_outside _ _ _ msk (sub_trans hm rfl)]
    | split
theorem bundleFor_outside (keys : List WaitKey) (c : Instr) (g : State → State) (s : State) (msk : Nat) (hm : 2199023255554 &&& msk = 2199023255554) (hg0 : ∀ y0, (g y0).outside msk = y0.outside msk) :
    (bundleFor keys c g s).outside msk = s.outside msk := by
  unfold bundleFor
  try dsimp only
  repeat' first
    | with_reducible rfl
    | with_reducible refine (jobFor_outside _ _ _ _ msk (sub_trans hm rfl) ?_).trans ?_
    | with_reducible refine (hg0 _ ).trans ?_
    | (intro _)
theorem bundle_outside (c : Instr) (g : State → State) (s : State) (msk : Nat) (hm : 2199023255554 &&& msk = 2199023255554) (hg0 : ∀ y0, (g y0).outside msk = y0.outside msk) :
    (bundle c g s).outside msk = s.outside msk := by
  unfold bundle
  try dsimp only
  repeat' first
    | with_reducible rfl
    | with_reducible refine (bundleFor_outside _ _ _ _ msk (sub_trans hm rfl) ?_).trans ?_
    | with_reducible refine (hg0 _ ).trans ?_
    | (intro _)
theorem subBundle_outside (keys : List WaitKey) (j : Job) (g : State → State) (s : State) (msk : Nat) (hm : 2199023255554 &&& msk = 2199023255554) (hg0 : ∀ y0, (g y0).outside msk = y0.outside msk) :
    (subBundle keys j g s).outside msk = s.outside msk := by
  unfold subBundle
  try dsimp only
  repeat' first
    | with_reducible rfl
    | with_reducible refine (jobFor_outside _ _ _ _ msk (sub_trans hm rfl) ?_).trans ?_
    | with_reducible refine (hg0 _ ).trans ?_
    | simp only [set_blocked_outside _ _ msk (sub_trans hm rfl)]
    | (intro _)
theorem bundleElse_outside (g alt : State → State) (s : State) (msk : Nat) (hm : 2199023255552 &&& msk = 2199023255552) (hg0 : ∀ y0, (g y0).outside msk = y0.outside msk) (hg1 : ∀ y0, (alt y0).outside msk = y0.outside msk) :
    (bundleElse g alt s).outside msk = s.outside msk := by
  unfold bundleElse
  try dsimp only
  repeat' first
    | with_reducible rfl
    | with_reducible refine ite_outside ?_ ?_
    | with_reducible refine (hg0 _ ).trans ?_
    | with_reducible refine (hg1 _ ).trans ?_
    | simp only [set_blocked_outside _ _ msk (sub_trans hm rfl)]
    | split
theorem epBundle_outside (k : Nat) (c : Instr) (g : State → State) (s : State) (msk : Nat) (hm : 2199023255554 &&& msk = 2199023255554) (hg0 : ∀ y0, (g y0).outside msk = y0.outside msk) :
    (epBundle k c g s).outside msk = s.outside msk := by
  unfold epBundle
  try dsimp only
  repeat' first
    | with_reducible rfl
    | with_reducible refine ite_outside ?_ ?_
    | with_reducible refine (bundleFor_outside _ _ _ _ msk (sub_trans hm rfl) ?_).trans ?_
    | with_reducible refine (hg0 _ ).trans ?_
    | simp only [set_waiting_outside _ _ msk (sub_trans hm rfl)]
    | (intro _)
    | split
theorem happen_outside (g : State → State) (s : State) (msk : Nat) (hm : 2199023255552 &&& msk = 2199023255552) (hg0 : ∀ y0, (g y0).outside msk = y0.outside msk) :
    (happen g s).outside msk = s.outside msk := by
  unfold happen
  try dsimp only
  repeat' first
    | with_reducible rfl
    | with_reducible refine (hg0 _ ).trans ?_
    | simp only [set_blocked_outside _ _ msk (sub_trans hm rfl)]
theorem command_outside (c : Instr) (h : CmdHdr) (keys : List WaitKey) (g : State → State) (s : State) (msk : Nat) (hm : 2199023255554 &&& msk = 2199023255554) (hg0 : ∀ y0, (g y0).outside msk = y0.outside msk) :
    (command c h keys g s).outside msk = s.outside msk := by
  unfold command
  try dsimp only
  repeat' first
    | with_reducible rfl
    | with_reducible refine ite_outside ?_ ?_
    | with_reducible refine (bundleFor_outside _ _ _ _ msk (sub_trans hm rfl) ?_).trans ?_
    | with_reducible refine (hg0 _ ).trans ?_
    | simp only [set_waiting_outside _ _ msk (sub_trans hm rfl)]
    | (intro _)
    | split
theorem commandOver_outside (c : Instr) (h : CmdHdr) (held : List WaitKey) (g : State → State) (s : State) (msk : Nat) (hm : 2199023255554 &&& msk = 2199023255554) (hg0 : ∀ y0, (g y0).outside msk = y0.outside msk) :
    (commandOver c h held g s).outside msk = s.outside msk := by
  unfold commandOver
  try dsimp only
  repeat' first
    | with_reducible rfl
    | with_reducible refine ite_outside ?_ ?_
    | with_reducible refine (bundleFor_outside _ _ _ _ msk (sub_trans hm rfl) ?_).trans ?_
    | with_reducible refine (hg0 _ ).trans ?_
    | simp only [set_waiting_outside _ _ msk (sub_trans hm rfl)]
    | (intro _)
    | split
theorem abortOps_outside (t : Op → Bool) (opcode src : Nat) (s : State) (msk : Nat) (hm : 64871186038792 &&& msk = 64871186038792) :
    (abortOps t opcode src s).outside msk = s.outside msk := by
  unfold abortOps
  try dsimp only
  repeat' first
    | with_reducible rfl
    | with_reducible refine ite_outside ?_ ?_
    | with_reducible refine (cmdDone_outside _ _ _ _ _ _ msk (sub_trans hm rfl)).trans ?_
    | with_reducible refine (forEach_outside _ _ _ msk ?_).trans ?_
    | with_reducible refine (opDrop_outside _ _ msk (sub_trans hm rfl)).trans ?_
    | (intro _)
    | split
theorem abortWaiting_outside (key : WaitKey) (src : Nat) (s : State) (msk : Nat) (hm : 64871186038790 &&& msk = 64871186038790) :
    (abortWaiting key src s).outside msk = s.outside msk := by
  unfold abortWaiting
  try dsimp only
  repeat' first
    | with_reducible rfl
    | with_reducible refine (cmdDone_outside _ _ _ _ _ _ msk (sub_trans hm rfl)).trans ?_
    | with_reducible refine (forEach_outside _ _ _ msk ?_).trans ?_
    | simp only [set_waiting_aside_outside _ _ _ msk (sub_trans hm rfl)]
    | (intro _)
    | split

/-! ### AlmOps -/

theorem smbAlert_outside (s : State) (msk : Nat) (hm : 68719476736 &&& msk = 68719476736) :
    (smbAlert s).outside msk = s.outside msk := by
  unfold smbAlert
  try dsimp only
  repeat' first
    | with_reducible rfl
    | simp only [set_smb_outside _ _ msk (sub_trans hm rfl)]
theorem almPut_outside (r : AlmRec) (pin : Bool) (s : State) (msk : Nat) (hm : 17179869184 &&& msk = 17179869184) :
    (almPut r pin s).2.outside msk = s.outside msk := by
  unfold almPut
  try dsimp only
  repeat' first
    | with_reducible rfl
    | with_reducible refine ite_outside ?_ ?_
    | simp only [set_alm_outside _ _ msk (sub_trans hm rfl)]
    | split
theorem almCoalesce_outside (k : Nat) (s : State) (msk : Nat) (hm : 17179869184 &&& msk = 17179869184) :
    (almCoalesce k s).outside msk = s.outside msk := by
  unfold almCoalesce
  try dsimp only
  repeat' first
    | with_reducible rfl
    | simp only [set_alm_outside _ _ msk (sub_trans hm rfl)]
theorem almRecord_outside (r : AlmRec) (pin : Bool) (s : State) (msk : Nat) (hm : 17179869184 &&& msk = 17179869184) :
    (almRecord r pin s).outside msk = s.outside msk := by
  unfold almRecord
  try dsimp only
  repeat' first
    | with_reducible rfl
    | with_reducible refine ite_outside ?_ ?_
    | with_reducible refine (almCoalesce_outside _ _ msk (sub_trans hm rfl)).trans ?_
    | with_reducible refine (snd_outside (almPut_outside _ _ _ msk (sub_trans hm rfl)) ‹_›).trans ?_
    | with_reducible refine (almPut_outside _ _ _ msk (sub_trans hm rfl)).trans ?_
    | simp only [set_alm_outside _ _ msk (sub_trans hm rfl)]
    | split
theorem almEvent_outside (kind cause detail unit : Nat) (s : State) (msk : Nat) (hm : 17179869184 &&& msk = 17179869184) :
    (almEvent kind cause detail unit s).outside msk = s.outside msk := by
  unfold almEvent
  try dsimp only
  repeat' first
    | with_reducible rfl
    | with_reducible refine (almRecord_outside _ _ _ msk (sub_trans hm rfl)).trans ?_
theorem almJournal_outside (s : State) (msk : Nat) (hm : 17179869184 &&& msk = 17179869184) :
    (almJournal s).outside msk = s.outside msk := by
  unfold almJournal
  try dsimp only
  repeat' first
    | with_reducible rfl
    | simp only [set_alm_outside _ _ msk (sub_trans hm rfl)]
    | split

/-! ### DspOps -/

theorem dspPend_outside (n : Nat) (s : State) (msk : Nat) (hm : 2147483648 &&& msk = 2147483648) :
    (dspPend n s).outside msk = s.outside msk := by
  unfold dspPend
  try dsimp only
  repeat' first
    | with_reducible rfl
    | with_reducible refine ite_outside ?_ ?_
    | with_reducible refine (State.dspSrcOn_outside _ _ _ msk (sub_trans hm rfl)).trans ?_
    | with_reducible refine (State.holdoffOn_outside _ _ _ msk (sub_trans hm rfl)).trans ?_
    | split
theorem dspAssert_outside (n : Nat) (s : State) (msk : Nat) (hm : 35186519572496 &&& msk = 35186519572496) :
    (dspAssert n s).outside msk = s.outside msk := by
  unfold dspAssert
  try dsimp only
  repeat' first
    | with_reducible rfl
    | with_reducible refine ite_outside ?_ ?_
    | with_reducible refine (State.rsAdd_outside _ _ _ _ _ msk (sub_trans hm rfl)).trans ?_
    | with_reducible refine (dspPend_outside _ _ msk (sub_trans hm rfl)).trans ?_
    | split
theorem dspClaim_outside (pr : Nat) (s : State) (msk : Nat) (hm : 2147483648 &&& msk = 2147483648) :
    (dspClaim pr s).2.outside msk = s.outside msk := by
  unfold dspClaim
  try dsimp only
  repeat' first
    | with_reducible rfl
    | with_reducible refine (State.dspSrcOn_outside _ _ _ msk (sub_trans hm rfl)).trans ?_
    | with_reducible refine (State.procOn_outside _ _ _ msk (sub_trans hm rfl)).trans ?_
    | split
theorem dspRetarget_outside (pr n : Nat) (s : State) (msk : Nat) (hm : 2147483648 &&& msk = 2147483648) :
    (dspRetarget pr n s).outside msk = s.outside msk := by
  unfold dspRetarget
  try dsimp only
  repeat' first
    | with_reducible rfl
    | with_reducible refine ite_outside ?_ ?_
    | with_reducible refine (State.dspSrcOn_outside _ _ _ msk (sub_trans hm rfl)).trans ?_
    | with_reducible refine (State.procOn_outside _ _ _ msk (sub_trans hm rfl)).trans ?_
    | split

/-! ### CapOps -/

theorem capEvent_outside (p kind cause value : Nat) (s : State) (msk : Nat) (hm : 64871186038784 &&& msk = 64871186038784) :
    (capEvent p kind cause value s).outside msk = s.outside msk := by
  unfold capEvent
  try dsimp only
  repeat' first
    | with_reducible rfl
    | with_reducible refine (post_outside _ _ _ _ msk (sub_trans hm rfl)).trans ?_
theorem capLost_outside (p n : Nat) (s : State) (msk : Nat) (hm : 64871194427408 &&& msk = 64871194427408) :
    (capLost p n s).outside msk = s.outside msk := by
  unfold capLost
  try dsimp only
  repeat' first
    | with_reducible rfl
    | with_reducible refine ite_outside ?_ ?_
    | with_reducible refine (State.capOn_outside _ _ _ msk (sub_trans hm rfl)).trans ?_
    | with_reducible refine (State.rsAdd_outside _ _ _ _ _ msk (sub_trans hm rfl)).trans ?_
    | with_reducible refine (capEvent_outside _ _ _ _ _ msk (sub_trans hm rfl)).trans ?_
    | split
theorem makeRoom_outside (p n : Nat) (v0 : Nat) (s : State) (msk : Nat) (hm : 64871194427408 &&& msk = 64871194427408) :
    (makeRoom p n v0 s).outside msk = s.outside msk := by
  induction v0 generalizing s with
  | zero => rfl
  | succ n ih =>
    unfold makeRoom
    try dsimp only
    repeat' first
      | with_reducible rfl
      | with_reducible refine (ih _ ).trans ?_
      | with_reducible refine ite_outside ?_ ?_
      | with_reducible refine (State.capOn_outside _ _ _ msk (sub_trans hm rfl)).trans ?_
      | with_reducible refine (capLost_outside _ _ _ msk (sub_trans hm rfl)).trans ?_
      | split
theorem levelCheck_outside (p before : Nat) (s : State) (msk : Nat) (hm : 35186527961104 &&& msk = 35186527961104) :
    (levelCheck p before s).outside msk = s.outside msk := by
  unfold levelCheck
  try dsimp only
  repeat' first
    | with_reducible rfl
    | with_reducible refine ite_outside ?_ ?_
    | with_reducible refine (State.capOn_outside _ _ _ msk (sub_trans hm rfl)).trans ?_
    | with_reducible refine (dspAssert_outside _ _ msk (sub_trans hm rfl)).trans ?_
    | split
theorem ringWrite_outside (p : Nat) (bs : List Byte) (s : State) (msk : Nat) (hm : 1099520016384 &&& msk = 1099520016384) :
    (ringWrite p bs s).outside msk = s.outside msk := by
  unfold ringWrite
  try dsimp only
  repeat' first
    | with_reducible rfl
    | with_reducible refine (State.capOn_outside _ _ _ msk (sub_trans hm rfl)).trans ?_
    | with_reducible refine (State.emit_outside _ _ msk (sub_trans hm rfl)).trans ?_
theorem ringPut_outside (p : Nat) (bs : List Byte) (s : State) (msk : Nat) (hm : 1099520016384 &&& msk = 1099520016384) :
    ∀ t, (ringPut p bs s) = some t → t.outside msk = s.outside msk := by
  intro t h
  unfold ringPut at h
  simp only [Option.ite_none_left_eq_some, Option.some.injEq] at h
  rw [← h.2]
  repeat' first
    | with_reducible rfl
    | with_reducible refine (ringWrite_outside _ _ _ msk (sub_trans hm rfl)).trans ?_
    | split
theorem exportGap_outside (p lost : Nat) (s : State) (msk : Nat) (hm : 1099520016384 &&& msk = 1099520016384) :
    (exportGap p lost s).outside msk = s.outside msk := by
  unfold exportGap
  try dsimp only
  repeat' first
    | with_reducible rfl
    | with_reducible refine ite_outside ?_ ?_
    | with_reducible refine (State.capOn_outside _ _ _ msk (sub_trans hm rfl)).trans ?_
    | with_reducible refine (opt_outside (ringPut_outside _ _ _ msk (sub_trans hm rfl)) ‹_›).trans ?_
    | split
theorem exportOne_outside (p : Nat) (s : State) (msk : Nat) (hm : 36283892105232 &&& msk = 36283892105232) :
    (exportOne p s).2.outside msk = s.outside msk := by
  unfold exportOne
  try dsimp only
  repeat' first
    | with_reducible rfl
    | with_reducible refine ite_outside ?_ ?_
    | with_reducible refine (State.capOn_outside _ _ _ msk (sub_trans hm rfl)).trans ?_
    | with_reducible refine (State.rsAdd_outside _ _ _ _ _ msk (sub_trans hm rfl)).trans ?_
    | with_reducible refine (exportGap_outside _ _ _ msk (sub_trans hm rfl)).trans ?_
    | with_reducible refine (opt_outside (ringPut_outside _ _ _ msk (sub_trans hm rfl)) ‹_›).trans ?_
    | split
theorem exportRecs_outside (p : Nat) (v0 : Nat) (s : State) (msk : Nat) (hm : 36283892105232 &&& msk = 36283892105232) :
    (exportRecs p v0 s).outside msk = s.outside msk := by
  induction v0 generalizing s with
  | zero => rfl
  | succ n ih =>
    unfold exportRecs
    try dsimp only
    repeat' first
      | with_reducible rfl
      | with_reducible refine (ih _ ).trans ?_
      | with_reducible refine ite_outside ?_ ?_
      | with_reducible refine (snd_outside (exportOne_outside _ _ msk (sub_trans hm rfl)) ‹_›).trans ?_
      | with_reducible refine (exportOne_outside _ _ msk (sub_trans hm rfl)).trans ?_
      | split
theorem capProd_outside (p before : Nat) (s : State) (msk : Nat) (hm : 1099520016384 &&& msk = 1099520016384) :
    (capProd p before s).outside msk = s.outside msk := by
  unfold capProd
  try dsimp only
  repeat' first
    | with_reducible rfl
    | with_reducible refine ite_outside ?_ ?_
    | with_reducible refine (State.capOn_outside _ _ _ msk (sub_trans hm rfl)).trans ?_
    | with_reducible refine (State.emit_outside _ _ msk (sub_trans hm rfl)).trans ?_
    | split
theorem capStop_outside (p cause : Nat) (s : State) (msk : Nat) (hm : 64871194427408 &&& msk = 64871194427408) :
    (capStop p cause s).2.outside msk = s.outside msk := by
  unfold capStop
  try dsimp only
  repeat' first
    | with_reducible rfl
    | with_reducible refine (State.capOn_outside _ _ _ msk (sub_trans hm rfl)).trans ?_
    | with_reducible refine (capEvent_outside _ _ _ _ _ msk (sub_trans hm rfl)).trans ?_
    | with_reducible refine (capProd_outside _ _ _ msk (sub_trans hm rfl)).trans ?_
    | with_reducible refine (exportRecs_outside _ _ _ msk (sub_trans hm rfl)).trans ?_
theorem capEnd_outside (p cause : Nat) (s : State) (msk : Nat) (hm : 64871194427408 &&& msk = 64871194427408) :
    (capEnd p cause s).outside msk = s.outside msk := by
  unfold capEnd
  try dsimp only
  repeat' first
    | with_reducible rfl
    | with_reducible refine ite_outside ?_ ?_
    | with_reducible refine (snd_outside (capStop_outside _ _ _ msk (sub_trans hm rfl)) ‹_›).trans ?_
    | with_reducible refine (capStop_outside _ _ _ msk (sub_trans hm rfl)).trans ?_
    | with_reducible refine (cmdDone_outside _ _ _ _ _ _ msk (sub_trans hm rfl)).trans ?_
    | split
theorem capDrop_outside (p : Nat) (s : State) (msk : Nat) (hm : 8388608 &&& msk = 8388608) :
    (capDrop p s).outside msk = s.outside msk := by
  unfold capDrop
  try dsimp only
  repeat' first
    | with_reducible rfl
    | with_reducible refine (State.capOn_outside _ _ _ msk (sub_trans hm rfl)).trans ?_

end Sys2Proof.Machine
end

