-- ==== Sys2Proof/Laws/State.lean ====
section
/-! SUPPORT. One lemma per part of the state per update: what an update leaves, and what it writes. -/

namespace Sys2Proof.Machine

open Sys2Proof

/-! ### links -/

@[simp] theorem linkPut_same (s : State) (k : Nat) (v : Link) : (s.linkPut k v).link k = v := tget_tput_same _ _ _ _
theorem linkPut_ne (s : State) (k j : Nat) (v : Link) (h : j ≠ k) : (s.linkPut k v).link j = s.link j := tget_tput_ne _ _ _ _ _ h
@[simp] theorem linkOn_same (s : State) (k : Nat) (g : Link → Link) : (s.linkOn k g).link k = g (s.link k) := tget_tput_same _ _ _ _
theorem linkOn_ne (s : State) (k j : Nat) (g : Link → Link) (h : j ≠ k) : (s.linkOn k g).link j = s.link j := tget_tput_ne _ _ _ _ _ h
@[simp] theorem linkPut_pending (s : State) (k : Nat) (v : Link) : (s.linkPut k v).pending = s.pending := rfl
@[simp] theorem linkPut_waiting (s : State) (k : Nat) (v : Link) : (s.linkPut k v).waiting = s.waiting := rfl
@[simp] theorem linkPut_aside (s : State) (k : Nat) (v : Link) : (s.linkPut k v).aside = s.aside := rfl
@[simp] theorem linkPut_ops (s : State) (k : Nat) (v : Link) : (s.linkPut k v).ops = s.ops := rfl
@[simp] theorem linkPut_regs (s : State) (k : Nat) (v : Link) : (s.linkPut k v).regs = s.regs := rfl
@[simp] theorem linkPut_lock (s : State) (k : Nat) (v : Link) : (s.linkPut k v).lock = s.lock := rfl
@[simp] theorem linkPut_blockedLast (s : State) (k : Nat) (v : Link) : (s.linkPut k v).blockedLast = s.blockedLast := rfl
@[simp] theorem linkPut_otp (s : State) (k : Nat) (v : Link) : (s.linkPut k v).otp = s.otp := rfl
@[simp] theorem linkPut_sup (s : State) (k : Nat) (v : Link) : (s.linkPut k v).sup = s.sup := rfl
@[simp] theorem linkPut_boot (s : State) (k : Nat) (v : Link) : (s.linkPut k v).boot = s.boot := rfl
@[simp] theorem linkPut_pcie (s : State) (k : Nat) (v : Link) : (s.linkPut k v).pcie = s.pcie := rfl
@[simp] theorem linkPut_fns (s : State) (k : Nat) (v : Link) : (s.linkPut k v).fns = s.fns := rfl
@[simp] theorem linkPut_slots (s : State) (k : Nat) (v : Link) : (s.linkPut k v).slots = s.slots := rfl
@[simp] theorem linkPut_eps (s : State) (k : Nat) (v : Link) : (s.linkPut k v).eps = s.eps := rfl
@[simp] theorem linkPut_short (s : State) (k : Nat) (v : Link) : (s.linkPut k v).short = s.short := rfl
@[simp] theorem linkPut_grants (s : State) (k : Nat) (v : Link) : (s.linkPut k v).grants = s.grants := rfl
@[simp] theorem linkPut_buses (s : State) (k : Nat) (v : Link) : (s.linkPut k v).buses = s.buses := rfl
@[simp] theorem linkPut_guests (s : State) (k : Nat) (v : Link) : (s.linkPut k v).guests = s.guests := rfl
@[simp] theorem linkPut_tcs (s : State) (k : Nat) (v : Link) : (s.linkPut k v).tcs = s.tcs := rfl
@[simp] theorem linkPut_pds (s : State) (k : Nat) (v : Link) : (s.linkPut k v).pds = s.pds := rfl
@[simp] theorem linkPut_paths (s : State) (k : Nat) (v : Link) : (s.linkPut k v).paths = s.paths := rfl
@[simp] theorem linkPut_brgs (s : State) (k : Nat) (v : Link) : (s.linkPut k v).brgs = s.brgs := rfl
@[simp] theorem linkPut_caps (s : State) (k : Nat) (v : Link) : (s.linkPut k v).caps = s.caps := rfl
@[simp] theorem linkPut_capStarts (s : State) (k : Nat) (v : Link) : (s.linkPut k v).capStarts = s.capStarts := rfl
@[simp] theorem linkPut_beds (s : State) (k : Nat) (v : Link) : (s.linkPut k v).beds = s.beds := rfl
@[simp] theorem linkPut_hooks (s : State) (k : Nat) (v : Link) : (s.linkPut k v).hooks = s.hooks := rfl
@[simp] theorem linkPut_budget (s : State) (k : Nat) (v : Link) : (s.linkPut k v).budget = s.budget := rfl
@[simp] theorem linkPut_mode (s : State) (k : Nat) (v : Link) : (s.linkPut k v).mode = s.mode := rfl
@[simp] theorem linkPut_eng (s : State) (k : Nat) (v : Link) : (s.linkPut k v).eng = s.eng := rfl
@[simp] theorem linkPut_grafts (s : State) (k : Nat) (v : Link) : (s.linkPut k v).grafts = s.grafts := rfl
@[simp] theorem linkPut_dsp (s : State) (k : Nat) (v : Link) : (s.linkPut k v).dsp = s.dsp := rfl
@[simp] theorem linkPut_flt (s : State) (k : Nat) (v : Link) : (s.linkPut k v).flt = s.flt := rfl
@[simp] theorem linkPut_inj (s : State) (k : Nat) (v : Link) : (s.linkPut k v).inj = s.inj := rfl
@[simp] theorem linkPut_alm (s : State) (k : Nat) (v : Link) : (s.linkPut k v).alm = s.alm := rfl
@[simp] theorem linkPut_time (s : State) (k : Nat) (v : Link) : (s.linkPut k v).time = s.time := rfl
@[simp] theorem linkPut_smb (s : State) (k : Nat) (v : Link) : (s.linkPut k v).smb = s.smb := rfl
@[simp] theorem linkPut_tele (s : State) (k : Nat) (v : Link) : (s.linkPut k v).tele = s.tele := rfl
@[simp] theorem linkPut_tallies (s : State) (k : Nat) (v : Link) : (s.linkPut k v).tallies = s.tallies := rfl
@[simp] theorem linkPut_units (s : State) (k : Nat) (v : Link) : (s.linkPut k v).units = s.units := rfl
@[simp] theorem linkPut_out (s : State) (k : Nat) (v : Link) : (s.linkPut k v).out = s.out := rfl
@[simp] theorem linkPut_blocked (s : State) (k : Nat) (v : Link) : (s.linkPut k v).blocked = s.blocked := rfl
@[simp] theorem linkPut_free (s : State) (k : Nat) (v : Link) : (s.linkPut k v).free = s.free := rfl
@[simp] theorem linkPut_at_bus (s : State) (k j : Nat) (v : Link) : (s.linkPut k v).bus j = s.bus j := rfl
@[simp] theorem linkPut_at_guest (s : State) (k j : Nat) (v : Link) : (s.linkPut k v).guest j = s.guest j := rfl
@[simp] theorem linkPut_at_tc (s : State) (k j : Nat) (v : Link) : (s.linkPut k v).tc j = s.tc j := rfl
@[simp] theorem linkPut_at_pd (s : State) (k j : Nat) (v : Link) : (s.linkPut k v).pd j = s.pd j := rfl
@[simp] theorem linkPut_at_path (s : State) (k j : Nat) (v : Link) : (s.linkPut k v).path j = s.path j := rfl
@[simp] theorem linkPut_at_brg (s : State) (k j : Nat) (v : Link) : (s.linkPut k v).brg j = s.brg j := rfl
@[simp] theorem linkPut_at_cap (s : State) (k j : Nat) (v : Link) : (s.linkPut k v).cap j = s.cap j := rfl
@[simp] theorem linkPut_at_bed (s : State) (k j : Nat) (v : Link) : (s.linkPut k v).bed j = s.bed j := rfl
@[simp] theorem linkPut_at_hook (s : State) (k j : Nat) (v : Link) : (s.linkPut k v).hook j = s.hook j := rfl
@[simp] theorem linkPut_at_fn (s : State) (k j : Nat) (v : Link) : (s.linkPut k v).fn j = s.fn j := rfl
@[simp] theorem linkPut_at_slot (s : State) (k j : Nat) (v : Link) : (s.linkPut k v).slot j = s.slot j := rfl
@[simp] theorem linkPut_at_ep (s : State) (k j : Nat) (v : Link) : (s.linkPut k v).ep j = s.ep j := rfl
@[simp] theorem linkPut_at_graft (s : State) (k j : Nat) (v : Link) : (s.linkPut k v).graft j = s.graft j := rfl
@[simp] theorem linkPut_at_tally (s : State) (k j : Nat) (v : Link) : (s.linkPut k v).tally j = s.tally j := rfl
@[simp] theorem linkOn_pending (s : State) (k : Nat) (g : Link → Link) : (s.linkOn k g).pending = s.pending := rfl
@[simp] theorem linkOn_waiting (s : State) (k : Nat) (g : Link → Link) : (s.linkOn k g).waiting = s.waiting := rfl
@[simp] theorem linkOn_aside (s : State) (k : Nat) (g : Link → Link) : (s.linkOn k g).aside = s.aside := rfl
@[simp] theorem linkOn_ops (s : State) (k : Nat) (g : Link → Link) : (s.linkOn k g).ops = s.ops := rfl
@[simp] theorem linkOn_regs (s : State) (k : Nat) (g : Link → Link) : (s.linkOn k g).regs = s.regs := rfl
@[simp] theorem linkOn_lock (s : State) (k : Nat) (g : Link → Link) : (s.linkOn k g).lock = s.lock := rfl
@[simp] theorem linkOn_blockedLast (s : State) (k : Nat) (g : Link → Link) : (s.linkOn k g).blockedLast = s.blockedLast := rfl
@[simp] theorem linkOn_otp (s : State) (k : Nat) (g : Link → Link) : (s.linkOn k g).otp = s.otp := rfl
@[simp] theorem linkOn_sup (s : State) (k : Nat) (g : Link → Link) : (s.linkOn k g).sup = s.sup := rfl
@[simp] theorem linkOn_boot (s : State) (k : Nat) (g : Link → Link) : (s.linkOn k g).boot = s.boot := rfl
@[simp] theorem linkOn_pcie (s : State) (k : Nat) (g : Link → Link) : (s.linkOn k g).pcie = s.pcie := rfl
@[simp] theorem linkOn_fns (s : State) (k : Nat) (g : Link → Link) : (s.linkOn k g).fns = s.fns := rfl
@[simp] theorem linkOn_slots (s : State) (k : Nat) (g : Link → Link) : (s.linkOn k g).slots = s.slots := rfl
@[simp] theorem linkOn_eps (s : State) (k : Nat) (g : Link → Link) : (s.linkOn k g).eps = s.eps := rfl
@[simp] theorem linkOn_short (s : State) (k : Nat) (g : Link → Link) : (s.linkOn k g).short = s.short := rfl
@[simp] theorem linkOn_grants (s : State) (k : Nat) (g : Link → Link) : (s.linkOn k g).grants = s.grants := rfl
@[simp] theorem linkOn_buses (s : State) (k : Nat) (g : Link → Link) : (s.linkOn k g).buses = s.buses := rfl
@[simp] theorem linkOn_guests (s : State) (k : Nat) (g : Link → Link) : (s.linkOn k g).guests = s.guests := rfl
@[simp] theorem linkOn_tcs (s : State) (k : Nat) (g : Link → Link) : (s.linkOn k g).tcs = s.tcs := rfl
@[simp] theorem linkOn_pds (s : State) (k : Nat) (g : Link → Link) : (s.linkOn k g).pds = s.pds := rfl
@[simp] theorem linkOn_paths (s : State) (k : Nat) (g : Link → Link) : (s.linkOn k g).paths = s.paths := rfl
@[simp] theorem linkOn_brgs (s : State) (k : Nat) (g : Link → Link) : (s.linkOn k g).brgs = s.brgs := rfl
@[simp] theorem linkOn_caps (s : State) (k : Nat) (g : Link → Link) : (s.linkOn k g).caps = s.caps := rfl
@[simp] theorem linkOn_capStarts (s : State) (k : Nat) (g : Link → Link) : (s.linkOn k g).capStarts = s.capStarts := rfl
@[simp] theorem linkOn_beds (s : State) (k : Nat) (g : Link → Link) : (s.linkOn k g).beds = s.beds := rfl
@[simp] theorem linkOn_hooks (s : State) (k : Nat) (g : Link → Link) : (s.linkOn k g).hooks = s.hooks := rfl
@[simp] theorem linkOn_budget (s : State) (k : Nat) (g : Link → Link) : (s.linkOn k g).budget = s.budget := rfl
@[simp] theorem linkOn_mode (s : State) (k : Nat) (g : Link → Link) : (s.linkOn k g).mode = s.mode := rfl
@[simp] theorem linkOn_eng (s : State) (k : Nat) (g : Link → Link) : (s.linkOn k g).eng = s.eng := rfl
@[simp] theorem linkOn_grafts (s : State) (k : Nat) (g : Link → Link) : (s.linkOn k g).grafts = s.grafts := rfl
@[simp] theorem linkOn_dsp (s : State) (k : Nat) (g : Link → Link) : (s.linkOn k g).dsp = s.dsp := rfl
@[simp] theorem linkOn_flt (s : State) (k : Nat) (g : Link → Link) : (s.linkOn k g).flt = s.flt := rfl
@[simp] theorem linkOn_inj (s : State) (k : Nat) (g : Link → Link) : (s.linkOn k g).inj = s.inj := rfl
@[simp] theorem linkOn_alm (s : State) (k : Nat) (g : Link → Link) : (s.linkOn k g).alm = s.alm := rfl
@[simp] theorem linkOn_time (s : State) (k : Nat) (g : Link → Link) : (s.linkOn k g).time = s.time := rfl
@[simp] theorem linkOn_smb (s : State) (k : Nat) (g : Link → Link) : (s.linkOn k g).smb = s.smb := rfl
@[simp] theorem linkOn_tele (s : State) (k : Nat) (g : Link → Link) : (s.linkOn k g).tele = s.tele := rfl
@[simp] theorem linkOn_tallies (s : State) (k : Nat) (g : Link → Link) : (s.linkOn k g).tallies = s.tallies := rfl
@[simp] theorem linkOn_units (s : State) (k : Nat) (g : Link → Link) : (s.linkOn k g).units = s.units := rfl
@[simp] theorem linkOn_out (s : State) (k : Nat) (g : Link → Link) : (s.linkOn k g).out = s.out := rfl
@[simp] theorem linkOn_blocked (s : State) (k : Nat) (g : Link → Link) : (s.linkOn k g).blocked = s.blocked := rfl
@[simp] theorem linkOn_free (s : State) (k : Nat) (g : Link → Link) : (s.linkOn k g).free = s.free := rfl
@[simp] theorem linkOn_at_bus (s : State) (k j : Nat) (g : Link → Link) : (s.linkOn k g).bus j = s.bus j := rfl
@[simp] theorem linkOn_at_guest (s : State) (k j : Nat) (g : Link → Link) : (s.linkOn k g).guest j = s.guest j := rfl
@[simp] theorem linkOn_at_tc (s : State) (k j : Nat) (g : Link → Link) : (s.linkOn k g).tc j = s.tc j := rfl
@[simp] theorem linkOn_at_pd (s : State) (k j : Nat) (g : Link → Link) : (s.linkOn k g).pd j = s.pd j := rfl
@[simp] theorem linkOn_at_path (s : State) (k j : Nat) (g : Link → Link) : (s.linkOn k g).path j = s.path j := rfl
@[simp] theorem linkOn_at_brg (s : State) (k j : Nat) (g : Link → Link) : (s.linkOn k g).brg j = s.brg j := rfl
@[simp] theorem linkOn_at_cap (s : State) (k j : Nat) (g : Link → Link) : (s.linkOn k g).cap j = s.cap j := rfl
@[simp] theorem linkOn_at_bed (s : State) (k j : Nat) (g : Link → Link) : (s.linkOn k g).bed j = s.bed j := rfl
@[simp] theorem linkOn_at_hook (s : State) (k j : Nat) (g : Link → Link) : (s.linkOn k g).hook j = s.hook j := rfl
@[simp] theorem linkOn_at_fn (s : State) (k j : Nat) (g : Link → Link) : (s.linkOn k g).fn j = s.fn j := rfl
@[simp] theorem linkOn_at_slot (s : State) (k j : Nat) (g : Link → Link) : (s.linkOn k g).slot j = s.slot j := rfl
@[simp] theorem linkOn_at_ep (s : State) (k j : Nat) (g : Link → Link) : (s.linkOn k g).ep j = s.ep j := rfl
@[simp] theorem linkOn_at_graft (s : State) (k j : Nat) (g : Link → Link) : (s.linkOn k g).graft j = s.graft j := rfl
@[simp] theorem linkOn_at_tally (s : State) (k j : Nat) (g : Link → Link) : (s.linkOn k g).tally j = s.tally j := rfl
/-! ### buses -/

@[simp] theorem busPut_same (s : State) (k : Nat) (v : Bus) : (s.busPut k v).bus k = v := tget_tput_same _ _ _ _
theorem busPut_ne (s : State) (k j : Nat) (v : Bus) (h : j ≠ k) : (s.busPut k v).bus j = s.bus j := tget_tput_ne _ _ _ _ _ h
@[simp] theorem busOn_same (s : State) (k : Nat) (g : Bus → Bus) : (s.busOn k g).bus k = g (s.bus k) := tget_tput_same _ _ _ _
theorem busOn_ne (s : State) (k j : Nat) (g : Bus → Bus) (h : j ≠ k) : (s.busOn k g).bus j = s.bus j := tget_tput_ne _ _ _ _ _ h
@[simp] theorem busPut_pending (s : State) (k : Nat) (v : Bus) : (s.busPut k v).pending = s.pending := rfl
@[simp] theorem busPut_waiting (s : State) (k : Nat) (v : Bus) : (s.busPut k v).waiting = s.waiting := rfl
@[simp] theorem busPut_aside (s : State) (k : Nat) (v : Bus) : (s.busPut k v).aside = s.aside := rfl
@[simp] theorem busPut_ops (s : State) (k : Nat) (v : Bus) : (s.busPut k v).ops = s.ops := rfl
@[simp] theorem busPut_regs (s : State) (k : Nat) (v : Bus) : (s.busPut k v).regs = s.regs := rfl
@[simp] theorem busPut_lock (s : State) (k : Nat) (v : Bus) : (s.busPut k v).lock = s.lock := rfl
@[simp] theorem busPut_blockedLast (s : State) (k : Nat) (v : Bus) : (s.busPut k v).blockedLast = s.blockedLast := rfl
@[simp] theorem busPut_otp (s : State) (k : Nat) (v : Bus) : (s.busPut k v).otp = s.otp := rfl
@[simp] theorem busPut_sup (s : State) (k : Nat) (v : Bus) : (s.busPut k v).sup = s.sup := rfl
@[simp] theorem busPut_boot (s : State) (k : Nat) (v : Bus) : (s.busPut k v).boot = s.boot := rfl
@[simp] theorem busPut_pcie (s : State) (k : Nat) (v : Bus) : (s.busPut k v).pcie = s.pcie := rfl
@[simp] theorem busPut_fns (s : State) (k : Nat) (v : Bus) : (s.busPut k v).fns = s.fns := rfl
@[simp] theorem busPut_slots (s : State) (k : Nat) (v : Bus) : (s.busPut k v).slots = s.slots := rfl
@[simp] theorem busPut_eps (s : State) (k : Nat) (v : Bus) : (s.busPut k v).eps = s.eps := rfl
@[simp] theorem busPut_short (s : State) (k : Nat) (v : Bus) : (s.busPut k v).short = s.short := rfl
@[simp] theorem busPut_grants (s : State) (k : Nat) (v : Bus) : (s.busPut k v).grants = s.grants := rfl
@[simp] theorem busPut_links (s : State) (k : Nat) (v : Bus) : (s.busPut k v).links = s.links := rfl
@[simp] theorem busPut_guests (s : State) (k : Nat) (v : Bus) : (s.busPut k v).guests = s.guests := rfl
@[simp] theorem busPut_tcs (s : State) (k : Nat) (v : Bus) : (s.busPut k v).tcs = s.tcs := rfl
@[simp] theorem busPut_pds (s : State) (k : Nat) (v : Bus) : (s.busPut k v).pds = s.pds := rfl
@[simp] theorem busPut_paths (s : State) (k : Nat) (v : Bus) : (s.busPut k v).paths = s.paths := rfl
@[simp] theorem busPut_brgs (s : State) (k : Nat) (v : Bus) : (s.busPut k v).brgs = s.brgs := rfl
@[simp] theorem busPut_caps (s : State) (k : Nat) (v : Bus) : (s.busPut k v).caps = s.caps := rfl
@[simp] theorem busPut_capStarts (s : State) (k : Nat) (v : Bus) : (s.busPut k v).capStarts = s.capStarts := rfl
@[simp] theorem busPut_beds (s : State) (k : Nat) (v : Bus) : (s.busPut k v).beds = s.beds := rfl
@[simp] theorem busPut_hooks (s : State) (k : Nat) (v : Bus) : (s.busPut k v).hooks = s.hooks := rfl
@[simp] theorem busPut_budget (s : State) (k : Nat) (v : Bus) : (s.busPut k v).budget = s.budget := rfl
@[simp] theorem busPut_mode (s : State) (k : Nat) (v : Bus) : (s.busPut k v).mode = s.mode := rfl
@[simp] theorem busPut_eng (s : State) (k : Nat) (v : Bus) : (s.busPut k v).eng = s.eng := rfl
@[simp] theorem busPut_grafts (s : State) (k : Nat) (v : Bus) : (s.busPut k v).grafts = s.grafts := rfl
@[simp] theorem busPut_dsp (s : State) (k : Nat) (v : Bus) : (s.busPut k v).dsp = s.dsp := rfl
@[simp] theorem busPut_flt (s : State) (k : Nat) (v : Bus) : (s.busPut k v).flt = s.flt := rfl
@[simp] theorem busPut_inj (s : State) (k : Nat) (v : Bus) : (s.busPut k v).inj = s.inj := rfl
@[simp] theorem busPut_alm (s : State) (k : Nat) (v : Bus) : (s.busPut k v).alm = s.alm := rfl
@[simp] theorem busPut_time (s : State) (k : Nat) (v : Bus) : (s.busPut k v).time = s.time := rfl
@[simp] theorem busPut_smb (s : State) (k : Nat) (v : Bus) : (s.busPut k v).smb = s.smb := rfl
@[simp] theorem busPut_tele (s : State) (k : Nat) (v : Bus) : (s.busPut k v).tele = s.tele := rfl
@[simp] theorem busPut_tallies (s : State) (k : Nat) (v : Bus) : (s.busPut k v).tallies = s.tallies := rfl
@[simp] theorem busPut_units (s : State) (k : Nat) (v : Bus) : (s.busPut k v).units = s.units := rfl
@[simp] theorem busPut_out (s : State) (k : Nat) (v : Bus) : (s.busPut k v).out = s.out := rfl
@[simp] theorem busPut_blocked (s : State) (k : Nat) (v : Bus) : (s.busPut k v).blocked = s.blocked := rfl
@[simp] theorem busPut_free (s : State) (k : Nat) (v : Bus) : (s.busPut k v).free = s.free := rfl
@[simp] theorem busPut_at_link (s : State) (k j : Nat) (v : Bus) : (s.busPut k v).link j = s.link j := rfl
@[simp] theorem busPut_at_guest (s : State) (k j : Nat) (v : Bus) : (s.busPut k v).guest j = s.guest j := rfl
@[simp] theorem busPut_at_tc (s : State) (k j : Nat) (v : Bus) : (s.busPut k v).tc j = s.tc j := rfl
@[simp] theorem busPut_at_pd (s : State) (k j : Nat) (v : Bus) : (s.busPut k v).pd j = s.pd j := rfl
@[simp] theorem busPut_at_path (s : State) (k j : Nat) (v : Bus) : (s.busPut k v).path j = s.path j := rfl
@[simp] theorem busPut_at_brg (s : State) (k j : Nat) (v : Bus) : (s.busPut k v).brg j = s.brg j := rfl
@[simp] theorem busPut_at_cap (s : State) (k j : Nat) (v : Bus) : (s.busPut k v).cap j = s.cap j := rfl
@[simp] theorem busPut_at_bed (s : State) (k j : Nat) (v : Bus) : (s.busPut k v).bed j = s.bed j := rfl
@[simp] theorem busPut_at_hook (s : State) (k j : Nat) (v : Bus) : (s.busPut k v).hook j = s.hook j := rfl
@[simp] theorem busPut_at_fn (s : State) (k j : Nat) (v : Bus) : (s.busPut k v).fn j = s.fn j := rfl
@[simp] theorem busPut_at_slot (s : State) (k j : Nat) (v : Bus) : (s.busPut k v).slot j = s.slot j := rfl
@[simp] theorem busPut_at_ep (s : State) (k j : Nat) (v : Bus) : (s.busPut k v).ep j = s.ep j := rfl
@[simp] theorem busPut_at_graft (s : State) (k j : Nat) (v : Bus) : (s.busPut k v).graft j = s.graft j := rfl
@[simp] theorem busPut_at_tally (s : State) (k j : Nat) (v : Bus) : (s.busPut k v).tally j = s.tally j := rfl
@[simp] theorem busOn_pending (s : State) (k : Nat) (g : Bus → Bus) : (s.busOn k g).pending = s.pending := rfl
@[simp] theorem busOn_waiting (s : State) (k : Nat) (g : Bus → Bus) : (s.busOn k g).waiting = s.waiting := rfl
@[simp] theorem busOn_aside (s : State) (k : Nat) (g : Bus → Bus) : (s.busOn k g).aside = s.aside := rfl
@[simp] theorem busOn_ops (s : State) (k : Nat) (g : Bus → Bus) : (s.busOn k g).ops = s.ops := rfl
@[simp] theorem busOn_regs (s : State) (k : Nat) (g : Bus → Bus) : (s.busOn k g).regs = s.regs := rfl
@[simp] theorem busOn_lock (s : State) (k : Nat) (g : Bus → Bus) : (s.busOn k g).lock = s.lock := rfl
@[simp] theorem busOn_blockedLast (s : State) (k : Nat) (g : Bus → Bus) : (s.busOn k g).blockedLast = s.blockedLast := rfl
@[simp] theorem busOn_otp (s : State) (k : Nat) (g : Bus → Bus) : (s.busOn k g).otp = s.otp := rfl
@[simp] theorem busOn_sup (s : State) (k : Nat) (g : Bus → Bus) : (s.busOn k g).sup = s.sup := rfl
@[simp] theorem busOn_boot (s : State) (k : Nat) (g : Bus → Bus) : (s.busOn k g).boot = s.boot := rfl
@[simp] theorem busOn_pcie (s : State) (k : Nat) (g : Bus → Bus) : (s.busOn k g).pcie = s.pcie := rfl
@[simp] theorem busOn_fns (s : State) (k : Nat) (g : Bus → Bus) : (s.busOn k g).fns = s.fns := rfl
@[simp] theorem busOn_slots (s : State) (k : Nat) (g : Bus → Bus) : (s.busOn k g).slots = s.slots := rfl
@[simp] theorem busOn_eps (s : State) (k : Nat) (g : Bus → Bus) : (s.busOn k g).eps = s.eps := rfl
@[simp] theorem busOn_short (s : State) (k : Nat) (g : Bus → Bus) : (s.busOn k g).short = s.short := rfl
@[simp] theorem busOn_grants (s : State) (k : Nat) (g : Bus → Bus) : (s.busOn k g).grants = s.grants := rfl
@[simp] theorem busOn_links (s : State) (k : Nat) (g : Bus → Bus) : (s.busOn k g).links = s.links := rfl
@[simp] theorem busOn_guests (s : State) (k : Nat) (g : Bus → Bus) : (s.busOn k g).guests = s.guests := rfl
@[simp] theorem busOn_tcs (s : State) (k : Nat) (g : Bus → Bus) : (s.busOn k g).tcs = s.tcs := rfl
@[simp] theorem busOn_pds (s : State) (k : Nat) (g : Bus → Bus) : (s.busOn k g).pds = s.pds := rfl
@[simp] theorem busOn_paths (s : State) (k : Nat) (g : Bus → Bus) : (s.busOn k g).paths = s.paths := rfl
@[simp] theorem busOn_brgs (s : State) (k : Nat) (g : Bus → Bus) : (s.busOn k g).brgs = s.brgs := rfl
@[simp] theorem busOn_caps (s : State) (k : Nat) (g : Bus → Bus) : (s.busOn k g).caps = s.caps := rfl
@[simp] theorem busOn_capStarts (s : State) (k : Nat) (g : Bus → Bus) : (s.busOn k g).capStarts = s.capStarts := rfl
@[simp] theorem busOn_beds (s : State) (k : Nat) (g : Bus → Bus) : (s.busOn k g).beds = s.beds := rfl
@[simp] theorem busOn_hooks (s : State) (k : Nat) (g : Bus → Bus) : (s.busOn k g).hooks = s.hooks := rfl
@[simp] theorem busOn_budget (s : State) (k : Nat) (g : Bus → Bus) : (s.busOn k g).budget = s.budget := rfl
@[simp] theorem busOn_mode (s : State) (k : Nat) (g : Bus → Bus) : (s.busOn k g).mode = s.mode := rfl
@[simp] theorem busOn_eng (s : State) (k : Nat) (g : Bus → Bus) : (s.busOn k g).eng = s.eng := rfl
@[simp] theorem busOn_grafts (s : State) (k : Nat) (g : Bus → Bus) : (s.busOn k g).grafts = s.grafts := rfl
@[simp] theorem busOn_dsp (s : State) (k : Nat) (g : Bus → Bus) : (s.busOn k g).dsp = s.dsp := rfl
@[simp] theorem busOn_flt (s : State) (k : Nat) (g : Bus → Bus) : (s.busOn k g).flt = s.flt := rfl
@[simp] theorem busOn_inj (s : State) (k : Nat) (g : Bus → Bus) : (s.busOn k g).inj = s.inj := rfl
@[simp] theorem busOn_alm (s : State) (k : Nat) (g : Bus → Bus) : (s.busOn k g).alm = s.alm := rfl
@[simp] theorem busOn_time (s : State) (k : Nat) (g : Bus → Bus) : (s.busOn k g).time = s.time := rfl
@[simp] theorem busOn_smb (s : State) (k : Nat) (g : Bus → Bus) : (s.busOn k g).smb = s.smb := rfl
@[simp] theorem busOn_tele (s : State) (k : Nat) (g : Bus → Bus) : (s.busOn k g).tele = s.tele := rfl
@[simp] theorem busOn_tallies (s : State) (k : Nat) (g : Bus → Bus) : (s.busOn k g).tallies = s.tallies := rfl
@[simp] theorem busOn_units (s : State) (k : Nat) (g : Bus → Bus) : (s.busOn k g).units = s.units := rfl
@[simp] theorem busOn_out (s : State) (k : Nat) (g : Bus → Bus) : (s.busOn k g).out = s.out := rfl
@[simp] theorem busOn_blocked (s : State) (k : Nat) (g : Bus → Bus) : (s.busOn k g).blocked = s.blocked := rfl
@[simp] theorem busOn_free (s : State) (k : Nat) (g : Bus → Bus) : (s.busOn k g).free = s.free := rfl
@[simp] theorem busOn_at_link (s : State) (k j : Nat) (g : Bus → Bus) : (s.busOn k g).link j = s.link j := rfl
@[simp] theorem busOn_at_guest (s : State) (k j : Nat) (g : Bus → Bus) : (s.busOn k g).guest j = s.guest j := rfl
@[simp] theorem busOn_at_tc (s : State) (k j : Nat) (g : Bus → Bus) : (s.busOn k g).tc j = s.tc j := rfl
@[simp] theorem busOn_at_pd (s : State) (k j : Nat) (g : Bus → Bus) : (s.busOn k g).pd j = s.pd j := rfl
@[simp] theorem busOn_at_path (s : State) (k j : Nat) (g : Bus → Bus) : (s.busOn k g).path j = s.path j := rfl
@[simp] theorem busOn_at_brg (s : State) (k j : Nat) (g : Bus → Bus) : (s.busOn k g).brg j = s.brg j := rfl
@[simp] theorem busOn_at_cap (s : State) (k j : Nat) (g : Bus → Bus) : (s.busOn k g).cap j = s.cap j := rfl
@[simp] theorem busOn_at_bed (s : State) (k j : Nat) (g : Bus → Bus) : (s.busOn k g).bed j = s.bed j := rfl
@[simp] theorem busOn_at_hook (s : State) (k j : Nat) (g : Bus → Bus) : (s.busOn k g).hook j = s.hook j := rfl
@[simp] theorem busOn_at_fn (s : State) (k j : Nat) (g : Bus → Bus) : (s.busOn k g).fn j = s.fn j := rfl
@[simp] theorem busOn_at_slot (s : State) (k j : Nat) (g : Bus → Bus) : (s.busOn k g).slot j = s.slot j := rfl
@[simp] theorem busOn_at_ep (s : State) (k j : Nat) (g : Bus → Bus) : (s.busOn k g).ep j = s.ep j := rfl
@[simp] theorem busOn_at_graft (s : State) (k j : Nat) (g : Bus → Bus) : (s.busOn k g).graft j = s.graft j := rfl
@[simp] theorem busOn_at_tally (s : State) (k j : Nat) (g : Bus → Bus) : (s.busOn k g).tally j = s.tally j := rfl
/-! ### guests -/

@[simp] theorem guestPut_same (s : State) (k : Nat) (v : Guest) : (s.guestPut k v).guest k = v := tget_tput_same _ _ _ _
theorem guestPut_ne (s : State) (k j : Nat) (v : Guest) (h : j ≠ k) : (s.guestPut k v).guest j = s.guest j := tget_tput_ne _ _ _ _ _ h
@[simp] theorem guestOn_same (s : State) (k : Nat) (g : Guest → Guest) : (s.guestOn k g).guest k = g (s.guest k) := tget_tput_same _ _ _ _
theorem guestOn_ne (s : State) (k j : Nat) (g : Guest → Guest) (h : j ≠ k) : (s.guestOn k g).guest j = s.guest j := tget_tput_ne _ _ _ _ _ h
@[simp] theorem guestPut_pending (s : State) (k : Nat) (v : Guest) : (s.guestPut k v).pending = s.pending := rfl
@[simp] theorem guestPut_waiting (s : State) (k : Nat) (v : Guest) : (s.guestPut k v).waiting = s.waiting := rfl
@[simp] theorem guestPut_aside (s : State) (k : Nat) (v : Guest) : (s.guestPut k v).aside = s.aside := rfl
@[simp] theorem guestPut_ops (s : State) (k : Nat) (v : Guest) : (s.guestPut k v).ops = s.ops := rfl
@[simp] theorem guestPut_regs (s : State) (k : Nat) (v : Guest) : (s.guestPut k v).regs = s.regs := rfl
@[simp] theorem guestPut_lock (s : State) (k : Nat) (v : Guest) : (s.guestPut k v).lock = s.lock := rfl
@[simp] theorem guestPut_blockedLast (s : State) (k : Nat) (v : Guest) : (s.guestPut k v).blockedLast = s.blockedLast := rfl
@[simp] theorem guestPut_otp (s : State) (k : Nat) (v : Guest) : (s.guestPut k v).otp = s.otp := rfl
@[simp] theorem guestPut_sup (s : State) (k : Nat) (v : Guest) : (s.guestPut k v).sup = s.sup := rfl
@[simp] theorem guestPut_boot (s : State) (k : Nat) (v : Guest) : (s.guestPut k v).boot = s.boot := rfl
@[simp] theorem guestPut_pcie (s : State) (k : Nat) (v : Guest) : (s.guestPut k v).pcie = s.pcie := rfl
@[simp] theorem guestPut_fns (s : State) (k : Nat) (v : Guest) : (s.guestPut k v).fns = s.fns := rfl
@[simp] theorem guestPut_slots (s : State) (k : Nat) (v : Guest) : (s.guestPut k v).slots = s.slots := rfl
@[simp] theorem guestPut_eps (s : State) (k : Nat) (v : Guest) : (s.guestPut k v).eps = s.eps := rfl
@[simp] theorem guestPut_short (s : State) (k : Nat) (v : Guest) : (s.guestPut k v).short = s.short := rfl
@[simp] theorem guestPut_grants (s : State) (k : Nat) (v : Guest) : (s.guestPut k v).grants = s.grants := rfl
@[simp] theorem guestPut_links (s : State) (k : Nat) (v : Guest) : (s.guestPut k v).links = s.links := rfl
@[simp] theorem guestPut_buses (s : State) (k : Nat) (v : Guest) : (s.guestPut k v).buses = s.buses := rfl
@[simp] theorem guestPut_tcs (s : State) (k : Nat) (v : Guest) : (s.guestPut k v).tcs = s.tcs := rfl
@[simp] theorem guestPut_pds (s : State) (k : Nat) (v : Guest) : (s.guestPut k v).pds = s.pds := rfl
@[simp] theorem guestPut_paths (s : State) (k : Nat) (v : Guest) : (s.guestPut k v).paths = s.paths := rfl
@[simp] theorem guestPut_brgs (s : State) (k : Nat) (v : Guest) : (s.guestPut k v).brgs = s.brgs := rfl
@[simp] theorem guestPut_caps (s : State) (k : Nat) (v : Guest) : (s.guestPut k v).caps = s.caps := rfl
@[simp] theorem guestPut_capStarts (s : State) (k : Nat) (v : Guest) : (s.guestPut k v).capStarts = s.capStarts := rfl
@[simp] theorem guestPut_beds (s : State) (k : Nat) (v : Guest) : (s.guestPut k v).beds = s.beds := rfl
@[simp] theorem guestPut_hooks (s : State) (k : Nat) (v : Guest) : (s.guestPut k v).hooks = s.hooks := rfl
@[simp] theorem guestPut_budget (s : State) (k : Nat) (v : Guest) : (s.guestPut k v).budget = s.budget := rfl
@[simp] theorem guestPut_mode (s : State) (k : Nat) (v : Guest) : (s.guestPut k v).mode = s.mode := rfl
@[simp] theorem guestPut_eng (s : State) (k : Nat) (v : Guest) : (s.guestPut k v).eng = s.eng := rfl
@[simp] theorem guestPut_grafts (s : State) (k : Nat) (v : Guest) : (s.guestPut k v).grafts = s.grafts := rfl
@[simp] theorem guestPut_dsp (s : State) (k : Nat) (v : Guest) : (s.guestPut k v).dsp = s.dsp := rfl
@[simp] theorem guestPut_flt (s : State) (k : Nat) (v : Guest) : (s.guestPut k v).flt = s.flt := rfl
@[simp] theorem guestPut_inj (s : State) (k : Nat) (v : Guest) : (s.guestPut k v).inj = s.inj := rfl
@[simp] theorem guestPut_alm (s : State) (k : Nat) (v : Guest) : (s.guestPut k v).alm = s.alm := rfl
@[simp] theorem guestPut_time (s : State) (k : Nat) (v : Guest) : (s.guestPut k v).time = s.time := rfl
@[simp] theorem guestPut_smb (s : State) (k : Nat) (v : Guest) : (s.guestPut k v).smb = s.smb := rfl
@[simp] theorem guestPut_tele (s : State) (k : Nat) (v : Guest) : (s.guestPut k v).tele = s.tele := rfl
@[simp] theorem guestPut_tallies (s : State) (k : Nat) (v : Guest) : (s.guestPut k v).tallies = s.tallies := rfl
@[simp] theorem guestPut_units (s : State) (k : Nat) (v : Guest) : (s.guestPut k v).units = s.units := rfl
@[simp] theorem guestPut_out (s : State) (k : Nat) (v : Guest) : (s.guestPut k v).out = s.out := rfl
@[simp] theorem guestPut_blocked (s : State) (k : Nat) (v : Guest) : (s.guestPut k v).blocked = s.blocked := rfl
@[simp] theorem guestPut_free (s : State) (k : Nat) (v : Guest) : (s.guestPut k v).free = s.free := rfl
@[simp] theorem guestPut_at_link (s : State) (k j : Nat) (v : Guest) : (s.guestPut k v).link j = s.link j := rfl
@[simp] theorem guestPut_at_bus (s : State) (k j : Nat) (v : Guest) : (s.guestPut k v).bus j = s.bus j := rfl
@[simp] theorem guestPut_at_tc (s : State) (k j : Nat) (v : Guest) : (s.guestPut k v).tc j = s.tc j := rfl
@[simp] theorem guestPut_at_pd (s : State) (k j : Nat) (v : Guest) : (s.guestPut k v).pd j = s.pd j := rfl
@[simp] theorem guestPut_at_path (s : State) (k j : Nat) (v : Guest) : (s.guestPut k v).path j = s.path j := rfl
@[simp] theorem guestPut_at_brg (s : State) (k j : Nat) (v : Guest) : (s.guestPut k v).brg j = s.brg j := rfl
@[simp] theorem guestPut_at_cap (s : State) (k j : Nat) (v : Guest) : (s.guestPut k v).cap j = s.cap j := rfl
@[simp] theorem guestPut_at_bed (s : State) (k j : Nat) (v : Guest) : (s.guestPut k v).bed j = s.bed j := rfl
@[simp] theorem guestPut_at_hook (s : State) (k j : Nat) (v : Guest) : (s.guestPut k v).hook j = s.hook j := rfl
@[simp] theorem guestPut_at_fn (s : State) (k j : Nat) (v : Guest) : (s.guestPut k v).fn j = s.fn j := rfl
@[simp] theorem guestPut_at_slot (s : State) (k j : Nat) (v : Guest) : (s.guestPut k v).slot j = s.slot j := rfl
@[simp] theorem guestPut_at_ep (s : State) (k j : Nat) (v : Guest) : (s.guestPut k v).ep j = s.ep j := rfl
@[simp] theorem guestPut_at_graft (s : State) (k j : Nat) (v : Guest) : (s.guestPut k v).graft j = s.graft j := rfl
@[simp] theorem guestPut_at_tally (s : State) (k j : Nat) (v : Guest) : (s.guestPut k v).tally j = s.tally j := rfl
@[simp] theorem guestOn_pending (s : State) (k : Nat) (g : Guest → Guest) : (s.guestOn k g).pending = s.pending := rfl
@[simp] theorem guestOn_waiting (s : State) (k : Nat) (g : Guest → Guest) : (s.guestOn k g).waiting = s.waiting := rfl
@[simp] theorem guestOn_aside (s : State) (k : Nat) (g : Guest → Guest) : (s.guestOn k g).aside = s.aside := rfl
@[simp] theorem guestOn_ops (s : State) (k : Nat) (g : Guest → Guest) : (s.guestOn k g).ops = s.ops := rfl
@[simp] theorem guestOn_regs (s : State) (k : Nat) (g : Guest → Guest) : (s.guestOn k g).regs = s.regs := rfl
@[simp] theorem guestOn_lock (s : State) (k : Nat) (g : Guest → Guest) : (s.guestOn k g).lock = s.lock := rfl
@[simp] theorem guestOn_blockedLast (s : State) (k : Nat) (g : Guest → Guest) : (s.guestOn k g).blockedLast = s.blockedLast := rfl
@[simp] theorem guestOn_otp (s : State) (k : Nat) (g : Guest → Guest) : (s.guestOn k g).otp = s.otp := rfl
@[simp] theorem guestOn_sup (s : State) (k : Nat) (g : Guest → Guest) : (s.guestOn k g).sup = s.sup := rfl
@[simp] theorem guestOn_boot (s : State) (k : Nat) (g : Guest → Guest) : (s.guestOn k g).boot = s.boot := rfl
@[simp] theorem guestOn_pcie (s : State) (k : Nat) (g : Guest → Guest) : (s.guestOn k g).pcie = s.pcie := rfl
@[simp] theorem guestOn_fns (s : State) (k : Nat) (g : Guest → Guest) : (s.guestOn k g).fns = s.fns := rfl
@[simp] theorem guestOn_slots (s : State) (k : Nat) (g : Guest → Guest) : (s.guestOn k g).slots = s.slots := rfl
@[simp] theorem guestOn_eps (s : State) (k : Nat) (g : Guest → Guest) : (s.guestOn k g).eps = s.eps := rfl
@[simp] theorem guestOn_short (s : State) (k : Nat) (g : Guest → Guest) : (s.guestOn k g).short = s.short := rfl
@[simp] theorem guestOn_grants (s : State) (k : Nat) (g : Guest → Guest) : (s.guestOn k g).grants = s.grants := rfl
@[simp] theorem guestOn_links (s : State) (k : Nat) (g : Guest → Guest) : (s.guestOn k g).links = s.links := rfl
@[simp] theorem guestOn_buses (s : State) (k : Nat) (g : Guest → Guest) : (s.guestOn k g).buses = s.buses := rfl
@[simp] theorem guestOn_tcs (s : State) (k : Nat) (g : Guest → Guest) : (s.guestOn k g).tcs = s.tcs := rfl
@[simp] theorem guestOn_pds (s : State) (k : Nat) (g : Guest → Guest) : (s.guestOn k g).pds = s.pds := rfl
@[simp] theorem guestOn_paths (s : State) (k : Nat) (g : Guest → Guest) : (s.guestOn k g).paths = s.paths := rfl
@[simp] theorem guestOn_brgs (s : State) (k : Nat) (g : Guest → Guest) : (s.guestOn k g).brgs = s.brgs := rfl
@[simp] theorem guestOn_caps (s : State) (k : Nat) (g : Guest → Guest) : (s.guestOn k g).caps = s.caps := rfl
@[simp] theorem guestOn_capStarts (s : State) (k : Nat) (g : Guest → Guest) : (s.guestOn k g).capStarts = s.capStarts := rfl
@[simp] theorem guestOn_beds (s : State) (k : Nat) (g : Guest → Guest) : (s.guestOn k g).beds = s.beds := rfl
@[simp] theorem guestOn_hooks (s : State) (k : Nat) (g : Guest → Guest) : (s.guestOn k g).hooks = s.hooks := rfl
@[simp] theorem guestOn_budget (s : State) (k : Nat) (g : Guest → Guest) : (s.guestOn k g).budget = s.budget := rfl
@[simp] theorem guestOn_mode (s : State) (k : Nat) (g : Guest → Guest) : (s.guestOn k g).mode = s.mode := rfl
@[simp] theorem guestOn_eng (s : State) (k : Nat) (g : Guest → Guest) : (s.guestOn k g).eng = s.eng := rfl
@[simp] theorem guestOn_grafts (s : State) (k : Nat) (g : Guest → Guest) : (s.guestOn k g).grafts = s.grafts := rfl
@[simp] theorem guestOn_dsp (s : State) (k : Nat) (g : Guest → Guest) : (s.guestOn k g).dsp = s.dsp := rfl
@[simp] theorem guestOn_flt (s : State) (k : Nat) (g : Guest → Guest) : (s.guestOn k g).flt = s.flt := rfl
@[simp] theorem guestOn_inj (s : State) (k : Nat) (g : Guest → Guest) : (s.guestOn k g).inj = s.inj := rfl
@[simp] theorem guestOn_alm (s : State) (k : Nat) (g : Guest → Guest) : (s.guestOn k g).alm = s.alm := rfl
@[simp] theorem guestOn_time (s : State) (k : Nat) (g : Guest → Guest) : (s.guestOn k g).time = s.time := rfl
@[simp] theorem guestOn_smb (s : State) (k : Nat) (g : Guest → Guest) : (s.guestOn k g).smb = s.smb := rfl
@[simp] theorem guestOn_tele (s : State) (k : Nat) (g : Guest → Guest) : (s.guestOn k g).tele = s.tele := rfl
@[simp] theorem guestOn_tallies (s : State) (k : Nat) (g : Guest → Guest) : (s.guestOn k g).tallies = s.tallies := rfl
@[simp] theorem guestOn_units (s : State) (k : Nat) (g : Guest → Guest) : (s.guestOn k g).units = s.units := rfl
@[simp] theorem guestOn_out (s : State) (k : Nat) (g : Guest → Guest) : (s.guestOn k g).out = s.out := rfl
@[simp] theorem guestOn_blocked (s : State) (k : Nat) (g : Guest → Guest) : (s.guestOn k g).blocked = s.blocked := rfl
@[simp] theorem guestOn_free (s : State) (k : Nat) (g : Guest → Guest) : (s.guestOn k g).free = s.free := rfl
@[simp] theorem guestOn_at_link (s : State) (k j : Nat) (g : Guest → Guest) : (s.guestOn k g).link j = s.link j := rfl
@[simp] theorem guestOn_at_bus (s : State) (k j : Nat) (g : Guest → Guest) : (s.guestOn k g).bus j = s.bus j := rfl
@[simp] theorem guestOn_at_tc (s : State) (k j : Nat) (g : Guest → Guest) : (s.guestOn k g).tc j = s.tc j := rfl
@[simp] theorem guestOn_at_pd (s : State) (k j : Nat) (g : Guest → Guest) : (s.guestOn k g).pd j = s.pd j := rfl
@[simp] theorem guestOn_at_path (s : State) (k j : Nat) (g : Guest → Guest) : (s.guestOn k g).path j = s.path j := rfl
@[simp] theorem guestOn_at_brg (s : State) (k j : Nat) (g : Guest → Guest) : (s.guestOn k g).brg j = s.brg j := rfl
@[simp] theorem guestOn_at_cap (s : State) (k j : Nat) (g : Guest → Guest) : (s.guestOn k g).cap j = s.cap j := rfl
@[simp] theorem guestOn_at_bed (s : State) (k j : Nat) (g : Guest → Guest) : (s.guestOn k g).bed j = s.bed j := rfl
@[simp] theorem guestOn_at_hook (s : State) (k j : Nat) (g : Guest → Guest) : (s.guestOn k g).hook j = s.hook j := rfl
@[simp] theorem guestOn_at_fn (s : State) (k j : Nat) (g : Guest → Guest) : (s.guestOn k g).fn j = s.fn j := rfl
@[simp] theorem guestOn_at_slot (s : State) (k j : Nat) (g : Guest → Guest) : (s.guestOn k g).slot j = s.slot j := rfl
@[simp] theorem guestOn_at_ep (s : State) (k j : Nat) (g : Guest → Guest) : (s.guestOn k g).ep j = s.ep j := rfl
@[simp] theorem guestOn_at_graft (s : State) (k j : Nat) (g : Guest → Guest) : (s.guestOn k g).graft j = s.graft j := rfl
@[simp] theorem guestOn_at_tally (s : State) (k j : Nat) (g : Guest → Guest) : (s.guestOn k g).tally j = s.tally j := rfl
/-! ### tcs -/

@[simp] theorem tcPut_same (s : State) (k : Nat) (v : Tc) : (s.tcPut k v).tc k = v := tget_tput_same _ _ _ _
theorem tcPut_ne (s : State) (k j : Nat) (v : Tc) (h : j ≠ k) : (s.tcPut k v).tc j = s.tc j := tget_tput_ne _ _ _ _ _ h
@[simp] theorem tcOn_same (s : State) (k : Nat) (g : Tc → Tc) : (s.tcOn k g).tc k = g (s.tc k) := tget_tput_same _ _ _ _
theorem tcOn_ne (s : State) (k j : Nat) (g : Tc → Tc) (h : j ≠ k) : (s.tcOn k g).tc j = s.tc j := tget_tput_ne _ _ _ _ _ h
@[simp] theorem tcPut_pending (s : State) (k : Nat) (v : Tc) : (s.tcPut k v).pending = s.pending := rfl
@[simp] theorem tcPut_waiting (s : State) (k : Nat) (v : Tc) : (s.tcPut k v).waiting = s.waiting := rfl
@[simp] theorem tcPut_aside (s : State) (k : Nat) (v : Tc) : (s.tcPut k v).aside = s.aside := rfl
@[simp] theorem tcPut_ops (s : State) (k : Nat) (v : Tc) : (s.tcPut k v).ops = s.ops := rfl
@[simp] theorem tcPut_regs (s : State) (k : Nat) (v : Tc) : (s.tcPut k v).regs = s.regs := rfl
@[simp] theorem tcPut_lock (s : State) (k : Nat) (v : Tc) : (s.tcPut k v).lock = s.lock := rfl
@[simp] theorem tcPut_blockedLast (s : State) (k : Nat) (v : Tc) : (s.tcPut k v).blockedLast = s.blockedLast := rfl
@[simp] theorem tcPut_otp (s : State) (k : Nat) (v : Tc) : (s.tcPut k v).otp = s.otp := rfl
@[simp] theorem tcPut_sup (s : State) (k : Nat) (v : Tc) : (s.tcPut k v).sup = s.sup := rfl
@[simp] theorem tcPut_boot (s : State) (k : Nat) (v : Tc) : (s.tcPut k v).boot = s.boot := rfl
@[simp] theorem tcPut_pcie (s : State) (k : Nat) (v : Tc) : (s.tcPut k v).pcie = s.pcie := rfl
@[simp] theorem tcPut_fns (s : State) (k : Nat) (v : Tc) : (s.tcPut k v).fns = s.fns := rfl
@[simp] theorem tcPut_slots (s : State) (k : Nat) (v : Tc) : (s.tcPut k v).slots = s.slots := rfl
@[simp] theorem tcPut_eps (s : State) (k : Nat) (v : Tc) : (s.tcPut k v).eps = s.eps := rfl
@[simp] theorem tcPut_short (s : State) (k : Nat) (v : Tc) : (s.tcPut k v).short = s.short := rfl
@[simp] theorem tcPut_grants (s : State) (k : Nat) (v : Tc) : (s.tcPut k v).grants = s.grants := rfl
@[simp] theorem tcPut_links (s : State) (k : Nat) (v : Tc) : (s.tcPut k v).links = s.links := rfl
@[simp] theorem tcPut_buses (s : State) (k : Nat) (v : Tc) : (s.tcPut k v).buses = s.buses := rfl
@[simp] theorem tcPut_guests (s : State) (k : Nat) (v : Tc) : (s.tcPut k v).guests = s.guests := rfl
@[simp] theorem tcPut_pds (s : State) (k : Nat) (v : Tc) : (s.tcPut k v).pds = s.pds := rfl
@[simp] theorem tcPut_paths (s : State) (k : Nat) (v : Tc) : (s.tcPut k v).paths = s.paths := rfl
@[simp] theorem tcPut_brgs (s : State) (k : Nat) (v : Tc) : (s.tcPut k v).brgs = s.brgs := rfl
@[simp] theorem tcPut_caps (s : State) (k : Nat) (v : Tc) : (s.tcPut k v).caps = s.caps := rfl
@[simp] theorem tcPut_capStarts (s : State) (k : Nat) (v : Tc) : (s.tcPut k v).capStarts = s.capStarts := rfl
@[simp] theorem tcPut_beds (s : State) (k : Nat) (v : Tc) : (s.tcPut k v).beds = s.beds := rfl
@[simp] theorem tcPut_hooks (s : State) (k : Nat) (v : Tc) : (s.tcPut k v).hooks = s.hooks := rfl
@[simp] theorem tcPut_budget (s : State) (k : Nat) (v : Tc) : (s.tcPut k v).budget = s.budget := rfl
@[simp] theorem tcPut_mode (s : State) (k : Nat) (v : Tc) : (s.tcPut k v).mode = s.mode := rfl
@[simp] theorem tcPut_eng (s : State) (k : Nat) (v : Tc) : (s.tcPut k v).eng = s.eng := rfl
@[simp] theorem tcPut_grafts (s : State) (k : Nat) (v : Tc) : (s.tcPut k v).grafts = s.grafts := rfl
@[simp] theorem tcPut_dsp (s : State) (k : Nat) (v : Tc) : (s.tcPut k v).dsp = s.dsp := rfl
@[simp] theorem tcPut_flt (s : State) (k : Nat) (v : Tc) : (s.tcPut k v).flt = s.flt := rfl
@[simp] theorem tcPut_inj (s : State) (k : Nat) (v : Tc) : (s.tcPut k v).inj = s.inj := rfl
@[simp] theorem tcPut_alm (s : State) (k : Nat) (v : Tc) : (s.tcPut k v).alm = s.alm := rfl
@[simp] theorem tcPut_time (s : State) (k : Nat) (v : Tc) : (s.tcPut k v).time = s.time := rfl
@[simp] theorem tcPut_smb (s : State) (k : Nat) (v : Tc) : (s.tcPut k v).smb = s.smb := rfl
@[simp] theorem tcPut_tele (s : State) (k : Nat) (v : Tc) : (s.tcPut k v).tele = s.tele := rfl
@[simp] theorem tcPut_tallies (s : State) (k : Nat) (v : Tc) : (s.tcPut k v).tallies = s.tallies := rfl
@[simp] theorem tcPut_units (s : State) (k : Nat) (v : Tc) : (s.tcPut k v).units = s.units := rfl
@[simp] theorem tcPut_out (s : State) (k : Nat) (v : Tc) : (s.tcPut k v).out = s.out := rfl
@[simp] theorem tcPut_blocked (s : State) (k : Nat) (v : Tc) : (s.tcPut k v).blocked = s.blocked := rfl
@[simp] theorem tcPut_free (s : State) (k : Nat) (v : Tc) : (s.tcPut k v).free = s.free := rfl
@[simp] theorem tcPut_at_link (s : State) (k j : Nat) (v : Tc) : (s.tcPut k v).link j = s.link j := rfl
@[simp] theorem tcPut_at_bus (s : State) (k j : Nat) (v : Tc) : (s.tcPut k v).bus j = s.bus j := rfl
@[simp] theorem tcPut_at_guest (s : State) (k j : Nat) (v : Tc) : (s.tcPut k v).guest j = s.guest j := rfl
@[simp] theorem tcPut_at_pd (s : State) (k j : Nat) (v : Tc) : (s.tcPut k v).pd j = s.pd j := rfl
@[simp] theorem tcPut_at_path (s : State) (k j : Nat) (v : Tc) : (s.tcPut k v).path j = s.path j := rfl
@[simp] theorem tcPut_at_brg (s : State) (k j : Nat) (v : Tc) : (s.tcPut k v).brg j = s.brg j := rfl
@[simp] theorem tcPut_at_cap (s : State) (k j : Nat) (v : Tc) : (s.tcPut k v).cap j = s.cap j := rfl
@[simp] theorem tcPut_at_bed (s : State) (k j : Nat) (v : Tc) : (s.tcPut k v).bed j = s.bed j := rfl
@[simp] theorem tcPut_at_hook (s : State) (k j : Nat) (v : Tc) : (s.tcPut k v).hook j = s.hook j := rfl
@[simp] theorem tcPut_at_fn (s : State) (k j : Nat) (v : Tc) : (s.tcPut k v).fn j = s.fn j := rfl
@[simp] theorem tcPut_at_slot (s : State) (k j : Nat) (v : Tc) : (s.tcPut k v).slot j = s.slot j := rfl
@[simp] theorem tcPut_at_ep (s : State) (k j : Nat) (v : Tc) : (s.tcPut k v).ep j = s.ep j := rfl
@[simp] theorem tcPut_at_graft (s : State) (k j : Nat) (v : Tc) : (s.tcPut k v).graft j = s.graft j := rfl
@[simp] theorem tcPut_at_tally (s : State) (k j : Nat) (v : Tc) : (s.tcPut k v).tally j = s.tally j := rfl
@[simp] theorem tcOn_pending (s : State) (k : Nat) (g : Tc → Tc) : (s.tcOn k g).pending = s.pending := rfl
@[simp] theorem tcOn_waiting (s : State) (k : Nat) (g : Tc → Tc) : (s.tcOn k g).waiting = s.waiting := rfl
@[simp] theorem tcOn_aside (s : State) (k : Nat) (g : Tc → Tc) : (s.tcOn k g).aside = s.aside := rfl
@[simp] theorem tcOn_ops (s : State) (k : Nat) (g : Tc → Tc) : (s.tcOn k g).ops = s.ops := rfl
@[simp] theorem tcOn_regs (s : State) (k : Nat) (g : Tc → Tc) : (s.tcOn k g).regs = s.regs := rfl
@[simp] theorem tcOn_lock (s : State) (k : Nat) (g : Tc → Tc) : (s.tcOn k g).lock = s.lock := rfl
@[simp] theorem tcOn_blockedLast (s : State) (k : Nat) (g : Tc → Tc) : (s.tcOn k g).blockedLast = s.blockedLast := rfl
@[simp] theorem tcOn_otp (s : State) (k : Nat) (g : Tc → Tc) : (s.tcOn k g).otp = s.otp := rfl
@[simp] theorem tcOn_sup (s : State) (k : Nat) (g : Tc → Tc) : (s.tcOn k g).sup = s.sup := rfl
@[simp] theorem tcOn_boot (s : State) (k : Nat) (g : Tc → Tc) : (s.tcOn k g).boot = s.boot := rfl
@[simp] theorem tcOn_pcie (s : State) (k : Nat) (g : Tc → Tc) : (s.tcOn k g).pcie = s.pcie := rfl
@[simp] theorem tcOn_fns (s : State) (k : Nat) (g : Tc → Tc) : (s.tcOn k g).fns = s.fns := rfl
@[simp] theorem tcOn_slots (s : State) (k : Nat) (g : Tc → Tc) : (s.tcOn k g).slots = s.slots := rfl
@[simp] theorem tcOn_eps (s : State) (k : Nat) (g : Tc → Tc) : (s.tcOn k g).eps = s.eps := rfl
@[simp] theorem tcOn_short (s : State) (k : Nat) (g : Tc → Tc) : (s.tcOn k g).short = s.short := rfl
@[simp] theorem tcOn_grants (s : State) (k : Nat) (g : Tc → Tc) : (s.tcOn k g).grants = s.grants := rfl
@[simp] theorem tcOn_links (s : State) (k : Nat) (g : Tc → Tc) : (s.tcOn k g).links = s.links := rfl
@[simp] theorem tcOn_buses (s : State) (k : Nat) (g : Tc → Tc) : (s.tcOn k g).buses = s.buses := rfl
@[simp] theorem tcOn_guests (s : State) (k : Nat) (g : Tc → Tc) : (s.tcOn k g).guests = s.guests := rfl
@[simp] theorem tcOn_pds (s : State) (k : Nat) (g : Tc → Tc) : (s.tcOn k g).pds = s.pds := rfl
@[simp] theorem tcOn_paths (s : State) (k : Nat) (g : Tc → Tc) : (s.tcOn k g).paths = s.paths := rfl
@[simp] theorem tcOn_brgs (s : State) (k : Nat) (g : Tc → Tc) : (s.tcOn k g).brgs = s.brgs := rfl
@[simp] theorem tcOn_caps (s : State) (k : Nat) (g : Tc → Tc) : (s.tcOn k g).caps = s.caps := rfl
@[simp] theorem tcOn_capStarts (s : State) (k : Nat) (g : Tc → Tc) : (s.tcOn k g).capStarts = s.capStarts := rfl
@[simp] theorem tcOn_beds (s : State) (k : Nat) (g : Tc → Tc) : (s.tcOn k g).beds = s.beds := rfl
@[simp] theorem tcOn_hooks (s : State) (k : Nat) (g : Tc → Tc) : (s.tcOn k g).hooks = s.hooks := rfl
@[simp] theorem tcOn_budget (s : State) (k : Nat) (g : Tc → Tc) : (s.tcOn k g).budget = s.budget := rfl
@[simp] theorem tcOn_mode (s : State) (k : Nat) (g : Tc → Tc) : (s.tcOn k g).mode = s.mode := rfl
@[simp] theorem tcOn_eng (s : State) (k : Nat) (g : Tc → Tc) : (s.tcOn k g).eng = s.eng := rfl
@[simp] theorem tcOn_grafts (s : State) (k : Nat) (g : Tc → Tc) : (s.tcOn k g).grafts = s.grafts := rfl
@[simp] theorem tcOn_dsp (s : State) (k : Nat) (g : Tc → Tc) : (s.tcOn k g).dsp = s.dsp := rfl
@[simp] theorem tcOn_flt (s : State) (k : Nat) (g : Tc → Tc) : (s.tcOn k g).flt = s.flt := rfl
@[simp] theorem tcOn_inj (s : State) (k : Nat) (g : Tc → Tc) : (s.tcOn k g).inj = s.inj := rfl
@[simp] theorem tcOn_alm (s : State) (k : Nat) (g : Tc → Tc) : (s.tcOn k g).alm = s.alm := rfl
@[simp] theorem tcOn_time (s : State) (k : Nat) (g : Tc → Tc) : (s.tcOn k g).time = s.time := rfl
@[simp] theorem tcOn_smb (s : State) (k : Nat) (g : Tc → Tc) : (s.tcOn k g).smb = s.smb := rfl
@[simp] theorem tcOn_tele (s : State) (k : Nat) (g : Tc → Tc) : (s.tcOn k g).tele = s.tele := rfl
@[simp] theorem tcOn_tallies (s : State) (k : Nat) (g : Tc → Tc) : (s.tcOn k g).tallies = s.tallies := rfl
@[simp] theorem tcOn_units (s : State) (k : Nat) (g : Tc → Tc) : (s.tcOn k g).units = s.units := rfl
@[simp] theorem tcOn_out (s : State) (k : Nat) (g : Tc → Tc) : (s.tcOn k g).out = s.out := rfl
@[simp] theorem tcOn_blocked (s : State) (k : Nat) (g : Tc → Tc) : (s.tcOn k g).blocked = s.blocked := rfl
@[simp] theorem tcOn_free (s : State) (k : Nat) (g : Tc → Tc) : (s.tcOn k g).free = s.free := rfl
@[simp] theorem tcOn_at_link (s : State) (k j : Nat) (g : Tc → Tc) : (s.tcOn k g).link j = s.link j := rfl
@[simp] theorem tcOn_at_bus (s : State) (k j : Nat) (g : Tc → Tc) : (s.tcOn k g).bus j = s.bus j := rfl
@[simp] theorem tcOn_at_guest (s : State) (k j : Nat) (g : Tc → Tc) : (s.tcOn k g).guest j = s.guest j := rfl
@[simp] theorem tcOn_at_pd (s : State) (k j : Nat) (g : Tc → Tc) : (s.tcOn k g).pd j = s.pd j := rfl
@[simp] theorem tcOn_at_path (s : State) (k j : Nat) (g : Tc → Tc) : (s.tcOn k g).path j = s.path j := rfl
@[simp] theorem tcOn_at_brg (s : State) (k j : Nat) (g : Tc → Tc) : (s.tcOn k g).brg j = s.brg j := rfl
@[simp] theorem tcOn_at_cap (s : State) (k j : Nat) (g : Tc → Tc) : (s.tcOn k g).cap j = s.cap j := rfl
@[simp] theorem tcOn_at_bed (s : State) (k j : Nat) (g : Tc → Tc) : (s.tcOn k g).bed j = s.bed j := rfl
@[simp] theorem tcOn_at_hook (s : State) (k j : Nat) (g : Tc → Tc) : (s.tcOn k g).hook j = s.hook j := rfl
@[simp] theorem tcOn_at_fn (s : State) (k j : Nat) (g : Tc → Tc) : (s.tcOn k g).fn j = s.fn j := rfl
@[simp] theorem tcOn_at_slot (s : State) (k j : Nat) (g : Tc → Tc) : (s.tcOn k g).slot j = s.slot j := rfl
@[simp] theorem tcOn_at_ep (s : State) (k j : Nat) (g : Tc → Tc) : (s.tcOn k g).ep j = s.ep j := rfl
@[simp] theorem tcOn_at_graft (s : State) (k j : Nat) (g : Tc → Tc) : (s.tcOn k g).graft j = s.graft j := rfl
@[simp] theorem tcOn_at_tally (s : State) (k j : Nat) (g : Tc → Tc) : (s.tcOn k g).tally j = s.tally j := rfl
/-! ### pds -/

@[simp] theorem pdPut_same (s : State) (k : Nat) (v : Pd) : (s.pdPut k v).pd k = v := tget_tput_same _ _ _ _
theorem pdPut_ne (s : State) (k j : Nat) (v : Pd) (h : j ≠ k) : (s.pdPut k v).pd j = s.pd j := tget_tput_ne _ _ _ _ _ h
@[simp] theorem pdOn_same (s : State) (k : Nat) (g : Pd → Pd) : (s.pdOn k g).pd k = g (s.pd k) := tget_tput_same _ _ _ _
theorem pdOn_ne (s : State) (k j : Nat) (g : Pd → Pd) (h : j ≠ k) : (s.pdOn k g).pd j = s.pd j := tget_tput_ne _ _ _ _ _ h
@[simp] theorem pdPut_pending (s : State) (k : Nat) (v : Pd) : (s.pdPut k v).pending = s.pending := rfl
@[simp] theorem pdPut_waiting (s : State) (k : Nat) (v : Pd) : (s.pdPut k v).waiting = s.waiting := rfl
@[simp] theorem pdPut_aside (s : State) (k : Nat) (v : Pd) : (s.pdPut k v).aside = s.aside := rfl
@[simp] theorem pdPut_ops (s : State) (k : Nat) (v : Pd) : (s.pdPut k v).ops = s.ops := rfl
@[simp] theorem pdPut_regs (s : State) (k : Nat) (v : Pd) : (s.pdPut k v).regs = s.regs := rfl
@[simp] theorem pdPut_lock (s : State) (k : Nat) (v : Pd) : (s.pdPut k v).lock = s.lock := rfl
@[simp] theorem pdPut_blockedLast (s : State) (k : Nat) (v : Pd) : (s.pdPut k v).blockedLast = s.blockedLast := rfl
@[simp] theorem pdPut_otp (s : State) (k : Nat) (v : Pd) : (s.pdPut k v).otp = s.otp := rfl
@[simp] theorem pdPut_sup (s : State) (k : Nat) (v : Pd) : (s.pdPut k v).sup = s.sup := rfl
@[simp] theorem pdPut_boot (s : State) (k : Nat) (v : Pd) : (s.pdPut k v).boot = s.boot := rfl
@[simp] theorem pdPut_pcie (s : State) (k : Nat) (v : Pd) : (s.pdPut k v).pcie = s.pcie := rfl
@[simp] theorem pdPut_fns (s : State) (k : Nat) (v : Pd) : (s.pdPut k v).fns = s.fns := rfl
@[simp] theorem pdPut_slots (s : State) (k : Nat) (v : Pd) : (s.pdPut k v).slots = s.slots := rfl
@[simp] theorem pdPut_eps (s : State) (k : Nat) (v : Pd) : (s.pdPut k v).eps = s.eps := rfl
@[simp] theorem pdPut_short (s : State) (k : Nat) (v : Pd) : (s.pdPut k v).short = s.short := rfl
@[simp] theorem pdPut_grants (s : State) (k : Nat) (v : Pd) : (s.pdPut k v).grants = s.grants := rfl
@[simp] theorem pdPut_links (s : State) (k : Nat) (v : Pd) : (s.pdPut k v).links = s.links := rfl
@[simp] theorem pdPut_buses (s : State) (k : Nat) (v : Pd) : (s.pdPut k v).buses = s.buses := rfl
@[simp] theorem pdPut_guests (s : State) (k : Nat) (v : Pd) : (s.pdPut k v).guests = s.guests := rfl
@[simp] theorem pdPut_tcs (s : State) (k : Nat) (v : Pd) : (s.pdPut k v).tcs = s.tcs := rfl
@[simp] theorem pdPut_paths (s : State) (k : Nat) (v : Pd) : (s.pdPut k v).paths = s.paths := rfl
@[simp] theorem pdPut_brgs (s : State) (k : Nat) (v : Pd) : (s.pdPut k v).brgs = s.brgs := rfl
@[simp] theorem pdPut_caps (s : State) (k : Nat) (v : Pd) : (s.pdPut k v).caps = s.caps := rfl
@[simp] theorem pdPut_capStarts (s : State) (k : Nat) (v : Pd) : (s.pdPut k v).capStarts = s.capStarts := rfl
@[simp] theorem pdPut_beds (s : State) (k : Nat) (v : Pd) : (s.pdPut k v).beds = s.beds := rfl
@[simp] theorem pdPut_hooks (s : State) (k : Nat) (v : Pd) : (s.pdPut k v).hooks = s.hooks := rfl
@[simp] theorem pdPut_budget (s : State) (k : Nat) (v : Pd) : (s.pdPut k v).budget = s.budget := rfl
@[simp] theorem pdPut_mode (s : State) (k : Nat) (v : Pd) : (s.pdPut k v).mode = s.mode := rfl
@[simp] theorem pdPut_eng (s : State) (k : Nat) (v : Pd) : (s.pdPut k v).eng = s.eng := rfl
@[simp] theorem pdPut_grafts (s : State) (k : Nat) (v : Pd) : (s.pdPut k v).grafts = s.grafts := rfl
@[simp] theorem pdPut_dsp (s : State) (k : Nat) (v : Pd) : (s.pdPut k v).dsp = s.dsp := rfl
@[simp] theorem pdPut_flt (s : State) (k : Nat) (v : Pd) : (s.pdPut k v).flt = s.flt := rfl
@[simp] theorem pdPut_inj (s : State) (k : Nat) (v : Pd) : (s.pdPut k v).inj = s.inj := rfl
@[simp] theorem pdPut_alm (s : State) (k : Nat) (v : Pd) : (s.pdPut k v).alm = s.alm := rfl
@[simp] theorem pdPut_time (s : State) (k : Nat) (v : Pd) : (s.pdPut k v).time = s.time := rfl
@[simp] theorem pdPut_smb (s : State) (k : Nat) (v : Pd) : (s.pdPut k v).smb = s.smb := rfl
@[simp] theorem pdPut_tele (s : State) (k : Nat) (v : Pd) : (s.pdPut k v).tele = s.tele := rfl
@[simp] theorem pdPut_tallies (s : State) (k : Nat) (v : Pd) : (s.pdPut k v).tallies = s.tallies := rfl
@[simp] theorem pdPut_units (s : State) (k : Nat) (v : Pd) : (s.pdPut k v).units = s.units := rfl
@[simp] theorem pdPut_out (s : State) (k : Nat) (v : Pd) : (s.pdPut k v).out = s.out := rfl
@[simp] theorem pdPut_blocked (s : State) (k : Nat) (v : Pd) : (s.pdPut k v).blocked = s.blocked := rfl
@[simp] theorem pdPut_free (s : State) (k : Nat) (v : Pd) : (s.pdPut k v).free = s.free := rfl
@[simp] theorem pdPut_at_link (s : State) (k j : Nat) (v : Pd) : (s.pdPut k v).link j = s.link j := rfl
@[simp] theorem pdPut_at_bus (s : State) (k j : Nat) (v : Pd) : (s.pdPut k v).bus j = s.bus j := rfl
@[simp] theorem pdPut_at_guest (s : State) (k j : Nat) (v : Pd) : (s.pdPut k v).guest j = s.guest j := rfl
@[simp] theorem pdPut_at_tc (s : State) (k j : Nat) (v : Pd) : (s.pdPut k v).tc j = s.tc j := rfl
@[simp] theorem pdPut_at_path (s : State) (k j : Nat) (v : Pd) : (s.pdPut k v).path j = s.path j := rfl
@[simp] theorem pdPut_at_brg (s : State) (k j : Nat) (v : Pd) : (s.pdPut k v).brg j = s.brg j := rfl
@[simp] theorem pdPut_at_cap (s : State) (k j : Nat) (v : Pd) : (s.pdPut k v).cap j = s.cap j := rfl
@[simp] theorem pdPut_at_bed (s : State) (k j : Nat) (v : Pd) : (s.pdPut k v).bed j = s.bed j := rfl
@[simp] theorem pdPut_at_hook (s : State) (k j : Nat) (v : Pd) : (s.pdPut k v).hook j = s.hook j := rfl
@[simp] theorem pdPut_at_fn (s : State) (k j : Nat) (v : Pd) : (s.pdPut k v).fn j = s.fn j := rfl
@[simp] theorem pdPut_at_slot (s : State) (k j : Nat) (v : Pd) : (s.pdPut k v).slot j = s.slot j := rfl
@[simp] theorem pdPut_at_ep (s : State) (k j : Nat) (v : Pd) : (s.pdPut k v).ep j = s.ep j := rfl
@[simp] theorem pdPut_at_graft (s : State) (k j : Nat) (v : Pd) : (s.pdPut k v).graft j = s.graft j := rfl
@[simp] theorem pdPut_at_tally (s : State) (k j : Nat) (v : Pd) : (s.pdPut k v).tally j = s.tally j := rfl
@[simp] theorem pdOn_pending (s : State) (k : Nat) (g : Pd → Pd) : (s.pdOn k g).pending = s.pending := rfl
@[simp] theorem pdOn_waiting (s : State) (k : Nat) (g : Pd → Pd) : (s.pdOn k g).waiting = s.waiting := rfl
@[simp] theorem pdOn_aside (s : State) (k : Nat) (g : Pd → Pd) : (s.pdOn k g).aside = s.aside := rfl
@[simp] theorem pdOn_ops (s : State) (k : Nat) (g : Pd → Pd) : (s.pdOn k g).ops = s.ops := rfl
@[simp] theorem pdOn_regs (s : State) (k : Nat) (g : Pd → Pd) : (s.pdOn k g).regs = s.regs := rfl
@[simp] theorem pdOn_lock (s : State) (k : Nat) (g : Pd → Pd) : (s.pdOn k g).lock = s.lock := rfl
@[simp] theorem pdOn_blockedLast (s : State) (k : Nat) (g : Pd → Pd) : (s.pdOn k g).blockedLast = s.blockedLast := rfl
@[simp] theorem pdOn_otp (s : State) (k : Nat) (g : Pd → Pd) : (s.pdOn k g).otp = s.otp := rfl
@[simp] theorem pdOn_sup (s : State) (k : Nat) (g : Pd → Pd) : (s.pdOn k g).sup = s.sup := rfl
@[simp] theorem pdOn_boot (s : State) (k : Nat) (g : Pd → Pd) : (s.pdOn k g).boot = s.boot := rfl
@[simp] theorem pdOn_pcie (s : State) (k : Nat) (g : Pd → Pd) : (s.pdOn k g).pcie = s.pcie := rfl
@[simp] theorem pdOn_fns (s : State) (k : Nat) (g : Pd → Pd) : (s.pdOn k g).fns = s.fns := rfl
@[simp] theorem pdOn_slots (s : State) (k : Nat) (g : Pd → Pd) : (s.pdOn k g).slots = s.slots := rfl
@[simp] theorem pdOn_eps (s : State) (k : Nat) (g : Pd → Pd) : (s.pdOn k g).eps = s.eps := rfl
@[simp] theorem pdOn_short (s : State) (k : Nat) (g : Pd → Pd) : (s.pdOn k g).short = s.short := rfl
@[simp] theorem pdOn_grants (s : State) (k : Nat) (g : Pd → Pd) : (s.pdOn k g).grants = s.grants := rfl
@[simp] theorem pdOn_links (s : State) (k : Nat) (g : Pd → Pd) : (s.pdOn k g).links = s.links := rfl
@[simp] theorem pdOn_buses (s : State) (k : Nat) (g : Pd → Pd) : (s.pdOn k g).buses = s.buses := rfl
@[simp] theorem pdOn_guests (s : State) (k : Nat) (g : Pd → Pd) : (s.pdOn k g).guests = s.guests := rfl
@[simp] theorem pdOn_tcs (s : State) (k : Nat) (g : Pd → Pd) : (s.pdOn k g).tcs = s.tcs := rfl
@[simp] theorem pdOn_paths (s : State) (k : Nat) (g : Pd → Pd) : (s.pdOn k g).paths = s.paths := rfl
@[simp] theorem pdOn_brgs (s : State) (k : Nat) (g : Pd → Pd) : (s.pdOn k g).brgs = s.brgs := rfl
@[simp] theorem pdOn_caps (s : State) (k : Nat) (g : Pd → Pd) : (s.pdOn k g).caps = s.caps := rfl
@[simp] theorem pdOn_capStarts (s : State) (k : Nat) (g : Pd → Pd) : (s.pdOn k g).capStarts = s.capStarts := rfl
@[simp] theorem pdOn_beds (s : State) (k : Nat) (g : Pd → Pd) : (s.pdOn k g).beds = s.beds := rfl
@[simp] theorem pdOn_hooks (s : State) (k : Nat) (g : Pd → Pd) : (s.pdOn k g).hooks = s.hooks := rfl
@[simp] theorem pdOn_budget (s : State) (k : Nat) (g : Pd → Pd) : (s.pdOn k g).budget = s.budget := rfl
@[simp] theorem pdOn_mode (s : State) (k : Nat) (g : Pd → Pd) : (s.pdOn k g).mode = s.mode := rfl
@[simp] theorem pdOn_eng (s : State) (k : Nat) (g : Pd → Pd) : (s.pdOn k g).eng = s.eng := rfl
@[simp] theorem pdOn_grafts (s : State) (k : Nat) (g : Pd → Pd) : (s.pdOn k g).grafts = s.grafts := rfl
@[simp] theorem pdOn_dsp (s : State) (k : Nat) (g : Pd → Pd) : (s.pdOn k g).dsp = s.dsp := rfl
@[simp] theorem pdOn_flt (s : State) (k : Nat) (g : Pd → Pd) : (s.pdOn k g).flt = s.flt := rfl
@[simp] theorem pdOn_inj (s : State) (k : Nat) (g : Pd → Pd) : (s.pdOn k g).inj = s.inj := rfl
@[simp] theorem pdOn_alm (s : State) (k : Nat) (g : Pd → Pd) : (s.pdOn k g).alm = s.alm := rfl
@[simp] theorem pdOn_time (s : State) (k : Nat) (g : Pd → Pd) : (s.pdOn k g).time = s.time := rfl
@[simp] theorem pdOn_smb (s : State) (k : Nat) (g : Pd → Pd) : (s.pdOn k g).smb = s.smb := rfl
@[simp] theorem pdOn_tele (s : State) (k : Nat) (g : Pd → Pd) : (s.pdOn k g).tele = s.tele := rfl
@[simp] theorem pdOn_tallies (s : State) (k : Nat) (g : Pd → Pd) : (s.pdOn k g).tallies = s.tallies := rfl
@[simp] theorem pdOn_units (s : State) (k : Nat) (g : Pd → Pd) : (s.pdOn k g).units = s.units := rfl
@[simp] theorem pdOn_out (s : State) (k : Nat) (g : Pd → Pd) : (s.pdOn k g).out = s.out := rfl
@[simp] theorem pdOn_blocked (s : State) (k : Nat) (g : Pd → Pd) : (s.pdOn k g).blocked = s.blocked := rfl
@[simp] theorem pdOn_free (s : State) (k : Nat) (g : Pd → Pd) : (s.pdOn k g).free = s.free := rfl
@[simp] theorem pdOn_at_link (s : State) (k j : Nat) (g : Pd → Pd) : (s.pdOn k g).link j = s.link j := rfl
@[simp] theorem pdOn_at_bus (s : State) (k j : Nat) (g : Pd → Pd) : (s.pdOn k g).bus j = s.bus j := rfl
@[simp] theorem pdOn_at_guest (s : State) (k j : Nat) (g : Pd → Pd) : (s.pdOn k g).guest j = s.guest j := rfl
@[simp] theorem pdOn_at_tc (s : State) (k j : Nat) (g : Pd → Pd) : (s.pdOn k g).tc j = s.tc j := rfl
@[simp] theorem pdOn_at_path (s : State) (k j : Nat) (g : Pd → Pd) : (s.pdOn k g).path j = s.path j := rfl
@[simp] theorem pdOn_at_brg (s : State) (k j : Nat) (g : Pd → Pd) : (s.pdOn k g).brg j = s.brg j := rfl
@[simp] theorem pdOn_at_cap (s : State) (k j : Nat) (g : Pd → Pd) : (s.pdOn k g).cap j = s.cap j := rfl
@[simp] theorem pdOn_at_bed (s : State) (k j : Nat) (g : Pd → Pd) : (s.pdOn k g).bed j = s.bed j := rfl
@[simp] theorem pdOn_at_hook (s : State) (k j : Nat) (g : Pd → Pd) : (s.pdOn k g).hook j = s.hook j := rfl
@[simp] theorem pdOn_at_fn (s : State) (k j : Nat) (g : Pd → Pd) : (s.pdOn k g).fn j = s.fn j := rfl
@[simp] theorem pdOn_at_slot (s : State) (k j : Nat) (g : Pd → Pd) : (s.pdOn k g).slot j = s.slot j := rfl
@[simp] theorem pdOn_at_ep (s : State) (k j : Nat) (g : Pd → Pd) : (s.pdOn k g).ep j = s.ep j := rfl
@[simp] theorem pdOn_at_graft (s : State) (k j : Nat) (g : Pd → Pd) : (s.pdOn k g).graft j = s.graft j := rfl
@[simp] theorem pdOn_at_tally (s : State) (k j : Nat) (g : Pd → Pd) : (s.pdOn k g).tally j = s.tally j := rfl
/-! ### paths -/

@[simp] theorem pathPut_same (s : State) (k : Nat) (v : Path) : (s.pathPut k v).path k = v := tget_tput_same _ _ _ _
theorem pathPut_ne (s : State) (k j : Nat) (v : Path) (h : j ≠ k) : (s.pathPut k v).path j = s.path j := tget_tput_ne _ _ _ _ _ h
@[simp] theorem pathOn_same (s : State) (k : Nat) (g : Path → Path) : (s.pathOn k g).path k = g (s.path k) := tget_tput_same _ _ _ _
theorem pathOn_ne (s : State) (k j : Nat) (g : Path → Path) (h : j ≠ k) : (s.pathOn k g).path j = s.path j := tget_tput_ne _ _ _ _ _ h
@[simp] theorem pathPut_pending (s : State) (k : Nat) (v : Path) : (s.pathPut k v).pending = s.pending := rfl
@[simp] theorem pathPut_waiting (s : State) (k : Nat) (v : Path) : (s.pathPut k v).waiting = s.waiting := rfl
@[simp] theorem pathPut_aside (s : State) (k : Nat) (v : Path) : (s.pathPut k v).aside = s.aside := rfl
@[simp] theorem pathPut_ops (s : State) (k : Nat) (v : Path) : (s.pathPut k v).ops = s.ops := rfl
@[simp] theorem pathPut_regs (s : State) (k : Nat) (v : Path) : (s.pathPut k v).regs = s.regs := rfl
@[simp] theorem pathPut_lock (s : State) (k : Nat) (v : Path) : (s.pathPut k v).lock = s.lock := rfl
@[simp] theorem pathPut_blockedLast (s : State) (k : Nat) (v : Path) : (s.pathPut k v).blockedLast = s.blockedLast := rfl
@[simp] theorem pathPut_otp (s : State) (k : Nat) (v : Path) : (s.pathPut k v).otp = s.otp := rfl
@[simp] theorem pathPut_sup (s : State) (k : Nat) (v : Path) : (s.pathPut k v).sup = s.sup := rfl
@[simp] theorem pathPut_boot (s : State) (k : Nat) (v : Path) : (s.pathPut k v).boot = s.boot := rfl
@[simp] theorem pathPut_pcie (s : State) (k : Nat) (v : Path) : (s.pathPut k v).pcie = s.pcie := rfl
@[simp] theorem pathPut_fns (s : State) (k : Nat) (v : Path) : (s.pathPut k v).fns = s.fns := rfl
@[simp] theorem pathPut_slots (s : State) (k : Nat) (v : Path) : (s.pathPut k v).slots = s.slots := rfl
@[simp] theorem pathPut_eps (s : State) (k : Nat) (v : Path) : (s.pathPut k v).eps = s.eps := rfl
@[simp] theorem pathPut_short (s : State) (k : Nat) (v : Path) : (s.pathPut k v).short = s.short := rfl
@[simp] theorem pathPut_grants (s : State) (k : Nat) (v : Path) : (s.pathPut k v).grants = s.grants := rfl
@[simp] theorem pathPut_links (s : State) (k : Nat) (v : Path) : (s.pathPut k v).links = s.links := rfl
@[simp] theorem pathPut_buses (s : State) (k : Nat) (v : Path) : (s.pathPut k v).buses = s.buses := rfl
@[simp] theorem pathPut_guests (s : State) (k : Nat) (v : Path) : (s.pathPut k v).guests = s.guests := rfl
@[simp] theorem pathPut_tcs (s : State) (k : Nat) (v : Path) : (s.pathPut k v).tcs = s.tcs := rfl
@[simp] theorem pathPut_pds (s : State) (k : Nat) (v : Path) : (s.pathPut k v).pds = s.pds := rfl
@[simp] theorem pathPut_brgs (s : State) (k : Nat) (v : Path) : (s.pathPut k v).brgs = s.brgs := rfl
@[simp] theorem pathPut_caps (s : State) (k : Nat) (v : Path) : (s.pathPut k v).caps = s.caps := rfl
@[simp] theorem pathPut_capStarts (s : State) (k : Nat) (v : Path) : (s.pathPut k v).capStarts = s.capStarts := rfl
@[simp] theorem pathPut_beds (s : State) (k : Nat) (v : Path) : (s.pathPut k v).beds = s.beds := rfl
@[simp] theorem pathPut_hooks (s : State) (k : Nat) (v : Path) : (s.pathPut k v).hooks = s.hooks := rfl
@[simp] theorem pathPut_budget (s : State) (k : Nat) (v : Path) : (s.pathPut k v).budget = s.budget := rfl
@[simp] theorem pathPut_mode (s : State) (k : Nat) (v : Path) : (s.pathPut k v).mode = s.mode := rfl
@[simp] theorem pathPut_eng (s : State) (k : Nat) (v : Path) : (s.pathPut k v).eng = s.eng := rfl
@[simp] theorem pathPut_grafts (s : State) (k : Nat) (v : Path) : (s.pathPut k v).grafts = s.grafts := rfl
@[simp] theorem pathPut_dsp (s : State) (k : Nat) (v : Path) : (s.pathPut k v).dsp = s.dsp := rfl
@[simp] theorem pathPut_flt (s : State) (k : Nat) (v : Path) : (s.pathPut k v).flt = s.flt := rfl
@[simp] theorem pathPut_inj (s : State) (k : Nat) (v : Path) : (s.pathPut k v).inj = s.inj := rfl
@[simp] theorem pathPut_alm (s : State) (k : Nat) (v : Path) : (s.pathPut k v).alm = s.alm := rfl
@[simp] theorem pathPut_time (s : State) (k : Nat) (v : Path) : (s.pathPut k v).time = s.time := rfl
@[simp] theorem pathPut_smb (s : State) (k : Nat) (v : Path) : (s.pathPut k v).smb = s.smb := rfl
@[simp] theorem pathPut_tele (s : State) (k : Nat) (v : Path) : (s.pathPut k v).tele = s.tele := rfl
@[simp] theorem pathPut_tallies (s : State) (k : Nat) (v : Path) : (s.pathPut k v).tallies = s.tallies := rfl
@[simp] theorem pathPut_units (s : State) (k : Nat) (v : Path) : (s.pathPut k v).units = s.units := rfl
@[simp] theorem pathPut_out (s : State) (k : Nat) (v : Path) : (s.pathPut k v).out = s.out := rfl
@[simp] theorem pathPut_blocked (s : State) (k : Nat) (v : Path) : (s.pathPut k v).blocked = s.blocked := rfl
@[simp] theorem pathPut_free (s : State) (k : Nat) (v : Path) : (s.pathPut k v).free = s.free := rfl
@[simp] theorem pathPut_at_link (s : State) (k j : Nat) (v : Path) : (s.pathPut k v).link j = s.link j := rfl
@[simp] theorem pathPut_at_bus (s : State) (k j : Nat) (v : Path) : (s.pathPut k v).bus j = s.bus j := rfl
@[simp] theorem pathPut_at_guest (s : State) (k j : Nat) (v : Path) : (s.pathPut k v).guest j = s.guest j := rfl
@[simp] theorem pathPut_at_tc (s : State) (k j : Nat) (v : Path) : (s.pathPut k v).tc j = s.tc j := rfl
@[simp] theorem pathPut_at_pd (s : State) (k j : Nat) (v : Path) : (s.pathPut k v).pd j = s.pd j := rfl
@[simp] theorem pathPut_at_brg (s : State) (k j : Nat) (v : Path) : (s.pathPut k v).brg j = s.brg j := rfl
@[simp] theorem pathPut_at_cap (s : State) (k j : Nat) (v : Path) : (s.pathPut k v).cap j = s.cap j := rfl
@[simp] theorem pathPut_at_bed (s : State) (k j : Nat) (v : Path) : (s.pathPut k v).bed j = s.bed j := rfl
@[simp] theorem pathPut_at_hook (s : State) (k j : Nat) (v : Path) : (s.pathPut k v).hook j = s.hook j := rfl
@[simp] theorem pathPut_at_fn (s : State) (k j : Nat) (v : Path) : (s.pathPut k v).fn j = s.fn j := rfl
@[simp] theorem pathPut_at_slot (s : State) (k j : Nat) (v : Path) : (s.pathPut k v).slot j = s.slot j := rfl
@[simp] theorem pathPut_at_ep (s : State) (k j : Nat) (v : Path) : (s.pathPut k v).ep j = s.ep j := rfl
@[simp] theorem pathPut_at_graft (s : State) (k j : Nat) (v : Path) : (s.pathPut k v).graft j = s.graft j := rfl
@[simp] theorem pathPut_at_tally (s : State) (k j : Nat) (v : Path) : (s.pathPut k v).tally j = s.tally j := rfl
@[simp] theorem pathOn_pending (s : State) (k : Nat) (g : Path → Path) : (s.pathOn k g).pending = s.pending := rfl
@[simp] theorem pathOn_waiting (s : State) (k : Nat) (g : Path → Path) : (s.pathOn k g).waiting = s.waiting := rfl
@[simp] theorem pathOn_aside (s : State) (k : Nat) (g : Path → Path) : (s.pathOn k g).aside = s.aside := rfl
@[simp] theorem pathOn_ops (s : State) (k : Nat) (g : Path → Path) : (s.pathOn k g).ops = s.ops := rfl
@[simp] theorem pathOn_regs (s : State) (k : Nat) (g : Path → Path) : (s.pathOn k g).regs = s.regs := rfl
@[simp] theorem pathOn_lock (s : State) (k : Nat) (g : Path → Path) : (s.pathOn k g).lock = s.lock := rfl
@[simp] theorem pathOn_blockedLast (s : State) (k : Nat) (g : Path → Path) : (s.pathOn k g).blockedLast = s.blockedLast := rfl
@[simp] theorem pathOn_otp (s : State) (k : Nat) (g : Path → Path) : (s.pathOn k g).otp = s.otp := rfl
@[simp] theorem pathOn_sup (s : State) (k : Nat) (g : Path → Path) : (s.pathOn k g).sup = s.sup := rfl
@[simp] theorem pathOn_boot (s : State) (k : Nat) (g : Path → Path) : (s.pathOn k g).boot = s.boot := rfl
@[simp] theorem pathOn_pcie (s : State) (k : Nat) (g : Path → Path) : (s.pathOn k g).pcie = s.pcie := rfl
@[simp] theorem pathOn_fns (s : State) (k : Nat) (g : Path → Path) : (s.pathOn k g).fns = s.fns := rfl
@[simp] theorem pathOn_slots (s : State) (k : Nat) (g : Path → Path) : (s.pathOn k g).slots = s.slots := rfl
@[simp] theorem pathOn_eps (s : State) (k : Nat) (g : Path → Path) : (s.pathOn k g).eps = s.eps := rfl
@[simp] theorem pathOn_short (s : State) (k : Nat) (g : Path → Path) : (s.pathOn k g).short = s.short := rfl
@[simp] theorem pathOn_grants (s : State) (k : Nat) (g : Path → Path) : (s.pathOn k g).grants = s.grants := rfl
@[simp] theorem pathOn_links (s : State) (k : Nat) (g : Path → Path) : (s.pathOn k g).links = s.links := rfl
@[simp] theorem pathOn_buses (s : State) (k : Nat) (g : Path → Path) : (s.pathOn k g).buses = s.buses := rfl
@[simp] theorem pathOn_guests (s : State) (k : Nat) (g : Path → Path) : (s.pathOn k g).guests = s.guests := rfl
@[simp] theorem pathOn_tcs (s : State) (k : Nat) (g : Path → Path) : (s.pathOn k g).tcs = s.tcs := rfl
@[simp] theorem pathOn_pds (s : State) (k : Nat) (g : Path → Path) : (s.pathOn k g).pds = s.pds := rfl
@[simp] theorem pathOn_brgs (s : State) (k : Nat) (g : Path → Path) : (s.pathOn k g).brgs = s.brgs := rfl
@[simp] theorem pathOn_caps (s : State) (k : Nat) (g : Path → Path) : (s.pathOn k g).caps = s.caps := rfl
@[simp] theorem pathOn_capStarts (s : State) (k : Nat) (g : Path → Path) : (s.pathOn k g).capStarts = s.capStarts := rfl
@[simp] theorem pathOn_beds (s : State) (k : Nat) (g : Path → Path) : (s.pathOn k g).beds = s.beds := rfl
@[simp] theorem pathOn_hooks (s : State) (k : Nat) (g : Path → Path) : (s.pathOn k g).hooks = s.hooks := rfl
@[simp] theorem pathOn_budget (s : State) (k : Nat) (g : Path → Path) : (s.pathOn k g).budget = s.budget := rfl
@[simp] theorem pathOn_mode (s : State) (k : Nat) (g : Path → Path) : (s.pathOn k g).mode = s.mode := rfl
@[simp] theorem pathOn_eng (s : State) (k : Nat) (g : Path → Path) : (s.pathOn k g).eng = s.eng := rfl
@[simp] theorem pathOn_grafts (s : State) (k : Nat) (g : Path → Path) : (s.pathOn k g).grafts = s.grafts := rfl
@[simp] theorem pathOn_dsp (s : State) (k : Nat) (g : Path → Path) : (s.pathOn k g).dsp = s.dsp := rfl
@[simp] theorem pathOn_flt (s : State) (k : Nat) (g : Path → Path) : (s.pathOn k g).flt = s.flt := rfl
@[simp] theorem pathOn_inj (s : State) (k : Nat) (g : Path → Path) : (s.pathOn k g).inj = s.inj := rfl
@[simp] theorem pathOn_alm (s : State) (k : Nat) (g : Path → Path) : (s.pathOn k g).alm = s.alm := rfl
@[simp] theorem pathOn_time (s : State) (k : Nat) (g : Path → Path) : (s.pathOn k g).time = s.time := rfl
@[simp] theorem pathOn_smb (s : State) (k : Nat) (g : Path → Path) : (s.pathOn k g).smb = s.smb := rfl
@[simp] theorem pathOn_tele (s : State) (k : Nat) (g : Path → Path) : (s.pathOn k g).tele = s.tele := rfl
@[simp] theorem pathOn_tallies (s : State) (k : Nat) (g : Path → Path) : (s.pathOn k g).tallies = s.tallies := rfl
@[simp] theorem pathOn_units (s : State) (k : Nat) (g : Path → Path) : (s.pathOn k g).units = s.units := rfl
@[simp] theorem pathOn_out (s : State) (k : Nat) (g : Path → Path) : (s.pathOn k g).out = s.out := rfl
@[simp] theorem pathOn_blocked (s : State) (k : Nat) (g : Path → Path) : (s.pathOn k g).blocked = s.blocked := rfl
@[simp] theorem pathOn_free (s : State) (k : Nat) (g : Path → Path) : (s.pathOn k g).free = s.free := rfl
@[simp] theorem pathOn_at_link (s : State) (k j : Nat) (g : Path → Path) : (s.pathOn k g).link j = s.link j := rfl
@[simp] theorem pathOn_at_bus (s : State) (k j : Nat) (g : Path → Path) : (s.pathOn k g).bus j = s.bus j := rfl
@[simp] theorem pathOn_at_guest (s : State) (k j : Nat) (g : Path → Path) : (s.pathOn k g).guest j = s.guest j := rfl
@[simp] theorem pathOn_at_tc (s : State) (k j : Nat) (g : Path → Path) : (s.pathOn k g).tc j = s.tc j := rfl
@[simp] theorem pathOn_at_pd (s : State) (k j : Nat) (g : Path → Path) : (s.pathOn k g).pd j = s.pd j := rfl
@[simp] theorem pathOn_at_brg (s : State) (k j : Nat) (g : Path → Path) : (s.pathOn k g).brg j = s.brg j := rfl
@[simp] theorem pathOn_at_cap (s : State) (k j : Nat) (g : Path → Path) : (s.pathOn k g).cap j = s.cap j := rfl
@[simp] theorem pathOn_at_bed (s : State) (k j : Nat) (g : Path → Path) : (s.pathOn k g).bed j = s.bed j := rfl
@[simp] theorem pathOn_at_hook (s : State) (k j : Nat) (g : Path → Path) : (s.pathOn k g).hook j = s.hook j := rfl
@[simp] theorem pathOn_at_fn (s : State) (k j : Nat) (g : Path → Path) : (s.pathOn k g).fn j = s.fn j := rfl
@[simp] theorem pathOn_at_slot (s : State) (k j : Nat) (g : Path → Path) : (s.pathOn k g).slot j = s.slot j := rfl
@[simp] theorem pathOn_at_ep (s : State) (k j : Nat) (g : Path → Path) : (s.pathOn k g).ep j = s.ep j := rfl
@[simp] theorem pathOn_at_graft (s : State) (k j : Nat) (g : Path → Path) : (s.pathOn k g).graft j = s.graft j := rfl
@[simp] theorem pathOn_at_tally (s : State) (k j : Nat) (g : Path → Path) : (s.pathOn k g).tally j = s.tally j := rfl
/-! ### brgs -/

@[simp] theorem brgPut_same (s : State) (k : Nat) (v : Bridge) : (s.brgPut k v).brg k = v := tget_tput_same _ _ _ _
theorem brgPut_ne (s : State) (k j : Nat) (v : Bridge) (h : j ≠ k) : (s.brgPut k v).brg j = s.brg j := tget_tput_ne _ _ _ _ _ h
@[simp] theorem brgOn_same (s : State) (k : Nat) (g : Bridge → Bridge) : (s.brgOn k g).brg k = g (s.brg k) := tget_tput_same _ _ _ _
theorem brgOn_ne (s : State) (k j : Nat) (g : Bridge → Bridge) (h : j ≠ k) : (s.brgOn k g).brg j = s.brg j := tget_tput_ne _ _ _ _ _ h
@[simp] theorem brgPut_pending (s : State) (k : Nat) (v : Bridge) : (s.brgPut k v).pending = s.pending := rfl
@[simp] theorem brgPut_waiting (s : State) (k : Nat) (v : Bridge) : (s.brgPut k v).waiting = s.waiting := rfl
@[simp] theorem brgPut_aside (s : State) (k : Nat) (v : Bridge) : (s.brgPut k v).aside = s.aside := rfl
@[simp] theorem brgPut_ops (s : State) (k : Nat) (v : Bridge) : (s.brgPut k v).ops = s.ops := rfl
@[simp] theorem brgPut_regs (s : State) (k : Nat) (v : Bridge) : (s.brgPut k v).regs = s.regs := rfl
@[simp] theorem brgPut_lock (s : State) (k : Nat) (v : Bridge) : (s.brgPut k v).lock = s.lock := rfl
@[simp] theorem brgPut_blockedLast (s : State) (k : Nat) (v : Bridge) : (s.brgPut k v).blockedLast = s.blockedLast := rfl
@[simp] theorem brgPut_otp (s : State) (k : Nat) (v : Bridge) : (s.brgPut k v).otp = s.otp := rfl
@[simp] theorem brgPut_sup (s : State) (k : Nat) (v : Bridge) : (s.brgPut k v).sup = s.sup := rfl
@[simp] theorem brgPut_boot (s : State) (k : Nat) (v : Bridge) : (s.brgPut k v).boot = s.boot := rfl
@[simp] theorem brgPut_pcie (s : State) (k : Nat) (v : Bridge) : (s.brgPut k v).pcie = s.pcie := rfl
@[simp] theorem brgPut_fns (s : State) (k : Nat) (v : Bridge) : (s.brgPut k v).fns = s.fns := rfl
@[simp] theorem brgPut_slots (s : State) (k : Nat) (v : Bridge) : (s.brgPut k v).slots = s.slots := rfl
@[simp] theorem brgPut_eps (s : State) (k : Nat) (v : Bridge) : (s.brgPut k v).eps = s.eps := rfl
@[simp] theorem brgPut_short (s : State) (k : Nat) (v : Bridge) : (s.brgPut k v).short = s.short := rfl
@[simp] theorem brgPut_grants (s : State) (k : Nat) (v : Bridge) : (s.brgPut k v).grants = s.grants := rfl
@[simp] theorem brgPut_links (s : State) (k : Nat) (v : Bridge) : (s.brgPut k v).links = s.links := rfl
@[simp] theorem brgPut_buses (s : State) (k : Nat) (v : Bridge) : (s.brgPut k v).buses = s.buses := rfl
@[simp] theorem brgPut_guests (s : State) (k : Nat) (v : Bridge) : (s.brgPut k v).guests = s.guests := rfl
@[simp] theorem brgPut_tcs (s : State) (k : Nat) (v : Bridge) : (s.brgPut k v).tcs = s.tcs := rfl
@[simp] theorem brgPut_pds (s : State) (k : Nat) (v : Bridge) : (s.brgPut k v).pds = s.pds := rfl
@[simp] theorem brgPut_paths (s : State) (k : Nat) (v : Bridge) : (s.brgPut k v).paths = s.paths := rfl
@[simp] theorem brgPut_caps (s : State) (k : Nat) (v : Bridge) : (s.brgPut k v).caps = s.caps := rfl
@[simp] theorem brgPut_capStarts (s : State) (k : Nat) (v : Bridge) : (s.brgPut k v).capStarts = s.capStarts := rfl
@[simp] theorem brgPut_beds (s : State) (k : Nat) (v : Bridge) : (s.brgPut k v).beds = s.beds := rfl
@[simp] theorem brgPut_hooks (s : State) (k : Nat) (v : Bridge) : (s.brgPut k v).hooks = s.hooks := rfl
@[simp] theorem brgPut_budget (s : State) (k : Nat) (v : Bridge) : (s.brgPut k v).budget = s.budget := rfl
@[simp] theorem brgPut_mode (s : State) (k : Nat) (v : Bridge) : (s.brgPut k v).mode = s.mode := rfl
@[simp] theorem brgPut_eng (s : State) (k : Nat) (v : Bridge) : (s.brgPut k v).eng = s.eng := rfl
@[simp] theorem brgPut_grafts (s : State) (k : Nat) (v : Bridge) : (s.brgPut k v).grafts = s.grafts := rfl
@[simp] theorem brgPut_dsp (s : State) (k : Nat) (v : Bridge) : (s.brgPut k v).dsp = s.dsp := rfl
@[simp] theorem brgPut_flt (s : State) (k : Nat) (v : Bridge) : (s.brgPut k v).flt = s.flt := rfl
@[simp] theorem brgPut_inj (s : State) (k : Nat) (v : Bridge) : (s.brgPut k v).inj = s.inj := rfl
@[simp] theorem brgPut_alm (s : State) (k : Nat) (v : Bridge) : (s.brgPut k v).alm = s.alm := rfl
@[simp] theorem brgPut_time (s : State) (k : Nat) (v : Bridge) : (s.brgPut k v).time = s.time := rfl
@[simp] theorem brgPut_smb (s : State) (k : Nat) (v : Bridge) : (s.brgPut k v).smb = s.smb := rfl
@[simp] theorem brgPut_tele (s : State) (k : Nat) (v : Bridge) : (s.brgPut k v).tele = s.tele := rfl
@[simp] theorem brgPut_tallies (s : State) (k : Nat) (v : Bridge) : (s.brgPut k v).tallies = s.tallies := rfl
@[simp] theorem brgPut_units (s : State) (k : Nat) (v : Bridge) : (s.brgPut k v).units = s.units := rfl
@[simp] theorem brgPut_out (s : State) (k : Nat) (v : Bridge) : (s.brgPut k v).out = s.out := rfl
@[simp] theorem brgPut_blocked (s : State) (k : Nat) (v : Bridge) : (s.brgPut k v).blocked = s.blocked := rfl
@[simp] theorem brgPut_free (s : State) (k : Nat) (v : Bridge) : (s.brgPut k v).free = s.free := rfl
@[simp] theorem brgPut_at_link (s : State) (k j : Nat) (v : Bridge) : (s.brgPut k v).link j = s.link j := rfl
@[simp] theorem brgPut_at_bus (s : State) (k j : Nat) (v : Bridge) : (s.brgPut k v).bus j = s.bus j := rfl
@[simp] theorem brgPut_at_guest (s : State) (k j : Nat) (v : Bridge) : (s.brgPut k v).guest j = s.guest j := rfl
@[simp] theorem brgPut_at_tc (s : State) (k j : Nat) (v : Bridge) : (s.brgPut k v).tc j = s.tc j := rfl
@[simp] theorem brgPut_at_pd (s : State) (k j : Nat) (v : Bridge) : (s.brgPut k v).pd j = s.pd j := rfl
@[simp] theorem brgPut_at_path (s : State) (k j : Nat) (v : Bridge) : (s.brgPut k v).path j = s.path j := rfl
@[simp] theorem brgPut_at_cap (s : State) (k j : Nat) (v : Bridge) : (s.brgPut k v).cap j = s.cap j := rfl
@[simp] theorem brgPut_at_bed (s : State) (k j : Nat) (v : Bridge) : (s.brgPut k v).bed j = s.bed j := rfl
@[simp] theorem brgPut_at_hook (s : State) (k j : Nat) (v : Bridge) : (s.brgPut k v).hook j = s.hook j := rfl
@[simp] theorem brgPut_at_fn (s : State) (k j : Nat) (v : Bridge) : (s.brgPut k v).fn j = s.fn j := rfl
@[simp] theorem brgPut_at_slot (s : State) (k j : Nat) (v : Bridge) : (s.brgPut k v).slot j = s.slot j := rfl
@[simp] theorem brgPut_at_ep (s : State) (k j : Nat) (v : Bridge) : (s.brgPut k v).ep j = s.ep j := rfl
@[simp] theorem brgPut_at_graft (s : State) (k j : Nat) (v : Bridge) : (s.brgPut k v).graft j = s.graft j := rfl
@[simp] theorem brgPut_at_tally (s : State) (k j : Nat) (v : Bridge) : (s.brgPut k v).tally j = s.tally j := rfl
@[simp] theorem brgOn_pending (s : State) (k : Nat) (g : Bridge → Bridge) : (s.brgOn k g).pending = s.pending := rfl
@[simp] theorem brgOn_waiting (s : State) (k : Nat) (g : Bridge → Bridge) : (s.brgOn k g).waiting = s.waiting := rfl
@[simp] theorem brgOn_aside (s : State) (k : Nat) (g : Bridge → Bridge) : (s.brgOn k g).aside = s.aside := rfl
@[simp] theorem brgOn_ops (s : State) (k : Nat) (g : Bridge → Bridge) : (s.brgOn k g).ops = s.ops := rfl
@[simp] theorem brgOn_regs (s : State) (k : Nat) (g : Bridge → Bridge) : (s.brgOn k g).regs = s.regs := rfl
@[simp] theorem brgOn_lock (s : State) (k : Nat) (g : Bridge → Bridge) : (s.brgOn k g).lock = s.lock := rfl
@[simp] theorem brgOn_blockedLast (s : State) (k : Nat) (g : Bridge → Bridge) : (s.brgOn k g).blockedLast = s.blockedLast := rfl
@[simp] theorem brgOn_otp (s : State) (k : Nat) (g : Bridge → Bridge) : (s.brgOn k g).otp = s.otp := rfl
@[simp] theorem brgOn_sup (s : State) (k : Nat) (g : Bridge → Bridge) : (s.brgOn k g).sup = s.sup := rfl
@[simp] theorem brgOn_boot (s : State) (k : Nat) (g : Bridge → Bridge) : (s.brgOn k g).boot = s.boot := rfl
@[simp] theorem brgOn_pcie (s : State) (k : Nat) (g : Bridge → Bridge) : (s.brgOn k g).pcie = s.pcie := rfl
@[simp] theorem brgOn_fns (s : State) (k : Nat) (g : Bridge → Bridge) : (s.brgOn k g).fns = s.fns := rfl
@[simp] theorem brgOn_slots (s : State) (k : Nat) (g : Bridge → Bridge) : (s.brgOn k g).slots = s.slots := rfl
@[simp] theorem brgOn_eps (s : State) (k : Nat) (g : Bridge → Bridge) : (s.brgOn k g).eps = s.eps := rfl
@[simp] theorem brgOn_short (s : State) (k : Nat) (g : Bridge → Bridge) : (s.brgOn k g).short = s.short := rfl
@[simp] theorem brgOn_grants (s : State) (k : Nat) (g : Bridge → Bridge) : (s.brgOn k g).grants = s.grants := rfl
@[simp] theorem brgOn_links (s : State) (k : Nat) (g : Bridge → Bridge) : (s.brgOn k g).links = s.links := rfl
@[simp] theorem brgOn_buses (s : State) (k : Nat) (g : Bridge → Bridge) : (s.brgOn k g).buses = s.buses := rfl
@[simp] theorem brgOn_guests (s : State) (k : Nat) (g : Bridge → Bridge) : (s.brgOn k g).guests = s.guests := rfl
@[simp] theorem brgOn_tcs (s : State) (k : Nat) (g : Bridge → Bridge) : (s.brgOn k g).tcs = s.tcs := rfl
@[simp] theorem brgOn_pds (s : State) (k : Nat) (g : Bridge → Bridge) : (s.brgOn k g).pds = s.pds := rfl
@[simp] theorem brgOn_paths (s : State) (k : Nat) (g : Bridge → Bridge) : (s.brgOn k g).paths = s.paths := rfl
@[simp] theorem brgOn_caps (s : State) (k : Nat) (g : Bridge → Bridge) : (s.brgOn k g).caps = s.caps := rfl
@[simp] theorem brgOn_capStarts (s : State) (k : Nat) (g : Bridge → Bridge) : (s.brgOn k g).capStarts = s.capStarts := rfl
@[simp] theorem brgOn_beds (s : State) (k : Nat) (g : Bridge → Bridge) : (s.brgOn k g).beds = s.beds := rfl
@[simp] theorem brgOn_hooks (s : State) (k : Nat) (g : Bridge → Bridge) : (s.brgOn k g).hooks = s.hooks := rfl
@[simp] theorem brgOn_budget (s : State) (k : Nat) (g : Bridge → Bridge) : (s.brgOn k g).budget = s.budget := rfl
@[simp] theorem brgOn_mode (s : State) (k : Nat) (g : Bridge → Bridge) : (s.brgOn k g).mode = s.mode := rfl
@[simp] theorem brgOn_eng (s : State) (k : Nat) (g : Bridge → Bridge) : (s.brgOn k g).eng = s.eng := rfl
@[simp] theorem brgOn_grafts (s : State) (k : Nat) (g : Bridge → Bridge) : (s.brgOn k g).grafts = s.grafts := rfl
@[simp] theorem brgOn_dsp (s : State) (k : Nat) (g : Bridge → Bridge) : (s.brgOn k g).dsp = s.dsp := rfl
@[simp] theorem brgOn_flt (s : State) (k : Nat) (g : Bridge → Bridge) : (s.brgOn k g).flt = s.flt := rfl
@[simp] theorem brgOn_inj (s : State) (k : Nat) (g : Bridge → Bridge) : (s.brgOn k g).inj = s.inj := rfl
@[simp] theorem brgOn_alm (s : State) (k : Nat) (g : Bridge → Bridge) : (s.brgOn k g).alm = s.alm := rfl
@[simp] theorem brgOn_time (s : State) (k : Nat) (g : Bridge → Bridge) : (s.brgOn k g).time = s.time := rfl
@[simp] theorem brgOn_smb (s : State) (k : Nat) (g : Bridge → Bridge) : (s.brgOn k g).smb = s.smb := rfl
@[simp] theorem brgOn_tele (s : State) (k : Nat) (g : Bridge → Bridge) : (s.brgOn k g).tele = s.tele := rfl
@[simp] theorem brgOn_tallies (s : State) (k : Nat) (g : Bridge → Bridge) : (s.brgOn k g).tallies = s.tallies := rfl
@[simp] theorem brgOn_units (s : State) (k : Nat) (g : Bridge → Bridge) : (s.brgOn k g).units = s.units := rfl
@[simp] theorem brgOn_out (s : State) (k : Nat) (g : Bridge → Bridge) : (s.brgOn k g).out = s.out := rfl
@[simp] theorem brgOn_blocked (s : State) (k : Nat) (g : Bridge → Bridge) : (s.brgOn k g).blocked = s.blocked := rfl
@[simp] theorem brgOn_free (s : State) (k : Nat) (g : Bridge → Bridge) : (s.brgOn k g).free = s.free := rfl
@[simp] theorem brgOn_at_link (s : State) (k j : Nat) (g : Bridge → Bridge) : (s.brgOn k g).link j = s.link j := rfl
@[simp] theorem brgOn_at_bus (s : State) (k j : Nat) (g : Bridge → Bridge) : (s.brgOn k g).bus j = s.bus j := rfl
@[simp] theorem brgOn_at_guest (s : State) (k j : Nat) (g : Bridge → Bridge) : (s.brgOn k g).guest j = s.guest j := rfl
@[simp] theorem brgOn_at_tc (s : State) (k j : Nat) (g : Bridge → Bridge) : (s.brgOn k g).tc j = s.tc j := rfl
@[simp] theorem brgOn_at_pd (s : State) (k j : Nat) (g : Bridge → Bridge) : (s.brgOn k g).pd j = s.pd j := rfl
@[simp] theorem brgOn_at_path (s : State) (k j : Nat) (g : Bridge → Bridge) : (s.brgOn k g).path j = s.path j := rfl
@[simp] theorem brgOn_at_cap (s : State) (k j : Nat) (g : Bridge → Bridge) : (s.brgOn k g).cap j = s.cap j := rfl
@[simp] theorem brgOn_at_bed (s : State) (k j : Nat) (g : Bridge → Bridge) : (s.brgOn k g).bed j = s.bed j := rfl
@[simp] theorem brgOn_at_hook (s : State) (k j : Nat) (g : Bridge → Bridge) : (s.brgOn k g).hook j = s.hook j := rfl
@[simp] theorem brgOn_at_fn (s : State) (k j : Nat) (g : Bridge → Bridge) : (s.brgOn k g).fn j = s.fn j := rfl
@[simp] theorem brgOn_at_slot (s : State) (k j : Nat) (g : Bridge → Bridge) : (s.brgOn k g).slot j = s.slot j := rfl
@[simp] theorem brgOn_at_ep (s : State) (k j : Nat) (g : Bridge → Bridge) : (s.brgOn k g).ep j = s.ep j := rfl
@[simp] theorem brgOn_at_graft (s : State) (k j : Nat) (g : Bridge → Bridge) : (s.brgOn k g).graft j = s.graft j := rfl
@[simp] theorem brgOn_at_tally (s : State) (k j : Nat) (g : Bridge → Bridge) : (s.brgOn k g).tally j = s.tally j := rfl
/-! ### caps -/

@[simp] theorem capPut_same (s : State) (k : Nat) (v : Capture) : (s.capPut k v).cap k = v := tget_tput_same _ _ _ _
theorem capPut_ne (s : State) (k j : Nat) (v : Capture) (h : j ≠ k) : (s.capPut k v).cap j = s.cap j := tget_tput_ne _ _ _ _ _ h
@[simp] theorem capOn_same (s : State) (k : Nat) (g : Capture → Capture) : (s.capOn k g).cap k = g (s.cap k) := tget_tput_same _ _ _ _
theorem capOn_ne (s : State) (k j : Nat) (g : Capture → Capture) (h : j ≠ k) : (s.capOn k g).cap j = s.cap j := tget_tput_ne _ _ _ _ _ h
@[simp] theorem capPut_pending (s : State) (k : Nat) (v : Capture) : (s.capPut k v).pending = s.pending := rfl
@[simp] theorem capPut_waiting (s : State) (k : Nat) (v : Capture) : (s.capPut k v).waiting = s.waiting := rfl
@[simp] theorem capPut_aside (s : State) (k : Nat) (v : Capture) : (s.capPut k v).aside = s.aside := rfl
@[simp] theorem capPut_ops (s : State) (k : Nat) (v : Capture) : (s.capPut k v).ops = s.ops := rfl
@[simp] theorem capPut_regs (s : State) (k : Nat) (v : Capture) : (s.capPut k v).regs = s.regs := rfl
@[simp] theorem capPut_lock (s : State) (k : Nat) (v : Capture) : (s.capPut k v).lock = s.lock := rfl
@[simp] theorem capPut_blockedLast (s : State) (k : Nat) (v : Capture) : (s.capPut k v).blockedLast = s.blockedLast := rfl
@[simp] theorem capPut_otp (s : State) (k : Nat) (v : Capture) : (s.capPut k v).otp = s.otp := rfl
@[simp] theorem capPut_sup (s : State) (k : Nat) (v : Capture) : (s.capPut k v).sup = s.sup := rfl
@[simp] theorem capPut_boot (s : State) (k : Nat) (v : Capture) : (s.capPut k v).boot = s.boot := rfl
@[simp] theorem capPut_pcie (s : State) (k : Nat) (v : Capture) : (s.capPut k v).pcie = s.pcie := rfl
@[simp] theorem capPut_fns (s : State) (k : Nat) (v : Capture) : (s.capPut k v).fns = s.fns := rfl
@[simp] theorem capPut_slots (s : State) (k : Nat) (v : Capture) : (s.capPut k v).slots = s.slots := rfl
@[simp] theorem capPut_eps (s : State) (k : Nat) (v : Capture) : (s.capPut k v).eps = s.eps := rfl
@[simp] theorem capPut_short (s : State) (k : Nat) (v : Capture) : (s.capPut k v).short = s.short := rfl
@[simp] theorem capPut_grants (s : State) (k : Nat) (v : Capture) : (s.capPut k v).grants = s.grants := rfl
@[simp] theorem capPut_links (s : State) (k : Nat) (v : Capture) : (s.capPut k v).links = s.links := rfl
@[simp] theorem capPut_buses (s : State) (k : Nat) (v : Capture) : (s.capPut k v).buses = s.buses := rfl
@[simp] theorem capPut_guests (s : State) (k : Nat) (v : Capture) : (s.capPut k v).guests = s.guests := rfl
@[simp] theorem capPut_tcs (s : State) (k : Nat) (v : Capture) : (s.capPut k v).tcs = s.tcs := rfl
@[simp] theorem capPut_pds (s : State) (k : Nat) (v : Capture) : (s.capPut k v).pds = s.pds := rfl
@[simp] theorem capPut_paths (s : State) (k : Nat) (v : Capture) : (s.capPut k v).paths = s.paths := rfl
@[simp] theorem capPut_brgs (s : State) (k : Nat) (v : Capture) : (s.capPut k v).brgs = s.brgs := rfl
@[simp] theorem capPut_capStarts (s : State) (k : Nat) (v : Capture) : (s.capPut k v).capStarts = s.capStarts := rfl
@[simp] theorem capPut_beds (s : State) (k : Nat) (v : Capture) : (s.capPut k v).beds = s.beds := rfl
@[simp] theorem capPut_hooks (s : State) (k : Nat) (v : Capture) : (s.capPut k v).hooks = s.hooks := rfl
@[simp] theorem capPut_budget (s : State) (k : Nat) (v : Capture) : (s.capPut k v).budget = s.budget := rfl
@[simp] theorem capPut_mode (s : State) (k : Nat) (v : Capture) : (s.capPut k v).mode = s.mode := rfl
@[simp] theorem capPut_eng (s : State) (k : Nat) (v : Capture) : (s.capPut k v).eng = s.eng := rfl
@[simp] theorem capPut_grafts (s : State) (k : Nat) (v : Capture) : (s.capPut k v).grafts = s.grafts := rfl
@[simp] theorem capPut_dsp (s : State) (k : Nat) (v : Capture) : (s.capPut k v).dsp = s.dsp := rfl
@[simp] theorem capPut_flt (s : State) (k : Nat) (v : Capture) : (s.capPut k v).flt = s.flt := rfl
@[simp] theorem capPut_inj (s : State) (k : Nat) (v : Capture) : (s.capPut k v).inj = s.inj := rfl
@[simp] theorem capPut_alm (s : State) (k : Nat) (v : Capture) : (s.capPut k v).alm = s.alm := rfl
@[simp] theorem capPut_time (s : State) (k : Nat) (v : Capture) : (s.capPut k v).time = s.time := rfl
@[simp] theorem capPut_smb (s : State) (k : Nat) (v : Capture) : (s.capPut k v).smb = s.smb := rfl
@[simp] theorem capPut_tele (s : State) (k : Nat) (v : Capture) : (s.capPut k v).tele = s.tele := rfl
@[simp] theorem capPut_tallies (s : State) (k : Nat) (v : Capture) : (s.capPut k v).tallies = s.tallies := rfl
@[simp] theorem capPut_units (s : State) (k : Nat) (v : Capture) : (s.capPut k v).units = s.units := rfl
@[simp] theorem capPut_out (s : State) (k : Nat) (v : Capture) : (s.capPut k v).out = s.out := rfl
@[simp] theorem capPut_blocked (s : State) (k : Nat) (v : Capture) : (s.capPut k v).blocked = s.blocked := rfl
@[simp] theorem capPut_free (s : State) (k : Nat) (v : Capture) : (s.capPut k v).free = s.free := rfl
@[simp] theorem capPut_at_link (s : State) (k j : Nat) (v : Capture) : (s.capPut k v).link j = s.link j := rfl
@[simp] theorem capPut_at_bus (s : State) (k j : Nat) (v : Capture) : (s.capPut k v).bus j = s.bus j := rfl
@[simp] theorem capPut_at_guest (s : State) (k j : Nat) (v : Capture) : (s.capPut k v).guest j = s.guest j := rfl
@[simp] theorem capPut_at_tc (s : State) (k j : Nat) (v : Capture) : (s.capPut k v).tc j = s.tc j := rfl
@[simp] theorem capPut_at_pd (s : State) (k j : Nat) (v : Capture) : (s.capPut k v).pd j = s.pd j := rfl
@[simp] theorem capPut_at_path (s : State) (k j : Nat) (v : Capture) : (s.capPut k v).path j = s.path j := rfl
@[simp] theorem capPut_at_brg (s : State) (k j : Nat) (v : Capture) : (s.capPut k v).brg j = s.brg j := rfl
@[simp] theorem capPut_at_bed (s : State) (k j : Nat) (v : Capture) : (s.capPut k v).bed j = s.bed j := rfl
@[simp] theorem capPut_at_hook (s : State) (k j : Nat) (v : Capture) : (s.capPut k v).hook j = s.hook j := rfl
@[simp] theorem capPut_at_fn (s : State) (k j : Nat) (v : Capture) : (s.capPut k v).fn j = s.fn j := rfl
@[simp] theorem capPut_at_slot (s : State) (k j : Nat) (v : Capture) : (s.capPut k v).slot j = s.slot j := rfl
@[simp] theorem capPut_at_ep (s : State) (k j : Nat) (v : Capture) : (s.capPut k v).ep j = s.ep j := rfl
@[simp] theorem capPut_at_graft (s : State) (k j : Nat) (v : Capture) : (s.capPut k v).graft j = s.graft j := rfl
@[simp] theorem capPut_at_tally (s : State) (k j : Nat) (v : Capture) : (s.capPut k v).tally j = s.tally j := rfl
@[simp] theorem capOn_pending (s : State) (k : Nat) (g : Capture → Capture) : (s.capOn k g).pending = s.pending := rfl
@[simp] theorem capOn_waiting (s : State) (k : Nat) (g : Capture → Capture) : (s.capOn k g).waiting = s.waiting := rfl
@[simp] theorem capOn_aside (s : State) (k : Nat) (g : Capture → Capture) : (s.capOn k g).aside = s.aside := rfl
@[simp] theorem capOn_ops (s : State) (k : Nat) (g : Capture → Capture) : (s.capOn k g).ops = s.ops := rfl
@[simp] theorem capOn_regs (s : State) (k : Nat) (g : Capture → Capture) : (s.capOn k g).regs = s.regs := rfl
@[simp] theorem capOn_lock (s : State) (k : Nat) (g : Capture → Capture) : (s.capOn k g).lock = s.lock := rfl
@[simp] theorem capOn_blockedLast (s : State) (k : Nat) (g : Capture → Capture) : (s.capOn k g).blockedLast = s.blockedLast := rfl
@[simp] theorem capOn_otp (s : State) (k : Nat) (g : Capture → Capture) : (s.capOn k g).otp = s.otp := rfl
@[simp] theorem capOn_sup (s : State) (k : Nat) (g : Capture → Capture) : (s.capOn k g).sup = s.sup := rfl
@[simp] theorem capOn_boot (s : State) (k : Nat) (g : Capture → Capture) : (s.capOn k g).boot = s.boot := rfl
@[simp] theorem capOn_pcie (s : State) (k : Nat) (g : Capture → Capture) : (s.capOn k g).pcie = s.pcie := rfl
@[simp] theorem capOn_fns (s : State) (k : Nat) (g : Capture → Capture) : (s.capOn k g).fns = s.fns := rfl
@[simp] theorem capOn_slots (s : State) (k : Nat) (g : Capture → Capture) : (s.capOn k g).slots = s.slots := rfl
@[simp] theorem capOn_eps (s : State) (k : Nat) (g : Capture → Capture) : (s.capOn k g).eps = s.eps := rfl
@[simp] theorem capOn_short (s : State) (k : Nat) (g : Capture → Capture) : (s.capOn k g).short = s.short := rfl
@[simp] theorem capOn_grants (s : State) (k : Nat) (g : Capture → Capture) : (s.capOn k g).grants = s.grants := rfl
@[simp] theorem capOn_links (s : State) (k : Nat) (g : Capture → Capture) : (s.capOn k g).links = s.links := rfl
@[simp] theorem capOn_buses (s : State) (k : Nat) (g : Capture → Capture) : (s.capOn k g).buses = s.buses := rfl
@[simp] theorem capOn_guests (s : State) (k : Nat) (g : Capture → Capture) : (s.capOn k g).guests = s.guests := rfl
@[simp] theorem capOn_tcs (s : State) (k : Nat) (g : Capture → Capture) : (s.capOn k g).tcs = s.tcs := rfl
@[simp] theorem capOn_pds (s : State) (k : Nat) (g : Capture → Capture) : (s.capOn k g).pds = s.pds := rfl
@[simp] theorem capOn_paths (s : State) (k : Nat) (g : Capture → Capture) : (s.capOn k g).paths = s.paths := rfl
@[simp] theorem capOn_brgs (s : State) (k : Nat) (g : Capture → Capture) : (s.capOn k g).brgs = s.brgs := rfl
@[simp] theorem capOn_capStarts (s : State) (k : Nat) (g : Capture → Capture) : (s.capOn k g).capStarts = s.capStarts := rfl
@[simp] theorem capOn_beds (s : State) (k : Nat) (g : Capture → Capture) : (s.capOn k g).beds = s.beds := rfl
@[simp] theorem capOn_hooks (s : State) (k : Nat) (g : Capture → Capture) : (s.capOn k g).hooks = s.hooks := rfl
@[simp] theorem capOn_budget (s : State) (k : Nat) (g : Capture → Capture) : (s.capOn k g).budget = s.budget := rfl
@[simp] theorem capOn_mode (s : State) (k : Nat) (g : Capture → Capture) : (s.capOn k g).mode = s.mode := rfl
@[simp] theorem capOn_eng (s : State) (k : Nat) (g : Capture → Capture) : (s.capOn k g).eng = s.eng := rfl
@[simp] theorem capOn_grafts (s : State) (k : Nat) (g : Capture → Capture) : (s.capOn k g).grafts = s.grafts := rfl
@[simp] theorem capOn_dsp (s : State) (k : Nat) (g : Capture → Capture) : (s.capOn k g).dsp = s.dsp := rfl
@[simp] theorem capOn_flt (s : State) (k : Nat) (g : Capture → Capture) : (s.capOn k g).flt = s.flt := rfl
@[simp] theorem capOn_inj (s : State) (k : Nat) (g : Capture → Capture) : (s.capOn k g).inj = s.inj := rfl
@[simp] theorem capOn_alm (s : State) (k : Nat) (g : Capture → Capture) : (s.capOn k g).alm = s.alm := rfl
@[simp] theorem capOn_time (s : State) (k : Nat) (g : Capture → Capture) : (s.capOn k g).time = s.time := rfl
@[simp] theorem capOn_smb (s : State) (k : Nat) (g : Capture → Capture) : (s.capOn k g).smb = s.smb := rfl
@[simp] theorem capOn_tele (s : State) (k : Nat) (g : Capture → Capture) : (s.capOn k g).tele = s.tele := rfl
@[simp] theorem capOn_tallies (s : State) (k : Nat) (g : Capture → Capture) : (s.capOn k g).tallies = s.tallies := rfl
@[simp] theorem capOn_units (s : State) (k : Nat) (g : Capture → Capture) : (s.capOn k g).units = s.units := rfl
@[simp] theorem capOn_out (s : State) (k : Nat) (g : Capture → Capture) : (s.capOn k g).out = s.out := rfl
@[simp] theorem capOn_blocked (s : State) (k : Nat) (g : Capture → Capture) : (s.capOn k g).blocked = s.blocked := rfl
@[simp] theorem capOn_free (s : State) (k : Nat) (g : Capture → Capture) : (s.capOn k g).free = s.free := rfl
@[simp] theorem capOn_at_link (s : State) (k j : Nat) (g : Capture → Capture) : (s.capOn k g).link j = s.link j := rfl
@[simp] theorem capOn_at_bus (s : State) (k j : Nat) (g : Capture → Capture) : (s.capOn k g).bus j = s.bus j := rfl
@[simp] theorem capOn_at_guest (s : State) (k j : Nat) (g : Capture → Capture) : (s.capOn k g).guest j = s.guest j := rfl
@[simp] theorem capOn_at_tc (s : State) (k j : Nat) (g : Capture → Capture) : (s.capOn k g).tc j = s.tc j := rfl
@[simp] theorem capOn_at_pd (s : State) (k j : Nat) (g : Capture → Capture) : (s.capOn k g).pd j = s.pd j := rfl
@[simp] theorem capOn_at_path (s : State) (k j : Nat) (g : Capture → Capture) : (s.capOn k g).path j = s.path j := rfl
@[simp] theorem capOn_at_brg (s : State) (k j : Nat) (g : Capture → Capture) : (s.capOn k g).brg j = s.brg j := rfl
@[simp] theorem capOn_at_bed (s : State) (k j : Nat) (g : Capture → Capture) : (s.capOn k g).bed j = s.bed j := rfl
@[simp] theorem capOn_at_hook (s : State) (k j : Nat) (g : Capture → Capture) : (s.capOn k g).hook j = s.hook j := rfl
@[simp] theorem capOn_at_fn (s : State) (k j : Nat) (g : Capture → Capture) : (s.capOn k g).fn j = s.fn j := rfl
@[simp] theorem capOn_at_slot (s : State) (k j : Nat) (g : Capture → Capture) : (s.capOn k g).slot j = s.slot j := rfl
@[simp] theorem capOn_at_ep (s : State) (k j : Nat) (g : Capture → Capture) : (s.capOn k g).ep j = s.ep j := rfl
@[simp] theorem capOn_at_graft (s : State) (k j : Nat) (g : Capture → Capture) : (s.capOn k g).graft j = s.graft j := rfl
@[simp] theorem capOn_at_tally (s : State) (k j : Nat) (g : Capture → Capture) : (s.capOn k g).tally j = s.tally j := rfl
/-! ### beds -/

@[simp] theorem bedPut_same (s : State) (k : Nat) (v : BedSt) : (s.bedPut k v).bed k = v := tget_tput_same _ _ _ _
theorem bedPut_ne (s : State) (k j : Nat) (v : BedSt) (h : j ≠ k) : (s.bedPut k v).bed j = s.bed j := tget_tput_ne _ _ _ _ _ h
@[simp] theorem bedOn_same (s : State) (k : Nat) (g : BedSt → BedSt) : (s.bedOn k g).bed k = g (s.bed k) := tget_tput_same _ _ _ _
theorem bedOn_ne (s : State) (k j : Nat) (g : BedSt → BedSt) (h : j ≠ k) : (s.bedOn k g).bed j = s.bed j := tget_tput_ne _ _ _ _ _ h
@[simp] theorem bedPut_pending (s : State) (k : Nat) (v : BedSt) : (s.bedPut k v).pending = s.pending := rfl
@[simp] theorem bedPut_waiting (s : State) (k : Nat) (v : BedSt) : (s.bedPut k v).waiting = s.waiting := rfl
@[simp] theorem bedPut_aside (s : State) (k : Nat) (v : BedSt) : (s.bedPut k v).aside = s.aside := rfl
@[simp] theorem bedPut_ops (s : State) (k : Nat) (v : BedSt) : (s.bedPut k v).ops = s.ops := rfl
@[simp] theorem bedPut_regs (s : State) (k : Nat) (v : BedSt) : (s.bedPut k v).regs = s.regs := rfl
@[simp] theorem bedPut_lock (s : State) (k : Nat) (v : BedSt) : (s.bedPut k v).lock = s.lock := rfl
@[simp] theorem bedPut_blockedLast (s : State) (k : Nat) (v : BedSt) : (s.bedPut k v).blockedLast = s.blockedLast := rfl
@[simp] theorem bedPut_otp (s : State) (k : Nat) (v : BedSt) : (s.bedPut k v).otp = s.otp := rfl
@[simp] theorem bedPut_sup (s : State) (k : Nat) (v : BedSt) : (s.bedPut k v).sup = s.sup := rfl
@[simp] theorem bedPut_boot (s : State) (k : Nat) (v : BedSt) : (s.bedPut k v).boot = s.boot := rfl
@[simp] theorem bedPut_pcie (s : State) (k : Nat) (v : BedSt) : (s.bedPut k v).pcie = s.pcie := rfl
@[simp] theorem bedPut_fns (s : State) (k : Nat) (v : BedSt) : (s.bedPut k v).fns = s.fns := rfl
@[simp] theorem bedPut_slots (s : State) (k : Nat) (v : BedSt) : (s.bedPut k v).slots = s.slots := rfl
@[simp] theorem bedPut_eps (s : State) (k : Nat) (v : BedSt) : (s.bedPut k v).eps = s.eps := rfl
@[simp] theorem bedPut_short (s : State) (k : Nat) (v : BedSt) : (s.bedPut k v).short = s.short := rfl
@[simp] theorem bedPut_grants (s : State) (k : Nat) (v : BedSt) : (s.bedPut k v).grants = s.grants := rfl
@[simp] theorem bedPut_links (s : State) (k : Nat) (v : BedSt) : (s.bedPut k v).links = s.links := rfl
@[simp] theorem bedPut_buses (s : State) (k : Nat) (v : BedSt) : (s.bedPut k v).buses = s.buses := rfl
@[simp] theorem bedPut_guests (s : State) (k : Nat) (v : BedSt) : (s.bedPut k v).guests = s.guests := rfl
@[simp] theorem bedPut_tcs (s : State) (k : Nat) (v : BedSt) : (s.bedPut k v).tcs = s.tcs := rfl
@[simp] theorem bedPut_pds (s : State) (k : Nat) (v : BedSt) : (s.bedPut k v).pds = s.pds := rfl
@[simp] theorem bedPut_paths (s : State) (k : Nat) (v : BedSt) : (s.bedPut k v).paths = s.paths := rfl
@[simp] theorem bedPut_brgs (s : State) (k : Nat) (v : BedSt) : (s.bedPut k v).brgs = s.brgs := rfl
@[simp] theorem bedPut_caps (s : State) (k : Nat) (v : BedSt) : (s.bedPut k v).caps = s.caps := rfl
@[simp] theorem bedPut_capStarts (s : State) (k : Nat) (v : BedSt) : (s.bedPut k v).capStarts = s.capStarts := rfl
@[simp] theorem bedPut_hooks (s : State) (k : Nat) (v : BedSt) : (s.bedPut k v).hooks = s.hooks := rfl
@[simp] theorem bedPut_budget (s : State) (k : Nat) (v : BedSt) : (s.bedPut k v).budget = s.budget := rfl
@[simp] theorem bedPut_mode (s : State) (k : Nat) (v : BedSt) : (s.bedPut k v).mode = s.mode := rfl
@[simp] theorem bedPut_eng (s : State) (k : Nat) (v : BedSt) : (s.bedPut k v).eng = s.eng := rfl
@[simp] theorem bedPut_grafts (s : State) (k : Nat) (v : BedSt) : (s.bedPut k v).grafts = s.grafts := rfl
@[simp] theorem bedPut_dsp (s : State) (k : Nat) (v : BedSt) : (s.bedPut k v).dsp = s.dsp := rfl
@[simp] theorem bedPut_flt (s : State) (k : Nat) (v : BedSt) : (s.bedPut k v).flt = s.flt := rfl
@[simp] theorem bedPut_inj (s : State) (k : Nat) (v : BedSt) : (s.bedPut k v).inj = s.inj := rfl
@[simp] theorem bedPut_alm (s : State) (k : Nat) (v : BedSt) : (s.bedPut k v).alm = s.alm := rfl
@[simp] theorem bedPut_time (s : State) (k : Nat) (v : BedSt) : (s.bedPut k v).time = s.time := rfl
@[simp] theorem bedPut_smb (s : State) (k : Nat) (v : BedSt) : (s.bedPut k v).smb = s.smb := rfl
@[simp] theorem bedPut_tele (s : State) (k : Nat) (v : BedSt) : (s.bedPut k v).tele = s.tele := rfl
@[simp] theorem bedPut_tallies (s : State) (k : Nat) (v : BedSt) : (s.bedPut k v).tallies = s.tallies := rfl
@[simp] theorem bedPut_units (s : State) (k : Nat) (v : BedSt) : (s.bedPut k v).units = s.units := rfl
@[simp] theorem bedPut_out (s : State) (k : Nat) (v : BedSt) : (s.bedPut k v).out = s.out := rfl
@[simp] theorem bedPut_blocked (s : State) (k : Nat) (v : BedSt) : (s.bedPut k v).blocked = s.blocked := rfl
@[simp] theorem bedPut_free (s : State) (k : Nat) (v : BedSt) : (s.bedPut k v).free = s.free := rfl
@[simp] theorem bedPut_at_link (s : State) (k j : Nat) (v : BedSt) : (s.bedPut k v).link j = s.link j := rfl
@[simp] theorem bedPut_at_bus (s : State) (k j : Nat) (v : BedSt) : (s.bedPut k v).bus j = s.bus j := rfl
@[simp] theorem bedPut_at_guest (s : State) (k j : Nat) (v : BedSt) : (s.bedPut k v).guest j = s.guest j := rfl
@[simp] theorem bedPut_at_tc (s : State) (k j : Nat) (v : BedSt) : (s.bedPut k v).tc j = s.tc j := rfl
@[simp] theorem bedPut_at_pd (s : State) (k j : Nat) (v : BedSt) : (s.bedPut k v).pd j = s.pd j := rfl
@[simp] theorem bedPut_at_path (s : State) (k j : Nat) (v : BedSt) : (s.bedPut k v).path j = s.path j := rfl
@[simp] theorem bedPut_at_brg (s : State) (k j : Nat) (v : BedSt) : (s.bedPut k v).brg j = s.brg j := rfl
@[simp] theorem bedPut_at_cap (s : State) (k j : Nat) (v : BedSt) : (s.bedPut k v).cap j = s.cap j := rfl
@[simp] theorem bedPut_at_hook (s : State) (k j : Nat) (v : BedSt) : (s.bedPut k v).hook j = s.hook j := rfl
@[simp] theorem bedPut_at_fn (s : State) (k j : Nat) (v : BedSt) : (s.bedPut k v).fn j = s.fn j := rfl
@[simp] theorem bedPut_at_slot (s : State) (k j : Nat) (v : BedSt) : (s.bedPut k v).slot j = s.slot j := rfl
@[simp] theorem bedPut_at_ep (s : State) (k j : Nat) (v : BedSt) : (s.bedPut k v).ep j = s.ep j := rfl
@[simp] theorem bedPut_at_graft (s : State) (k j : Nat) (v : BedSt) : (s.bedPut k v).graft j = s.graft j := rfl
@[simp] theorem bedPut_at_tally (s : State) (k j : Nat) (v : BedSt) : (s.bedPut k v).tally j = s.tally j := rfl
@[simp] theorem bedOn_pending (s : State) (k : Nat) (g : BedSt → BedSt) : (s.bedOn k g).pending = s.pending := rfl
@[simp] theorem bedOn_waiting (s : State) (k : Nat) (g : BedSt → BedSt) : (s.bedOn k g).waiting = s.waiting := rfl
@[simp] theorem bedOn_aside (s : State) (k : Nat) (g : BedSt → BedSt) : (s.bedOn k g).aside = s.aside := rfl
@[simp] theorem bedOn_ops (s : State) (k : Nat) (g : BedSt → BedSt) : (s.bedOn k g).ops = s.ops := rfl
@[simp] theorem bedOn_regs (s : State) (k : Nat) (g : BedSt → BedSt) : (s.bedOn k g).regs = s.regs := rfl
@[simp] theorem bedOn_lock (s : State) (k : Nat) (g : BedSt → BedSt) : (s.bedOn k g).lock = s.lock := rfl
@[simp] theorem bedOn_blockedLast (s : State) (k : Nat) (g : BedSt → BedSt) : (s.bedOn k g).blockedLast = s.blockedLast := rfl
@[simp] theorem bedOn_otp (s : State) (k : Nat) (g : BedSt → BedSt) : (s.bedOn k g).otp = s.otp := rfl
@[simp] theorem bedOn_sup (s : State) (k : Nat) (g : BedSt → BedSt) : (s.bedOn k g).sup = s.sup := rfl
@[simp] theorem bedOn_boot (s : State) (k : Nat) (g : BedSt → BedSt) : (s.bedOn k g).boot = s.boot := rfl
@[simp] theorem bedOn_pcie (s : State) (k : Nat) (g : BedSt → BedSt) : (s.bedOn k g).pcie = s.pcie := rfl
@[simp] theorem bedOn_fns (s : State) (k : Nat) (g : BedSt → BedSt) : (s.bedOn k g).fns = s.fns := rfl
@[simp] theorem bedOn_slots (s : State) (k : Nat) (g : BedSt → BedSt) : (s.bedOn k g).slots = s.slots := rfl
@[simp] theorem bedOn_eps (s : State) (k : Nat) (g : BedSt → BedSt) : (s.bedOn k g).eps = s.eps := rfl
@[simp] theorem bedOn_short (s : State) (k : Nat) (g : BedSt → BedSt) : (s.bedOn k g).short = s.short := rfl
@[simp] theorem bedOn_grants (s : State) (k : Nat) (g : BedSt → BedSt) : (s.bedOn k g).grants = s.grants := rfl
@[simp] theorem bedOn_links (s : State) (k : Nat) (g : BedSt → BedSt) : (s.bedOn k g).links = s.links := rfl
@[simp] theorem bedOn_buses (s : State) (k : Nat) (g : BedSt → BedSt) : (s.bedOn k g).buses = s.buses := rfl
@[simp] theorem bedOn_guests (s : State) (k : Nat) (g : BedSt → BedSt) : (s.bedOn k g).guests = s.guests := rfl
@[simp] theorem bedOn_tcs (s : State) (k : Nat) (g : BedSt → BedSt) : (s.bedOn k g).tcs = s.tcs := rfl
@[simp] theorem bedOn_pds (s : State) (k : Nat) (g : BedSt → BedSt) : (s.bedOn k g).pds = s.pds := rfl
@[simp] theorem bedOn_paths (s : State) (k : Nat) (g : BedSt → BedSt) : (s.bedOn k g).paths = s.paths := rfl
@[simp] theorem bedOn_brgs (s : State) (k : Nat) (g : BedSt → BedSt) : (s.bedOn k g).brgs = s.brgs := rfl
@[simp] theorem bedOn_caps (s : State) (k : Nat) (g : BedSt → BedSt) : (s.bedOn k g).caps = s.caps := rfl
@[simp] theorem bedOn_capStarts (s : State) (k : Nat) (g : BedSt → BedSt) : (s.bedOn k g).capStarts = s.capStarts := rfl
@[simp] theorem bedOn_hooks (s : State) (k : Nat) (g : BedSt → BedSt) : (s.bedOn k g).hooks = s.hooks := rfl
@[simp] theorem bedOn_budget (s : State) (k : Nat) (g : BedSt → BedSt) : (s.bedOn k g).budget = s.budget := rfl
@[simp] theorem bedOn_mode (s : State) (k : Nat) (g : BedSt → BedSt) : (s.bedOn k g).mode = s.mode := rfl
@[simp] theorem bedOn_eng (s : State) (k : Nat) (g : BedSt → BedSt) : (s.bedOn k g).eng = s.eng := rfl
@[simp] theorem bedOn_grafts (s : State) (k : Nat) (g : BedSt → BedSt) : (s.bedOn k g).grafts = s.grafts := rfl
@[simp] theorem bedOn_dsp (s : State) (k : Nat) (g : BedSt → BedSt) : (s.bedOn k g).dsp = s.dsp := rfl
@[simp] theorem bedOn_flt (s : State) (k : Nat) (g : BedSt → BedSt) : (s.bedOn k g).flt = s.flt := rfl
@[simp] theorem bedOn_inj (s : State) (k : Nat) (g : BedSt → BedSt) : (s.bedOn k g).inj = s.inj := rfl
@[simp] theorem bedOn_alm (s : State) (k : Nat) (g : BedSt → BedSt) : (s.bedOn k g).alm = s.alm := rfl
@[simp] theorem bedOn_time (s : State) (k : Nat) (g : BedSt → BedSt) : (s.bedOn k g).time = s.time := rfl
@[simp] theorem bedOn_smb (s : State) (k : Nat) (g : BedSt → BedSt) : (s.bedOn k g).smb = s.smb := rfl
@[simp] theorem bedOn_tele (s : State) (k : Nat) (g : BedSt → BedSt) : (s.bedOn k g).tele = s.tele := rfl
@[simp] theorem bedOn_tallies (s : State) (k : Nat) (g : BedSt → BedSt) : (s.bedOn k g).tallies = s.tallies := rfl
@[simp] theorem bedOn_units (s : State) (k : Nat) (g : BedSt → BedSt) : (s.bedOn k g).units = s.units := rfl
@[simp] theorem bedOn_out (s : State) (k : Nat) (g : BedSt → BedSt) : (s.bedOn k g).out = s.out := rfl
@[simp] theorem bedOn_blocked (s : State) (k : Nat) (g : BedSt → BedSt) : (s.bedOn k g).blocked = s.blocked := rfl
@[simp] theorem bedOn_free (s : State) (k : Nat) (g : BedSt → BedSt) : (s.bedOn k g).free = s.free := rfl
@[simp] theorem bedOn_at_link (s : State) (k j : Nat) (g : BedSt → BedSt) : (s.bedOn k g).link j = s.link j := rfl
@[simp] theorem bedOn_at_bus (s : State) (k j : Nat) (g : BedSt → BedSt) : (s.bedOn k g).bus j = s.bus j := rfl
@[simp] theorem bedOn_at_guest (s : State) (k j : Nat) (g : BedSt → BedSt) : (s.bedOn k g).guest j = s.guest j := rfl
@[simp] theorem bedOn_at_tc (s : State) (k j : Nat) (g : BedSt → BedSt) : (s.bedOn k g).tc j = s.tc j := rfl
@[simp] theorem bedOn_at_pd (s : State) (k j : Nat) (g : BedSt → BedSt) : (s.bedOn k g).pd j = s.pd j := rfl
@[simp] theorem bedOn_at_path (s : State) (k j : Nat) (g : BedSt → BedSt) : (s.bedOn k g).path j = s.path j := rfl
@[simp] theorem bedOn_at_brg (s : State) (k j : Nat) (g : BedSt → BedSt) : (s.bedOn k g).brg j = s.brg j := rfl
@[simp] theorem bedOn_at_cap (s : State) (k j : Nat) (g : BedSt → BedSt) : (s.bedOn k g).cap j = s.cap j := rfl
@[simp] theorem bedOn_at_hook (s : State) (k j : Nat) (g : BedSt → BedSt) : (s.bedOn k g).hook j = s.hook j := rfl
@[simp] theorem bedOn_at_fn (s : State) (k j : Nat) (g : BedSt → BedSt) : (s.bedOn k g).fn j = s.fn j := rfl
@[simp] theorem bedOn_at_slot (s : State) (k j : Nat) (g : BedSt → BedSt) : (s.bedOn k g).slot j = s.slot j := rfl
@[simp] theorem bedOn_at_ep (s : State) (k j : Nat) (g : BedSt → BedSt) : (s.bedOn k g).ep j = s.ep j := rfl
@[simp] theorem bedOn_at_graft (s : State) (k j : Nat) (g : BedSt → BedSt) : (s.bedOn k g).graft j = s.graft j := rfl
@[simp] theorem bedOn_at_tally (s : State) (k j : Nat) (g : BedSt → BedSt) : (s.bedOn k g).tally j = s.tally j := rfl
/-! ### hooks -/

@[simp] theorem hookPut_same (s : State) (k : Nat) (v : Hook) : (s.hookPut k v).hook k = v := tget_tput_same _ _ _ _
theorem hookPut_ne (s : State) (k j : Nat) (v : Hook) (h : j ≠ k) : (s.hookPut k v).hook j = s.hook j := tget_tput_ne _ _ _ _ _ h
@[simp] theorem hookOn_same (s : State) (k : Nat) (g : Hook → Hook) : (s.hookOn k g).hook k = g (s.hook k) := tget_tput_same _ _ _ _
theorem hookOn_ne (s : State) (k j : Nat) (g : Hook → Hook) (h : j ≠ k) : (s.hookOn k g).hook j = s.hook j := tget_tput_ne _ _ _ _ _ h
@[simp] theorem hookPut_pending (s : State) (k : Nat) (v : Hook) : (s.hookPut k v).pending = s.pending := rfl
@[simp] theorem hookPut_waiting (s : State) (k : Nat) (v : Hook) : (s.hookPut k v).waiting = s.waiting := rfl
@[simp] theorem hookPut_aside (s : State) (k : Nat) (v : Hook) : (s.hookPut k v).aside = s.aside := rfl
@[simp] theorem hookPut_ops (s : State) (k : Nat) (v : Hook) : (s.hookPut k v).ops = s.ops := rfl
@[simp] theorem hookPut_regs (s : State) (k : Nat) (v : Hook) : (s.hookPut k v).regs = s.regs := rfl
@[simp] theorem hookPut_lock (s : State) (k : Nat) (v : Hook) : (s.hookPut k v).lock = s.lock := rfl
@[simp] theorem hookPut_blockedLast (s : State) (k : Nat) (v : Hook) : (s.hookPut k v).blockedLast = s.blockedLast := rfl
@[simp] theorem hookPut_otp (s : State) (k : Nat) (v : Hook) : (s.hookPut k v).otp = s.otp := rfl
@[simp] theorem hookPut_sup (s : State) (k : Nat) (v : Hook) : (s.hookPut k v).sup = s.sup := rfl
@[simp] theorem hookPut_boot (s : State) (k : Nat) (v : Hook) : (s.hookPut k v).boot = s.boot := rfl
@[simp] theorem hookPut_pcie (s : State) (k : Nat) (v : Hook) : (s.hookPut k v).pcie = s.pcie := rfl
@[simp] theorem hookPut_fns (s : State) (k : Nat) (v : Hook) : (s.hookPut k v).fns = s.fns := rfl
@[simp] theorem hookPut_slots (s : State) (k : Nat) (v : Hook) : (s.hookPut k v).slots = s.slots := rfl
@[simp] theorem hookPut_eps (s : State) (k : Nat) (v : Hook) : (s.hookPut k v).eps = s.eps := rfl
@[simp] theorem hookPut_short (s : State) (k : Nat) (v : Hook) : (s.hookPut k v).short = s.short := rfl
@[simp] theorem hookPut_grants (s : State) (k : Nat) (v : Hook) : (s.hookPut k v).grants = s.grants := rfl
@[simp] theorem hookPut_links (s : State) (k : Nat) (v : Hook) : (s.hookPut k v).links = s.links := rfl
@[simp] theorem hookPut_buses (s : State) (k : Nat) (v : Hook) : (s.hookPut k v).buses = s.buses := rfl
@[simp] theorem hookPut_guests (s : State) (k : Nat) (v : Hook) : (s.hookPut k v).guests = s.guests := rfl
@[simp] theorem hookPut_tcs (s : State) (k : Nat) (v : Hook) : (s.hookPut k v).tcs = s.tcs := rfl
@[simp] theorem hookPut_pds (s : State) (k : Nat) (v : Hook) : (s.hookPut k v).pds = s.pds := rfl
@[simp] theorem hookPut_paths (s : State) (k : Nat) (v : Hook) : (s.hookPut k v).paths = s.paths := rfl
@[simp] theorem hookPut_brgs (s : State) (k : Nat) (v : Hook) : (s.hookPut k v).brgs = s.brgs := rfl
@[simp] theorem hookPut_caps (s : State) (k : Nat) (v : Hook) : (s.hookPut k v).caps = s.caps := rfl
@[simp] theorem hookPut_capStarts (s : State) (k : Nat) (v : Hook) : (s.hookPut k v).capStarts = s.capStarts := rfl
@[simp] theorem hookPut_beds (s : State) (k : Nat) (v : Hook) : (s.hookPut k v).beds = s.beds := rfl
@[simp] theorem hookPut_budget (s : State) (k : Nat) (v : Hook) : (s.hookPut k v).budget = s.budget := rfl
@[simp] theorem hookPut_mode (s : State) (k : Nat) (v : Hook) : (s.hookPut k v).mode = s.mode := rfl
@[simp] theorem hookPut_eng (s : State) (k : Nat) (v : Hook) : (s.hookPut k v).eng = s.eng := rfl
@[simp] theorem hookPut_grafts (s : State) (k : Nat) (v : Hook) : (s.hookPut k v).grafts = s.grafts := rfl
@[simp] theorem hookPut_dsp (s : State) (k : Nat) (v : Hook) : (s.hookPut k v).dsp = s.dsp := rfl
@[simp] theorem hookPut_flt (s : State) (k : Nat) (v : Hook) : (s.hookPut k v).flt = s.flt := rfl
@[simp] theorem hookPut_inj (s : State) (k : Nat) (v : Hook) : (s.hookPut k v).inj = s.inj := rfl
@[simp] theorem hookPut_alm (s : State) (k : Nat) (v : Hook) : (s.hookPut k v).alm = s.alm := rfl
@[simp] theorem hookPut_time (s : State) (k : Nat) (v : Hook) : (s.hookPut k v).time = s.time := rfl
@[simp] theorem hookPut_smb (s : State) (k : Nat) (v : Hook) : (s.hookPut k v).smb = s.smb := rfl
@[simp] theorem hookPut_tele (s : State) (k : Nat) (v : Hook) : (s.hookPut k v).tele = s.tele := rfl
@[simp] theorem hookPut_tallies (s : State) (k : Nat) (v : Hook) : (s.hookPut k v).tallies = s.tallies := rfl
@[simp] theorem hookPut_units (s : State) (k : Nat) (v : Hook) : (s.hookPut k v).units = s.units := rfl
@[simp] theorem hookPut_out (s : State) (k : Nat) (v : Hook) : (s.hookPut k v).out = s.out := rfl
@[simp] theorem hookPut_blocked (s : State) (k : Nat) (v : Hook) : (s.hookPut k v).blocked = s.blocked := rfl
@[simp] theorem hookPut_free (s : State) (k : Nat) (v : Hook) : (s.hookPut k v).free = s.free := rfl
@[simp] theorem hookPut_at_link (s : State) (k j : Nat) (v : Hook) : (s.hookPut k v).link j = s.link j := rfl
@[simp] theorem hookPut_at_bus (s : State) (k j : Nat) (v : Hook) : (s.hookPut k v).bus j = s.bus j := rfl
@[simp] theorem hookPut_at_guest (s : State) (k j : Nat) (v : Hook) : (s.hookPut k v).guest j = s.guest j := rfl
@[simp] theorem hookPut_at_tc (s : State) (k j : Nat) (v : Hook) : (s.hookPut k v).tc j = s.tc j := rfl
@[simp] theorem hookPut_at_pd (s : State) (k j : Nat) (v : Hook) : (s.hookPut k v).pd j = s.pd j := rfl
@[simp] theorem hookPut_at_path (s : State) (k j : Nat) (v : Hook) : (s.hookPut k v).path j = s.path j := rfl
@[simp] theorem hookPut_at_brg (s : State) (k j : Nat) (v : Hook) : (s.hookPut k v).brg j = s.brg j := rfl
@[simp] theorem hookPut_at_cap (s : State) (k j : Nat) (v : Hook) : (s.hookPut k v).cap j = s.cap j := rfl
@[simp] theorem hookPut_at_bed (s : State) (k j : Nat) (v : Hook) : (s.hookPut k v).bed j = s.bed j := rfl
@[simp] theorem hookPut_at_fn (s : State) (k j : Nat) (v : Hook) : (s.hookPut k v).fn j = s.fn j := rfl
@[simp] theorem hookPut_at_slot (s : State) (k j : Nat) (v : Hook) : (s.hookPut k v).slot j = s.slot j := rfl
@[simp] theorem hookPut_at_ep (s : State) (k j : Nat) (v : Hook) : (s.hookPut k v).ep j = s.ep j := rfl
@[simp] theorem hookPut_at_graft (s : State) (k j : Nat) (v : Hook) : (s.hookPut k v).graft j = s.graft j := rfl
@[simp] theorem hookPut_at_tally (s : State) (k j : Nat) (v : Hook) : (s.hookPut k v).tally j = s.tally j := rfl
@[simp] theorem hookOn_pending (s : State) (k : Nat) (g : Hook → Hook) : (s.hookOn k g).pending = s.pending := rfl
@[simp] theorem hookOn_waiting (s : State) (k : Nat) (g : Hook → Hook) : (s.hookOn k g).waiting = s.waiting := rfl
@[simp] theorem hookOn_aside (s : State) (k : Nat) (g : Hook → Hook) : (s.hookOn k g).aside = s.aside := rfl
@[simp] theorem hookOn_ops (s : State) (k : Nat) (g : Hook → Hook) : (s.hookOn k g).ops = s.ops := rfl
@[simp] theorem hookOn_regs (s : State) (k : Nat) (g : Hook → Hook) : (s.hookOn k g).regs = s.regs := rfl
@[simp] theorem hookOn_lock (s : State) (k : Nat) (g : Hook → Hook) : (s.hookOn k g).lock = s.lock := rfl
@[simp] theorem hookOn_blockedLast (s : State) (k : Nat) (g : Hook → Hook) : (s.hookOn k g).blockedLast = s.blockedLast := rfl
@[simp] theorem hookOn_otp (s : State) (k : Nat) (g : Hook → Hook) : (s.hookOn k g).otp = s.otp := rfl
@[simp] theorem hookOn_sup (s : State) (k : Nat) (g : Hook → Hook) : (s.hookOn k g).sup = s.sup := rfl
@[simp] theorem hookOn_boot (s : State) (k : Nat) (g : Hook → Hook) : (s.hookOn k g).boot = s.boot := rfl
@[simp] theorem hookOn_pcie (s : State) (k : Nat) (g : Hook → Hook) : (s.hookOn k g).pcie = s.pcie := rfl
@[simp] theorem hookOn_fns (s : State) (k : Nat) (g : Hook → Hook) : (s.hookOn k g).fns = s.fns := rfl
@[simp] theorem hookOn_slots (s : State) (k : Nat) (g : Hook → Hook) : (s.hookOn k g).slots = s.slots := rfl
@[simp] theorem hookOn_eps (s : State) (k : Nat) (g : Hook → Hook) : (s.hookOn k g).eps = s.eps := rfl
@[simp] theorem hookOn_short (s : State) (k : Nat) (g : Hook → Hook) : (s.hookOn k g).short = s.short := rfl
@[simp] theorem hookOn_grants (s : State) (k : Nat) (g : Hook → Hook) : (s.hookOn k g).grants = s.grants := rfl
@[simp] theorem hookOn_links (s : State) (k : Nat) (g : Hook → Hook) : (s.hookOn k g).links = s.links := rfl
@[simp] theorem hookOn_buses (s : State) (k : Nat) (g : Hook → Hook) : (s.hookOn k g).buses = s.buses := rfl
@[simp] theorem hookOn_guests (s : State) (k : Nat) (g : Hook → Hook) : (s.hookOn k g).guests = s.guests := rfl
@[simp] theorem hookOn_tcs (s : State) (k : Nat) (g : Hook → Hook) : (s.hookOn k g).tcs = s.tcs := rfl
@[simp] theorem hookOn_pds (s : State) (k : Nat) (g : Hook → Hook) : (s.hookOn k g).pds = s.pds := rfl
@[simp] theorem hookOn_paths (s : State) (k : Nat) (g : Hook → Hook) : (s.hookOn k g).paths = s.paths := rfl
@[simp] theorem hookOn_brgs (s : State) (k : Nat) (g : Hook → Hook) : (s.hookOn k g).brgs = s.brgs := rfl
@[simp] theorem hookOn_caps (s : State) (k : Nat) (g : Hook → Hook) : (s.hookOn k g).caps = s.caps := rfl
@[simp] theorem hookOn_capStarts (s : State) (k : Nat) (g : Hook → Hook) : (s.hookOn k g).capStarts = s.capStarts := rfl
@[simp] theorem hookOn_beds (s : State) (k : Nat) (g : Hook → Hook) : (s.hookOn k g).beds = s.beds := rfl
@[simp] theorem hookOn_budget (s : State) (k : Nat) (g : Hook → Hook) : (s.hookOn k g).budget = s.budget := rfl
@[simp] theorem hookOn_mode (s : State) (k : Nat) (g : Hook → Hook) : (s.hookOn k g).mode = s.mode := rfl
@[simp] theorem hookOn_eng (s : State) (k : Nat) (g : Hook → Hook) : (s.hookOn k g).eng = s.eng := rfl
@[simp] theorem hookOn_grafts (s : State) (k : Nat) (g : Hook → Hook) : (s.hookOn k g).grafts = s.grafts := rfl
@[simp] theorem hookOn_dsp (s : State) (k : Nat) (g : Hook → Hook) : (s.hookOn k g).dsp = s.dsp := rfl
@[simp] theorem hookOn_flt (s : State) (k : Nat) (g : Hook → Hook) : (s.hookOn k g).flt = s.flt := rfl
@[simp] theorem hookOn_inj (s : State) (k : Nat) (g : Hook → Hook) : (s.hookOn k g).inj = s.inj := rfl
@[simp] theorem hookOn_alm (s : State) (k : Nat) (g : Hook → Hook) : (s.hookOn k g).alm = s.alm := rfl
@[simp] theorem hookOn_time (s : State) (k : Nat) (g : Hook → Hook) : (s.hookOn k g).time = s.time := rfl
@[simp] theorem hookOn_smb (s : State) (k : Nat) (g : Hook → Hook) : (s.hookOn k g).smb = s.smb := rfl
@[simp] theorem hookOn_tele (s : State) (k : Nat) (g : Hook → Hook) : (s.hookOn k g).tele = s.tele := rfl
@[simp] theorem hookOn_tallies (s : State) (k : Nat) (g : Hook → Hook) : (s.hookOn k g).tallies = s.tallies := rfl
@[simp] theorem hookOn_units (s : State) (k : Nat) (g : Hook → Hook) : (s.hookOn k g).units = s.units := rfl
@[simp] theorem hookOn_out (s : State) (k : Nat) (g : Hook → Hook) : (s.hookOn k g).out = s.out := rfl
@[simp] theorem hookOn_blocked (s : State) (k : Nat) (g : Hook → Hook) : (s.hookOn k g).blocked = s.blocked := rfl
@[simp] theorem hookOn_free (s : State) (k : Nat) (g : Hook → Hook) : (s.hookOn k g).free = s.free := rfl
@[simp] theorem hookOn_at_link (s : State) (k j : Nat) (g : Hook → Hook) : (s.hookOn k g).link j = s.link j := rfl
@[simp] theorem hookOn_at_bus (s : State) (k j : Nat) (g : Hook → Hook) : (s.hookOn k g).bus j = s.bus j := rfl
@[simp] theorem hookOn_at_guest (s : State) (k j : Nat) (g : Hook → Hook) : (s.hookOn k g).guest j = s.guest j := rfl
@[simp] theorem hookOn_at_tc (s : State) (k j : Nat) (g : Hook → Hook) : (s.hookOn k g).tc j = s.tc j := rfl
@[simp] theorem hookOn_at_pd (s : State) (k j : Nat) (g : Hook → Hook) : (s.hookOn k g).pd j = s.pd j := rfl
@[simp] theorem hookOn_at_path (s : State) (k j : Nat) (g : Hook → Hook) : (s.hookOn k g).path j = s.path j := rfl
@[simp] theorem hookOn_at_brg (s : State) (k j : Nat) (g : Hook → Hook) : (s.hookOn k g).brg j = s.brg j := rfl
@[simp] theorem hookOn_at_cap (s : State) (k j : Nat) (g : Hook → Hook) : (s.hookOn k g).cap j = s.cap j := rfl
@[simp] theorem hookOn_at_bed (s : State) (k j : Nat) (g : Hook → Hook) : (s.hookOn k g).bed j = s.bed j := rfl
@[simp] theorem hookOn_at_fn (s : State) (k j : Nat) (g : Hook → Hook) : (s.hookOn k g).fn j = s.fn j := rfl
@[simp] theorem hookOn_at_slot (s : State) (k j : Nat) (g : Hook → Hook) : (s.hookOn k g).slot j = s.slot j := rfl
@[simp] theorem hookOn_at_ep (s : State) (k j : Nat) (g : Hook → Hook) : (s.hookOn k g).ep j = s.ep j := rfl
@[simp] theorem hookOn_at_graft (s : State) (k j : Nat) (g : Hook → Hook) : (s.hookOn k g).graft j = s.graft j := rfl
@[simp] theorem hookOn_at_tally (s : State) (k j : Nat) (g : Hook → Hook) : (s.hookOn k g).tally j = s.tally j := rfl
/-! ### fns -/

@[simp] theorem fnPut_same (s : State) (k : Nat) (v : FnRun) : (s.fnPut k v).fn k = v := tget_tput_same _ _ _ _
theorem fnPut_ne (s : State) (k j : Nat) (v : FnRun) (h : j ≠ k) : (s.fnPut k v).fn j = s.fn j := tget_tput_ne _ _ _ _ _ h
@[simp] theorem fnOn_same (s : State) (k : Nat) (g : FnRun → FnRun) : (s.fnOn k g).fn k = g (s.fn k) := tget_tput_same _ _ _ _
theorem fnOn_ne (s : State) (k j : Nat) (g : FnRun → FnRun) (h : j ≠ k) : (s.fnOn k g).fn j = s.fn j := tget_tput_ne _ _ _ _ _ h
@[simp] theorem fnPut_pending (s : State) (k : Nat) (v : FnRun) : (s.fnPut k v).pending = s.pending := rfl
@[simp] theorem fnPut_waiting (s : State) (k : Nat) (v : FnRun) : (s.fnPut k v).waiting = s.waiting := rfl
@[simp] theorem fnPut_aside (s : State) (k : Nat) (v : FnRun) : (s.fnPut k v).aside = s.aside := rfl
@[simp] theorem fnPut_ops (s : State) (k : Nat) (v : FnRun) : (s.fnPut k v).ops = s.ops := rfl
@[simp] theorem fnPut_regs (s : State) (k : Nat) (v : FnRun) : (s.fnPut k v).regs = s.regs := rfl
@[simp] theorem fnPut_lock (s : State) (k : Nat) (v : FnRun) : (s.fnPut k v).lock = s.lock := rfl
@[simp] theorem fnPut_blockedLast (s : State) (k : Nat) (v : FnRun) : (s.fnPut k v).blockedLast = s.blockedLast := rfl
@[simp] theorem fnPut_otp (s : State) (k : Nat) (v : FnRun) : (s.fnPut k v).otp = s.otp := rfl
@[simp] theorem fnPut_sup (s : State) (k : Nat) (v : FnRun) : (s.fnPut k v).sup = s.sup := rfl
@[simp] theorem fnPut_boot (s : State) (k : Nat) (v : FnRun) : (s.fnPut k v).boot = s.boot := rfl
@[simp] theorem fnPut_pcie (s : State) (k : Nat) (v : FnRun) : (s.fnPut k v).pcie = s.pcie := rfl
@[simp] theorem fnPut_slots (s : State) (k : Nat) (v : FnRun) : (s.fnPut k v).slots = s.slots := rfl
@[simp] theorem fnPut_eps (s : State) (k : Nat) (v : FnRun) : (s.fnPut k v).eps = s.eps := rfl
@[simp] theorem fnPut_short (s : State) (k : Nat) (v : FnRun) : (s.fnPut k v).short = s.short := rfl
@[simp] theorem fnPut_grants (s : State) (k : Nat) (v : FnRun) : (s.fnPut k v).grants = s.grants := rfl
@[simp] theorem fnPut_links (s : State) (k : Nat) (v : FnRun) : (s.fnPut k v).links = s.links := rfl
@[simp] theorem fnPut_buses (s : State) (k : Nat) (v : FnRun) : (s.fnPut k v).buses = s.buses := rfl
@[simp] theorem fnPut_guests (s : State) (k : Nat) (v : FnRun) : (s.fnPut k v).guests = s.guests := rfl
@[simp] theorem fnPut_tcs (s : State) (k : Nat) (v : FnRun) : (s.fnPut k v).tcs = s.tcs := rfl
@[simp] theorem fnPut_pds (s : State) (k : Nat) (v : FnRun) : (s.fnPut k v).pds = s.pds := rfl
@[simp] theorem fnPut_paths (s : State) (k : Nat) (v : FnRun) : (s.fnPut k v).paths = s.paths := rfl
@[simp] theorem fnPut_brgs (s : State) (k : Nat) (v : FnRun) : (s.fnPut k v).brgs = s.brgs := rfl
@[simp] theorem fnPut_caps (s : State) (k : Nat) (v : FnRun) : (s.fnPut k v).caps = s.caps := rfl
@[simp] theorem fnPut_capStarts (s : State) (k : Nat) (v : FnRun) : (s.fnPut k v).capStarts = s.capStarts := rfl
@[simp] theorem fnPut_beds (s : State) (k : Nat) (v : FnRun) : (s.fnPut k v).beds = s.beds := rfl
@[simp] theorem fnPut_hooks (s : State) (k : Nat) (v : FnRun) : (s.fnPut k v).hooks = s.hooks := rfl
@[simp] theorem fnPut_budget (s : State) (k : Nat) (v : FnRun) : (s.fnPut k v).budget = s.budget := rfl
@[simp] theorem fnPut_mode (s : State) (k : Nat) (v : FnRun) : (s.fnPut k v).mode = s.mode := rfl
@[simp] theorem fnPut_eng (s : State) (k : Nat) (v : FnRun) : (s.fnPut k v).eng = s.eng := rfl
@[simp] theorem fnPut_grafts (s : State) (k : Nat) (v : FnRun) : (s.fnPut k v).grafts = s.grafts := rfl
@[simp] theorem fnPut_dsp (s : State) (k : Nat) (v : FnRun) : (s.fnPut k v).dsp = s.dsp := rfl
@[simp] theorem fnPut_flt (s : State) (k : Nat) (v : FnRun) : (s.fnPut k v).flt = s.flt := rfl
@[simp] theorem fnPut_inj (s : State) (k : Nat) (v : FnRun) : (s.fnPut k v).inj = s.inj := rfl
@[simp] theorem fnPut_alm (s : State) (k : Nat) (v : FnRun) : (s.fnPut k v).alm = s.alm := rfl
@[simp] theorem fnPut_time (s : State) (k : Nat) (v : FnRun) : (s.fnPut k v).time = s.time := rfl
@[simp] theorem fnPut_smb (s : State) (k : Nat) (v : FnRun) : (s.fnPut k v).smb = s.smb := rfl
@[simp] theorem fnPut_tele (s : State) (k : Nat) (v : FnRun) : (s.fnPut k v).tele = s.tele := rfl
@[simp] theorem fnPut_tallies (s : State) (k : Nat) (v : FnRun) : (s.fnPut k v).tallies = s.tallies := rfl
@[simp] theorem fnPut_units (s : State) (k : Nat) (v : FnRun) : (s.fnPut k v).units = s.units := rfl
@[simp] theorem fnPut_out (s : State) (k : Nat) (v : FnRun) : (s.fnPut k v).out = s.out := rfl
@[simp] theorem fnPut_blocked (s : State) (k : Nat) (v : FnRun) : (s.fnPut k v).blocked = s.blocked := rfl
@[simp] theorem fnPut_free (s : State) (k : Nat) (v : FnRun) : (s.fnPut k v).free = s.free := rfl
@[simp] theorem fnPut_at_link (s : State) (k j : Nat) (v : FnRun) : (s.fnPut k v).link j = s.link j := rfl
@[simp] theorem fnPut_at_bus (s : State) (k j : Nat) (v : FnRun) : (s.fnPut k v).bus j = s.bus j := rfl
@[simp] theorem fnPut_at_guest (s : State) (k j : Nat) (v : FnRun) : (s.fnPut k v).guest j = s.guest j := rfl
@[simp] theorem fnPut_at_tc (s : State) (k j : Nat) (v : FnRun) : (s.fnPut k v).tc j = s.tc j := rfl
@[simp] theorem fnPut_at_pd (s : State) (k j : Nat) (v : FnRun) : (s.fnPut k v).pd j = s.pd j := rfl
@[simp] theorem fnPut_at_path (s : State) (k j : Nat) (v : FnRun) : (s.fnPut k v).path j = s.path j := rfl
@[simp] theorem fnPut_at_brg (s : State) (k j : Nat) (v : FnRun) : (s.fnPut k v).brg j = s.brg j := rfl
@[simp] theorem fnPut_at_cap (s : State) (k j : Nat) (v : FnRun) : (s.fnPut k v).cap j = s.cap j := rfl
@[simp] theorem fnPut_at_bed (s : State) (k j : Nat) (v : FnRun) : (s.fnPut k v).bed j = s.bed j := rfl
@[simp] theorem fnPut_at_hook (s : State) (k j : Nat) (v : FnRun) : (s.fnPut k v).hook j = s.hook j := rfl
@[simp] theorem fnPut_at_slot (s : State) (k j : Nat) (v : FnRun) : (s.fnPut k v).slot j = s.slot j := rfl
@[simp] theorem fnPut_at_ep (s : State) (k j : Nat) (v : FnRun) : (s.fnPut k v).ep j = s.ep j := rfl
@[simp] theorem fnPut_at_graft (s : State) (k j : Nat) (v : FnRun) : (s.fnPut k v).graft j = s.graft j := rfl
@[simp] theorem fnPut_at_tally (s : State) (k j : Nat) (v : FnRun) : (s.fnPut k v).tally j = s.tally j := rfl
@[simp] theorem fnOn_pending (s : State) (k : Nat) (g : FnRun → FnRun) : (s.fnOn k g).pending = s.pending := rfl
@[simp] theorem fnOn_waiting (s : State) (k : Nat) (g : FnRun → FnRun) : (s.fnOn k g).waiting = s.waiting := rfl
@[simp] theorem fnOn_aside (s : State) (k : Nat) (g : FnRun → FnRun) : (s.fnOn k g).aside = s.aside := rfl
@[simp] theorem fnOn_ops (s : State) (k : Nat) (g : FnRun → FnRun) : (s.fnOn k g).ops = s.ops := rfl
@[simp] theorem fnOn_regs (s : State) (k : Nat) (g : FnRun → FnRun) : (s.fnOn k g).regs = s.regs := rfl
@[simp] theorem fnOn_lock (s : State) (k : Nat) (g : FnRun → FnRun) : (s.fnOn k g).lock = s.lock := rfl
@[simp] theorem fnOn_blockedLast (s : State) (k : Nat) (g : FnRun → FnRun) : (s.fnOn k g).blockedLast = s.blockedLast := rfl
@[simp] theorem fnOn_otp (s : State) (k : Nat) (g : FnRun → FnRun) : (s.fnOn k g).otp = s.otp := rfl
@[simp] theorem fnOn_sup (s : State) (k : Nat) (g : FnRun → FnRun) : (s.fnOn k g).sup = s.sup := rfl
@[simp] theorem fnOn_boot (s : State) (k : Nat) (g : FnRun → FnRun) : (s.fnOn k g).boot = s.boot := rfl
@[simp] theorem fnOn_pcie (s : State) (k : Nat) (g : FnRun → FnRun) : (s.fnOn k g).pcie = s.pcie := rfl
@[simp] theorem fnOn_slots (s : State) (k : Nat) (g : FnRun → FnRun) : (s.fnOn k g).slots = s.slots := rfl
@[simp] theorem fnOn_eps (s : State) (k : Nat) (g : FnRun → FnRun) : (s.fnOn k g).eps = s.eps := rfl
@[simp] theorem fnOn_short (s : State) (k : Nat) (g : FnRun → FnRun) : (s.fnOn k g).short = s.short := rfl
@[simp] theorem fnOn_grants (s : State) (k : Nat) (g : FnRun → FnRun) : (s.fnOn k g).grants = s.grants := rfl
@[simp] theorem fnOn_links (s : State) (k : Nat) (g : FnRun → FnRun) : (s.fnOn k g).links = s.links := rfl
@[simp] theorem fnOn_buses (s : State) (k : Nat) (g : FnRun → FnRun) : (s.fnOn k g).buses = s.buses := rfl
@[simp] theorem fnOn_guests (s : State) (k : Nat) (g : FnRun → FnRun) : (s.fnOn k g).guests = s.guests := rfl
@[simp] theorem fnOn_tcs (s : State) (k : Nat) (g : FnRun → FnRun) : (s.fnOn k g).tcs = s.tcs := rfl
@[simp] theorem fnOn_pds (s : State) (k : Nat) (g : FnRun → FnRun) : (s.fnOn k g).pds = s.pds := rfl
@[simp] theorem fnOn_paths (s : State) (k : Nat) (g : FnRun → FnRun) : (s.fnOn k g).paths = s.paths := rfl
@[simp] theorem fnOn_brgs (s : State) (k : Nat) (g : FnRun → FnRun) : (s.fnOn k g).brgs = s.brgs := rfl
@[simp] theorem fnOn_caps (s : State) (k : Nat) (g : FnRun → FnRun) : (s.fnOn k g).caps = s.caps := rfl
@[simp] theorem fnOn_capStarts (s : State) (k : Nat) (g : FnRun → FnRun) : (s.fnOn k g).capStarts = s.capStarts := rfl
@[simp] theorem fnOn_beds (s : State) (k : Nat) (g : FnRun → FnRun) : (s.fnOn k g).beds = s.beds := rfl
@[simp] theorem fnOn_hooks (s : State) (k : Nat) (g : FnRun → FnRun) : (s.fnOn k g).hooks = s.hooks := rfl
@[simp] theorem fnOn_budget (s : State) (k : Nat) (g : FnRun → FnRun) : (s.fnOn k g).budget = s.budget := rfl
@[simp] theorem fnOn_mode (s : State) (k : Nat) (g : FnRun → FnRun) : (s.fnOn k g).mode = s.mode := rfl
@[simp] theorem fnOn_eng (s : State) (k : Nat) (g : FnRun → FnRun) : (s.fnOn k g).eng = s.eng := rfl
@[simp] theorem fnOn_grafts (s : State) (k : Nat) (g : FnRun → FnRun) : (s.fnOn k g).grafts = s.grafts := rfl
@[simp] theorem fnOn_dsp (s : State) (k : Nat) (g : FnRun → FnRun) : (s.fnOn k g).dsp = s.dsp := rfl
@[simp] theorem fnOn_flt (s : State) (k : Nat) (g : FnRun → FnRun) : (s.fnOn k g).flt = s.flt := rfl
@[simp] theorem fnOn_inj (s : State) (k : Nat) (g : FnRun → FnRun) : (s.fnOn k g).inj = s.inj := rfl
@[simp] theorem fnOn_alm (s : State) (k : Nat) (g : FnRun → FnRun) : (s.fnOn k g).alm = s.alm := rfl
@[simp] theorem fnOn_time (s : State) (k : Nat) (g : FnRun → FnRun) : (s.fnOn k g).time = s.time := rfl
@[simp] theorem fnOn_smb (s : State) (k : Nat) (g : FnRun → FnRun) : (s.fnOn k g).smb = s.smb := rfl
@[simp] theorem fnOn_tele (s : State) (k : Nat) (g : FnRun → FnRun) : (s.fnOn k g).tele = s.tele := rfl
@[simp] theorem fnOn_tallies (s : State) (k : Nat) (g : FnRun → FnRun) : (s.fnOn k g).tallies = s.tallies := rfl
@[simp] theorem fnOn_units (s : State) (k : Nat) (g : FnRun → FnRun) : (s.fnOn k g).units = s.units := rfl
@[simp] theorem fnOn_out (s : State) (k : Nat) (g : FnRun → FnRun) : (s.fnOn k g).out = s.out := rfl
@[simp] theorem fnOn_blocked (s : State) (k : Nat) (g : FnRun → FnRun) : (s.fnOn k g).blocked = s.blocked := rfl
@[simp] theorem fnOn_free (s : State) (k : Nat) (g : FnRun → FnRun) : (s.fnOn k g).free = s.free := rfl
@[simp] theorem fnOn_at_link (s : State) (k j : Nat) (g : FnRun → FnRun) : (s.fnOn k g).link j = s.link j := rfl
@[simp] theorem fnOn_at_bus (s : State) (k j : Nat) (g : FnRun → FnRun) : (s.fnOn k g).bus j = s.bus j := rfl
@[simp] theorem fnOn_at_guest (s : State) (k j : Nat) (g : FnRun → FnRun) : (s.fnOn k g).guest j = s.guest j := rfl
@[simp] theorem fnOn_at_tc (s : State) (k j : Nat) (g : FnRun → FnRun) : (s.fnOn k g).tc j = s.tc j := rfl
@[simp] theorem fnOn_at_pd (s : State) (k j : Nat) (g : FnRun → FnRun) : (s.fnOn k g).pd j = s.pd j := rfl
@[simp] theorem fnOn_at_path (s : State) (k j : Nat) (g : FnRun → FnRun) : (s.fnOn k g).path j = s.path j := rfl
@[simp] theorem fnOn_at_brg (s : State) (k j : Nat) (g : FnRun → FnRun) : (s.fnOn k g).brg j = s.brg j := rfl
@[simp] theorem fnOn_at_cap (s : State) (k j : Nat) (g : FnRun → FnRun) : (s.fnOn k g).cap j = s.cap j := rfl
@[simp] theorem fnOn_at_bed (s : State) (k j : Nat) (g : FnRun → FnRun) : (s.fnOn k g).bed j = s.bed j := rfl
@[simp] theorem fnOn_at_hook (s : State) (k j : Nat) (g : FnRun → FnRun) : (s.fnOn k g).hook j = s.hook j := rfl
@[simp] theorem fnOn_at_slot (s : State) (k j : Nat) (g : FnRun → FnRun) : (s.fnOn k g).slot j = s.slot j := rfl
@[simp] theorem fnOn_at_ep (s : State) (k j : Nat) (g : FnRun → FnRun) : (s.fnOn k g).ep j = s.ep j := rfl
@[simp] theorem fnOn_at_graft (s : State) (k j : Nat) (g : FnRun → FnRun) : (s.fnOn k g).graft j = s.graft j := rfl
@[simp] theorem fnOn_at_tally (s : State) (k j : Nat) (g : FnRun → FnRun) : (s.fnOn k g).tally j = s.tally j := rfl
/-! ### slots -/

@[simp] theorem slotPut_same (s : State) (k : Nat) (v : Slot) : (s.slotPut k v).slot k = v := tget_tput_same _ _ _ _
theorem slotPut_ne (s : State) (k j : Nat) (v : Slot) (h : j ≠ k) : (s.slotPut k v).slot j = s.slot j := tget_tput_ne _ _ _ _ _ h
@[simp] theorem slotOn_same (s : State) (k : Nat) (g : Slot → Slot) : (s.slotOn k g).slot k = g (s.slot k) := tget_tput_same _ _ _ _
theorem slotOn_ne (s : State) (k j : Nat) (g : Slot → Slot) (h : j ≠ k) : (s.slotOn k g).slot j = s.slot j := tget_tput_ne _ _ _ _ _ h
@[simp] theorem slotPut_pending (s : State) (k : Nat) (v : Slot) : (s.slotPut k v).pending = s.pending := rfl
@[simp] theorem slotPut_waiting (s : State) (k : Nat) (v : Slot) : (s.slotPut k v).waiting = s.waiting := rfl
@[simp] theorem slotPut_aside (s : State) (k : Nat) (v : Slot) : (s.slotPut k v).aside = s.aside := rfl
@[simp] theorem slotPut_ops (s : State) (k : Nat) (v : Slot) : (s.slotPut k v).ops = s.ops := rfl
@[simp] theorem slotPut_regs (s : State) (k : Nat) (v : Slot) : (s.slotPut k v).regs = s.regs := rfl
@[simp] theorem slotPut_lock (s : State) (k : Nat) (v : Slot) : (s.slotPut k v).lock = s.lock := rfl
@[simp] theorem slotPut_blockedLast (s : State) (k : Nat) (v : Slot) : (s.slotPut k v).blockedLast = s.blockedLast := rfl
@[simp] theorem slotPut_otp (s : State) (k : Nat) (v : Slot) : (s.slotPut k v).otp = s.otp := rfl
@[simp] theorem slotPut_sup (s : State) (k : Nat) (v : Slot) : (s.slotPut k v).sup = s.sup := rfl
@[simp] theorem slotPut_boot (s : State) (k : Nat) (v : Slot) : (s.slotPut k v).boot = s.boot := rfl
@[simp] theorem slotPut_pcie (s : State) (k : Nat) (v : Slot) : (s.slotPut k v).pcie = s.pcie := rfl
@[simp] theorem slotPut_fns (s : State) (k : Nat) (v : Slot) : (s.slotPut k v).fns = s.fns := rfl
@[simp] theorem slotPut_eps (s : State) (k : Nat) (v : Slot) : (s.slotPut k v).eps = s.eps := rfl
@[simp] theorem slotPut_short (s : State) (k : Nat) (v : Slot) : (s.slotPut k v).short = s.short := rfl
@[simp] theorem slotPut_grants (s : State) (k : Nat) (v : Slot) : (s.slotPut k v).grants = s.grants := rfl
@[simp] theorem slotPut_links (s : State) (k : Nat) (v : Slot) : (s.slotPut k v).links = s.links := rfl
@[simp] theorem slotPut_buses (s : State) (k : Nat) (v : Slot) : (s.slotPut k v).buses = s.buses := rfl
@[simp] theorem slotPut_guests (s : State) (k : Nat) (v : Slot) : (s.slotPut k v).guests = s.guests := rfl
@[simp] theorem slotPut_tcs (s : State) (k : Nat) (v : Slot) : (s.slotPut k v).tcs = s.tcs := rfl
@[simp] theorem slotPut_pds (s : State) (k : Nat) (v : Slot) : (s.slotPut k v).pds = s.pds := rfl
@[simp] theorem slotPut_paths (s : State) (k : Nat) (v : Slot) : (s.slotPut k v).paths = s.paths := rfl
@[simp] theorem slotPut_brgs (s : State) (k : Nat) (v : Slot) : (s.slotPut k v).brgs = s.brgs := rfl
@[simp] theorem slotPut_caps (s : State) (k : Nat) (v : Slot) : (s.slotPut k v).caps = s.caps := rfl
@[simp] theorem slotPut_capStarts (s : State) (k : Nat) (v : Slot) : (s.slotPut k v).capStarts = s.capStarts := rfl
@[simp] theorem slotPut_beds (s : State) (k : Nat) (v : Slot) : (s.slotPut k v).beds = s.beds := rfl
@[simp] theorem slotPut_hooks (s : State) (k : Nat) (v : Slot) : (s.slotPut k v).hooks = s.hooks := rfl
@[simp] theorem slotPut_budget (s : State) (k : Nat) (v : Slot) : (s.slotPut k v).budget = s.budget := rfl
@[simp] theorem slotPut_mode (s : State) (k : Nat) (v : Slot) : (s.slotPut k v).mode = s.mode := rfl
@[simp] theorem slotPut_eng (s : State) (k : Nat) (v : Slot) : (s.slotPut k v).eng = s.eng := rfl
@[simp] theorem slotPut_grafts (s : State) (k : Nat) (v : Slot) : (s.slotPut k v).grafts = s.grafts := rfl
@[simp] theorem slotPut_dsp (s : State) (k : Nat) (v : Slot) : (s.slotPut k v).dsp = s.dsp := rfl
@[simp] theorem slotPut_flt (s : State) (k : Nat) (v : Slot) : (s.slotPut k v).flt = s.flt := rfl
@[simp] theorem slotPut_inj (s : State) (k : Nat) (v : Slot) : (s.slotPut k v).inj = s.inj := rfl
@[simp] theorem slotPut_alm (s : State) (k : Nat) (v : Slot) : (s.slotPut k v).alm = s.alm := rfl
@[simp] theorem slotPut_time (s : State) (k : Nat) (v : Slot) : (s.slotPut k v).time = s.time := rfl
@[simp] theorem slotPut_smb (s : State) (k : Nat) (v : Slot) : (s.slotPut k v).smb = s.smb := rfl
@[simp] theorem slotPut_tele (s : State) (k : Nat) (v : Slot) : (s.slotPut k v).tele = s.tele := rfl
@[simp] theorem slotPut_tallies (s : State) (k : Nat) (v : Slot) : (s.slotPut k v).tallies = s.tallies := rfl
@[simp] theorem slotPut_units (s : State) (k : Nat) (v : Slot) : (s.slotPut k v).units = s.units := rfl
@[simp] theorem slotPut_out (s : State) (k : Nat) (v : Slot) : (s.slotPut k v).out = s.out := rfl
@[simp] theorem slotPut_blocked (s : State) (k : Nat) (v : Slot) : (s.slotPut k v).blocked = s.blocked := rfl
@[simp] theorem slotPut_free (s : State) (k : Nat) (v : Slot) : (s.slotPut k v).free = s.free := rfl
@[simp] theorem slotPut_at_link (s : State) (k j : Nat) (v : Slot) : (s.slotPut k v).link j = s.link j := rfl
@[simp] theorem slotPut_at_bus (s : State) (k j : Nat) (v : Slot) : (s.slotPut k v).bus j = s.bus j := rfl
@[simp] theorem slotPut_at_guest (s : State) (k j : Nat) (v : Slot) : (s.slotPut k v).guest j = s.guest j := rfl
@[simp] theorem slotPut_at_tc (s : State) (k j : Nat) (v : Slot) : (s.slotPut k v).tc j = s.tc j := rfl
@[simp] theorem slotPut_at_pd (s : State) (k j : Nat) (v : Slot) : (s.slotPut k v).pd j = s.pd j := rfl
@[simp] theorem slotPut_at_path (s : State) (k j : Nat) (v : Slot) : (s.slotPut k v).path j = s.path j := rfl
@[simp] theorem slotPut_at_brg (s : State) (k j : Nat) (v : Slot) : (s.slotPut k v).brg j = s.brg j := rfl
@[simp] theorem slotPut_at_cap (s : State) (k j : Nat) (v : Slot) : (s.slotPut k v).cap j = s.cap j := rfl
@[simp] theorem slotPut_at_bed (s : State) (k j : Nat) (v : Slot) : (s.slotPut k v).bed j = s.bed j := rfl
@[simp] theorem slotPut_at_hook (s : State) (k j : Nat) (v : Slot) : (s.slotPut k v).hook j = s.hook j := rfl
@[simp] theorem slotPut_at_fn (s : State) (k j : Nat) (v : Slot) : (s.slotPut k v).fn j = s.fn j := rfl
@[simp] theorem slotPut_at_ep (s : State) (k j : Nat) (v : Slot) : (s.slotPut k v).ep j = s.ep j := rfl
@[simp] theorem slotPut_at_graft (s : State) (k j : Nat) (v : Slot) : (s.slotPut k v).graft j = s.graft j := rfl
@[simp] theorem slotPut_at_tally (s : State) (k j : Nat) (v : Slot) : (s.slotPut k v).tally j = s.tally j := rfl
@[simp] theorem slotOn_pending (s : State) (k : Nat) (g : Slot → Slot) : (s.slotOn k g).pending = s.pending := rfl
@[simp] theorem slotOn_waiting (s : State) (k : Nat) (g : Slot → Slot) : (s.slotOn k g).waiting = s.waiting := rfl
@[simp] theorem slotOn_aside (s : State) (k : Nat) (g : Slot → Slot) : (s.slotOn k g).aside = s.aside := rfl
@[simp] theorem slotOn_ops (s : State) (k : Nat) (g : Slot → Slot) : (s.slotOn k g).ops = s.ops := rfl
@[simp] theorem slotOn_regs (s : State) (k : Nat) (g : Slot → Slot) : (s.slotOn k g).regs = s.regs := rfl
@[simp] theorem slotOn_lock (s : State) (k : Nat) (g : Slot → Slot) : (s.slotOn k g).lock = s.lock := rfl
@[simp] theorem slotOn_blockedLast (s : State) (k : Nat) (g : Slot → Slot) : (s.slotOn k g).blockedLast = s.blockedLast := rfl
@[simp] theorem slotOn_otp (s : State) (k : Nat) (g : Slot → Slot) : (s.slotOn k g).otp = s.otp := rfl
@[simp] theorem slotOn_sup (s : State) (k : Nat) (g : Slot → Slot) : (s.slotOn k g).sup = s.sup := rfl
@[simp] theorem slotOn_boot (s : State) (k : Nat) (g : Slot → Slot) : (s.slotOn k g).boot = s.boot := rfl
@[simp] theorem slotOn_pcie (s : State) (k : Nat) (g : Slot → Slot) : (s.slotOn k g).pcie = s.pcie := rfl
@[simp] theorem slotOn_fns (s : State) (k : Nat) (g : Slot → Slot) : (s.slotOn k g).fns = s.fns := rfl
@[simp] theorem slotOn_eps (s : State) (k : Nat) (g : Slot → Slot) : (s.slotOn k g).eps = s.eps := rfl
@[simp] theorem slotOn_short (s : State) (k : Nat) (g : Slot → Slot) : (s.slotOn k g).short = s.short := rfl
@[simp] theorem slotOn_grants (s : State) (k : Nat) (g : Slot → Slot) : (s.slotOn k g).grants = s.grants := rfl
@[simp] theorem slotOn_links (s : State) (k : Nat) (g : Slot → Slot) : (s.slotOn k g).links = s.links := rfl
@[simp] theorem slotOn_buses (s : State) (k : Nat) (g : Slot → Slot) : (s.slotOn k g).buses = s.buses := rfl
@[simp] theorem slotOn_guests (s : State) (k : Nat) (g : Slot → Slot) : (s.slotOn k g).guests = s.guests := rfl
@[simp] theorem slotOn_tcs (s : State) (k : Nat) (g : Slot → Slot) : (s.slotOn k g).tcs = s.tcs := rfl
@[simp] theorem slotOn_pds (s : State) (k : Nat) (g : Slot → Slot) : (s.slotOn k g).pds = s.pds := rfl
@[simp] theorem slotOn_paths (s : State) (k : Nat) (g : Slot → Slot) : (s.slotOn k g).paths = s.paths := rfl
@[simp] theorem slotOn_brgs (s : State) (k : Nat) (g : Slot → Slot) : (s.slotOn k g).brgs = s.brgs := rfl
@[simp] theorem slotOn_caps (s : State) (k : Nat) (g : Slot → Slot) : (s.slotOn k g).caps = s.caps := rfl
@[simp] theorem slotOn_capStarts (s : State) (k : Nat) (g : Slot → Slot) : (s.slotOn k g).capStarts = s.capStarts := rfl
@[simp] theorem slotOn_beds (s : State) (k : Nat) (g : Slot → Slot) : (s.slotOn k g).beds = s.beds := rfl
@[simp] theorem slotOn_hooks (s : State) (k : Nat) (g : Slot → Slot) : (s.slotOn k g).hooks = s.hooks := rfl
@[simp] theorem slotOn_budget (s : State) (k : Nat) (g : Slot → Slot) : (s.slotOn k g).budget = s.budget := rfl
@[simp] theorem slotOn_mode (s : State) (k : Nat) (g : Slot → Slot) : (s.slotOn k g).mode = s.mode := rfl
@[simp] theorem slotOn_eng (s : State) (k : Nat) (g : Slot → Slot) : (s.slotOn k g).eng = s.eng := rfl
@[simp] theorem slotOn_grafts (s : State) (k : Nat) (g : Slot → Slot) : (s.slotOn k g).grafts = s.grafts := rfl
@[simp] theorem slotOn_dsp (s : State) (k : Nat) (g : Slot → Slot) : (s.slotOn k g).dsp = s.dsp := rfl
@[simp] theorem slotOn_flt (s : State) (k : Nat) (g : Slot → Slot) : (s.slotOn k g).flt = s.flt := rfl
@[simp] theorem slotOn_inj (s : State) (k : Nat) (g : Slot → Slot) : (s.slotOn k g).inj = s.inj := rfl
@[simp] theorem slotOn_alm (s : State) (k : Nat) (g : Slot → Slot) : (s.slotOn k g).alm = s.alm := rfl
@[simp] theorem slotOn_time (s : State) (k : Nat) (g : Slot → Slot) : (s.slotOn k g).time = s.time := rfl
@[simp] theorem slotOn_smb (s : State) (k : Nat) (g : Slot → Slot) : (s.slotOn k g).smb = s.smb := rfl
@[simp] theorem slotOn_tele (s : State) (k : Nat) (g : Slot → Slot) : (s.slotOn k g).tele = s.tele := rfl
@[simp] theorem slotOn_tallies (s : State) (k : Nat) (g : Slot → Slot) : (s.slotOn k g).tallies = s.tallies := rfl
@[simp] theorem slotOn_units (s : State) (k : Nat) (g : Slot → Slot) : (s.slotOn k g).units = s.units := rfl
@[simp] theorem slotOn_out (s : State) (k : Nat) (g : Slot → Slot) : (s.slotOn k g).out = s.out := rfl
@[simp] theorem slotOn_blocked (s : State) (k : Nat) (g : Slot → Slot) : (s.slotOn k g).blocked = s.blocked := rfl
@[simp] theorem slotOn_free (s : State) (k : Nat) (g : Slot → Slot) : (s.slotOn k g).free = s.free := rfl
@[simp] theorem slotOn_at_link (s : State) (k j : Nat) (g : Slot → Slot) : (s.slotOn k g).link j = s.link j := rfl
@[simp] theorem slotOn_at_bus (s : State) (k j : Nat) (g : Slot → Slot) : (s.slotOn k g).bus j = s.bus j := rfl
@[simp] theorem slotOn_at_guest (s : State) (k j : Nat) (g : Slot → Slot) : (s.slotOn k g).guest j = s.guest j := rfl
@[simp] theorem slotOn_at_tc (s : State) (k j : Nat) (g : Slot → Slot) : (s.slotOn k g).tc j = s.tc j := rfl
@[simp] theorem slotOn_at_pd (s : State) (k j : Nat) (g : Slot → Slot) : (s.slotOn k g).pd j = s.pd j := rfl
@[simp] theorem slotOn_at_path (s : State) (k j : Nat) (g : Slot → Slot) : (s.slotOn k g).path j = s.path j := rfl
@[simp] theorem slotOn_at_brg (s : State) (k j : Nat) (g : Slot → Slot) : (s.slotOn k g).brg j = s.brg j := rfl
@[simp] theorem slotOn_at_cap (s : State) (k j : Nat) (g : Slot → Slot) : (s.slotOn k g).cap j = s.cap j := rfl
@[simp] theorem slotOn_at_bed (s : State) (k j : Nat) (g : Slot → Slot) : (s.slotOn k g).bed j = s.bed j := rfl
@[simp] theorem slotOn_at_hook (s : State) (k j : Nat) (g : Slot → Slot) : (s.slotOn k g).hook j = s.hook j := rfl
@[simp] theorem slotOn_at_fn (s : State) (k j : Nat) (g : Slot → Slot) : (s.slotOn k g).fn j = s.fn j := rfl
@[simp] theorem slotOn_at_ep (s : State) (k j : Nat) (g : Slot → Slot) : (s.slotOn k g).ep j = s.ep j := rfl
@[simp] theorem slotOn_at_graft (s : State) (k j : Nat) (g : Slot → Slot) : (s.slotOn k g).graft j = s.graft j := rfl
@[simp] theorem slotOn_at_tally (s : State) (k j : Nat) (g : Slot → Slot) : (s.slotOn k g).tally j = s.tally j := rfl
/-! ### eps -/

@[simp] theorem epPut_same (s : State) (k : Nat) (v : Ep) : (s.epPut k v).ep k = v := tget_tput_same _ _ _ _
theorem epPut_ne (s : State) (k j : Nat) (v : Ep) (h : j ≠ k) : (s.epPut k v).ep j = s.ep j := tget_tput_ne _ _ _ _ _ h
@[simp] theorem epOn_same (s : State) (k : Nat) (g : Ep → Ep) : (s.epOn k g).ep k = g (s.ep k) := tget_tput_same _ _ _ _
theorem epOn_ne (s : State) (k j : Nat) (g : Ep → Ep) (h : j ≠ k) : (s.epOn k g).ep j = s.ep j := tget_tput_ne _ _ _ _ _ h
@[simp] theorem epPut_pending (s : State) (k : Nat) (v : Ep) : (s.epPut k v).pending = s.pending := rfl
@[simp] theorem epPut_waiting (s : State) (k : Nat) (v : Ep) : (s.epPut k v).waiting = s.waiting := rfl
@[simp] theorem epPut_aside (s : State) (k : Nat) (v : Ep) : (s.epPut k v).aside = s.aside := rfl
@[simp] theorem epPut_ops (s : State) (k : Nat) (v : Ep) : (s.epPut k v).ops = s.ops := rfl
@[simp] theorem epPut_regs (s : State) (k : Nat) (v : Ep) : (s.epPut k v).regs = s.regs := rfl
@[simp] theorem epPut_lock (s : State) (k : Nat) (v : Ep) : (s.epPut k v).lock = s.lock := rfl
@[simp] theorem epPut_blockedLast (s : State) (k : Nat) (v : Ep) : (s.epPut k v).blockedLast = s.blockedLast := rfl
@[simp] theorem epPut_otp (s : State) (k : Nat) (v : Ep) : (s.epPut k v).otp = s.otp := rfl
@[simp] theorem epPut_sup (s : State) (k : Nat) (v : Ep) : (s.epPut k v).sup = s.sup := rfl
@[simp] theorem epPut_boot (s : State) (k : Nat) (v : Ep) : (s.epPut k v).boot = s.boot := rfl
@[simp] theorem epPut_pcie (s : State) (k : Nat) (v : Ep) : (s.epPut k v).pcie = s.pcie := rfl
@[simp] theorem epPut_fns (s : State) (k : Nat) (v : Ep) : (s.epPut k v).fns = s.fns := rfl
@[simp] theorem epPut_slots (s : State) (k : Nat) (v : Ep) : (s.epPut k v).slots = s.slots := rfl
@[simp] theorem epPut_short (s : State) (k : Nat) (v : Ep) : (s.epPut k v).short = s.short := rfl
@[simp] theorem epPut_grants (s : State) (k : Nat) (v : Ep) : (s.epPut k v).grants = s.grants := rfl
@[simp] theorem epPut_links (s : State) (k : Nat) (v : Ep) : (s.epPut k v).links = s.links := rfl
@[simp] theorem epPut_buses (s : State) (k : Nat) (v : Ep) : (s.epPut k v).buses = s.buses := rfl
@[simp] theorem epPut_guests (s : State) (k : Nat) (v : Ep) : (s.epPut k v).guests = s.guests := rfl
@[simp] theorem epPut_tcs (s : State) (k : Nat) (v : Ep) : (s.epPut k v).tcs = s.tcs := rfl
@[simp] theorem epPut_pds (s : State) (k : Nat) (v : Ep) : (s.epPut k v).pds = s.pds := rfl
@[simp] theorem epPut_paths (s : State) (k : Nat) (v : Ep) : (s.epPut k v).paths = s.paths := rfl
@[simp] theorem epPut_brgs (s : State) (k : Nat) (v : Ep) : (s.epPut k v).brgs = s.brgs := rfl
@[simp] theorem epPut_caps (s : State) (k : Nat) (v : Ep) : (s.epPut k v).caps = s.caps := rfl
@[simp] theorem epPut_capStarts (s : State) (k : Nat) (v : Ep) : (s.epPut k v).capStarts = s.capStarts := rfl
@[simp] theorem epPut_beds (s : State) (k : Nat) (v : Ep) : (s.epPut k v).beds = s.beds := rfl
@[simp] theorem epPut_hooks (s : State) (k : Nat) (v : Ep) : (s.epPut k v).hooks = s.hooks := rfl
@[simp] theorem epPut_budget (s : State) (k : Nat) (v : Ep) : (s.epPut k v).budget = s.budget := rfl
@[simp] theorem epPut_mode (s : State) (k : Nat) (v : Ep) : (s.epPut k v).mode = s.mode := rfl
@[simp] theorem epPut_eng (s : State) (k : Nat) (v : Ep) : (s.epPut k v).eng = s.eng := rfl
@[simp] theorem epPut_grafts (s : State) (k : Nat) (v : Ep) : (s.epPut k v).grafts = s.grafts := rfl
@[simp] theorem epPut_dsp (s : State) (k : Nat) (v : Ep) : (s.epPut k v).dsp = s.dsp := rfl
@[simp] theorem epPut_flt (s : State) (k : Nat) (v : Ep) : (s.epPut k v).flt = s.flt := rfl
@[simp] theorem epPut_inj (s : State) (k : Nat) (v : Ep) : (s.epPut k v).inj = s.inj := rfl
@[simp] theorem epPut_alm (s : State) (k : Nat) (v : Ep) : (s.epPut k v).alm = s.alm := rfl
@[simp] theorem epPut_time (s : State) (k : Nat) (v : Ep) : (s.epPut k v).time = s.time := rfl
@[simp] theorem epPut_smb (s : State) (k : Nat) (v : Ep) : (s.epPut k v).smb = s.smb := rfl
@[simp] theorem epPut_tele (s : State) (k : Nat) (v : Ep) : (s.epPut k v).tele = s.tele := rfl
@[simp] theorem epPut_tallies (s : State) (k : Nat) (v : Ep) : (s.epPut k v).tallies = s.tallies := rfl
@[simp] theorem epPut_units (s : State) (k : Nat) (v : Ep) : (s.epPut k v).units = s.units := rfl
@[simp] theorem epPut_out (s : State) (k : Nat) (v : Ep) : (s.epPut k v).out = s.out := rfl
@[simp] theorem epPut_blocked (s : State) (k : Nat) (v : Ep) : (s.epPut k v).blocked = s.blocked := rfl
@[simp] theorem epPut_free (s : State) (k : Nat) (v : Ep) : (s.epPut k v).free = s.free := rfl
@[simp] theorem epPut_at_link (s : State) (k j : Nat) (v : Ep) : (s.epPut k v).link j = s.link j := rfl
@[simp] theorem epPut_at_bus (s : State) (k j : Nat) (v : Ep) : (s.epPut k v).bus j = s.bus j := rfl
@[simp] theorem epPut_at_guest (s : State) (k j : Nat) (v : Ep) : (s.epPut k v).guest j = s.guest j := rfl
@[simp] theorem epPut_at_tc (s : State) (k j : Nat) (v : Ep) : (s.epPut k v).tc j = s.tc j := rfl
@[simp] theorem epPut_at_pd (s : State) (k j : Nat) (v : Ep) : (s.epPut k v).pd j = s.pd j := rfl
@[simp] theorem epPut_at_path (s : State) (k j : Nat) (v : Ep) : (s.epPut k v).path j = s.path j := rfl
@[simp] theorem epPut_at_brg (s : State) (k j : Nat) (v : Ep) : (s.epPut k v).brg j = s.brg j := rfl
@[simp] theorem epPut_at_cap (s : State) (k j : Nat) (v : Ep) : (s.epPut k v).cap j = s.cap j := rfl
@[simp] theorem epPut_at_bed (s : State) (k j : Nat) (v : Ep) : (s.epPut k v).bed j = s.bed j := rfl
@[simp] theorem epPut_at_hook (s : State) (k j : Nat) (v : Ep) : (s.epPut k v).hook j = s.hook j := rfl
@[simp] theorem epPut_at_fn (s : State) (k j : Nat) (v : Ep) : (s.epPut k v).fn j = s.fn j := rfl
@[simp] theorem epPut_at_slot (s : State) (k j : Nat) (v : Ep) : (s.epPut k v).slot j = s.slot j := rfl
@[simp] theorem epPut_at_graft (s : State) (k j : Nat) (v : Ep) : (s.epPut k v).graft j = s.graft j := rfl
@[simp] theorem epPut_at_tally (s : State) (k j : Nat) (v : Ep) : (s.epPut k v).tally j = s.tally j := rfl
@[simp] theorem epOn_pending (s : State) (k : Nat) (g : Ep → Ep) : (s.epOn k g).pending = s.pending := rfl
@[simp] theorem epOn_waiting (s : State) (k : Nat) (g : Ep → Ep) : (s.epOn k g).waiting = s.waiting := rfl
@[simp] theorem epOn_aside (s : State) (k : Nat) (g : Ep → Ep) : (s.epOn k g).aside = s.aside := rfl
@[simp] theorem epOn_ops (s : State) (k : Nat) (g : Ep → Ep) : (s.epOn k g).ops = s.ops := rfl
@[simp] theorem epOn_regs (s : State) (k : Nat) (g : Ep → Ep) : (s.epOn k g).regs = s.regs := rfl
@[simp] theorem epOn_lock (s : State) (k : Nat) (g : Ep → Ep) : (s.epOn k g).lock = s.lock := rfl
@[simp] theorem epOn_blockedLast (s : State) (k : Nat) (g : Ep → Ep) : (s.epOn k g).blockedLast = s.blockedLast := rfl
@[simp] theorem epOn_otp (s : State) (k : Nat) (g : Ep → Ep) : (s.epOn k g).otp = s.otp := rfl
@[simp] theorem epOn_sup (s : State) (k : Nat) (g : Ep → Ep) : (s.epOn k g).sup = s.sup := rfl
@[simp] theorem epOn_boot (s : State) (k : Nat) (g : Ep → Ep) : (s.epOn k g).boot = s.boot := rfl
@[simp] theorem epOn_pcie (s : State) (k : Nat) (g : Ep → Ep) : (s.epOn k g).pcie = s.pcie := rfl
@[simp] theorem epOn_fns (s : State) (k : Nat) (g : Ep → Ep) : (s.epOn k g).fns = s.fns := rfl
@[simp] theorem epOn_slots (s : State) (k : Nat) (g : Ep → Ep) : (s.epOn k g).slots = s.slots := rfl
@[simp] theorem epOn_short (s : State) (k : Nat) (g : Ep → Ep) : (s.epOn k g).short = s.short := rfl
@[simp] theorem epOn_grants (s : State) (k : Nat) (g : Ep → Ep) : (s.epOn k g).grants = s.grants := rfl
@[simp] theorem epOn_links (s : State) (k : Nat) (g : Ep → Ep) : (s.epOn k g).links = s.links := rfl
@[simp] theorem epOn_buses (s : State) (k : Nat) (g : Ep → Ep) : (s.epOn k g).buses = s.buses := rfl
@[simp] theorem epOn_guests (s : State) (k : Nat) (g : Ep → Ep) : (s.epOn k g).guests = s.guests := rfl
@[simp] theorem epOn_tcs (s : State) (k : Nat) (g : Ep → Ep) : (s.epOn k g).tcs = s.tcs := rfl
@[simp] theorem epOn_pds (s : State) (k : Nat) (g : Ep → Ep) : (s.epOn k g).pds = s.pds := rfl
@[simp] theorem epOn_paths (s : State) (k : Nat) (g : Ep → Ep) : (s.epOn k g).paths = s.paths := rfl
@[simp] theorem epOn_brgs (s : State) (k : Nat) (g : Ep → Ep) : (s.epOn k g).brgs = s.brgs := rfl
@[simp] theorem epOn_caps (s : State) (k : Nat) (g : Ep → Ep) : (s.epOn k g).caps = s.caps := rfl
@[simp] theorem epOn_capStarts (s : State) (k : Nat) (g : Ep → Ep) : (s.epOn k g).capStarts = s.capStarts := rfl
@[simp] theorem epOn_beds (s : State) (k : Nat) (g : Ep → Ep) : (s.epOn k g).beds = s.beds := rfl
@[simp] theorem epOn_hooks (s : State) (k : Nat) (g : Ep → Ep) : (s.epOn k g).hooks = s.hooks := rfl
@[simp] theorem epOn_budget (s : State) (k : Nat) (g : Ep → Ep) : (s.epOn k g).budget = s.budget := rfl
@[simp] theorem epOn_mode (s : State) (k : Nat) (g : Ep → Ep) : (s.epOn k g).mode = s.mode := rfl
@[simp] theorem epOn_eng (s : State) (k : Nat) (g : Ep → Ep) : (s.epOn k g).eng = s.eng := rfl
@[simp] theorem epOn_grafts (s : State) (k : Nat) (g : Ep → Ep) : (s.epOn k g).grafts = s.grafts := rfl
@[simp] theorem epOn_dsp (s : State) (k : Nat) (g : Ep → Ep) : (s.epOn k g).dsp = s.dsp := rfl
@[simp] theorem epOn_flt (s : State) (k : Nat) (g : Ep → Ep) : (s.epOn k g).flt = s.flt := rfl
@[simp] theorem epOn_inj (s : State) (k : Nat) (g : Ep → Ep) : (s.epOn k g).inj = s.inj := rfl
@[simp] theorem epOn_alm (s : State) (k : Nat) (g : Ep → Ep) : (s.epOn k g).alm = s.alm := rfl
@[simp] theorem epOn_time (s : State) (k : Nat) (g : Ep → Ep) : (s.epOn k g).time = s.time := rfl
@[simp] theorem epOn_smb (s : State) (k : Nat) (g : Ep → Ep) : (s.epOn k g).smb = s.smb := rfl
@[simp] theorem epOn_tele (s : State) (k : Nat) (g : Ep → Ep) : (s.epOn k g).tele = s.tele := rfl
@[simp] theorem epOn_tallies (s : State) (k : Nat) (g : Ep → Ep) : (s.epOn k g).tallies = s.tallies := rfl
@[simp] theorem epOn_units (s : State) (k : Nat) (g : Ep → Ep) : (s.epOn k g).units = s.units := rfl
@[simp] theorem epOn_out (s : State) (k : Nat) (g : Ep → Ep) : (s.epOn k g).out = s.out := rfl
@[simp] theorem epOn_blocked (s : State) (k : Nat) (g : Ep → Ep) : (s.epOn k g).blocked = s.blocked := rfl
@[simp] theorem epOn_free (s : State) (k : Nat) (g : Ep → Ep) : (s.epOn k g).free = s.free := rfl
@[simp] theorem epOn_at_link (s : State) (k j : Nat) (g : Ep → Ep) : (s.epOn k g).link j = s.link j := rfl
@[simp] theorem epOn_at_bus (s : State) (k j : Nat) (g : Ep → Ep) : (s.epOn k g).bus j = s.bus j := rfl
@[simp] theorem epOn_at_guest (s : State) (k j : Nat) (g : Ep → Ep) : (s.epOn k g).guest j = s.guest j := rfl
@[simp] theorem epOn_at_tc (s : State) (k j : Nat) (g : Ep → Ep) : (s.epOn k g).tc j = s.tc j := rfl
@[simp] theorem epOn_at_pd (s : State) (k j : Nat) (g : Ep → Ep) : (s.epOn k g).pd j = s.pd j := rfl
@[simp] theorem epOn_at_path (s : State) (k j : Nat) (g : Ep → Ep) : (s.epOn k g).path j = s.path j := rfl
@[simp] theorem epOn_at_brg (s : State) (k j : Nat) (g : Ep → Ep) : (s.epOn k g).brg j = s.brg j := rfl
@[simp] theorem epOn_at_cap (s : State) (k j : Nat) (g : Ep → Ep) : (s.epOn k g).cap j = s.cap j := rfl
@[simp] theorem epOn_at_bed (s : State) (k j : Nat) (g : Ep → Ep) : (s.epOn k g).bed j = s.bed j := rfl
@[simp] theorem epOn_at_hook (s : State) (k j : Nat) (g : Ep → Ep) : (s.epOn k g).hook j = s.hook j := rfl
@[simp] theorem epOn_at_fn (s : State) (k j : Nat) (g : Ep → Ep) : (s.epOn k g).fn j = s.fn j := rfl
@[simp] theorem epOn_at_slot (s : State) (k j : Nat) (g : Ep → Ep) : (s.epOn k g).slot j = s.slot j := rfl
@[simp] theorem epOn_at_graft (s : State) (k j : Nat) (g : Ep → Ep) : (s.epOn k g).graft j = s.graft j := rfl
@[simp] theorem epOn_at_tally (s : State) (k j : Nat) (g : Ep → Ep) : (s.epOn k g).tally j = s.tally j := rfl
/-! ### grafts -/

@[simp] theorem graftPut_same (s : State) (k : Nat) (v : Graft) : (s.graftPut k v).graft k = v := tget_tput_same _ _ _ _
theorem graftPut_ne (s : State) (k j : Nat) (v : Graft) (h : j ≠ k) : (s.graftPut k v).graft j = s.graft j := tget_tput_ne _ _ _ _ _ h
@[simp] theorem graftOn_same (s : State) (k : Nat) (g : Graft → Graft) : (s.graftOn k g).graft k = g (s.graft k) := tget_tput_same _ _ _ _
theorem graftOn_ne (s : State) (k j : Nat) (g : Graft → Graft) (h : j ≠ k) : (s.graftOn k g).graft j = s.graft j := tget_tput_ne _ _ _ _ _ h
@[simp] theorem graftPut_pending (s : State) (k : Nat) (v : Graft) : (s.graftPut k v).pending = s.pending := rfl
@[simp] theorem graftPut_waiting (s : State) (k : Nat) (v : Graft) : (s.graftPut k v).waiting = s.waiting := rfl
@[simp] theorem graftPut_aside (s : State) (k : Nat) (v : Graft) : (s.graftPut k v).aside = s.aside := rfl
@[simp] theorem graftPut_ops (s : State) (k : Nat) (v : Graft) : (s.graftPut k v).ops = s.ops := rfl
@[simp] theorem graftPut_regs (s : State) (k : Nat) (v : Graft) : (s.graftPut k v).regs = s.regs := rfl
@[simp] theorem graftPut_lock (s : State) (k : Nat) (v : Graft) : (s.graftPut k v).lock = s.lock := rfl
@[simp] theorem graftPut_blockedLast (s : State) (k : Nat) (v : Graft) : (s.graftPut k v).blockedLast = s.blockedLast := rfl
@[simp] theorem graftPut_otp (s : State) (k : Nat) (v : Graft) : (s.graftPut k v).otp = s.otp := rfl
@[simp] theorem graftPut_sup (s : State) (k : Nat) (v : Graft) : (s.graftPut k v).sup = s.sup := rfl
@[simp] theorem graftPut_boot (s : State) (k : Nat) (v : Graft) : (s.graftPut k v).boot = s.boot := rfl
@[simp] theorem graftPut_pcie (s : State) (k : Nat) (v : Graft) : (s.graftPut k v).pcie = s.pcie := rfl
@[simp] theorem graftPut_fns (s : State) (k : Nat) (v : Graft) : (s.graftPut k v).fns = s.fns := rfl
@[simp] theorem graftPut_slots (s : State) (k : Nat) (v : Graft) : (s.graftPut k v).slots = s.slots := rfl
@[simp] theorem graftPut_eps (s : State) (k : Nat) (v : Graft) : (s.graftPut k v).eps = s.eps := rfl
@[simp] theorem graftPut_short (s : State) (k : Nat) (v : Graft) : (s.graftPut k v).short = s.short := rfl
@[simp] theorem graftPut_grants (s : State) (k : Nat) (v : Graft) : (s.graftPut k v).grants = s.grants := rfl
@[simp] theorem graftPut_links (s : State) (k : Nat) (v : Graft) : (s.graftPut k v).links = s.links := rfl
@[simp] theorem graftPut_buses (s : State) (k : Nat) (v : Graft) : (s.graftPut k v).buses = s.buses := rfl
@[simp] theorem graftPut_guests (s : State) (k : Nat) (v : Graft) : (s.graftPut k v).guests = s.guests := rfl
@[simp] theorem graftPut_tcs (s : State) (k : Nat) (v : Graft) : (s.graftPut k v).tcs = s.tcs := rfl
@[simp] theorem graftPut_pds (s : State) (k : Nat) (v : Graft) : (s.graftPut k v).pds = s.pds := rfl
@[simp] theorem graftPut_paths (s : State) (k : Nat) (v : Graft) : (s.graftPut k v).paths = s.paths := rfl
@[simp] theorem graftPut_brgs (s : State) (k : Nat) (v : Graft) : (s.graftPut k v).brgs = s.brgs := rfl
@[simp] theorem graftPut_caps (s : State) (k : Nat) (v : Graft) : (s.graftPut k v).caps = s.caps := rfl
@[simp] theorem graftPut_capStarts (s : State) (k : Nat) (v : Graft) : (s.graftPut k v).capStarts = s.capStarts := rfl
@[simp] theorem graftPut_beds (s : State) (k : Nat) (v : Graft) : (s.graftPut k v).beds = s.beds := rfl
@[simp] theorem graftPut_hooks (s : State) (k : Nat) (v : Graft) : (s.graftPut k v).hooks = s.hooks := rfl
@[simp] theorem graftPut_budget (s : State) (k : Nat) (v : Graft) : (s.graftPut k v).budget = s.budget := rfl
@[simp] theorem graftPut_mode (s : State) (k : Nat) (v : Graft) : (s.graftPut k v).mode = s.mode := rfl
@[simp] theorem graftPut_eng (s : State) (k : Nat) (v : Graft) : (s.graftPut k v).eng = s.eng := rfl
@[simp] theorem graftPut_dsp (s : State) (k : Nat) (v : Graft) : (s.graftPut k v).dsp = s.dsp := rfl
@[simp] theorem graftPut_flt (s : State) (k : Nat) (v : Graft) : (s.graftPut k v).flt = s.flt := rfl
@[simp] theorem graftPut_inj (s : State) (k : Nat) (v : Graft) : (s.graftPut k v).inj = s.inj := rfl
@[simp] theorem graftPut_alm (s : State) (k : Nat) (v : Graft) : (s.graftPut k v).alm = s.alm := rfl
@[simp] theorem graftPut_time (s : State) (k : Nat) (v : Graft) : (s.graftPut k v).time = s.time := rfl
@[simp] theorem graftPut_smb (s : State) (k : Nat) (v : Graft) : (s.graftPut k v).smb = s.smb := rfl
@[simp] theorem graftPut_tele (s : State) (k : Nat) (v : Graft) : (s.graftPut k v).tele = s.tele := rfl
@[simp] theorem graftPut_tallies (s : State) (k : Nat) (v : Graft) : (s.graftPut k v).tallies = s.tallies := rfl
@[simp] theorem graftPut_units (s : State) (k : Nat) (v : Graft) : (s.graftPut k v).units = s.units := rfl
@[simp] theorem graftPut_out (s : State) (k : Nat) (v : Graft) : (s.graftPut k v).out = s.out := rfl
@[simp] theorem graftPut_blocked (s : State) (k : Nat) (v : Graft) : (s.graftPut k v).blocked = s.blocked := rfl
@[simp] theorem graftPut_free (s : State) (k : Nat) (v : Graft) : (s.graftPut k v).free = s.free := rfl
@[simp] theorem graftPut_at_link (s : State) (k j : Nat) (v : Graft) : (s.graftPut k v).link j = s.link j := rfl
@[simp] theorem graftPut_at_bus (s : State) (k j : Nat) (v : Graft) : (s.graftPut k v).bus j = s.bus j := rfl
@[simp] theorem graftPut_at_guest (s : State) (k j : Nat) (v : Graft) : (s.graftPut k v).guest j = s.guest j := rfl
@[simp] theorem graftPut_at_tc (s : State) (k j : Nat) (v : Graft) : (s.graftPut k v).tc j = s.tc j := rfl
@[simp] theorem graftPut_at_pd (s : State) (k j : Nat) (v : Graft) : (s.graftPut k v).pd j = s.pd j := rfl
@[simp] theorem graftPut_at_path (s : State) (k j : Nat) (v : Graft) : (s.graftPut k v).path j = s.path j := rfl
@[simp] theorem graftPut_at_brg (s : State) (k j : Nat) (v : Graft) : (s.graftPut k v).brg j = s.brg j := rfl
@[simp] theorem graftPut_at_cap (s : State) (k j : Nat) (v : Graft) : (s.graftPut k v).cap j = s.cap j := rfl
@[simp] theorem graftPut_at_bed (s : State) (k j : Nat) (v : Graft) : (s.graftPut k v).bed j = s.bed j := rfl
@[simp] theorem graftPut_at_hook (s : State) (k j : Nat) (v : Graft) : (s.graftPut k v).hook j = s.hook j := rfl
@[simp] theorem graftPut_at_fn (s : State) (k j : Nat) (v : Graft) : (s.graftPut k v).fn j = s.fn j := rfl
@[simp] theorem graftPut_at_slot (s : State) (k j : Nat) (v : Graft) : (s.graftPut k v).slot j = s.slot j := rfl
@[simp] theorem graftPut_at_ep (s : State) (k j : Nat) (v : Graft) : (s.graftPut k v).ep j = s.ep j := rfl
@[simp] theorem graftPut_at_tally (s : State) (k j : Nat) (v : Graft) : (s.graftPut k v).tally j = s.tally j := rfl
@[simp] theorem graftOn_pending (s : State) (k : Nat) (g : Graft → Graft) : (s.graftOn k g).pending = s.pending := rfl
@[simp] theorem graftOn_waiting (s : State) (k : Nat) (g : Graft → Graft) : (s.graftOn k g).waiting = s.waiting := rfl
@[simp] theorem graftOn_aside (s : State) (k : Nat) (g : Graft → Graft) : (s.graftOn k g).aside = s.aside := rfl
@[simp] theorem graftOn_ops (s : State) (k : Nat) (g : Graft → Graft) : (s.graftOn k g).ops = s.ops := rfl
@[simp] theorem graftOn_regs (s : State) (k : Nat) (g : Graft → Graft) : (s.graftOn k g).regs = s.regs := rfl
@[simp] theorem graftOn_lock (s : State) (k : Nat) (g : Graft → Graft) : (s.graftOn k g).lock = s.lock := rfl
@[simp] theorem graftOn_blockedLast (s : State) (k : Nat) (g : Graft → Graft) : (s.graftOn k g).blockedLast = s.blockedLast := rfl
@[simp] theorem graftOn_otp (s : State) (k : Nat) (g : Graft → Graft) : (s.graftOn k g).otp = s.otp := rfl
@[simp] theorem graftOn_sup (s : State) (k : Nat) (g : Graft → Graft) : (s.graftOn k g).sup = s.sup := rfl
@[simp] theorem graftOn_boot (s : State) (k : Nat) (g : Graft → Graft) : (s.graftOn k g).boot = s.boot := rfl
@[simp] theorem graftOn_pcie (s : State) (k : Nat) (g : Graft → Graft) : (s.graftOn k g).pcie = s.pcie := rfl
@[simp] theorem graftOn_fns (s : State) (k : Nat) (g : Graft → Graft) : (s.graftOn k g).fns = s.fns := rfl
@[simp] theorem graftOn_slots (s : State) (k : Nat) (g : Graft → Graft) : (s.graftOn k g).slots = s.slots := rfl
@[simp] theorem graftOn_eps (s : State) (k : Nat) (g : Graft → Graft) : (s.graftOn k g).eps = s.eps := rfl
@[simp] theorem graftOn_short (s : State) (k : Nat) (g : Graft → Graft) : (s.graftOn k g).short = s.short := rfl
@[simp] theorem graftOn_grants (s : State) (k : Nat) (g : Graft → Graft) : (s.graftOn k g).grants = s.grants := rfl
@[simp] theorem graftOn_links (s : State) (k : Nat) (g : Graft → Graft) : (s.graftOn k g).links = s.links := rfl
@[simp] theorem graftOn_buses (s : State) (k : Nat) (g : Graft → Graft) : (s.graftOn k g).buses = s.buses := rfl
@[simp] theorem graftOn_guests (s : State) (k : Nat) (g : Graft → Graft) : (s.graftOn k g).guests = s.guests := rfl
@[simp] theorem graftOn_tcs (s : State) (k : Nat) (g : Graft → Graft) : (s.graftOn k g).tcs = s.tcs := rfl
@[simp] theorem graftOn_pds (s : State) (k : Nat) (g : Graft → Graft) : (s.graftOn k g).pds = s.pds := rfl
@[simp] theorem graftOn_paths (s : State) (k : Nat) (g : Graft → Graft) : (s.graftOn k g).paths = s.paths := rfl
@[simp] theorem graftOn_brgs (s : State) (k : Nat) (g : Graft → Graft) : (s.graftOn k g).brgs = s.brgs := rfl
@[simp] theorem graftOn_caps (s : State) (k : Nat) (g : Graft → Graft) : (s.graftOn k g).caps = s.caps := rfl
@[simp] theorem graftOn_capStarts (s : State) (k : Nat) (g : Graft → Graft) : (s.graftOn k g).capStarts = s.capStarts := rfl
@[simp] theorem graftOn_beds (s : State) (k : Nat) (g : Graft → Graft) : (s.graftOn k g).beds = s.beds := rfl
@[simp] theorem graftOn_hooks (s : State) (k : Nat) (g : Graft → Graft) : (s.graftOn k g).hooks = s.hooks := rfl
@[simp] theorem graftOn_budget (s : State) (k : Nat) (g : Graft → Graft) : (s.graftOn k g).budget = s.budget := rfl
@[simp] theorem graftOn_mode (s : State) (k : Nat) (g : Graft → Graft) : (s.graftOn k g).mode = s.mode := rfl
@[simp] theorem graftOn_eng (s : State) (k : Nat) (g : Graft → Graft) : (s.graftOn k g).eng = s.eng := rfl
@[simp] theorem graftOn_dsp (s : State) (k : Nat) (g : Graft → Graft) : (s.graftOn k g).dsp = s.dsp := rfl
@[simp] theorem graftOn_flt (s : State) (k : Nat) (g : Graft → Graft) : (s.graftOn k g).flt = s.flt := rfl
@[simp] theorem graftOn_inj (s : State) (k : Nat) (g : Graft → Graft) : (s.graftOn k g).inj = s.inj := rfl
@[simp] theorem graftOn_alm (s : State) (k : Nat) (g : Graft → Graft) : (s.graftOn k g).alm = s.alm := rfl
@[simp] theorem graftOn_time (s : State) (k : Nat) (g : Graft → Graft) : (s.graftOn k g).time = s.time := rfl
@[simp] theorem graftOn_smb (s : State) (k : Nat) (g : Graft → Graft) : (s.graftOn k g).smb = s.smb := rfl
@[simp] theorem graftOn_tele (s : State) (k : Nat) (g : Graft → Graft) : (s.graftOn k g).tele = s.tele := rfl
@[simp] theorem graftOn_tallies (s : State) (k : Nat) (g : Graft → Graft) : (s.graftOn k g).tallies = s.tallies := rfl
@[simp] theorem graftOn_units (s : State) (k : Nat) (g : Graft → Graft) : (s.graftOn k g).units = s.units := rfl
@[simp] theorem graftOn_out (s : State) (k : Nat) (g : Graft → Graft) : (s.graftOn k g).out = s.out := rfl
@[simp] theorem graftOn_blocked (s : State) (k : Nat) (g : Graft → Graft) : (s.graftOn k g).blocked = s.blocked := rfl
@[simp] theorem graftOn_free (s : State) (k : Nat) (g : Graft → Graft) : (s.graftOn k g).free = s.free := rfl
@[simp] theorem graftOn_at_link (s : State) (k j : Nat) (g : Graft → Graft) : (s.graftOn k g).link j = s.link j := rfl
@[simp] theorem graftOn_at_bus (s : State) (k j : Nat) (g : Graft → Graft) : (s.graftOn k g).bus j = s.bus j := rfl
@[simp] theorem graftOn_at_guest (s : State) (k j : Nat) (g : Graft → Graft) : (s.graftOn k g).guest j = s.guest j := rfl
@[simp] theorem graftOn_at_tc (s : State) (k j : Nat) (g : Graft → Graft) : (s.graftOn k g).tc j = s.tc j := rfl
@[simp] theorem graftOn_at_pd (s : State) (k j : Nat) (g : Graft → Graft) : (s.graftOn k g).pd j = s.pd j := rfl
@[simp] theorem graftOn_at_path (s : State) (k j : Nat) (g : Graft → Graft) : (s.graftOn k g).path j = s.path j := rfl
@[simp] theorem graftOn_at_brg (s : State) (k j : Nat) (g : Graft → Graft) : (s.graftOn k g).brg j = s.brg j := rfl
@[simp] theorem graftOn_at_cap (s : State) (k j : Nat) (g : Graft → Graft) : (s.graftOn k g).cap j = s.cap j := rfl
@[simp] theorem graftOn_at_bed (s : State) (k j : Nat) (g : Graft → Graft) : (s.graftOn k g).bed j = s.bed j := rfl
@[simp] theorem graftOn_at_hook (s : State) (k j : Nat) (g : Graft → Graft) : (s.graftOn k g).hook j = s.hook j := rfl
@[simp] theorem graftOn_at_fn (s : State) (k j : Nat) (g : Graft → Graft) : (s.graftOn k g).fn j = s.fn j := rfl
@[simp] theorem graftOn_at_slot (s : State) (k j : Nat) (g : Graft → Graft) : (s.graftOn k g).slot j = s.slot j := rfl
@[simp] theorem graftOn_at_ep (s : State) (k j : Nat) (g : Graft → Graft) : (s.graftOn k g).ep j = s.ep j := rfl
@[simp] theorem graftOn_at_tally (s : State) (k j : Nat) (g : Graft → Graft) : (s.graftOn k g).tally j = s.tally j := rfl
/-! ### tallies -/

@[simp] theorem tallyPut_same (s : State) (k : Nat) (v : TallySt) : (s.tallyPut k v).tally k = v := tget_tput_same _ _ _ _
theorem tallyPut_ne (s : State) (k j : Nat) (v : TallySt) (h : j ≠ k) : (s.tallyPut k v).tally j = s.tally j := tget_tput_ne _ _ _ _ _ h
@[simp] theorem tallyOn_same (s : State) (k : Nat) (g : TallySt → TallySt) : (s.tallyOn k g).tally k = g (s.tally k) := tget_tput_same _ _ _ _
theorem tallyOn_ne (s : State) (k j : Nat) (g : TallySt → TallySt) (h : j ≠ k) : (s.tallyOn k g).tally j = s.tally j := tget_tput_ne _ _ _ _ _ h
@[simp] theorem tallyPut_pending (s : State) (k : Nat) (v : TallySt) : (s.tallyPut k v).pending = s.pending := rfl
@[simp] theorem tallyPut_waiting (s : State) (k : Nat) (v : TallySt) : (s.tallyPut k v).waiting = s.waiting := rfl
@[simp] theorem tallyPut_aside (s : State) (k : Nat) (v : TallySt) : (s.tallyPut k v).aside = s.aside := rfl
@[simp] theorem tallyPut_ops (s : State) (k : Nat) (v : TallySt) : (s.tallyPut k v).ops = s.ops := rfl
@[simp] theorem tallyPut_regs (s : State) (k : Nat) (v : TallySt) : (s.tallyPut k v).regs = s.regs := rfl
@[simp] theorem tallyPut_lock (s : State) (k : Nat) (v : TallySt) : (s.tallyPut k v).lock = s.lock := rfl
@[simp] theorem tallyPut_blockedLast (s : State) (k : Nat) (v : TallySt) : (s.tallyPut k v).blockedLast = s.blockedLast := rfl
@[simp] theorem tallyPut_otp (s : State) (k : Nat) (v : TallySt) : (s.tallyPut k v).otp = s.otp := rfl
@[simp] theorem tallyPut_sup (s : State) (k : Nat) (v : TallySt) : (s.tallyPut k v).sup = s.sup := rfl
@[simp] theorem tallyPut_boot (s : State) (k : Nat) (v : TallySt) : (s.tallyPut k v).boot = s.boot := rfl
@[simp] theorem tallyPut_pcie (s : State) (k : Nat) (v : TallySt) : (s.tallyPut k v).pcie = s.pcie := rfl
@[simp] theorem tallyPut_fns (s : State) (k : Nat) (v : TallySt) : (s.tallyPut k v).fns = s.fns := rfl
@[simp] theorem tallyPut_slots (s : State) (k : Nat) (v : TallySt) : (s.tallyPut k v).slots = s.slots := rfl
@[simp] theorem tallyPut_eps (s : State) (k : Nat) (v : TallySt) : (s.tallyPut k v).eps = s.eps := rfl
@[simp] theorem tallyPut_short (s : State) (k : Nat) (v : TallySt) : (s.tallyPut k v).short = s.short := rfl
@[simp] theorem tallyPut_grants (s : State) (k : Nat) (v : TallySt) : (s.tallyPut k v).grants = s.grants := rfl
@[simp] theorem tallyPut_links (s : State) (k : Nat) (v : TallySt) : (s.tallyPut k v).links = s.links := rfl
@[simp] theorem tallyPut_buses (s : State) (k : Nat) (v : TallySt) : (s.tallyPut k v).buses = s.buses := rfl
@[simp] theorem tallyPut_guests (s : State) (k : Nat) (v : TallySt) : (s.tallyPut k v).guests = s.guests := rfl
@[simp] theorem tallyPut_tcs (s : State) (k : Nat) (v : TallySt) : (s.tallyPut k v).tcs = s.tcs := rfl
@[simp] theorem tallyPut_pds (s : State) (k : Nat) (v : TallySt) : (s.tallyPut k v).pds = s.pds := rfl
@[simp] theorem tallyPut_paths (s : State) (k : Nat) (v : TallySt) : (s.tallyPut k v).paths = s.paths := rfl
@[simp] theorem tallyPut_brgs (s : State) (k : Nat) (v : TallySt) : (s.tallyPut k v).brgs = s.brgs := rfl
@[simp] theorem tallyPut_caps (s : State) (k : Nat) (v : TallySt) : (s.tallyPut k v).caps = s.caps := rfl
@[simp] theorem tallyPut_capStarts (s : State) (k : Nat) (v : TallySt) : (s.tallyPut k v).capStarts = s.capStarts := rfl
@[simp] theorem tallyPut_beds (s : State) (k : Nat) (v : TallySt) : (s.tallyPut k v).beds = s.beds := rfl
@[simp] theorem tallyPut_hooks (s : State) (k : Nat) (v : TallySt) : (s.tallyPut k v).hooks = s.hooks := rfl
@[simp] theorem tallyPut_budget (s : State) (k : Nat) (v : TallySt) : (s.tallyPut k v).budget = s.budget := rfl
@[simp] theorem tallyPut_mode (s : State) (k : Nat) (v : TallySt) : (s.tallyPut k v).mode = s.mode := rfl
@[simp] theorem tallyPut_eng (s : State) (k : Nat) (v : TallySt) : (s.tallyPut k v).eng = s.eng := rfl
@[simp] theorem tallyPut_grafts (s : State) (k : Nat) (v : TallySt) : (s.tallyPut k v).grafts = s.grafts := rfl
@[simp] theorem tallyPut_dsp (s : State) (k : Nat) (v : TallySt) : (s.tallyPut k v).dsp = s.dsp := rfl
@[simp] theorem tallyPut_flt (s : State) (k : Nat) (v : TallySt) : (s.tallyPut k v).flt = s.flt := rfl
@[simp] theorem tallyPut_inj (s : State) (k : Nat) (v : TallySt) : (s.tallyPut k v).inj = s.inj := rfl
@[simp] theorem tallyPut_alm (s : State) (k : Nat) (v : TallySt) : (s.tallyPut k v).alm = s.alm := rfl
@[simp] theorem tallyPut_time (s : State) (k : Nat) (v : TallySt) : (s.tallyPut k v).time = s.time := rfl
@[simp] theorem tallyPut_smb (s : State) (k : Nat) (v : TallySt) : (s.tallyPut k v).smb = s.smb := rfl
@[simp] theorem tallyPut_tele (s : State) (k : Nat) (v : TallySt) : (s.tallyPut k v).tele = s.tele := rfl
@[simp] theorem tallyPut_units (s : State) (k : Nat) (v : TallySt) : (s.tallyPut k v).units = s.units := rfl
@[simp] theorem tallyPut_out (s : State) (k : Nat) (v : TallySt) : (s.tallyPut k v).out = s.out := rfl
@[simp] theorem tallyPut_blocked (s : State) (k : Nat) (v : TallySt) : (s.tallyPut k v).blocked = s.blocked := rfl
@[simp] theorem tallyPut_free (s : State) (k : Nat) (v : TallySt) : (s.tallyPut k v).free = s.free := rfl
@[simp] theorem tallyPut_at_link (s : State) (k j : Nat) (v : TallySt) : (s.tallyPut k v).link j = s.link j := rfl
@[simp] theorem tallyPut_at_bus (s : State) (k j : Nat) (v : TallySt) : (s.tallyPut k v).bus j = s.bus j := rfl
@[simp] theorem tallyPut_at_guest (s : State) (k j : Nat) (v : TallySt) : (s.tallyPut k v).guest j = s.guest j := rfl
@[simp] theorem tallyPut_at_tc (s : State) (k j : Nat) (v : TallySt) : (s.tallyPut k v).tc j = s.tc j := rfl
@[simp] theorem tallyPut_at_pd (s : State) (k j : Nat) (v : TallySt) : (s.tallyPut k v).pd j = s.pd j := rfl
@[simp] theorem tallyPut_at_path (s : State) (k j : Nat) (v : TallySt) : (s.tallyPut k v).path j = s.path j := rfl
@[simp] theorem tallyPut_at_brg (s : State) (k j : Nat) (v : TallySt) : (s.tallyPut k v).brg j = s.brg j := rfl
@[simp] theorem tallyPut_at_cap (s : State) (k j : Nat) (v : TallySt) : (s.tallyPut k v).cap j = s.cap j := rfl
@[simp] theorem tallyPut_at_bed (s : State) (k j : Nat) (v : TallySt) : (s.tallyPut k v).bed j = s.bed j := rfl
@[simp] theorem tallyPut_at_hook (s : State) (k j : Nat) (v : TallySt) : (s.tallyPut k v).hook j = s.hook j := rfl
@[simp] theorem tallyPut_at_fn (s : State) (k j : Nat) (v : TallySt) : (s.tallyPut k v).fn j = s.fn j := rfl
@[simp] theorem tallyPut_at_slot (s : State) (k j : Nat) (v : TallySt) : (s.tallyPut k v).slot j = s.slot j := rfl
@[simp] theorem tallyPut_at_ep (s : State) (k j : Nat) (v : TallySt) : (s.tallyPut k v).ep j = s.ep j := rfl
@[simp] theorem tallyPut_at_graft (s : State) (k j : Nat) (v : TallySt) : (s.tallyPut k v).graft j = s.graft j := rfl
@[simp] theorem tallyOn_pending (s : State) (k : Nat) (g : TallySt → TallySt) : (s.tallyOn k g).pending = s.pending := rfl
@[simp] theorem tallyOn_waiting (s : State) (k : Nat) (g : TallySt → TallySt) : (s.tallyOn k g).waiting = s.waiting := rfl
@[simp] theorem tallyOn_aside (s : State) (k : Nat) (g : TallySt → TallySt) : (s.tallyOn k g).aside = s.aside := rfl
@[simp] theorem tallyOn_ops (s : State) (k : Nat) (g : TallySt → TallySt) : (s.tallyOn k g).ops = s.ops := rfl
@[simp] theorem tallyOn_regs (s : State) (k : Nat) (g : TallySt → TallySt) : (s.tallyOn k g).regs = s.regs := rfl
@[simp] theorem tallyOn_lock (s : State) (k : Nat) (g : TallySt → TallySt) : (s.tallyOn k g).lock = s.lock := rfl
@[simp] theorem tallyOn_blockedLast (s : State) (k : Nat) (g : TallySt → TallySt) : (s.tallyOn k g).blockedLast = s.blockedLast := rfl
@[simp] theorem tallyOn_otp (s : State) (k : Nat) (g : TallySt → TallySt) : (s.tallyOn k g).otp = s.otp := rfl
@[simp] theorem tallyOn_sup (s : State) (k : Nat) (g : TallySt → TallySt) : (s.tallyOn k g).sup = s.sup := rfl
@[simp] theorem tallyOn_boot (s : State) (k : Nat) (g : TallySt → TallySt) : (s.tallyOn k g).boot = s.boot := rfl
@[simp] theorem tallyOn_pcie (s : State) (k : Nat) (g : TallySt → TallySt) : (s.tallyOn k g).pcie = s.pcie := rfl
@[simp] theorem tallyOn_fns (s : State) (k : Nat) (g : TallySt → TallySt) : (s.tallyOn k g).fns = s.fns := rfl
@[simp] theorem tallyOn_slots (s : State) (k : Nat) (g : TallySt → TallySt) : (s.tallyOn k g).slots = s.slots := rfl
@[simp] theorem tallyOn_eps (s : State) (k : Nat) (g : TallySt → TallySt) : (s.tallyOn k g).eps = s.eps := rfl
@[simp] theorem tallyOn_short (s : State) (k : Nat) (g : TallySt → TallySt) : (s.tallyOn k g).short = s.short := rfl
@[simp] theorem tallyOn_grants (s : State) (k : Nat) (g : TallySt → TallySt) : (s.tallyOn k g).grants = s.grants := rfl
@[simp] theorem tallyOn_links (s : State) (k : Nat) (g : TallySt → TallySt) : (s.tallyOn k g).links = s.links := rfl
@[simp] theorem tallyOn_buses (s : State) (k : Nat) (g : TallySt → TallySt) : (s.tallyOn k g).buses = s.buses := rfl
@[simp] theorem tallyOn_guests (s : State) (k : Nat) (g : TallySt → TallySt) : (s.tallyOn k g).guests = s.guests := rfl
@[simp] theorem tallyOn_tcs (s : State) (k : Nat) (g : TallySt → TallySt) : (s.tallyOn k g).tcs = s.tcs := rfl
@[simp] theorem tallyOn_pds (s : State) (k : Nat) (g : TallySt → TallySt) : (s.tallyOn k g).pds = s.pds := rfl
@[simp] theorem tallyOn_paths (s : State) (k : Nat) (g : TallySt → TallySt) : (s.tallyOn k g).paths = s.paths := rfl
@[simp] theorem tallyOn_brgs (s : State) (k : Nat) (g : TallySt → TallySt) : (s.tallyOn k g).brgs = s.brgs := rfl
@[simp] theorem tallyOn_caps (s : State) (k : Nat) (g : TallySt → TallySt) : (s.tallyOn k g).caps = s.caps := rfl
@[simp] theorem tallyOn_capStarts (s : State) (k : Nat) (g : TallySt → TallySt) : (s.tallyOn k g).capStarts = s.capStarts := rfl
@[simp] theorem tallyOn_beds (s : State) (k : Nat) (g : TallySt → TallySt) : (s.tallyOn k g).beds = s.beds := rfl
@[simp] theorem tallyOn_hooks (s : State) (k : Nat) (g : TallySt → TallySt) : (s.tallyOn k g).hooks = s.hooks := rfl
@[simp] theorem tallyOn_budget (s : State) (k : Nat) (g : TallySt → TallySt) : (s.tallyOn k g).budget = s.budget := rfl
@[simp] theorem tallyOn_mode (s : State) (k : Nat) (g : TallySt → TallySt) : (s.tallyOn k g).mode = s.mode := rfl
@[simp] theorem tallyOn_eng (s : State) (k : Nat) (g : TallySt → TallySt) : (s.tallyOn k g).eng = s.eng := rfl
@[simp] theorem tallyOn_grafts (s : State) (k : Nat) (g : TallySt → TallySt) : (s.tallyOn k g).grafts = s.grafts := rfl
@[simp] theorem tallyOn_dsp (s : State) (k : Nat) (g : TallySt → TallySt) : (s.tallyOn k g).dsp = s.dsp := rfl
@[simp] theorem tallyOn_flt (s : State) (k : Nat) (g : TallySt → TallySt) : (s.tallyOn k g).flt = s.flt := rfl
@[simp] theorem tallyOn_inj (s : State) (k : Nat) (g : TallySt → TallySt) : (s.tallyOn k g).inj = s.inj := rfl
@[simp] theorem tallyOn_alm (s : State) (k : Nat) (g : TallySt → TallySt) : (s.tallyOn k g).alm = s.alm := rfl
@[simp] theorem tallyOn_time (s : State) (k : Nat) (g : TallySt → TallySt) : (s.tallyOn k g).time = s.time := rfl
@[simp] theorem tallyOn_smb (s : State) (k : Nat) (g : TallySt → TallySt) : (s.tallyOn k g).smb = s.smb := rfl
@[simp] theorem tallyOn_tele (s : State) (k : Nat) (g : TallySt → TallySt) : (s.tallyOn k g).tele = s.tele := rfl
@[simp] theorem tallyOn_units (s : State) (k : Nat) (g : TallySt → TallySt) : (s.tallyOn k g).units = s.units := rfl
@[simp] theorem tallyOn_out (s : State) (k : Nat) (g : TallySt → TallySt) : (s.tallyOn k g).out = s.out := rfl
@[simp] theorem tallyOn_blocked (s : State) (k : Nat) (g : TallySt → TallySt) : (s.tallyOn k g).blocked = s.blocked := rfl
@[simp] theorem tallyOn_free (s : State) (k : Nat) (g : TallySt → TallySt) : (s.tallyOn k g).free = s.free := rfl
@[simp] theorem tallyOn_at_link (s : State) (k j : Nat) (g : TallySt → TallySt) : (s.tallyOn k g).link j = s.link j := rfl
@[simp] theorem tallyOn_at_bus (s : State) (k j : Nat) (g : TallySt → TallySt) : (s.tallyOn k g).bus j = s.bus j := rfl
@[simp] theorem tallyOn_at_guest (s : State) (k j : Nat) (g : TallySt → TallySt) : (s.tallyOn k g).guest j = s.guest j := rfl
@[simp] theorem tallyOn_at_tc (s : State) (k j : Nat) (g : TallySt → TallySt) : (s.tallyOn k g).tc j = s.tc j := rfl
@[simp] theorem tallyOn_at_pd (s : State) (k j : Nat) (g : TallySt → TallySt) : (s.tallyOn k g).pd j = s.pd j := rfl
@[simp] theorem tallyOn_at_path (s : State) (k j : Nat) (g : TallySt → TallySt) : (s.tallyOn k g).path j = s.path j := rfl
@[simp] theorem tallyOn_at_brg (s : State) (k j : Nat) (g : TallySt → TallySt) : (s.tallyOn k g).brg j = s.brg j := rfl
@[simp] theorem tallyOn_at_cap (s : State) (k j : Nat) (g : TallySt → TallySt) : (s.tallyOn k g).cap j = s.cap j := rfl
@[simp] theorem tallyOn_at_bed (s : State) (k j : Nat) (g : TallySt → TallySt) : (s.tallyOn k g).bed j = s.bed j := rfl
@[simp] theorem tallyOn_at_hook (s : State) (k j : Nat) (g : TallySt → TallySt) : (s.tallyOn k g).hook j = s.hook j := rfl
@[simp] theorem tallyOn_at_fn (s : State) (k j : Nat) (g : TallySt → TallySt) : (s.tallyOn k g).fn j = s.fn j := rfl
@[simp] theorem tallyOn_at_slot (s : State) (k j : Nat) (g : TallySt → TallySt) : (s.tallyOn k g).slot j = s.slot j := rfl
@[simp] theorem tallyOn_at_ep (s : State) (k j : Nat) (g : TallySt → TallySt) : (s.tallyOn k g).ep j = s.ep j := rfl
@[simp] theorem tallyOn_at_graft (s : State) (k j : Nat) (g : TallySt → TallySt) : (s.tallyOn k g).graft j = s.graft j := rfl

/-! ### sup -/

@[simp] theorem supOn_same (g : Supply → Supply) (s : State) : (supOn g s).sup = g s.sup := rfl
@[simp] theorem supOn_pending (g : Supply → Supply) (s : State) : (supOn g s).pending = s.pending := rfl
@[simp] theorem supOn_waiting (g : Supply → Supply) (s : State) : (supOn g s).waiting = s.waiting := rfl
@[simp] theorem supOn_aside (g : Supply → Supply) (s : State) : (supOn g s).aside = s.aside := rfl
@[simp] theorem supOn_ops (g : Supply → Supply) (s : State) : (supOn g s).ops = s.ops := rfl
@[simp] theorem supOn_regs (g : Supply → Supply) (s : State) : (supOn g s).regs = s.regs := rfl
@[simp] theorem supOn_lock (g : Supply → Supply) (s : State) : (supOn g s).lock = s.lock := rfl
@[simp] theorem supOn_blockedLast (g : Supply → Supply) (s : State) : (supOn g s).blockedLast = s.blockedLast := rfl
@[simp] theorem supOn_otp (g : Supply → Supply) (s : State) : (supOn g s).otp = s.otp := rfl
@[simp] theorem supOn_boot (g : Supply → Supply) (s : State) : (supOn g s).boot = s.boot := rfl
@[simp] theorem supOn_pcie (g : Supply → Supply) (s : State) : (supOn g s).pcie = s.pcie := rfl
@[simp] theorem supOn_fns (g : Supply → Supply) (s : State) : (supOn g s).fns = s.fns := rfl
@[simp] theorem supOn_slots (g : Supply → Supply) (s : State) : (supOn g s).slots = s.slots := rfl
@[simp] theorem supOn_eps (g : Supply → Supply) (s : State) : (supOn g s).eps = s.eps := rfl
@[simp] theorem supOn_short (g : Supply → Supply) (s : State) : (supOn g s).short = s.short := rfl
@[simp] theorem supOn_grants (g : Supply → Supply) (s : State) : (supOn g s).grants = s.grants := rfl
@[simp] theorem supOn_links (g : Supply → Supply) (s : State) : (supOn g s).links = s.links := rfl
@[simp] theorem supOn_buses (g : Supply → Supply) (s : State) : (supOn g s).buses = s.buses := rfl
@[simp] theorem supOn_guests (g : Supply → Supply) (s : State) : (supOn g s).guests = s.guests := rfl
@[simp] theorem supOn_tcs (g : Supply → Supply) (s : State) : (supOn g s).tcs = s.tcs := rfl
@[simp] theorem supOn_pds (g : Supply → Supply) (s : State) : (supOn g s).pds = s.pds := rfl
@[simp] theorem supOn_paths (g : Supply → Supply) (s : State) : (supOn g s).paths = s.paths := rfl
@[simp] theorem supOn_brgs (g : Supply → Supply) (s : State) : (supOn g s).brgs = s.brgs := rfl
@[simp] theorem supOn_caps (g : Supply → Supply) (s : State) : (supOn g s).caps = s.caps := rfl
@[simp] theorem supOn_capStarts (g : Supply → Supply) (s : State) : (supOn g s).capStarts = s.capStarts := rfl
@[simp] theorem supOn_beds (g : Supply → Supply) (s : State) : (supOn g s).beds = s.beds := rfl
@[simp] theorem supOn_hooks (g : Supply → Supply) (s : State) : (supOn g s).hooks = s.hooks := rfl
@[simp] theorem supOn_budget (g : Supply → Supply) (s : State) : (supOn g s).budget = s.budget := rfl
@[simp] theorem supOn_mode (g : Supply → Supply) (s : State) : (supOn g s).mode = s.mode := rfl
@[simp] theorem supOn_eng (g : Supply → Supply) (s : State) : (supOn g s).eng = s.eng := rfl
@[simp] theorem supOn_grafts (g : Supply → Supply) (s : State) : (supOn g s).grafts = s.grafts := rfl
@[simp] theorem supOn_dsp (g : Supply → Supply) (s : State) : (supOn g s).dsp = s.dsp := rfl
@[simp] theorem supOn_flt (g : Supply → Supply) (s : State) : (supOn g s).flt = s.flt := rfl
@[simp] theorem supOn_inj (g : Supply → Supply) (s : State) : (supOn g s).inj = s.inj := rfl
@[simp] theorem supOn_alm (g : Supply → Supply) (s : State) : (supOn g s).alm = s.alm := rfl
@[simp] theorem supOn_time (g : Supply → Supply) (s : State) : (supOn g s).time = s.time := rfl
@[simp] theorem supOn_smb (g : Supply → Supply) (s : State) : (supOn g s).smb = s.smb := rfl
@[simp] theorem supOn_tele (g : Supply → Supply) (s : State) : (supOn g s).tele = s.tele := rfl
@[simp] theorem supOn_tallies (g : Supply → Supply) (s : State) : (supOn g s).tallies = s.tallies := rfl
@[simp] theorem supOn_units (g : Supply → Supply) (s : State) : (supOn g s).units = s.units := rfl
@[simp] theorem supOn_out (g : Supply → Supply) (s : State) : (supOn g s).out = s.out := rfl
@[simp] theorem supOn_blocked (g : Supply → Supply) (s : State) : (supOn g s).blocked = s.blocked := rfl
@[simp] theorem supOn_free (g : Supply → Supply) (s : State) : (supOn g s).free = s.free := rfl
@[simp] theorem supOn_at_link (g : Supply → Supply) (s : State) (j : Nat) : (supOn g s).link j = s.link j := rfl
@[simp] theorem supOn_at_bus (g : Supply → Supply) (s : State) (j : Nat) : (supOn g s).bus j = s.bus j := rfl
@[simp] theorem supOn_at_guest (g : Supply → Supply) (s : State) (j : Nat) : (supOn g s).guest j = s.guest j := rfl
@[simp] theorem supOn_at_tc (g : Supply → Supply) (s : State) (j : Nat) : (supOn g s).tc j = s.tc j := rfl
@[simp] theorem supOn_at_pd (g : Supply → Supply) (s : State) (j : Nat) : (supOn g s).pd j = s.pd j := rfl
@[simp] theorem supOn_at_path (g : Supply → Supply) (s : State) (j : Nat) : (supOn g s).path j = s.path j := rfl
@[simp] theorem supOn_at_brg (g : Supply → Supply) (s : State) (j : Nat) : (supOn g s).brg j = s.brg j := rfl
@[simp] theorem supOn_at_cap (g : Supply → Supply) (s : State) (j : Nat) : (supOn g s).cap j = s.cap j := rfl
@[simp] theorem supOn_at_bed (g : Supply → Supply) (s : State) (j : Nat) : (supOn g s).bed j = s.bed j := rfl
@[simp] theorem supOn_at_hook (g : Supply → Supply) (s : State) (j : Nat) : (supOn g s).hook j = s.hook j := rfl
@[simp] theorem supOn_at_fn (g : Supply → Supply) (s : State) (j : Nat) : (supOn g s).fn j = s.fn j := rfl
@[simp] theorem supOn_at_slot (g : Supply → Supply) (s : State) (j : Nat) : (supOn g s).slot j = s.slot j := rfl
@[simp] theorem supOn_at_ep (g : Supply → Supply) (s : State) (j : Nat) : (supOn g s).ep j = s.ep j := rfl
@[simp] theorem supOn_at_graft (g : Supply → Supply) (s : State) (j : Nat) : (supOn g s).graft j = s.graft j := rfl
@[simp] theorem supOn_at_tally (g : Supply → Supply) (s : State) (j : Nat) : (supOn g s).tally j = s.tally j := rfl

/-! ### boot -/

@[simp] theorem bootOn_same (g : Boot → Boot) (s : State) : (bootOn g s).boot = g s.boot := rfl
@[simp] theorem bootOn_pending (g : Boot → Boot) (s : State) : (bootOn g s).pending = s.pending := rfl
@[simp] theorem bootOn_waiting (g : Boot → Boot) (s : State) : (bootOn g s).waiting = s.waiting := rfl
@[simp] theorem bootOn_aside (g : Boot → Boot) (s : State) : (bootOn g s).aside = s.aside := rfl
@[simp] theorem bootOn_ops (g : Boot → Boot) (s : State) : (bootOn g s).ops = s.ops := rfl
@[simp] theorem bootOn_regs (g : Boot → Boot) (s : State) : (bootOn g s).regs = s.regs := rfl
@[simp] theorem bootOn_lock (g : Boot → Boot) (s : State) : (bootOn g s).lock = s.lock := rfl
@[simp] theorem bootOn_blockedLast (g : Boot → Boot) (s : State) : (bootOn g s).blockedLast = s.blockedLast := rfl
@[simp] theorem bootOn_otp (g : Boot → Boot) (s : State) : (bootOn g s).otp = s.otp := rfl
@[simp] theorem bootOn_sup (g : Boot → Boot) (s : State) : (bootOn g s).sup = s.sup := rfl
@[simp] theorem bootOn_pcie (g : Boot → Boot) (s : State) : (bootOn g s).pcie = s.pcie := rfl
@[simp] theorem bootOn_fns (g : Boot → Boot) (s : State) : (bootOn g s).fns = s.fns := rfl
@[simp] theorem bootOn_slots (g : Boot → Boot) (s : State) : (bootOn g s).slots = s.slots := rfl
@[simp] theorem bootOn_eps (g : Boot → Boot) (s : State) : (bootOn g s).eps = s.eps := rfl
@[simp] theorem bootOn_short (g : Boot → Boot) (s : State) : (bootOn g s).short = s.short := rfl
@[simp] theorem bootOn_grants (g : Boot → Boot) (s : State) : (bootOn g s).grants = s.grants := rfl
@[simp] theorem bootOn_links (g : Boot → Boot) (s : State) : (bootOn g s).links = s.links := rfl
@[simp] theorem bootOn_buses (g : Boot → Boot) (s : State) : (bootOn g s).buses = s.buses := rfl
@[simp] theorem bootOn_guests (g : Boot → Boot) (s : State) : (bootOn g s).guests = s.guests := rfl
@[simp] theorem bootOn_tcs (g : Boot → Boot) (s : State) : (bootOn g s).tcs = s.tcs := rfl
@[simp] theorem bootOn_pds (g : Boot → Boot) (s : State) : (bootOn g s).pds = s.pds := rfl
@[simp] theorem bootOn_paths (g : Boot → Boot) (s : State) : (bootOn g s).paths = s.paths := rfl
@[simp] theorem bootOn_brgs (g : Boot → Boot) (s : State) : (bootOn g s).brgs = s.brgs := rfl
@[simp] theorem bootOn_caps (g : Boot → Boot) (s : State) : (bootOn g s).caps = s.caps := rfl
@[simp] theorem bootOn_capStarts (g : Boot → Boot) (s : State) : (bootOn g s).capStarts = s.capStarts := rfl
@[simp] theorem bootOn_beds (g : Boot → Boot) (s : State) : (bootOn g s).beds = s.beds := rfl
@[simp] theorem bootOn_hooks (g : Boot → Boot) (s : State) : (bootOn g s).hooks = s.hooks := rfl
@[simp] theorem bootOn_budget (g : Boot → Boot) (s : State) : (bootOn g s).budget = s.budget := rfl
@[simp] theorem bootOn_mode (g : Boot → Boot) (s : State) : (bootOn g s).mode = s.mode := rfl
@[simp] theorem bootOn_eng (g : Boot → Boot) (s : State) : (bootOn g s).eng = s.eng := rfl
@[simp] theorem bootOn_grafts (g : Boot → Boot) (s : State) : (bootOn g s).grafts = s.grafts := rfl
@[simp] theorem bootOn_dsp (g : Boot → Boot) (s : State) : (bootOn g s).dsp = s.dsp := rfl
@[simp] theorem bootOn_flt (g : Boot → Boot) (s : State) : (bootOn g s).flt = s.flt := rfl
@[simp] theorem bootOn_inj (g : Boot → Boot) (s : State) : (bootOn g s).inj = s.inj := rfl
@[simp] theorem bootOn_alm (g : Boot → Boot) (s : State) : (bootOn g s).alm = s.alm := rfl
@[simp] theorem bootOn_time (g : Boot → Boot) (s : State) : (bootOn g s).time = s.time := rfl
@[simp] theorem bootOn_smb (g : Boot → Boot) (s : State) : (bootOn g s).smb = s.smb := rfl
@[simp] theorem bootOn_tele (g : Boot → Boot) (s : State) : (bootOn g s).tele = s.tele := rfl
@[simp] theorem bootOn_tallies (g : Boot → Boot) (s : State) : (bootOn g s).tallies = s.tallies := rfl
@[simp] theorem bootOn_units (g : Boot → Boot) (s : State) : (bootOn g s).units = s.units := rfl
@[simp] theorem bootOn_out (g : Boot → Boot) (s : State) : (bootOn g s).out = s.out := rfl
@[simp] theorem bootOn_blocked (g : Boot → Boot) (s : State) : (bootOn g s).blocked = s.blocked := rfl
@[simp] theorem bootOn_free (g : Boot → Boot) (s : State) : (bootOn g s).free = s.free := rfl
@[simp] theorem bootOn_at_link (g : Boot → Boot) (s : State) (j : Nat) : (bootOn g s).link j = s.link j := rfl
@[simp] theorem bootOn_at_bus (g : Boot → Boot) (s : State) (j : Nat) : (bootOn g s).bus j = s.bus j := rfl
@[simp] theorem bootOn_at_guest (g : Boot → Boot) (s : State) (j : Nat) : (bootOn g s).guest j = s.guest j := rfl
@[simp] theorem bootOn_at_tc (g : Boot → Boot) (s : State) (j : Nat) : (bootOn g s).tc j = s.tc j := rfl
@[simp] theorem bootOn_at_pd (g : Boot → Boot) (s : State) (j : Nat) : (bootOn g s).pd j = s.pd j := rfl
@[simp] theorem bootOn_at_path (g : Boot → Boot) (s : State) (j : Nat) : (bootOn g s).path j = s.path j := rfl
@[simp] theorem bootOn_at_brg (g : Boot → Boot) (s : State) (j : Nat) : (bootOn g s).brg j = s.brg j := rfl
@[simp] theorem bootOn_at_cap (g : Boot → Boot) (s : State) (j : Nat) : (bootOn g s).cap j = s.cap j := rfl
@[simp] theorem bootOn_at_bed (g : Boot → Boot) (s : State) (j : Nat) : (bootOn g s).bed j = s.bed j := rfl
@[simp] theorem bootOn_at_hook (g : Boot → Boot) (s : State) (j : Nat) : (bootOn g s).hook j = s.hook j := rfl
@[simp] theorem bootOn_at_fn (g : Boot → Boot) (s : State) (j : Nat) : (bootOn g s).fn j = s.fn j := rfl
@[simp] theorem bootOn_at_slot (g : Boot → Boot) (s : State) (j : Nat) : (bootOn g s).slot j = s.slot j := rfl
@[simp] theorem bootOn_at_ep (g : Boot → Boot) (s : State) (j : Nat) : (bootOn g s).ep j = s.ep j := rfl
@[simp] theorem bootOn_at_graft (g : Boot → Boot) (s : State) (j : Nat) : (bootOn g s).graft j = s.graft j := rfl
@[simp] theorem bootOn_at_tally (g : Boot → Boot) (s : State) (j : Nat) : (bootOn g s).tally j = s.tally j := rfl

/-! ### pcie -/

@[simp] theorem pcieOn_same (g : Pcie → Pcie) (s : State) : (pcieOn g s).pcie = g s.pcie := rfl
@[simp] theorem pcieOn_pending (g : Pcie → Pcie) (s : State) : (pcieOn g s).pending = s.pending := rfl
@[simp] theorem pcieOn_waiting (g : Pcie → Pcie) (s : State) : (pcieOn g s).waiting = s.waiting := rfl
@[simp] theorem pcieOn_aside (g : Pcie → Pcie) (s : State) : (pcieOn g s).aside = s.aside := rfl
@[simp] theorem pcieOn_ops (g : Pcie → Pcie) (s : State) : (pcieOn g s).ops = s.ops := rfl
@[simp] theorem pcieOn_regs (g : Pcie → Pcie) (s : State) : (pcieOn g s).regs = s.regs := rfl
@[simp] theorem pcieOn_lock (g : Pcie → Pcie) (s : State) : (pcieOn g s).lock = s.lock := rfl
@[simp] theorem pcieOn_blockedLast (g : Pcie → Pcie) (s : State) : (pcieOn g s).blockedLast = s.blockedLast := rfl
@[simp] theorem pcieOn_otp (g : Pcie → Pcie) (s : State) : (pcieOn g s).otp = s.otp := rfl
@[simp] theorem pcieOn_sup (g : Pcie → Pcie) (s : State) : (pcieOn g s).sup = s.sup := rfl
@[simp] theorem pcieOn_boot (g : Pcie → Pcie) (s : State) : (pcieOn g s).boot = s.boot := rfl
@[simp] theorem pcieOn_fns (g : Pcie → Pcie) (s : State) : (pcieOn g s).fns = s.fns := rfl
@[simp] theorem pcieOn_slots (g : Pcie → Pcie) (s : State) : (pcieOn g s).slots = s.slots := rfl
@[simp] theorem pcieOn_eps (g : Pcie → Pcie) (s : State) : (pcieOn g s).eps = s.eps := rfl
@[simp] theorem pcieOn_short (g : Pcie → Pcie) (s : State) : (pcieOn g s).short = s.short := rfl
@[simp] theorem pcieOn_grants (g : Pcie → Pcie) (s : State) : (pcieOn g s).grants = s.grants := rfl
@[simp] theorem pcieOn_links (g : Pcie → Pcie) (s : State) : (pcieOn g s).links = s.links := rfl
@[simp] theorem pcieOn_buses (g : Pcie → Pcie) (s : State) : (pcieOn g s).buses = s.buses := rfl
@[simp] theorem pcieOn_guests (g : Pcie → Pcie) (s : State) : (pcieOn g s).guests = s.guests := rfl
@[simp] theorem pcieOn_tcs (g : Pcie → Pcie) (s : State) : (pcieOn g s).tcs = s.tcs := rfl
@[simp] theorem pcieOn_pds (g : Pcie → Pcie) (s : State) : (pcieOn g s).pds = s.pds := rfl
@[simp] theorem pcieOn_paths (g : Pcie → Pcie) (s : State) : (pcieOn g s).paths = s.paths := rfl
@[simp] theorem pcieOn_brgs (g : Pcie → Pcie) (s : State) : (pcieOn g s).brgs = s.brgs := rfl
@[simp] theorem pcieOn_caps (g : Pcie → Pcie) (s : State) : (pcieOn g s).caps = s.caps := rfl
@[simp] theorem pcieOn_capStarts (g : Pcie → Pcie) (s : State) : (pcieOn g s).capStarts = s.capStarts := rfl
@[simp] theorem pcieOn_beds (g : Pcie → Pcie) (s : State) : (pcieOn g s).beds = s.beds := rfl
@[simp] theorem pcieOn_hooks (g : Pcie → Pcie) (s : State) : (pcieOn g s).hooks = s.hooks := rfl
@[simp] theorem pcieOn_budget (g : Pcie → Pcie) (s : State) : (pcieOn g s).budget = s.budget := rfl
@[simp] theorem pcieOn_mode (g : Pcie → Pcie) (s : State) : (pcieOn g s).mode = s.mode := rfl
@[simp] theorem pcieOn_eng (g : Pcie → Pcie) (s : State) : (pcieOn g s).eng = s.eng := rfl
@[simp] theorem pcieOn_grafts (g : Pcie → Pcie) (s : State) : (pcieOn g s).grafts = s.grafts := rfl
@[simp] theorem pcieOn_dsp (g : Pcie → Pcie) (s : State) : (pcieOn g s).dsp = s.dsp := rfl
@[simp] theorem pcieOn_flt (g : Pcie → Pcie) (s : State) : (pcieOn g s).flt = s.flt := rfl
@[simp] theorem pcieOn_inj (g : Pcie → Pcie) (s : State) : (pcieOn g s).inj = s.inj := rfl
@[simp] theorem pcieOn_alm (g : Pcie → Pcie) (s : State) : (pcieOn g s).alm = s.alm := rfl
@[simp] theorem pcieOn_time (g : Pcie → Pcie) (s : State) : (pcieOn g s).time = s.time := rfl
@[simp] theorem pcieOn_smb (g : Pcie → Pcie) (s : State) : (pcieOn g s).smb = s.smb := rfl
@[simp] theorem pcieOn_tele (g : Pcie → Pcie) (s : State) : (pcieOn g s).tele = s.tele := rfl
@[simp] theorem pcieOn_tallies (g : Pcie → Pcie) (s : State) : (pcieOn g s).tallies = s.tallies := rfl
@[simp] theorem pcieOn_units (g : Pcie → Pcie) (s : State) : (pcieOn g s).units = s.units := rfl
@[simp] theorem pcieOn_out (g : Pcie → Pcie) (s : State) : (pcieOn g s).out = s.out := rfl
@[simp] theorem pcieOn_blocked (g : Pcie → Pcie) (s : State) : (pcieOn g s).blocked = s.blocked := rfl
@[simp] theorem pcieOn_free (g : Pcie → Pcie) (s : State) : (pcieOn g s).free = s.free := rfl
@[simp] theorem pcieOn_at_link (g : Pcie → Pcie) (s : State) (j : Nat) : (pcieOn g s).link j = s.link j := rfl
@[simp] theorem pcieOn_at_bus (g : Pcie → Pcie) (s : State) (j : Nat) : (pcieOn g s).bus j = s.bus j := rfl
@[simp] theorem pcieOn_at_guest (g : Pcie → Pcie) (s : State) (j : Nat) : (pcieOn g s).guest j = s.guest j := rfl
@[simp] theorem pcieOn_at_tc (g : Pcie → Pcie) (s : State) (j : Nat) : (pcieOn g s).tc j = s.tc j := rfl
@[simp] theorem pcieOn_at_pd (g : Pcie → Pcie) (s : State) (j : Nat) : (pcieOn g s).pd j = s.pd j := rfl
@[simp] theorem pcieOn_at_path (g : Pcie → Pcie) (s : State) (j : Nat) : (pcieOn g s).path j = s.path j := rfl
@[simp] theorem pcieOn_at_brg (g : Pcie → Pcie) (s : State) (j : Nat) : (pcieOn g s).brg j = s.brg j := rfl
@[simp] theorem pcieOn_at_cap (g : Pcie → Pcie) (s : State) (j : Nat) : (pcieOn g s).cap j = s.cap j := rfl
@[simp] theorem pcieOn_at_bed (g : Pcie → Pcie) (s : State) (j : Nat) : (pcieOn g s).bed j = s.bed j := rfl
@[simp] theorem pcieOn_at_hook (g : Pcie → Pcie) (s : State) (j : Nat) : (pcieOn g s).hook j = s.hook j := rfl
@[simp] theorem pcieOn_at_fn (g : Pcie → Pcie) (s : State) (j : Nat) : (pcieOn g s).fn j = s.fn j := rfl
@[simp] theorem pcieOn_at_slot (g : Pcie → Pcie) (s : State) (j : Nat) : (pcieOn g s).slot j = s.slot j := rfl
@[simp] theorem pcieOn_at_ep (g : Pcie → Pcie) (s : State) (j : Nat) : (pcieOn g s).ep j = s.ep j := rfl
@[simp] theorem pcieOn_at_graft (g : Pcie → Pcie) (s : State) (j : Nat) : (pcieOn g s).graft j = s.graft j := rfl
@[simp] theorem pcieOn_at_tally (g : Pcie → Pcie) (s : State) (j : Nat) : (pcieOn g s).tally j = s.tally j := rfl

/-! ### mode -/

@[simp] theorem modeOn_same (g : ModeSt → ModeSt) (s : State) : (modeOn g s).mode = g s.mode := rfl
@[simp] theorem modeOn_pending (g : ModeSt → ModeSt) (s : State) : (modeOn g s).pending = s.pending := rfl
@[simp] theorem modeOn_waiting (g : ModeSt → ModeSt) (s : State) : (modeOn g s).waiting = s.waiting := rfl
@[simp] theorem modeOn_aside (g : ModeSt → ModeSt) (s : State) : (modeOn g s).aside = s.aside := rfl
@[simp] theorem modeOn_ops (g : ModeSt → ModeSt) (s : State) : (modeOn g s).ops = s.ops := rfl
@[simp] theorem modeOn_regs (g : ModeSt → ModeSt) (s : State) : (modeOn g s).regs = s.regs := rfl
@[simp] theorem modeOn_lock (g : ModeSt → ModeSt) (s : State) : (modeOn g s).lock = s.lock := rfl
@[simp] theorem modeOn_blockedLast (g : ModeSt → ModeSt) (s : State) : (modeOn g s).blockedLast = s.blockedLast := rfl
@[simp] theorem modeOn_otp (g : ModeSt → ModeSt) (s : State) : (modeOn g s).otp = s.otp := rfl
@[simp] theorem modeOn_sup (g : ModeSt → ModeSt) (s : State) : (modeOn g s).sup = s.sup := rfl
@[simp] theorem modeOn_boot (g : ModeSt → ModeSt) (s : State) : (modeOn g s).boot = s.boot := rfl
@[simp] theorem modeOn_pcie (g : ModeSt → ModeSt) (s : State) : (modeOn g s).pcie = s.pcie := rfl
@[simp] theorem modeOn_fns (g : ModeSt → ModeSt) (s : State) : (modeOn g s).fns = s.fns := rfl
@[simp] theorem modeOn_slots (g : ModeSt → ModeSt) (s : State) : (modeOn g s).slots = s.slots := rfl
@[simp] theorem modeOn_eps (g : ModeSt → ModeSt) (s : State) : (modeOn g s).eps = s.eps := rfl
@[simp] theorem modeOn_short (g : ModeSt → ModeSt) (s : State) : (modeOn g s).short = s.short := rfl
@[simp] theorem modeOn_grants (g : ModeSt → ModeSt) (s : State) : (modeOn g s).grants = s.grants := rfl
@[simp] theorem modeOn_links (g : ModeSt → ModeSt) (s : State) : (modeOn g s).links = s.links := rfl
@[simp] theorem modeOn_buses (g : ModeSt → ModeSt) (s : State) : (modeOn g s).buses = s.buses := rfl
@[simp] theorem modeOn_guests (g : ModeSt → ModeSt) (s : State) : (modeOn g s).guests = s.guests := rfl
@[simp] theorem modeOn_tcs (g : ModeSt → ModeSt) (s : State) : (modeOn g s).tcs = s.tcs := rfl
@[simp] theorem modeOn_pds (g : ModeSt → ModeSt) (s : State) : (modeOn g s).pds = s.pds := rfl
@[simp] theorem modeOn_paths (g : ModeSt → ModeSt) (s : State) : (modeOn g s).paths = s.paths := rfl
@[simp] theorem modeOn_brgs (g : ModeSt → ModeSt) (s : State) : (modeOn g s).brgs = s.brgs := rfl
@[simp] theorem modeOn_caps (g : ModeSt → ModeSt) (s : State) : (modeOn g s).caps = s.caps := rfl
@[simp] theorem modeOn_capStarts (g : ModeSt → ModeSt) (s : State) : (modeOn g s).capStarts = s.capStarts := rfl
@[simp] theorem modeOn_beds (g : ModeSt → ModeSt) (s : State) : (modeOn g s).beds = s.beds := rfl
@[simp] theorem modeOn_hooks (g : ModeSt → ModeSt) (s : State) : (modeOn g s).hooks = s.hooks := rfl
@[simp] theorem modeOn_budget (g : ModeSt → ModeSt) (s : State) : (modeOn g s).budget = s.budget := rfl
@[simp] theorem modeOn_eng (g : ModeSt → ModeSt) (s : State) : (modeOn g s).eng = s.eng := rfl
@[simp] theorem modeOn_grafts (g : ModeSt → ModeSt) (s : State) : (modeOn g s).grafts = s.grafts := rfl
@[simp] theorem modeOn_dsp (g : ModeSt → ModeSt) (s : State) : (modeOn g s).dsp = s.dsp := rfl
@[simp] theorem modeOn_flt (g : ModeSt → ModeSt) (s : State) : (modeOn g s).flt = s.flt := rfl
@[simp] theorem modeOn_inj (g : ModeSt → ModeSt) (s : State) : (modeOn g s).inj = s.inj := rfl
@[simp] theorem modeOn_alm (g : ModeSt → ModeSt) (s : State) : (modeOn g s).alm = s.alm := rfl
@[simp] theorem modeOn_time (g : ModeSt → ModeSt) (s : State) : (modeOn g s).time = s.time := rfl
@[simp] theorem modeOn_smb (g : ModeSt → ModeSt) (s : State) : (modeOn g s).smb = s.smb := rfl
@[simp] theorem modeOn_tele (g : ModeSt → ModeSt) (s : State) : (modeOn g s).tele = s.tele := rfl
@[simp] theorem modeOn_tallies (g : ModeSt → ModeSt) (s : State) : (modeOn g s).tallies = s.tallies := rfl
@[simp] theorem modeOn_units (g : ModeSt → ModeSt) (s : State) : (modeOn g s).units = s.units := rfl
@[simp] theorem modeOn_out (g : ModeSt → ModeSt) (s : State) : (modeOn g s).out = s.out := rfl
@[simp] theorem modeOn_blocked (g : ModeSt → ModeSt) (s : State) : (modeOn g s).blocked = s.blocked := rfl
@[simp] theorem modeOn_free (g : ModeSt → ModeSt) (s : State) : (modeOn g s).free = s.free := rfl
@[simp] theorem modeOn_at_link (g : ModeSt → ModeSt) (s : State) (j : Nat) : (modeOn g s).link j = s.link j := rfl
@[simp] theorem modeOn_at_bus (g : ModeSt → ModeSt) (s : State) (j : Nat) : (modeOn g s).bus j = s.bus j := rfl
@[simp] theorem modeOn_at_guest (g : ModeSt → ModeSt) (s : State) (j : Nat) : (modeOn g s).guest j = s.guest j := rfl
@[simp] theorem modeOn_at_tc (g : ModeSt → ModeSt) (s : State) (j : Nat) : (modeOn g s).tc j = s.tc j := rfl
@[simp] theorem modeOn_at_pd (g : ModeSt → ModeSt) (s : State) (j : Nat) : (modeOn g s).pd j = s.pd j := rfl
@[simp] theorem modeOn_at_path (g : ModeSt → ModeSt) (s : State) (j : Nat) : (modeOn g s).path j = s.path j := rfl
@[simp] theorem modeOn_at_brg (g : ModeSt → ModeSt) (s : State) (j : Nat) : (modeOn g s).brg j = s.brg j := rfl
@[simp] theorem modeOn_at_cap (g : ModeSt → ModeSt) (s : State) (j : Nat) : (modeOn g s).cap j = s.cap j := rfl
@[simp] theorem modeOn_at_bed (g : ModeSt → ModeSt) (s : State) (j : Nat) : (modeOn g s).bed j = s.bed j := rfl
@[simp] theorem modeOn_at_hook (g : ModeSt → ModeSt) (s : State) (j : Nat) : (modeOn g s).hook j = s.hook j := rfl
@[simp] theorem modeOn_at_fn (g : ModeSt → ModeSt) (s : State) (j : Nat) : (modeOn g s).fn j = s.fn j := rfl
@[simp] theorem modeOn_at_slot (g : ModeSt → ModeSt) (s : State) (j : Nat) : (modeOn g s).slot j = s.slot j := rfl
@[simp] theorem modeOn_at_ep (g : ModeSt → ModeSt) (s : State) (j : Nat) : (modeOn g s).ep j = s.ep j := rfl
@[simp] theorem modeOn_at_graft (g : ModeSt → ModeSt) (s : State) (j : Nat) : (modeOn g s).graft j = s.graft j := rfl
@[simp] theorem modeOn_at_tally (g : ModeSt → ModeSt) (s : State) (j : Nat) : (modeOn g s).tally j = s.tally j := rfl

/-! ### eng -/

@[simp] theorem engOn_same (g : Eng → Eng) (s : State) : (engOn g s).eng = g s.eng := rfl
@[simp] theorem engOn_pending (g : Eng → Eng) (s : State) : (engOn g s).pending = s.pending := rfl
@[simp] theorem engOn_waiting (g : Eng → Eng) (s : State) : (engOn g s).waiting = s.waiting := rfl
@[simp] theorem engOn_aside (g : Eng → Eng) (s : State) : (engOn g s).aside = s.aside := rfl
@[simp] theorem engOn_ops (g : Eng → Eng) (s : State) : (engOn g s).ops = s.ops := rfl
@[simp] theorem engOn_regs (g : Eng → Eng) (s : State) : (engOn g s).regs = s.regs := rfl
@[simp] theorem engOn_lock (g : Eng → Eng) (s : State) : (engOn g s).lock = s.lock := rfl
@[simp] theorem engOn_blockedLast (g : Eng → Eng) (s : State) : (engOn g s).blockedLast = s.blockedLast := rfl
@[simp] theorem engOn_otp (g : Eng → Eng) (s : State) : (engOn g s).otp = s.otp := rfl
@[simp] theorem engOn_sup (g : Eng → Eng) (s : State) : (engOn g s).sup = s.sup := rfl
@[simp] theorem engOn_boot (g : Eng → Eng) (s : State) : (engOn g s).boot = s.boot := rfl
@[simp] theorem engOn_pcie (g : Eng → Eng) (s : State) : (engOn g s).pcie = s.pcie := rfl
@[simp] theorem engOn_fns (g : Eng → Eng) (s : State) : (engOn g s).fns = s.fns := rfl
@[simp] theorem engOn_slots (g : Eng → Eng) (s : State) : (engOn g s).slots = s.slots := rfl
@[simp] theorem engOn_eps (g : Eng → Eng) (s : State) : (engOn g s).eps = s.eps := rfl
@[simp] theorem engOn_short (g : Eng → Eng) (s : State) : (engOn g s).short = s.short := rfl
@[simp] theorem engOn_grants (g : Eng → Eng) (s : State) : (engOn g s).grants = s.grants := rfl
@[simp] theorem engOn_links (g : Eng → Eng) (s : State) : (engOn g s).links = s.links := rfl
@[simp] theorem engOn_buses (g : Eng → Eng) (s : State) : (engOn g s).buses = s.buses := rfl
@[simp] theorem engOn_guests (g : Eng → Eng) (s : State) : (engOn g s).guests = s.guests := rfl
@[simp] theorem engOn_tcs (g : Eng → Eng) (s : State) : (engOn g s).tcs = s.tcs := rfl
@[simp] theorem engOn_pds (g : Eng → Eng) (s : State) : (engOn g s).pds = s.pds := rfl
@[simp] theorem engOn_paths (g : Eng → Eng) (s : State) : (engOn g s).paths = s.paths := rfl
@[simp] theorem engOn_brgs (g : Eng → Eng) (s : State) : (engOn g s).brgs = s.brgs := rfl
@[simp] theorem engOn_caps (g : Eng → Eng) (s : State) : (engOn g s).caps = s.caps := rfl
@[simp] theorem engOn_capStarts (g : Eng → Eng) (s : State) : (engOn g s).capStarts = s.capStarts := rfl
@[simp] theorem engOn_beds (g : Eng → Eng) (s : State) : (engOn g s).beds = s.beds := rfl
@[simp] theorem engOn_hooks (g : Eng → Eng) (s : State) : (engOn g s).hooks = s.hooks := rfl
@[simp] theorem engOn_budget (g : Eng → Eng) (s : State) : (engOn g s).budget = s.budget := rfl
@[simp] theorem engOn_mode (g : Eng → Eng) (s : State) : (engOn g s).mode = s.mode := rfl
@[simp] theorem engOn_grafts (g : Eng → Eng) (s : State) : (engOn g s).grafts = s.grafts := rfl
@[simp] theorem engOn_dsp (g : Eng → Eng) (s : State) : (engOn g s).dsp = s.dsp := rfl
@[simp] theorem engOn_flt (g : Eng → Eng) (s : State) : (engOn g s).flt = s.flt := rfl
@[simp] theorem engOn_inj (g : Eng → Eng) (s : State) : (engOn g s).inj = s.inj := rfl
@[simp] theorem engOn_alm (g : Eng → Eng) (s : State) : (engOn g s).alm = s.alm := rfl
@[simp] theorem engOn_time (g : Eng → Eng) (s : State) : (engOn g s).time = s.time := rfl
@[simp] theorem engOn_smb (g : Eng → Eng) (s : State) : (engOn g s).smb = s.smb := rfl
@[simp] theorem engOn_tele (g : Eng → Eng) (s : State) : (engOn g s).tele = s.tele := rfl
@[simp] theorem engOn_tallies (g : Eng → Eng) (s : State) : (engOn g s).tallies = s.tallies := rfl
@[simp] theorem engOn_units (g : Eng → Eng) (s : State) : (engOn g s).units = s.units := rfl
@[simp] theorem engOn_out (g : Eng → Eng) (s : State) : (engOn g s).out = s.out := rfl
@[simp] theorem engOn_blocked (g : Eng → Eng) (s : State) : (engOn g s).blocked = s.blocked := rfl
@[simp] theorem engOn_free (g : Eng → Eng) (s : State) : (engOn g s).free = s.free := rfl
@[simp] theorem engOn_at_link (g : Eng → Eng) (s : State) (j : Nat) : (engOn g s).link j = s.link j := rfl
@[simp] theorem engOn_at_bus (g : Eng → Eng) (s : State) (j : Nat) : (engOn g s).bus j = s.bus j := rfl
@[simp] theorem engOn_at_guest (g : Eng → Eng) (s : State) (j : Nat) : (engOn g s).guest j = s.guest j := rfl
@[simp] theorem engOn_at_tc (g : Eng → Eng) (s : State) (j : Nat) : (engOn g s).tc j = s.tc j := rfl
@[simp] theorem engOn_at_pd (g : Eng → Eng) (s : State) (j : Nat) : (engOn g s).pd j = s.pd j := rfl
@[simp] theorem engOn_at_path (g : Eng → Eng) (s : State) (j : Nat) : (engOn g s).path j = s.path j := rfl
@[simp] theorem engOn_at_brg (g : Eng → Eng) (s : State) (j : Nat) : (engOn g s).brg j = s.brg j := rfl
@[simp] theorem engOn_at_cap (g : Eng → Eng) (s : State) (j : Nat) : (engOn g s).cap j = s.cap j := rfl
@[simp] theorem engOn_at_bed (g : Eng → Eng) (s : State) (j : Nat) : (engOn g s).bed j = s.bed j := rfl
@[simp] theorem engOn_at_hook (g : Eng → Eng) (s : State) (j : Nat) : (engOn g s).hook j = s.hook j := rfl
@[simp] theorem engOn_at_fn (g : Eng → Eng) (s : State) (j : Nat) : (engOn g s).fn j = s.fn j := rfl
@[simp] theorem engOn_at_slot (g : Eng → Eng) (s : State) (j : Nat) : (engOn g s).slot j = s.slot j := rfl
@[simp] theorem engOn_at_ep (g : Eng → Eng) (s : State) (j : Nat) : (engOn g s).ep j = s.ep j := rfl
@[simp] theorem engOn_at_graft (g : Eng → Eng) (s : State) (j : Nat) : (engOn g s).graft j = s.graft j := rfl
@[simp] theorem engOn_at_tally (g : Eng → Eng) (s : State) (j : Nat) : (engOn g s).tally j = s.tally j := rfl

/-! ### units -/

@[simp] theorem unitsOn_same (g : Units → Units) (s : State) : (unitsOn g s).units = g s.units := rfl
@[simp] theorem unitsOn_pending (g : Units → Units) (s : State) : (unitsOn g s).pending = s.pending := rfl
@[simp] theorem unitsOn_waiting (g : Units → Units) (s : State) : (unitsOn g s).waiting = s.waiting := rfl
@[simp] theorem unitsOn_aside (g : Units → Units) (s : State) : (unitsOn g s).aside = s.aside := rfl
@[simp] theorem unitsOn_ops (g : Units → Units) (s : State) : (unitsOn g s).ops = s.ops := rfl
@[simp] theorem unitsOn_regs (g : Units → Units) (s : State) : (unitsOn g s).regs = s.regs := rfl
@[simp] theorem unitsOn_lock (g : Units → Units) (s : State) : (unitsOn g s).lock = s.lock := rfl
@[simp] theorem unitsOn_blockedLast (g : Units → Units) (s : State) : (unitsOn g s).blockedLast = s.blockedLast := rfl
@[simp] theorem unitsOn_otp (g : Units → Units) (s : State) : (unitsOn g s).otp = s.otp := rfl
@[simp] theorem unitsOn_sup (g : Units → Units) (s : State) : (unitsOn g s).sup = s.sup := rfl
@[simp] theorem unitsOn_boot (g : Units → Units) (s : State) : (unitsOn g s).boot = s.boot := rfl
@[simp] theorem unitsOn_pcie (g : Units → Units) (s : State) : (unitsOn g s).pcie = s.pcie := rfl
@[simp] theorem unitsOn_fns (g : Units → Units) (s : State) : (unitsOn g s).fns = s.fns := rfl
@[simp] theorem unitsOn_slots (g : Units → Units) (s : State) : (unitsOn g s).slots = s.slots := rfl
@[simp] theorem unitsOn_eps (g : Units → Units) (s : State) : (unitsOn g s).eps = s.eps := rfl
@[simp] theorem unitsOn_short (g : Units → Units) (s : State) : (unitsOn g s).short = s.short := rfl
@[simp] theorem unitsOn_grants (g : Units → Units) (s : State) : (unitsOn g s).grants = s.grants := rfl
@[simp] theorem unitsOn_links (g : Units → Units) (s : State) : (unitsOn g s).links = s.links := rfl
@[simp] theorem unitsOn_buses (g : Units → Units) (s : State) : (unitsOn g s).buses = s.buses := rfl
@[simp] theorem unitsOn_guests (g : Units → Units) (s : State) : (unitsOn g s).guests = s.guests := rfl
@[simp] theorem unitsOn_tcs (g : Units → Units) (s : State) : (unitsOn g s).tcs = s.tcs := rfl
@[simp] theorem unitsOn_pds (g : Units → Units) (s : State) : (unitsOn g s).pds = s.pds := rfl
@[simp] theorem unitsOn_paths (g : Units → Units) (s : State) : (unitsOn g s).paths = s.paths := rfl
@[simp] theorem unitsOn_brgs (g : Units → Units) (s : State) : (unitsOn g s).brgs = s.brgs := rfl
@[simp] theorem unitsOn_caps (g : Units → Units) (s : State) : (unitsOn g s).caps = s.caps := rfl
@[simp] theorem unitsOn_capStarts (g : Units → Units) (s : State) : (unitsOn g s).capStarts = s.capStarts := rfl
@[simp] theorem unitsOn_beds (g : Units → Units) (s : State) : (unitsOn g s).beds = s.beds := rfl
@[simp] theorem unitsOn_hooks (g : Units → Units) (s : State) : (unitsOn g s).hooks = s.hooks := rfl
@[simp] theorem unitsOn_budget (g : Units → Units) (s : State) : (unitsOn g s).budget = s.budget := rfl
@[simp] theorem unitsOn_mode (g : Units → Units) (s : State) : (unitsOn g s).mode = s.mode := rfl
@[simp] theorem unitsOn_eng (g : Units → Units) (s : State) : (unitsOn g s).eng = s.eng := rfl
@[simp] theorem unitsOn_grafts (g : Units → Units) (s : State) : (unitsOn g s).grafts = s.grafts := rfl
@[simp] theorem unitsOn_dsp (g : Units → Units) (s : State) : (unitsOn g s).dsp = s.dsp := rfl
@[simp] theorem unitsOn_flt (g : Units → Units) (s : State) : (unitsOn g s).flt = s.flt := rfl
@[simp] theorem unitsOn_inj (g : Units → Units) (s : State) : (unitsOn g s).inj = s.inj := rfl
@[simp] theorem unitsOn_alm (g : Units → Units) (s : State) : (unitsOn g s).alm = s.alm := rfl
@[simp] theorem unitsOn_time (g : Units → Units) (s : State) : (unitsOn g s).time = s.time := rfl
@[simp] theorem unitsOn_smb (g : Units → Units) (s : State) : (unitsOn g s).smb = s.smb := rfl
@[simp] theorem unitsOn_tele (g : Units → Units) (s : State) : (unitsOn g s).tele = s.tele := rfl
@[simp] theorem unitsOn_tallies (g : Units → Units) (s : State) : (unitsOn g s).tallies = s.tallies := rfl
@[simp] theorem unitsOn_out (g : Units → Units) (s : State) : (unitsOn g s).out = s.out := rfl
@[simp] theorem unitsOn_blocked (g : Units → Units) (s : State) : (unitsOn g s).blocked = s.blocked := rfl
@[simp] theorem unitsOn_free (g : Units → Units) (s : State) : (unitsOn g s).free = s.free := rfl
@[simp] theorem unitsOn_at_link (g : Units → Units) (s : State) (j : Nat) : (unitsOn g s).link j = s.link j := rfl
@[simp] theorem unitsOn_at_bus (g : Units → Units) (s : State) (j : Nat) : (unitsOn g s).bus j = s.bus j := rfl
@[simp] theorem unitsOn_at_guest (g : Units → Units) (s : State) (j : Nat) : (unitsOn g s).guest j = s.guest j := rfl
@[simp] theorem unitsOn_at_tc (g : Units → Units) (s : State) (j : Nat) : (unitsOn g s).tc j = s.tc j := rfl
@[simp] theorem unitsOn_at_pd (g : Units → Units) (s : State) (j : Nat) : (unitsOn g s).pd j = s.pd j := rfl
@[simp] theorem unitsOn_at_path (g : Units → Units) (s : State) (j : Nat) : (unitsOn g s).path j = s.path j := rfl
@[simp] theorem unitsOn_at_brg (g : Units → Units) (s : State) (j : Nat) : (unitsOn g s).brg j = s.brg j := rfl
@[simp] theorem unitsOn_at_cap (g : Units → Units) (s : State) (j : Nat) : (unitsOn g s).cap j = s.cap j := rfl
@[simp] theorem unitsOn_at_bed (g : Units → Units) (s : State) (j : Nat) : (unitsOn g s).bed j = s.bed j := rfl
@[simp] theorem unitsOn_at_hook (g : Units → Units) (s : State) (j : Nat) : (unitsOn g s).hook j = s.hook j := rfl
@[simp] theorem unitsOn_at_fn (g : Units → Units) (s : State) (j : Nat) : (unitsOn g s).fn j = s.fn j := rfl
@[simp] theorem unitsOn_at_slot (g : Units → Units) (s : State) (j : Nat) : (unitsOn g s).slot j = s.slot j := rfl
@[simp] theorem unitsOn_at_ep (g : Units → Units) (s : State) (j : Nat) : (unitsOn g s).ep j = s.ep j := rfl
@[simp] theorem unitsOn_at_graft (g : Units → Units) (s : State) (j : Nat) : (unitsOn g s).graft j = s.graft j := rfl
@[simp] theorem unitsOn_at_tally (g : Units → Units) (s : State) (j : Nat) : (unitsOn g s).tally j = s.tally j := rfl

/-! ### time -/

@[simp] theorem timeOn_same (g : Time → Time) (s : State) : (timeOn g s).time = g s.time := rfl
@[simp] theorem timeOn_pending (g : Time → Time) (s : State) : (timeOn g s).pending = s.pending := rfl
@[simp] theorem timeOn_waiting (g : Time → Time) (s : State) : (timeOn g s).waiting = s.waiting := rfl
@[simp] theorem timeOn_aside (g : Time → Time) (s : State) : (timeOn g s).aside = s.aside := rfl
@[simp] theorem timeOn_ops (g : Time → Time) (s : State) : (timeOn g s).ops = s.ops := rfl
@[simp] theorem timeOn_regs (g : Time → Time) (s : State) : (timeOn g s).regs = s.regs := rfl
@[simp] theorem timeOn_lock (g : Time → Time) (s : State) : (timeOn g s).lock = s.lock := rfl
@[simp] theorem timeOn_blockedLast (g : Time → Time) (s : State) : (timeOn g s).blockedLast = s.blockedLast := rfl
@[simp] theorem timeOn_otp (g : Time → Time) (s : State) : (timeOn g s).otp = s.otp := rfl
@[simp] theorem timeOn_sup (g : Time → Time) (s : State) : (timeOn g s).sup = s.sup := rfl
@[simp] theorem timeOn_boot (g : Time → Time) (s : State) : (timeOn g s).boot = s.boot := rfl
@[simp] theorem timeOn_pcie (g : Time → Time) (s : State) : (timeOn g s).pcie = s.pcie := rfl
@[simp] theorem timeOn_fns (g : Time → Time) (s : State) : (timeOn g s).fns = s.fns := rfl
@[simp] theorem timeOn_slots (g : Time → Time) (s : State) : (timeOn g s).slots = s.slots := rfl
@[simp] theorem timeOn_eps (g : Time → Time) (s : State) : (timeOn g s).eps = s.eps := rfl
@[simp] theorem timeOn_short (g : Time → Time) (s : State) : (timeOn g s).short = s.short := rfl
@[simp] theorem timeOn_grants (g : Time → Time) (s : State) : (timeOn g s).grants = s.grants := rfl
@[simp] theorem timeOn_links (g : Time → Time) (s : State) : (timeOn g s).links = s.links := rfl
@[simp] theorem timeOn_buses (g : Time → Time) (s : State) : (timeOn g s).buses = s.buses := rfl
@[simp] theorem timeOn_guests (g : Time → Time) (s : State) : (timeOn g s).guests = s.guests := rfl
@[simp] theorem timeOn_tcs (g : Time → Time) (s : State) : (timeOn g s).tcs = s.tcs := rfl
@[simp] theorem timeOn_pds (g : Time → Time) (s : State) : (timeOn g s).pds = s.pds := rfl
@[simp] theorem timeOn_paths (g : Time → Time) (s : State) : (timeOn g s).paths = s.paths := rfl
@[simp] theorem timeOn_brgs (g : Time → Time) (s : State) : (timeOn g s).brgs = s.brgs := rfl
@[simp] theorem timeOn_caps (g : Time → Time) (s : State) : (timeOn g s).caps = s.caps := rfl
@[simp] theorem timeOn_capStarts (g : Time → Time) (s : State) : (timeOn g s).capStarts = s.capStarts := rfl
@[simp] theorem timeOn_beds (g : Time → Time) (s : State) : (timeOn g s).beds = s.beds := rfl
@[simp] theorem timeOn_hooks (g : Time → Time) (s : State) : (timeOn g s).hooks = s.hooks := rfl
@[simp] theorem timeOn_budget (g : Time → Time) (s : State) : (timeOn g s).budget = s.budget := rfl
@[simp] theorem timeOn_mode (g : Time → Time) (s : State) : (timeOn g s).mode = s.mode := rfl
@[simp] theorem timeOn_eng (g : Time → Time) (s : State) : (timeOn g s).eng = s.eng := rfl
@[simp] theorem timeOn_grafts (g : Time → Time) (s : State) : (timeOn g s).grafts = s.grafts := rfl
@[simp] theorem timeOn_dsp (g : Time → Time) (s : State) : (timeOn g s).dsp = s.dsp := rfl
@[simp] theorem timeOn_flt (g : Time → Time) (s : State) : (timeOn g s).flt = s.flt := rfl
@[simp] theorem timeOn_inj (g : Time → Time) (s : State) : (timeOn g s).inj = s.inj := rfl
@[simp] theorem timeOn_alm (g : Time → Time) (s : State) : (timeOn g s).alm = s.alm := rfl
@[simp] theorem timeOn_smb (g : Time → Time) (s : State) : (timeOn g s).smb = s.smb := rfl
@[simp] theorem timeOn_tele (g : Time → Time) (s : State) : (timeOn g s).tele = s.tele := rfl
@[simp] theorem timeOn_tallies (g : Time → Time) (s : State) : (timeOn g s).tallies = s.tallies := rfl
@[simp] theorem timeOn_units (g : Time → Time) (s : State) : (timeOn g s).units = s.units := rfl
@[simp] theorem timeOn_out (g : Time → Time) (s : State) : (timeOn g s).out = s.out := rfl
@[simp] theorem timeOn_blocked (g : Time → Time) (s : State) : (timeOn g s).blocked = s.blocked := rfl
@[simp] theorem timeOn_free (g : Time → Time) (s : State) : (timeOn g s).free = s.free := rfl
@[simp] theorem timeOn_at_link (g : Time → Time) (s : State) (j : Nat) : (timeOn g s).link j = s.link j := rfl
@[simp] theorem timeOn_at_bus (g : Time → Time) (s : State) (j : Nat) : (timeOn g s).bus j = s.bus j := rfl
@[simp] theorem timeOn_at_guest (g : Time → Time) (s : State) (j : Nat) : (timeOn g s).guest j = s.guest j := rfl
@[simp] theorem timeOn_at_tc (g : Time → Time) (s : State) (j : Nat) : (timeOn g s).tc j = s.tc j := rfl
@[simp] theorem timeOn_at_pd (g : Time → Time) (s : State) (j : Nat) : (timeOn g s).pd j = s.pd j := rfl
@[simp] theorem timeOn_at_path (g : Time → Time) (s : State) (j : Nat) : (timeOn g s).path j = s.path j := rfl
@[simp] theorem timeOn_at_brg (g : Time → Time) (s : State) (j : Nat) : (timeOn g s).brg j = s.brg j := rfl
@[simp] theorem timeOn_at_cap (g : Time → Time) (s : State) (j : Nat) : (timeOn g s).cap j = s.cap j := rfl
@[simp] theorem timeOn_at_bed (g : Time → Time) (s : State) (j : Nat) : (timeOn g s).bed j = s.bed j := rfl
@[simp] theorem timeOn_at_hook (g : Time → Time) (s : State) (j : Nat) : (timeOn g s).hook j = s.hook j := rfl
@[simp] theorem timeOn_at_fn (g : Time → Time) (s : State) (j : Nat) : (timeOn g s).fn j = s.fn j := rfl
@[simp] theorem timeOn_at_slot (g : Time → Time) (s : State) (j : Nat) : (timeOn g s).slot j = s.slot j := rfl
@[simp] theorem timeOn_at_ep (g : Time → Time) (s : State) (j : Nat) : (timeOn g s).ep j = s.ep j := rfl
@[simp] theorem timeOn_at_graft (g : Time → Time) (s : State) (j : Nat) : (timeOn g s).graft j = s.graft j := rfl
@[simp] theorem timeOn_at_tally (g : Time → Time) (s : State) (j : Nat) : (timeOn g s).tally j = s.tally j := rfl

/-! ### out, regs -/

@[simp] theorem emit_pending (s : State) (x : Out) : (s.emit x).pending = s.pending := rfl
@[simp] theorem emit_waiting (s : State) (x : Out) : (s.emit x).waiting = s.waiting := rfl
@[simp] theorem emit_aside (s : State) (x : Out) : (s.emit x).aside = s.aside := rfl
@[simp] theorem emit_ops (s : State) (x : Out) : (s.emit x).ops = s.ops := rfl
@[simp] theorem emit_regs (s : State) (x : Out) : (s.emit x).regs = s.regs := rfl
@[simp] theorem emit_lock (s : State) (x : Out) : (s.emit x).lock = s.lock := rfl
@[simp] theorem emit_blockedLast (s : State) (x : Out) : (s.emit x).blockedLast = s.blockedLast := rfl
@[simp] theorem emit_otp (s : State) (x : Out) : (s.emit x).otp = s.otp := rfl
@[simp] theorem emit_sup (s : State) (x : Out) : (s.emit x).sup = s.sup := rfl
@[simp] theorem emit_boot (s : State) (x : Out) : (s.emit x).boot = s.boot := rfl
@[simp] theorem emit_pcie (s : State) (x : Out) : (s.emit x).pcie = s.pcie := rfl
@[simp] theorem emit_fns (s : State) (x : Out) : (s.emit x).fns = s.fns := rfl
@[simp] theorem emit_slots (s : State) (x : Out) : (s.emit x).slots = s.slots := rfl
@[simp] theorem emit_eps (s : State) (x : Out) : (s.emit x).eps = s.eps := rfl
@[simp] theorem emit_short (s : State) (x : Out) : (s.emit x).short = s.short := rfl
@[simp] theorem emit_grants (s : State) (x : Out) : (s.emit x).grants = s.grants := rfl
@[simp] theorem emit_links (s : State) (x : Out) : (s.emit x).links = s.links := rfl
@[simp] theorem emit_buses (s : State) (x : Out) : (s.emit x).buses = s.buses := rfl
@[simp] theorem emit_guests (s : State) (x : Out) : (s.emit x).guests = s.guests := rfl
@[simp] theorem emit_tcs (s : State) (x : Out) : (s.emit x).tcs = s.tcs := rfl
@[simp] theorem emit_pds (s : State) (x : Out) : (s.emit x).pds = s.pds := rfl
@[simp] theorem emit_paths (s : State) (x : Out) : (s.emit x).paths = s.paths := rfl
@[simp] theorem emit_brgs (s : State) (x : Out) : (s.emit x).brgs = s.brgs := rfl
@[simp] theorem emit_caps (s : State) (x : Out) : (s.emit x).caps = s.caps := rfl
@[simp] theorem emit_capStarts (s : State) (x : Out) : (s.emit x).capStarts = s.capStarts := rfl
@[simp] theorem emit_beds (s : State) (x : Out) : (s.emit x).beds = s.beds := rfl
@[simp] theorem emit_hooks (s : State) (x : Out) : (s.emit x).hooks = s.hooks := rfl
@[simp] theorem emit_budget (s : State) (x : Out) : (s.emit x).budget = s.budget := rfl
@[simp] theorem emit_mode (s : State) (x : Out) : (s.emit x).mode = s.mode := rfl
@[simp] theorem emit_eng (s : State) (x : Out) : (s.emit x).eng = s.eng := rfl
@[simp] theorem emit_grafts (s : State) (x : Out) : (s.emit x).grafts = s.grafts := rfl
@[simp] theorem emit_dsp (s : State) (x : Out) : (s.emit x).dsp = s.dsp := rfl
@[simp] theorem emit_flt (s : State) (x : Out) : (s.emit x).flt = s.flt := rfl
@[simp] theorem emit_inj (s : State) (x : Out) : (s.emit x).inj = s.inj := rfl
@[simp] theorem emit_alm (s : State) (x : Out) : (s.emit x).alm = s.alm := rfl
@[simp] theorem emit_time (s : State) (x : Out) : (s.emit x).time = s.time := rfl
@[simp] theorem emit_smb (s : State) (x : Out) : (s.emit x).smb = s.smb := rfl
@[simp] theorem emit_tele (s : State) (x : Out) : (s.emit x).tele = s.tele := rfl
@[simp] theorem emit_tallies (s : State) (x : Out) : (s.emit x).tallies = s.tallies := rfl
@[simp] theorem emit_units (s : State) (x : Out) : (s.emit x).units = s.units := rfl
@[simp] theorem emit_blocked (s : State) (x : Out) : (s.emit x).blocked = s.blocked := rfl
@[simp] theorem emit_free (s : State) (x : Out) : (s.emit x).free = s.free := rfl
@[simp] theorem emit_same (s : State) (x : Out) : (s.emit x).out = if s.ownWrite x then s.out else x :: s.out := rfl
/-- Only a write that carries its address can be one to a window of the part. -/
@[simp] theorem ownWrite_of_noAddr (s : State) (x : Out) (h : x.addr = none) : s.ownWrite x = false := by simp [State.ownWrite, h]
@[simp] theorem emit_at_link (s : State) (x : Out) (j : Nat) : (s.emit x).link j = s.link j := rfl
@[simp] theorem emit_at_bus (s : State) (x : Out) (j : Nat) : (s.emit x).bus j = s.bus j := rfl
@[simp] theorem emit_at_guest (s : State) (x : Out) (j : Nat) : (s.emit x).guest j = s.guest j := rfl
@[simp] theorem emit_at_tc (s : State) (x : Out) (j : Nat) : (s.emit x).tc j = s.tc j := rfl
@[simp] theorem emit_at_pd (s : State) (x : Out) (j : Nat) : (s.emit x).pd j = s.pd j := rfl
@[simp] theorem emit_at_path (s : State) (x : Out) (j : Nat) : (s.emit x).path j = s.path j := rfl
@[simp] theorem emit_at_brg (s : State) (x : Out) (j : Nat) : (s.emit x).brg j = s.brg j := rfl
@[simp] theorem emit_at_cap (s : State) (x : Out) (j : Nat) : (s.emit x).cap j = s.cap j := rfl
@[simp] theorem emit_at_bed (s : State) (x : Out) (j : Nat) : (s.emit x).bed j = s.bed j := rfl
@[simp] theorem emit_at_hook (s : State) (x : Out) (j : Nat) : (s.emit x).hook j = s.hook j := rfl
@[simp] theorem emit_at_fn (s : State) (x : Out) (j : Nat) : (s.emit x).fn j = s.fn j := rfl
@[simp] theorem emit_at_slot (s : State) (x : Out) (j : Nat) : (s.emit x).slot j = s.slot j := rfl
@[simp] theorem emit_at_ep (s : State) (x : Out) (j : Nat) : (s.emit x).ep j = s.ep j := rfl
@[simp] theorem emit_at_graft (s : State) (x : Out) (j : Nat) : (s.emit x).graft j = s.graft j := rfl
@[simp] theorem emit_at_tally (s : State) (x : Out) (j : Nat) : (s.emit x).tally j = s.tally j := rfl
@[simp] theorem rput_pending (s : State) (off v : Nat) : (s.rput off v).pending = s.pending := rfl
@[simp] theorem rput_waiting (s : State) (off v : Nat) : (s.rput off v).waiting = s.waiting := rfl
@[simp] theorem rput_aside (s : State) (off v : Nat) : (s.rput off v).aside = s.aside := rfl
@[simp] theorem rput_ops (s : State) (off v : Nat) : (s.rput off v).ops = s.ops := rfl
@[simp] theorem rput_lock (s : State) (off v : Nat) : (s.rput off v).lock = s.lock := rfl
@[simp] theorem rput_blockedLast (s : State) (off v : Nat) : (s.rput off v).blockedLast = s.blockedLast := rfl
@[simp] theorem rput_otp (s : State) (off v : Nat) : (s.rput off v).otp = s.otp := rfl
@[simp] theorem rput_sup (s : State) (off v : Nat) : (s.rput off v).sup = s.sup := rfl
@[simp] theorem rput_boot (s : State) (off v : Nat) : (s.rput off v).boot = s.boot := rfl
@[simp] theorem rput_pcie (s : State) (off v : Nat) : (s.rput off v).pcie = s.pcie := rfl
@[simp] theorem rput_fns (s : State) (off v : Nat) : (s.rput off v).fns = s.fns := rfl
@[simp] theorem rput_slots (s : State) (off v : Nat) : (s.rput off v).slots = s.slots := rfl
@[simp] theorem rput_eps (s : State) (off v : Nat) : (s.rput off v).eps = s.eps := rfl
@[simp] theorem rput_short (s : State) (off v : Nat) : (s.rput off v).short = s.short := rfl
@[simp] theorem rput_grants (s : State) (off v : Nat) : (s.rput off v).grants = s.grants := rfl
@[simp] theorem rput_links (s : State) (off v : Nat) : (s.rput off v).links = s.links := rfl
@[simp] theorem rput_buses (s : State) (off v : Nat) : (s.rput off v).buses = s.buses := rfl
@[simp] theorem rput_guests (s : State) (off v : Nat) : (s.rput off v).guests = s.guests := rfl
@[simp] theorem rput_tcs (s : State) (off v : Nat) : (s.rput off v).tcs = s.tcs := rfl
@[simp] theorem rput_pds (s : State) (off v : Nat) : (s.rput off v).pds = s.pds := rfl
@[simp] theorem rput_paths (s : State) (off v : Nat) : (s.rput off v).paths = s.paths := rfl
@[simp] theorem rput_brgs (s : State) (off v : Nat) : (s.rput off v).brgs = s.brgs := rfl
@[simp] theorem rput_caps (s : State) (off v : Nat) : (s.rput off v).caps = s.caps := rfl
@[simp] theorem rput_capStarts (s : State) (off v : Nat) : (s.rput off v).capStarts = s.capStarts := rfl
@[simp] theorem rput_beds (s : State) (off v : Nat) : (s.rput off v).beds = s.beds := rfl
@[simp] theorem rput_hooks (s : State) (off v : Nat) : (s.rput off v).hooks = s.hooks := rfl
@[simp] theorem rput_budget (s : State) (off v : Nat) : (s.rput off v).budget = s.budget := rfl
@[simp] theorem rput_mode (s : State) (off v : Nat) : (s.rput off v).mode = s.mode := rfl
@[simp] theorem rput_eng (s : State) (off v : Nat) : (s.rput off v).eng = s.eng := rfl
@[simp] theorem rput_grafts (s : State) (off v : Nat) : (s.rput off v).grafts = s.grafts := rfl
@[simp] theorem rput_dsp (s : State) (off v : Nat) : (s.rput off v).dsp = s.dsp := rfl
@[simp] theorem rput_flt (s : State) (off v : Nat) : (s.rput off v).flt = s.flt := rfl
@[simp] theorem rput_inj (s : State) (off v : Nat) : (s.rput off v).inj = s.inj := rfl
@[simp] theorem rput_alm (s : State) (off v : Nat) : (s.rput off v).alm = s.alm := rfl
@[simp] theorem rput_time (s : State) (off v : Nat) : (s.rput off v).time = s.time := rfl
@[simp] theorem rput_smb (s : State) (off v : Nat) : (s.rput off v).smb = s.smb := rfl
@[simp] theorem rput_tele (s : State) (off v : Nat) : (s.rput off v).tele = s.tele := rfl
@[simp] theorem rput_tallies (s : State) (off v : Nat) : (s.rput off v).tallies = s.tallies := rfl
@[simp] theorem rput_units (s : State) (off v : Nat) : (s.rput off v).units = s.units := rfl
@[simp] theorem rput_out (s : State) (off v : Nat) : (s.rput off v).out = s.out := rfl
@[simp] theorem rput_blocked (s : State) (off v : Nat) : (s.rput off v).blocked = s.blocked := rfl
@[simp] theorem rput_free (s : State) (off v : Nat) : (s.rput off v).free = s.free := rfl
@[simp] theorem rput_at_link (s : State) (off v j : Nat) : (s.rput off v).link j = s.link j := rfl
@[simp] theorem rput_at_bus (s : State) (off v j : Nat) : (s.rput off v).bus j = s.bus j := rfl
@[simp] theorem rput_at_guest (s : State) (off v j : Nat) : (s.rput off v).guest j = s.guest j := rfl
@[simp] theorem rput_at_tc (s : State) (off v j : Nat) : (s.rput off v).tc j = s.tc j := rfl
@[simp] theorem rput_at_pd (s : State) (off v j : Nat) : (s.rput off v).pd j = s.pd j := rfl
@[simp] theorem rput_at_path (s : State) (off v j : Nat) : (s.rput off v).path j = s.path j := rfl
@[simp] theorem rput_at_brg (s : State) (off v j : Nat) : (s.rput off v).brg j = s.brg j := rfl
@[simp] theorem rput_at_cap (s : State) (off v j : Nat) : (s.rput off v).cap j = s.cap j := rfl
@[simp] theorem rput_at_bed (s : State) (off v j : Nat) : (s.rput off v).bed j = s.bed j := rfl
@[simp] theorem rput_at_hook (s : State) (off v j : Nat) : (s.rput off v).hook j = s.hook j := rfl
@[simp] theorem rput_at_fn (s : State) (off v j : Nat) : (s.rput off v).fn j = s.fn j := rfl
@[simp] theorem rput_at_slot (s : State) (off v j : Nat) : (s.rput off v).slot j = s.slot j := rfl
@[simp] theorem rput_at_ep (s : State) (off v j : Nat) : (s.rput off v).ep j = s.ep j := rfl
@[simp] theorem rput_at_graft (s : State) (off v j : Nat) : (s.rput off v).graft j = s.graft j := rfl
@[simp] theorem rput_at_tally (s : State) (off v j : Nat) : (s.rput off v).tally j = s.tally j := rfl

end Sys2Proof.Machine
end

