-- ==== Sys2Proof/Laws/Events.lean ====
section
/-! SUPPORT. What posting an event record does when its ring has room, and what starting a command and committing its bundle do. -/

namespace Sys2Proof.Safety

open Sys2Proof Sys2Proof.Machine

/-! ### Registers -/

theorem rget_rput_same (s : State) (off v : Nat) : (s.rput off v).rget off = v := tget_tput_same _ _ _ _
theorem rget_rput_ne (s : State) (off j v : Nat) (h : j ≠ off) : (s.rput off v).rget j = s.rget j := by
  unfold State.rget State.rput
  have : ∀ (d d' : Nat) (t : Tbl Nat), tget d (tput d' t off v) j = tget d t j := by
    intro d d' t
    unfold tput
    split
    · exact tget_terase_ne d t off j h
    · rw [tget_tins_ne d _ off j v h, tget_terase_ne d t off j h]
  exact this _ _ _
theorem rget_rsAdd_ne (s : State) (off lo w n j : Nat) (h : j ≠ off) : (s.rsAdd off lo w n).rget j = s.rget j := rget_rput_ne _ _ _ _ h
theorem rget_of_regs {s t : State} (h : t.regs = s.regs) (off : Nat) : t.rget off = s.rget off := by unfold State.rget; rw [h]
theorem evrReg_ne (f r f' : Nat) (hf : f < 129) (hr : r < 256) (hf' : f' < 129) : evrReg f r 8 ≠ fnReg f' 0x18 := by
  unfold evrReg fnReg; omega

/-! ### What an event ring is read through -/

theorem evrEnable_of_regs {s t : State} (h : t.regs = s.regs) (f r : Nat) : t.evrEnable f r = s.evrEnable f r := by
  unfold State.evrEnable; rw [rget_of_regs h]
theorem evrSize_of_regs {s t : State} (h : t.regs = s.regs) (f r : Nat) : t.evrSize f r = s.evrSize f r := by
  unfold State.evrSize State.fld; rw [rget_of_regs h]
theorem evr_of_fns {s t : State} (h : t.fns = s.fns) (f r : Nat) : t.evr f r = s.evr f r := by unfold State.evr State.fn; rw [h]
theorem cfgFn_of_pcie {s t : State} (h : t.pcie = s.pcie) (f : Nat) : t.cfgFn f = s.cfgFn f := by unfold State.cfgFn; rw [h]
theorem evrOn_same (s : State) (f r : Nat) (g : EvRing → EvRing) : (s.evrOn f r g).evr f r = g (s.evr f r) := by
  simp [State.evrOn, State.evr]
theorem evrOn_ne (s : State) (f r f' r' : Nat) (g : EvRing → EvRing) (h : f' ≠ f ∨ r' ≠ r) : (s.evrOn f r g).evr f' r' = s.evr f' r' := by
  unfold State.evrOn State.evr
  by_cases hf : f' = f
  · subst hf
    have hr : r' ≠ r := by simpa using h
    rw [fnOn_same]; exact tget_tput_ne _ _ _ _ _ hr
  · rw [fnOn_ne _ _ _ _ hf]

/-! ### Room -/

theorem Room.mono {m n : Nat} {s : State} (h : Room n s) (hm : m ≤ n) : Room m s :=
  fun f r hf hr he hd => ⟨(h f r hf hr he hd).1, Nat.le_trans hm (h f r hf hr he hd).2⟩
/-- The room of the rings is read through the registers, the functions' run state and configuration space. -/
theorem room_of_parts {n : Nat} {s t : State} (hr : t.regs = s.regs) (hf : t.fns = s.fns) (hp : t.pcie = s.pcie) (h : Room n s) : Room n t := by
  intro f r hf' hr' he hd
  rw [evrEnable_of_regs hr] at he
  rw [cfgFn_of_pcie hp] at hd
  have := h f r hf' hr' he hd
  unfold evrFree at *
  rw [evr_of_fns hf, evrSize_of_regs hr]
  exact this
theorem room_of_outside {n m : Nat} {s t : State} (e : t.outside m = s.outside m) (hm : m &&& 61572651158544 = 0) (h : Room n s) : Room n t := by
  have b : ∀ i, Nat.testBit 61572651158544 i = true → m.testBit i = false := by
    intro i hi
    have := congrArg (fun x => Nat.testBit x i) hm
    simpa [Nat.testBit_land, hi] using this
  exact room_of_parts (eq_regs_of_outside e (b 4 rfl) (b 45 rfl)) (eq_fns_of_outside e (b 11 rfl) (b 44 rfl))
    (eq_pcie_of_outside e (b 10 rfl) (b 43 rfl)) h

theorem room_free {n : Nat} {s : State} {f r : Nat} (h : n + 1 ≤ evrFree s f r) : s.evrRoom f r = true := by
  unfold State.evrRoom
  simp only [bne_iff_ne, ne_eq]
  intro e
  unfold evrFree sub32 at h
  rw [← e] at h
  have hlt : (s.evr f r).w < two32 := by rw [e]; exact Nat.mod_lt _ (by decide)
  rw [Nat.mod_eq_of_lt hlt] at h
  have : (s.evr f r).w + two32 - (s.evr f r).w = two32 := by omega
  rw [this, Nat.mod_self] at h
  omega
theorem free_step (a w n : Nat) (h : n + 1 ≤ sub32 a w) : n ≤ sub32 a (add32 w 1) := by
  unfold sub32 add32 two32 at *
  omega

/-! ### One record -/

theorem msixSend_keeps (f v : Nat) (s : State) : (msixSend f v s).regs = s.regs ∧ (msixSend f v s).fns = s.fns ∧ (msixSend f v s).blocked = s.blocked
    ∧ (msixSend f v s).pcie.fns = s.pcie.fns ∧ (msixSend f v s).pcie.flr = s.pcie.flr ∧ ∃ l, (msixSend f v s).out = l ++ s.out := by
  unfold msixSend
  dsimp only
  split
  · exact ⟨rfl, rfl, rfl, rfl, rfl, [.msix f v], rfl⟩
  · exact ⟨rfl, rfl, rfl, rfl, rfl, [], rfl⟩
theorem evrSignal_keeps (f r : Nat) (s : State) : (evrSignal f r s).regs = s.regs ∧ (evrSignal f r s).blocked = s.blocked
    ∧ (evrSignal f r s).pcie.fns = s.pcie.fns ∧ (evrSignal f r s).pcie.flr = s.pcie.flr
    ∧ (∀ f' r', ((evrSignal f r s).evr f' r').w = (s.evr f' r').w ∧ ((evrSignal f r s).evr f' r').c = (s.evr f' r').c
        ∧ ((evrSignal f r s).evr f' r').wait = (s.evr f' r').wait)
    ∧ ∃ l, (evrSignal f r s).out = l ++ s.out := by
  have key : ∀ (g : EvRing → EvRing), (∀ x, (g x).w = x.w ∧ (g x).c = x.c ∧ (g x).wait = x.wait) → ∀ f' r',
      ((s.evrOn f r g).evr f' r').w = (s.evr f' r').w ∧ ((s.evrOn f r g).evr f' r').c = (s.evr f' r').c
        ∧ ((s.evrOn f r g).evr f' r').wait = (s.evr f' r').wait := by
    intro g hg f' r'
    by_cases h : f' = f ∧ r' = r
    · obtain ⟨rfl, rfl⟩ := h
      rw [evrOn_same]; exact hg _
    · rw [evrOn_ne _ _ _ _ _ _ (by tauto)]; exact ⟨rfl, rfl, rfl⟩
  unfold evrSignal
  split
  · exact ⟨rfl, rfl, rfl, rfl, key _ (fun x => ⟨rfl, rfl, rfl⟩), [], rfl⟩
  · obtain ⟨h1, h2, h3, h4, h5, h6⟩ := msixSend_keeps f (s.evrVec f r) (s.evrOn f r (fun e => { e with timer := true }))
    refine ⟨h1, h3, h4, h5, fun f' r' => ?_, h6⟩
    rw [evr_of_fns h2]
    exact key (fun e => { e with timer := true }) (fun x => ⟨rfl, rfl, rfl⟩) f' r'
/-- Posting a record when its ring has room: nothing blocks, one position is used, and every other ring keeps its room. -/
theorem post_room {n : Nat} {s : State} (f r : Nat) (e : EvRec) (hf : f < 129) (hr : r < 256) (h : Room (n + 1) s) :
    (post f r e s).blocked = s.blocked ∧ Room n (post f r e s) := by
  unfold post
  split
  · exact ⟨rfl, h.mono (Nat.le_succ n)⟩
  split
  · unfold unsentAdd
    refine ⟨rfl, ?_⟩
    intro f' r' hf' hr' he hd
    have hne := evrReg_ne f' r' f hf' hr' hf
    have hg : (s.rsAdd (fnReg f 0x18) 16 16 1).rget (evrReg f' r' 8) = s.rget (evrReg f' r' 8) := rget_rsAdd_ne _ _ _ _ _ _ hne
    have he' : s.evrEnable f' r' = true := by unfold State.evrEnable at he ⊢; rwa [hg] at he
    have := h f' r' hf' hr' he' hd
    refine ⟨this.1, ?_⟩
    unfold evrFree State.evrSize State.fld at *
    rw [hg]
    exact Nat.le_trans (Nat.le_succ n) this.2
  next hen =>
  split
  · next hd3 =>
    have main : ∀ u : State, u.regs = s.regs → u.fns = s.fns → u.pcie = s.pcie → u.blocked = s.blocked →
        (u.evrOn f r (fun x => { x with wait := x.wait ++ [e] })).blocked = s.blocked ∧ Room n (u.evrOn f r (fun x => { x with wait := x.wait ++ [e] })) := by
      intro u h1 h2 h3 h4
      refine ⟨h4, ?_⟩
      intro f' r' hf' hr' he hd
      have hff : f' ≠ f := by
        rintro rfl
        have : (u.evrOn f' r (fun x => { x with wait := x.wait ++ [e] })).cfgFn f' = s.cfgFn f' := cfgFn_of_pcie (show _ = s.pcie from h3) f'
        rw [this] at hd
        rw [hd] at hd3; cases hd3
      have he' : s.evrEnable f' r' = true := by rwa [evrEnable_of_regs (show (u.evrOn f r _).regs = s.regs from h1)] at he
      have hd' : (s.cfgFn f').d3 = false := by rwa [cfgFn_of_pcie (show (u.evrOn f r _).pcie = s.pcie from h3)] at hd
      have := h f' r' hf' hr' he' hd'
      unfold evrFree at *
      rw [evrOn_ne _ _ _ _ _ _ (Or.inl hff), evrSize_of_regs (show (u.evrOn f r _).regs = s.regs from h1), evr_of_fns h2]
      exact ⟨this.1, Nat.le_trans (Nat.le_succ n) this.2⟩
    dsimp only
    split
    · exact main (s.emit (.pme f)) rfl rfl rfl rfl
    · exact main s rfl rfl rfl rfl
  next hd3 =>
  have hen' : s.evrEnable f r = true := by simpa using hen
  have hd' : (s.cfgFn f).d3 = false := by simpa using hd3
  obtain ⟨hw, hfree⟩ := h f r hf hr hen' hd'
  have hroom := room_free hfree
  rw [if_pos (by simp [hw, hroom])]
  unfold writeRec
  dsimp only
  generalize hu : (s.emit (Out.record f r ((s.evr f r).w % s.evrSize f r) ((s.evr f r).w / s.evrSize f r % 2 == 0)
    { ty := e.ty, ptr := e.ptr, count := e.count, code := e.code, cookie := e.cookie, time := s.now, detail := e.detail, ep := e.ep,
      src := e.src })) = u
  have hu1 : u.regs = s.regs := by rw [← hu]; rfl
  have hu2 : u.fns = s.fns := by rw [← hu]; rfl
  have hu3 : u.pcie = s.pcie := by rw [← hu]; rfl
  have hu4 : u.blocked = s.blocked := by rw [← hu]; rfl
  obtain ⟨k1, k2, k3, k4, k5, k6⟩ := evrSignal_keeps f r (u.evrOn f r (fun x => { x with w := add32 x.w 1 }))
  refine ⟨k2.trans hu4, ?_⟩
  intro f' r' hf' hr' he hd
  have hregs : (evrSignal f r (u.evrOn f r (fun x => { x with w := add32 x.w 1 }))).regs = s.regs := k1.trans hu1
  rw [evrEnable_of_regs hregs] at he
  have hd2 : (s.cfgFn f').d3 = false := by
    have : (evrSignal f r (u.evrOn f r (fun x => { x with w := add32 x.w 1 }))).cfgFn f' = s.cfgFn f' := by
      unfold State.cfgFn; rw [k3]; exact congrArg (fun p => tget {} p.fns f') hu3
    rwa [this] at hd
  obtain ⟨g1, g2⟩ := h f' r' hf' hr' he hd2
  obtain ⟨q1, q2, q3⟩ := k5 f' r'
  unfold evrFree
  rw [q1, q2, q3, evrSize_of_regs hregs]
  by_cases hx : f' = f ∧ r' = r
  · obtain ⟨rfl, rfl⟩ := hx
    rw [evrOn_same, evr_of_fns hu2]
    exact ⟨g1, free_step _ _ _ g2⟩
  · rw [evrOn_ne _ _ _ _ _ _ (by tauto), evr_of_fns hu2]
    exact ⟨g1, Nat.le_trans (Nat.le_succ n) g2⟩

/-- The record of an enabled ring of a function in D0 that has room is written. -/
theorem post_out {n : Nat} {s : State} (f r : Nat) (e : EvRec) (hf : f < 129) (hr : r < 256) (h : Room (n + 1) s) (hfl : s.pcie.flr.contains f = false)
    (hen : s.evrEnable f r = true) (hd : (s.cfgFn f).d3 = false) :
    ∃ pos gen, Out.record f r pos gen { e with time := s.now } ∈ (post f r e s).out := by
  obtain ⟨hw, hfree⟩ := h f r hf hr hen hd
  have hroom := room_free hfree
  unfold post
  rw [if_neg (by rw [hfl]; decide), if_neg (by simp [hen]), if_neg (by simp [hd]), if_pos (by simp [hw, hroom])]
  unfold writeRec
  dsimp only
  obtain ⟨-, -, -, -, -, l, hl⟩ := evrSignal_keeps f r ((s.emit (Out.record f r ((s.evr f r).w % s.evrSize f r)
    ((s.evr f r).w / s.evrSize f r % 2 == 0) { e with time := s.now })).evrOn f r (fun x => { x with w := add32 x.w 1 }))
  refine ⟨(s.evr f r).w % s.evrSize f r, (s.evr f r).w / s.evrSize f r % 2 == 0, ?_⟩
  rw [hl]
  exact List.mem_append_right _ (List.mem_cons_self ..)

/-! ### Commands -/

theorem cmdDone_room {n : Nat} {s : State} (h : CmdHdr) (opcode code result src : Nat) (hr : Room (n + 1) s) :
    (cmdDone h opcode code result src s).blocked = s.blocked ∧ Room n (cmdDone h opcode code result src s) :=
  post_room _ _ _ h.fn.isLt (by decide) hr
theorem cmdDone_answered {n : Nat} {s₀ s : State} (h : CmdHdr) (opcode code result src : Nat) (hr : Room (n + 1) s) (hregs : s.regs = s₀.regs)
    (hp : s.pcie = s₀.pcie) (hfl : s₀.pcie.flr.contains h.fn.val = false) : Answered h opcode code result src s₀ (cmdDone h opcode code result src s) := by
  intro he hd
  rw [← evrEnable_of_regs hregs] at he
  rw [← cfgFn_of_pcie hp] at hd
  rw [← hp] at hfl
  obtain ⟨pos, gen, hm⟩ := post_out h.fn.val 0 { ty := evCommand, ptr := h.ptr.toNat, code, cookie := h.cookie.toNat, detail := cmdDetail opcode result, src }
    h.fn.isLt (by decide) hr hfl he hd
  exact ⟨pos, gen, s.now, hm⟩
/-- A command that starts at once runs as one bundle. -/
theorem command_starts (c : Instr) (h : CmdHdr) (keys : List WaitKey) (g : State → State) (s : State) (hs : Starts h keys s) :
    command c h keys g s = bundleFor keys c g s := by
  obtain ⟨h1, h2, h3, h4, h5⟩ := hs
  unfold command State.ringRuns
  simp only [h1, h2, h3, h4, h5]
  rfl
/-- So does one that waits for nothing of its target. -/
theorem commandOver_starts (c : Instr) (h : CmdHdr) (held : List WaitKey) (g : State → State) (s : State) (hs : Starts h [] s) :
    commandOver c h held g s = bundleFor held c g s := by
  obtain ⟨h1, h2, h3, h4, -⟩ := hs
  unfold commandOver State.ringRuns
  simp only [h1, h2, h3, h4]
  rfl
/-- A bundle none of whose records is blocked commits; else it waits as a whole. -/
theorem bundleFor_eq (keys : List WaitKey) (c : Instr) (g : State → State) (s : State) :
    bundleFor keys c g s = (if (g { s with blocked := [] }).blocked = [] then g { s with blocked := [] }
      else { s with blocked := [], waiting := s.waiting ++ [⟨(g { s with blocked := [] }).blocked.map (fun b => WaitKey.evr b.1 b.2) ++ keys, .cmd c⟩] }) := by
  unfold bundleFor jobFor
  simp only [List.isEmpty_iff]
theorem bundleFor_commits (keys : List WaitKey) (c : Instr) (g : State → State) (s : State) (h : (g { s with blocked := [] }).blocked = []) :
    bundleFor keys c g s = g { s with blocked := [] } := (bundleFor_eq keys c g s).trans (if_pos h)
/-- A bundle with another course commits, or that course is taken (01 R34). -/
theorem bundleElse_eq (g alt : State → State) (s : State) :
    bundleElse g alt s = (if (g { s with blocked := [] }).blocked = [] then g { s with blocked := [] }
      else { alt { s with blocked := [] } with blocked := [] }) := by
  unfold bundleElse
  simp only [List.isEmpty_iff]
/-- A bundle of an endpoint behind which none waits runs at once (05 R190). -/
theorem epBundle_free (k : Nat) (c : Instr) (g : State → State) (s : State)
    (h : s.waiting.any (fun w => w.keys.contains (.epHeld (k - keyStream k))) = false) : epBundle k c g s = bundleFor [.epHeld (k - keyStream k)] c g s := by
  unfold epBundle
  simp only [h]
  rfl
theorem command_commits (c : Instr) (h : CmdHdr) (keys : List WaitKey) (g : State → State) (s : State) (hs : Starts h keys s)
    (hb : (g { s with blocked := [] }).blocked = []) : command c h keys g s = g { s with blocked := [] } :=
  (command_starts c h keys g s hs).trans (bundleFor_commits keys c g s hb)
theorem room_unblock {n : Nat} {s : State} (h : Room n s) : Room n { s with blocked := [] } := room_of_parts (s := s) rfl rfl rfl h

/-- A command that starts, and whose bundle ends with its COMMAND record on a state whose registers, functions and configuration space are
as they were, commits and is answered. -/
theorem command_answers (c : Instr) (h : CmdHdr) (keys : List WaitKey) (g : State → State) (s u : State) (opcode code result src : Nat)
    (hs : Starts h keys s) (hr : Room 1 s) (hg : g { s with blocked := [] } = cmdDone h opcode code result src u) (h1 : u.regs = s.regs)
    (h2 : u.fns = s.fns) (h3 : u.pcie = s.pcie) (h4 : u.blocked = []) :
    command c h keys g s = cmdDone h opcode code result src u ∧ Answered h opcode code result src s (cmdDone h opcode code result src u) := by
  have hu : Room (0 + 1) u := room_of_parts h1 h2 h3 hr
  have hb : (cmdDone h opcode code result src u).blocked = [] := (cmdDone_room h opcode code result src hu).1.trans h4
  refine ⟨?_, cmdDone_answered h opcode code result src hu h1 h3 hs.2.2.1⟩
  rw [command_commits c h keys g s hs (by rw [hg]; exact hb), hg]

end Sys2Proof.Safety
end

