-- ==== Sys2Proof/Laws/OutsideUsb.lean ====
section
/-! SUPPORT. What each operation leaves as it was, by Machine file: Endpoint, Admission, BusOps, SlotOps, PortOps, LinkOps, FaultOps, EngOps, ModeOps, PathOps, PdOps. -/

namespace Sys2Proof.Machine

open Sys2Proof

/-! ### Endpoint -/

theorem epBump_outside (k : Nat) (s : State) (msk : Nat) (hm : 8192 &&& msk = 8192) :
    (epBump k s).outside msk = s.outside msk := by
  unfold epBump
  try dsimp only
  repeat' first
    | with_reducible rfl
    | with_reducible refine (State.epOn_outside _ _ _ msk (sub_trans hm rfl)).trans ?_
theorem epPost_outside (k r : Nat) (e : EvRec) (s : State) (msk : Nat) (hm : 64871186046976 &&& msk = 64871186046976) :
    (epPost k r e s).outside msk = s.outside msk := by
  unfold epPost
  try dsimp only
  repeat' first
    | with_reducible rfl
    | with_reducible refine ite_outside ?_ ?_
    | with_reducible refine (State.epOn_outside _ _ _ msk (sub_trans hm rfl)).trans ?_
    | with_reducible refine (post_outside _ _ _ _ msk (sub_trans hm rfl)).trans ?_
    | split
theorem xferPost_outside (k code ptr count cookie : Nat) (ed noTd : Bool) (s : State) (msk : Nat) (hm : 64871186046976 &&& msk = 64871186046976) :
    (xferPost k code ptr count cookie ed noTd s).outside msk = s.outside msk := by
  unfold xferPost
  try dsimp only
  repeat' first
    | with_reducible rfl
    | with_reducible refine (epPost_outside _ _ _ _ msk (sub_trans hm rfl)).trans ?_
theorem residualPost_outside (k : Nat) (s : State) (msk : Nat) (hm : 64871186046976 &&& msk = 64871186046976) :
    (residualPost k s).outside msk = s.outside msk := by
  unfold residualPost
  try dsimp only
  repeat' first
    | with_reducible rfl
    | with_reducible refine ite_outside ?_ ?_
    | with_reducible refine (epPost_outside _ _ _ _ msk (sub_trans hm rfl)).trans ?_
    | split
theorem epCmdDone_outside (ks : List Nat) (h : CmdHdr) (opcode code result src : Nat) (s : State) (msk : Nat) (hm : 64871186046976 &&& msk = 64871186046976) :
    (epCmdDone ks h opcode code result src s).outside msk = s.outside msk := by
  unfold epCmdDone
  try dsimp only
  repeat' first
    | with_reducible rfl
    | with_reducible refine (State.epOn_outside _ _ _ msk (sub_trans hm rfl)).trans ?_
    | with_reducible refine (cmdDone_outside _ _ _ _ _ _ msk (sub_trans hm rfl)).trans ?_
    | with_reducible refine (forEach_outside _ _ _ msk ?_).trans ?_
    | (intro _)
    | split
theorem posBad_outside (k code count cookie : Nat) (s : State) (msk : Nat) (hm : 8192 &&& msk = 8192) :
    (posBad k code count cookie s).outside msk = s.outside msk := by
  unfold posBad
  try dsimp only
  repeat' first
    | with_reducible rfl
    | with_reducible refine (State.epOn_outside _ _ _ msk (sub_trans hm rfl)).trans ?_
theorem posAccept_outside (k : Nat) (d : Desc) (from_ : Nat) (s : State) (msk : Nat) (hm : 8192 &&& msk = 8192) :
    (posAccept k d from_ s).outside msk = s.outside msk := by
  unfold posAccept
  try dsimp only
  repeat' first
    | with_reducible rfl
    | with_reducible refine ite_outside ?_ ?_
    | with_reducible refine (State.epOn_outside _ _ _ msk (sub_trans hm rfl)).trans ?_
    | with_reducible refine (epBump_outside _ _ msk (sub_trans hm rfl)).trans ?_
    | with_reducible refine (posBad_outside _ _ _ _ _ msk (sub_trans hm rfl)).trans ?_
    | split
theorem retireHead_outside (k : Nat) (s : State) (msk : Nat) (hm : 8192 &&& msk = 8192) :
    (retireHead k s).outside msk = s.outside msk := by
  unfold retireHead
  try dsimp only
  repeat' first
    | with_reducible rfl
    | with_reducible refine ite_outside ?_ ?_
    | with_reducible refine (State.epOn_outside _ _ _ msk (sub_trans hm rfl)).trans ?_
    | split
theorem completeHead_outside (k count : Nat) (s : State) (msk : Nat) (hm : 64871186046976 &&& msk = 64871186046976) :
    (completeHead k count s).outside msk = s.outside msk := by
  unfold completeHead
  try dsimp only
  repeat' first
    | with_reducible rfl
    | with_reducible refine ite_outside ?_ ?_
    | with_reducible refine (retireHead_outside _ _ msk (sub_trans hm rfl)).trans ?_
    | with_reducible refine (xferPost_outside _ _ _ _ _ _ _ _ msk (sub_trans hm rfl)).trans ?_
    | split
theorem retireXfer_outside (k : Nat) (s : State) (msk : Nat) (hm : 8192 &&& msk = 8192) :
    (retireXfer k s).outside msk = s.outside msk := by
  unfold retireXfer
  try dsimp only
  repeat' first
    | with_reducible rfl
    | with_reducible refine (State.epOn_outside _ _ _ msk (sub_trans hm rfl)).trans ?_
    | split
theorem pruneWin_outside (p : Nat) (t : Nat → Bool) (s : State) (msk : Nat) (hm : 131072 &&& msk = 131072) :
    (pruneWin p t s).outside msk = s.outside msk := by
  unfold pruneWin
  try dsimp only
  repeat' first
    | with_reducible rfl
    | with_reducible refine (State.busOn_outside _ _ _ msk (sub_trans hm rfl)).trans ?_
theorem epHaltState_outside (k : Nat) (s : State) (msk : Nat) (hm : 139264 &&& msk = 139264) :
    (epHaltState k s).outside msk = s.outside msk := by
  unfold epHaltState
  try dsimp only
  repeat' first
    | with_reducible rfl
    | with_reducible refine ite_outside ?_ ?_
    | with_reducible refine (State.epOn_outside _ _ _ msk (sub_trans hm rfl)).trans ?_
    | with_reducible refine (epBump_outside _ _ msk (sub_trans hm rfl)).trans ?_
    | with_reducible refine (forEach_outside _ _ _ msk ?_).trans ?_
    | with_reducible refine (pruneWin_outside _ _ _ msk (sub_trans hm rfl)).trans ?_
    | (intro _)
    | split
theorem epError_outside (k code : Nat) (s : State) (msk : Nat) (hm : 64871186178048 &&& msk = 64871186178048) :
    (epError k code s).outside msk = s.outside msk := by
  unfold epError
  try dsimp only
  repeat' first
    | with_reducible rfl
    | with_reducible refine (epHaltState_outside _ _ msk (sub_trans hm rfl)).trans ?_
    | with_reducible refine (retireXfer_outside _ _ msk (sub_trans hm rfl)).trans ?_
    | with_reducible refine (xferPost_outside _ _ _ _ _ _ _ _ msk (sub_trans hm rfl)).trans ?_
    | split
theorem epBad_outside (k : Nat) (b : BadPos) (s : State) (msk : Nat) (hm : 64871186178048 &&& msk = 64871186178048) :
    (epBad k b s).outside msk = s.outside msk := by
  unfold epBad
  try dsimp only
  repeat' first
    | with_reducible rfl
    | with_reducible refine (State.epOn_outside _ _ _ msk (sub_trans hm rfl)).trans ?_
    | with_reducible refine (epHaltState_outside _ _ msk (sub_trans hm rfl)).trans ?_
    | with_reducible refine (xferPost_outside _ _ _ _ _ _ _ _ msk (sub_trans hm rfl)).trans ?_
theorem babbleEnd_outside (k : Nat) (s : State) (msk : Nat) (hm : 64871186178048 &&& msk = 64871186178048) :
    (babbleEnd k s).outside msk = s.outside msk := by
  unfold babbleEnd
  try dsimp only
  repeat' first
    | with_reducible rfl
    | with_reducible refine (State.epOn_outside _ _ _ msk (sub_trans hm rfl)).trans ?_
    | with_reducible refine (epError_outside _ _ _ msk (sub_trans hm rfl)).trans ?_
theorem shortEnd_outside (k : Nat) (v0 : Nat) (v1 : Nat) (s : State) (msk : Nat) (hm : 64871186046976 &&& msk = 64871186046976) :
    (shortEnd k v0 v1 s).outside msk = s.outside msk := by
  induction v0 generalizing v1 s with
  | zero => rfl
  | succ n ih =>
    unfold shortEnd
    try dsimp only
    repeat' first
      | with_reducible rfl
      | with_reducible refine (ih _ _ ).trans ?_
      | with_reducible refine ite_outside ?_ ?_
      | with_reducible refine (State.epOn_outside _ _ _ msk (sub_trans hm rfl)).trans ?_
      | with_reducible refine (completeHead_outside _ _ _ msk (sub_trans hm rfl)).trans ?_
      | with_reducible refine (retireHead_outside _ _ msk (sub_trans hm rfl)).trans ?_
      | with_reducible refine (retireXfer_outside _ _ msk (sub_trans hm rfl)).trans ?_
      | with_reducible refine (xferPost_outside _ _ _ _ _ _ _ _ msk (sub_trans hm rfl)).trans ?_
      | split
theorem settle_outside (k : Nat) (v0 : Nat) (s : State) (msk : Nat) (hm : 64871186178048 &&& msk = 64871186178048) :
    (settle k v0 s).outside msk = s.outside msk := by
  induction v0 generalizing s with
  | zero => rfl
  | succ n ih =>
    unfold settle
    try dsimp only
    repeat' first
      | with_reducible rfl
      | with_reducible refine (ih _ ).trans ?_
      | with_reducible refine ite_outside ?_ ?_
      | with_reducible refine (State.epOn_outside _ _ _ msk (sub_trans hm rfl)).trans ?_
      | with_reducible refine (completeHead_outside _ _ _ msk (sub_trans hm rfl)).trans ?_
      | with_reducible refine (epBad_outside _ _ _ msk (sub_trans hm rfl)).trans ?_
      | with_reducible refine (epBump_outside _ _ msk (sub_trans hm rfl)).trans ?_
      | with_reducible refine (retireHead_outside _ _ msk (sub_trans hm rfl)).trans ?_
      | with_reducible refine (shortEnd_outside _ _ _ _ msk (sub_trans hm rfl)).trans ?_
      | with_reducible refine (xferPost_outside _ _ _ _ _ _ _ _ msk (sub_trans hm rfl)).trans ?_
      | split
theorem epSettle_outside (k : Nat) (s : State) (msk : Nat) (hm : 64871186178048 &&& msk = 64871186178048) :
    (epSettle k s).outside msk = s.outside msk := by
  unfold epSettle
  try dsimp only
  repeat' first
    | with_reducible rfl
    | with_reducible refine (settle_outside _ _ _ msk (sub_trans hm rfl)).trans ?_
theorem takeAhead_outside (k from_ : Nat) (v0 : List Ahead) (s : State) (msk : Nat) (hm : 64871186178048 &&& msk = 64871186178048) :
    (takeAhead k from_ v0 s).outside msk = s.outside msk := by
  induction v0 generalizing s with
  | nil => rfl
  | cons a l ih =>
    unfold takeAhead
    try dsimp only
    repeat' first
      | with_reducible rfl
      | with_reducible refine (ih _ ).trans ?_
      | with_reducible refine ite_outside ?_ ?_
      | with_reducible refine (State.epOn_outside _ _ _ msk (sub_trans hm rfl)).trans ?_
      | with_reducible refine (epSettle_outside _ _ msk (sub_trans hm rfl)).trans ?_
      | with_reducible refine (posAccept_outside _ _ _ _ msk (sub_trans hm rfl)).trans ?_
      | split
theorem handOver_outside (k prod : Nat) (s : State) (msk : Nat) (hm : 64871186243584 &&& msk = 64871186243584) :
    (handOver k prod s).outside msk = s.outside msk := by
  unfold handOver
  try dsimp only
  repeat' first
    | with_reducible rfl
    | with_reducible refine ite_outside ?_ ?_
    | with_reducible refine (State.epOn_outside _ _ _ msk (sub_trans hm rfl)).trans ?_
    | with_reducible refine (State.sideOn_outside _ _ _ _ msk (sub_trans hm rfl)).trans ?_
    | with_reducible refine (epBump_outside _ _ msk (sub_trans hm rfl)).trans ?_
    | with_reducible refine (epSettle_outside _ _ msk (sub_trans hm rfl)).trans ?_
    | with_reducible refine (takeAhead_outside _ _ _ _ msk (sub_trans hm rfl)).trans ?_
    | split
theorem moveBytes_outside (k : Nat) (v0 : Nat) (v1 : Nat) (s : State) (msk : Nat) (hm : 64871186046976 &&& msk = 64871186046976) :
    (moveBytes k v0 v1 s).outside msk = s.outside msk := by
  induction v0 generalizing v1 s with
  | zero => rfl
  | succ n ih =>
    unfold moveBytes
    try dsimp only
    repeat' first
      | with_reducible rfl
      | with_reducible refine (ih _ _ ).trans ?_
      | with_reducible refine ite_outside ?_ ?_
      | with_reducible refine (State.epOn_outside _ _ _ msk (sub_trans hm rfl)).trans ?_
      | with_reducible refine (completeHead_outside _ _ _ msk (sub_trans hm rfl)).trans ?_
      | with_reducible refine (retireHead_outside _ _ msk (sub_trans hm rfl)).trans ?_
      | with_reducible refine (xferPost_outside _ _ _ _ _ _ _ _ msk (sub_trans hm rfl)).trans ?_
      | split

/-! ### BusOps -/

theorem advanceTog_outside (k : Nat) (s : State) (msk : Nat) (hm : 8192 &&& msk = 8192) :
    (advanceTog k s).outside msk = s.outside msk := by
  unfold advanceTog
  try dsimp only
  repeat' first
    | with_reducible rfl
    | with_reducible refine ite_outside ?_ ?_
    | with_reducible refine (State.epOn_outside _ _ _ msk (sub_trans hm rfl)).trans ?_
    | split
theorem State.send_outside (s : State) (k : Nat) (x : HostTok) (msk : Nat) (hm : 1099511627776 &&& msk = 1099511627776) :
    (State.send s k x).outside msk = s.outside msk := by
  unfold State.send
  try dsimp only
  repeat' first
    | with_reducible rfl
    | with_reducible refine (State.emit_outside _ _ msk (sub_trans hm rfl)).trans ?_
theorem startIn_outside (k : Nat) (s : State) (msk : Nat) (hm : 1099511635968 &&& msk = 1099511635968) :
    (startIn k s).outside msk = s.outside msk := by
  unfold startIn
  try dsimp only
  repeat' first
    | with_reducible rfl
    | with_reducible refine ite_outside ?_ ?_
    | with_reducible refine (State.epOn_outside _ _ _ msk (sub_trans hm rfl)).trans ?_
    | with_reducible refine (State.send_outside _ _ _ msk (sub_trans hm rfl)).trans ?_
    | split
theorem sendData_outside (k : Nat) (v0 : Nat) (v1 : List (List Byte)) (s : State) (msk : Nat) (hm : 1099511627776 &&& msk = 1099511627776) :
    (sendData k v0 v1 s).outside msk = s.outside msk := by
  induction v1 generalizing v0 s with
  | nil => rfl
  | cons a l ih =>
    unfold sendData
    try dsimp only
    repeat' first
      | with_reducible rfl
      | with_reducible refine (ih _ _ ).trans ?_
      | with_reducible refine (State.send_outside _ _ _ msk (sub_trans hm rfl)).trans ?_
theorem startOut_outside (k : Nat) (s : State) (msk : Nat) (hm : 1099511635968 &&& msk = 1099511635968) :
    (startOut k s).outside msk = s.outside msk := by
  unfold startOut
  try dsimp only
  repeat' first
    | with_reducible rfl
    | with_reducible refine ite_outside ?_ ?_
    | with_reducible refine (State.epOn_outside _ _ _ msk (sub_trans hm rfl)).trans ?_
    | with_reducible refine (State.send_outside _ _ _ msk (sub_trans hm rfl)).trans ?_
    | with_reducible refine (sendData_outside _ _ _ _ msk (sub_trans hm rfl)).trans ?_
    | split
theorem startSplit_outside (k : Nat) (pk : List Byte) (s : State) (msk : Nat) (hm : 1099511635968 &&& msk = 1099511635968) :
    (startSplit k pk s).outside msk = s.outside msk := by
  unfold startSplit
  try dsimp only
  repeat' first
    | with_reducible rfl
    | with_reducible refine ite_outside ?_ ?_
    | with_reducible refine (State.epOn_outside _ _ _ msk (sub_trans hm rfl)).trans ?_
    | with_reducible refine (State.send_outside _ _ _ msk (sub_trans hm rfl)).trans ?_
    | split
theorem startXact_outside (k : Nat) (s : State) (msk : Nat) (hm : 1099511635968 &&& msk = 1099511635968) :
    (startXact k s).outside msk = s.outside msk := by
  unfold startXact
  try dsimp only
  repeat' first
    | with_reducible rfl
    | with_reducible refine ite_outside ?_ ?_
    | with_reducible refine (State.epOn_outside _ _ _ msk (sub_trans hm rfl)).trans ?_
    | with_reducible refine (State.send_outside _ _ _ msk (sub_trans hm rfl)).trans ?_
    | with_reducible refine (startIn_outside _ _ msk (sub_trans hm rfl)).trans ?_
    | with_reducible refine (startOut_outside _ _ msk (sub_trans hm rfl)).trans ?_
    | with_reducible refine (startSplit_outside _ _ _ msk (sub_trans hm rfl)).trans ?_
    | split
theorem completeSplit_outside (k : Nat) (s : State) (msk : Nat) (hm : 1099511635968 &&& msk = 1099511635968) :
    (completeSplit k s).outside msk = s.outside msk := by
  unfold completeSplit
  try dsimp only
  repeat' first
    | with_reducible rfl
    | with_reducible refine (State.epOn_outside _ _ _ msk (sub_trans hm rfl)).trans ?_
    | with_reducible refine (State.send_outside _ _ _ msk (sub_trans hm rfl)).trans ?_

/-! ### SlotOps -/

theorem packRuns_outside (s : State) (msk : Nat) (hm : 274432 &&& msk = 274432) :
    (packRuns s).outside msk = s.outside msk := by
  unfold packRuns
  try dsimp only
  repeat' first
    | with_reducible rfl
    | with_reducible refine ite_outside ?_ ?_
    | simp only [set_slots_eps_guests_outside _ _ _ _ msk (sub_trans hm rfl)]
    | split
theorem fixRuns_outside (s : State) (msk : Nat) (hm : 274432 &&& msk = 274432) :
    (fixRuns s).outside msk = s.outside msk := by
  unfold fixRuns
  try dsimp only
  repeat' first
    | with_reducible rfl
    | with_reducible refine ite_outside ?_ ?_
    | with_reducible refine (packRuns_outside _ msk (sub_trans hm rfl)).trans ?_
    | split
theorem slotBump_outside (key : Nat) (s : State) (msk : Nat) (hm : 4096 &&& msk = 4096) :
    (slotBump key s).outside msk = s.outside msk := by
  unfold slotBump
  try dsimp only
  repeat' first
    | with_reducible rfl
    | with_reducible refine (State.slotOn_outside _ _ _ msk (sub_trans hm rfl)).trans ?_
theorem stopPost_outside (k code : Nat) (s : State) (msk : Nat) (hm : 64871186046976 &&& msk = 64871186046976) :
    (stopPost k code s).outside msk = s.outside msk := by
  unfold stopPost
  try dsimp only
  repeat' first
    | with_reducible rfl
    | with_reducible refine ite_outside ?_ ?_
    | with_reducible refine (xferPost_outside _ _ _ _ _ _ _ _ msk (sub_trans hm rfl)).trans ?_
    | split
theorem missedPost_outside (k : Nat) (s : State) (msk : Nat) (hm : 64871186046976 &&& msk = 64871186046976) :
    (missedPost k s).outside msk = s.outside msk := by
  unfold missedPost
  try dsimp only
  repeat' first
    | with_reducible rfl
    | with_reducible refine ite_outside ?_ ?_
    | with_reducible refine (State.epOn_outside _ _ _ msk (sub_trans hm rfl)).trans ?_
    | with_reducible refine (xferPost_outside _ _ _ _ _ _ _ _ msk (sub_trans hm rfl)).trans ?_
    | split
theorem stopStart_outside (r : Nat) (why : RevWhy) (s : State) (msk : Nat) (hm : 139264 &&& msk = 139264) :
    (stopStart r why s).outside msk = s.outside msk := by
  unfold stopStart
  try dsimp only
  repeat' first
    | with_reducible rfl
    | with_reducible refine (State.epOn_outside _ _ _ msk (sub_trans hm rfl)).trans ?_
    | with_reducible refine (forEach_outside _ _ _ msk ?_).trans ?_
    | with_reducible refine (pruneWin_outside _ _ _ msk (sub_trans hm rfl)).trans ?_
    | (intro _)
theorem pauseNow_outside (r code : Nat) (s : State) (msk : Nat) (hm : 64871186046976 &&& msk = 64871186046976) :
    (pauseNow r code s).outside msk = s.outside msk := by
  unfold pauseNow
  try dsimp only
  repeat' first
    | with_reducible rfl
    | with_reducible refine (State.epOn_outside _ _ _ msk (sub_trans hm rfl)).trans ?_
    | with_reducible refine (epBump_outside _ _ msk (sub_trans hm rfl)).trans ?_
    | with_reducible refine (forEach_outside _ _ _ msk ?_).trans ?_
    | with_reducible refine (missedPost_outside _ _ msk (sub_trans hm rfl)).trans ?_
    | with_reducible refine (residualPost_outside _ _ msk (sub_trans hm rfl)).trans ?_
    | with_reducible refine (stopPost_outside _ _ _ msk (sub_trans hm rfl)).trans ?_
    | (intro _)
theorem isoEmptyPost_outside (k : Nat) (s : State) (msk : Nat) (hm : 64871186046976 &&& msk = 64871186046976) :
    (isoEmptyPost k s).outside msk = s.outside msk := by
  unfold isoEmptyPost
  try dsimp only
  repeat' first
    | with_reducible rfl
    | with_reducible refine ite_outside ?_ ?_
    | with_reducible refine (State.epOn_outside _ _ _ msk (sub_trans hm rfl)).trans ?_
    | with_reducible refine (xferPost_outside _ _ _ _ _ _ _ _ msk (sub_trans hm rfl)).trans ?_
    | split
theorem pauseFinish_outside (r : Nat) (s : State) (msk : Nat) (hm : 64871186046984 &&& msk = 64871186046984) :
    (pauseFinish r s).outside msk = s.outside msk := by
  unfold pauseFinish
  try dsimp only
  repeat' first
    | with_reducible rfl
    | with_reducible refine ite_outside ?_ ?_
    | with_reducible refine (epCmdDone_outside _ _ _ _ _ _ _ msk (sub_trans hm rfl)).trans ?_
    | with_reducible refine (opDrop_outside _ _ msk (sub_trans hm rfl)).trans ?_
    | with_reducible refine (pauseNow_outside _ _ _ msk (sub_trans hm rfl)).trans ?_
    | split
theorem pauseTry_outside (r : Nat) (s : State) (msk : Nat) (hm : 64871186046986 &&& msk = 64871186046986) :
    (pauseTry r s).outside msk = s.outside msk := by
  unfold pauseTry
  try dsimp only
  repeat' first
    | with_reducible rfl
    | with_reducible refine (pauseFinish_outside _ _ msk (sub_trans hm rfl)).trans ?_
    | with_reducible refine (subBundle_outside _ _ _ _ msk (sub_trans hm rfl) ?_).trans ?_
    | (intro _)
theorem afterXact_outside (k : Nat) (s : State) (msk : Nat) (hm : 64871186046986 &&& msk = 64871186046986) :
    (afterXact k s).outside msk = s.outside msk := by
  unfold afterXact
  try dsimp only
  repeat' first
    | with_reducible rfl
    | with_reducible refine ite_outside ?_ ?_
    | with_reducible refine (State.epOn_outside _ _ _ msk (sub_trans hm rfl)).trans ?_
    | with_reducible refine (pauseTry_outside _ _ msk (sub_trans hm rfl)).trans ?_
    | split
theorem epClose_outside (r : Nat) (s : State) (msk : Nat) (hm : 139264 &&& msk = 139264) :
    (epClose r s).outside msk = s.outside msk := by
  unfold epClose
  try dsimp only
  repeat' first
    | with_reducible rfl
    | with_reducible refine (State.epPut_outside _ _ _ msk (sub_trans hm rfl)).trans ?_
    | with_reducible refine (forEach_outside _ _ _ msk ?_).trans ?_
    | with_reducible refine (pruneWin_outside _ _ _ msk (sub_trans hm rfl)).trans ?_
    | (intro _)
theorem haltXfer_outside (k code : Nat) (s : State) (msk : Nat) (hm : 64871186178058 &&& msk = 64871186178058) :
    (haltXfer k code s).outside msk = s.outside msk := by
  unfold haltXfer
  try dsimp only
  repeat' first
    | with_reducible rfl
    | with_reducible refine (afterXact_outside _ _ msk (sub_trans hm rfl)).trans ?_
    | with_reducible refine (epError_outside _ _ _ msk (sub_trans hm rfl)).trans ?_
theorem resetEp_outside (r : Nat) (s : State) (msk : Nat) (hm : 64871186046976 &&& msk = 64871186046976) :
    (resetEp r s).outside msk = s.outside msk := by
  unfold resetEp
  try dsimp only
  repeat' first
    | with_reducible rfl
    | with_reducible refine ite_outside ?_ ?_
    | with_reducible refine (State.epOn_outside _ _ _ msk (sub_trans hm rfl)).trans ?_
    | with_reducible refine (epBump_outside _ _ msk (sub_trans hm rfl)).trans ?_
    | with_reducible refine (forEach_outside _ _ _ msk ?_).trans ?_
    | with_reducible refine (pauseNow_outside _ _ _ msk (sub_trans hm rfl)).trans ?_
    | with_reducible refine (retireXfer_outside _ _ msk (sub_trans hm rfl)).trans ?_
    | with_reducible refine (stopPost_outside _ _ _ msk (sub_trans hm rfl)).trans ?_
    | (intro _)
    | split
theorem resetSlot_outside (key : Nat) (s : State) (msk : Nat) (hm : 64871186051072 &&& msk = 64871186051072) :
    (resetSlot key s).outside msk = s.outside msk := by
  unfold resetSlot
  try dsimp only
  repeat' first
    | with_reducible rfl
    | with_reducible refine ite_outside ?_ ?_
    | with_reducible refine (State.slotOn_outside _ _ _ msk (sub_trans hm rfl)).trans ?_
    | with_reducible refine (forEach_outside _ _ _ msk ?_).trans ?_
    | with_reducible refine (resetEp_outside _ _ msk (sub_trans hm rfl)).trans ?_
    | with_reducible refine (slotBump_outside _ _ msk (sub_trans hm rfl)).trans ?_
    | (intro _)
    | split
theorem detachSlot_outside (key : Nat) (s : State) (msk : Nat) (hm : 64871186051080 &&& msk = 64871186051080) :
    (detachSlot key s).outside msk = s.outside msk := by
  unfold detachSlot
  try dsimp only
  repeat' first
    | with_reducible rfl
    | with_reducible refine ite_outside ?_ ?_
    | with_reducible refine (State.epOn_outside _ _ _ msk (sub_trans hm rfl)).trans ?_
    | with_reducible refine (State.slotOn_outside _ _ _ msk (sub_trans hm rfl)).trans ?_
    | with_reducible refine (abortOps_outside _ _ _ _ msk (sub_trans hm rfl)).trans ?_
    | with_reducible refine (forEach_outside _ _ _ msk ?_).trans ?_
    | with_reducible refine (pauseNow_outside _ _ _ msk (sub_trans hm rfl)).trans ?_
    | with_reducible refine (slotBump_outside _ _ msk (sub_trans hm rfl)).trans ?_
    | (intro _)
    | split
theorem detachTry_outside (key : Nat) (s : State) (msk : Nat) (hm : 64871186182154 &&& msk = 64871186182154) :
    (detachTry key s).outside msk = s.outside msk := by
  unfold detachTry
  try dsimp only
  repeat' first
    | with_reducible rfl
    | with_reducible refine (State.epOn_outside _ _ _ msk (sub_trans hm rfl)).trans ?_
    | with_reducible refine (detachSlot_outside _ _ msk (sub_trans hm rfl)).trans ?_
    | with_reducible refine (forEach_outside _ _ _ msk ?_).trans ?_
    | with_reducible refine (stopStart_outside _ _ _ msk (sub_trans hm rfl)).trans ?_
    | with_reducible refine (subBundle_outside _ _ _ _ msk (sub_trans hm rfl) ?_).trans ?_
    | (intro _)

/-! ### PortOps -/

theorem portEvent_outside (p change value : Nat) (sd : Side) (coincident : Bool) (s : State) (msk : Nat) (hm : 64871186038784 &&& msk = 64871186038784) :
    (portEvent p change value sd coincident s).outside msk = s.outside msk := by
  unfold portEvent
  try dsimp only
  repeat' first
    | with_reducible rfl
    | with_reducible refine (postPort_outside _ _ _ msk (sub_trans hm rfl)).trans ?_
theorem tcEvent_outside (p change detail : Nat) (s : State) (msk : Nat) (hm : 64871186038784 &&& msk = 64871186038784) :
    (tcEvent p change detail s).outside msk = s.outside msk := by
  unfold tcEvent
  try dsimp only
  repeat' first
    | with_reducible rfl
    | with_reducible refine (portEvent_outside _ _ _ _ _ _ msk (sub_trans hm rfl)).trans ?_
theorem pdEvent_outside (p kind data0 data1 value cause : Nat) (s : State) (msk : Nat) (hm : 64871186038784 &&& msk = 64871186038784) :
    (pdEvent p kind data0 data1 value cause s).outside msk = s.outside msk := by
  unfold pdEvent
  try dsimp only
  repeat' first
    | with_reducible rfl
    | with_reducible refine (postPd_outside _ _ _ msk (sub_trans hm rfl)).trans ?_
theorem powerEvent_outside (p kind value cause : Nat) (s : State) (msk : Nat) (hm : 64871186038784 &&& msk = 64871186038784) :
    (powerEvent p kind value cause s).outside msk = s.outside msk := by
  unfold powerEvent
  try dsimp only
  repeat' first
    | with_reducible rfl
    | with_reducible refine (postPort_outside _ _ _ msk (sub_trans hm rfl)).trans ?_
theorem earlyWarnEvent_outside (b cause : Nat) (s : State) (msk : Nat) (hm : 64871186038784 &&& msk = 64871186038784) :
    (earlyWarnEvent b cause s).outside msk = s.outside msk := by
  unfold earlyWarnEvent
  try dsimp only
  repeat' first
    | with_reducible rfl
    | with_reducible refine (postPf_outside _ _ msk (sub_trans hm rfl)).trans ?_
theorem lineQuiet_outside (n : Nat) (s : State) (msk : Nat) (hm : 4294967296 &&& msk = 4294967296) :
    (lineQuiet n s).outside msk = s.outside msk := by
  unfold lineQuiet
  try dsimp only
  repeat' first
    | with_reducible rfl
    | with_reducible refine ite_outside ?_ ?_
    | with_reducible refine (State.fltSrcOn_outside _ _ _ msk (sub_trans hm rfl)).trans ?_
    | split
theorem busCheck_outside (p : Nat) (s : State) (msk : Nat) (hm : 131072 &&& msk = 131072) :
    (busCheck p s).outside msk = s.outside msk := by
  unfold busCheck
  try dsimp only
  repeat' first
    | with_reducible rfl
    | with_reducible refine ite_outside ?_ ?_
    | with_reducible refine (State.busOn_outside _ _ _ msk (sub_trans hm rfl)).trans ?_
    | split
theorem busStart_outside (p : Nat) (s : State) (msk : Nat) (hm : 131072 &&& msk = 131072) :
    (busStart p s).outside msk = s.outside msk := by
  unfold busStart
  try dsimp only
  repeat' first
    | with_reducible rfl
    | with_reducible refine ite_outside ?_ ?_
    | with_reducible refine (State.busPut_outside _ _ _ msk (sub_trans hm rfl)).trans ?_
    | split
theorem returnWithheld_outside (n : Nat) (s : State) (msk : Nat) (hm : 65536 &&& msk = 65536) :
    (returnWithheld n s).outside msk = s.outside msk := by
  unfold returnWithheld
  try dsimp only
  repeat' first
    | with_reducible rfl
    | with_reducible refine (State.sideOn_outside _ _ _ _ msk (sub_trans hm rfl)).trans ?_
    | with_reducible refine (forEach_outside _ _ _ msk ?_).trans ?_
    | (intro _)
theorem fallowReturn_outside (s : State) (msk : Nat) (hm : 65536 &&& msk = 65536) :
    (fallowReturn s).outside msk = s.outside msk := by
  unfold fallowReturn
  try dsimp only
  repeat' first
    | with_reducible rfl
    | with_reducible refine ite_outside ?_ ?_
    | with_reducible refine (returnWithheld_outside _ _ msk (sub_trans hm rfl)).trans ?_
    | split
theorem dropSide_outside (p : Nat) (sd : Side) (goal : LinkSt) (s : State) (msk : Nat) (hm : 64871186247690 &&& msk = 64871186247690) :
    (dropSide p sd goal s).outside msk = s.outside msk := by
  unfold dropSide
  try dsimp only
  repeat' first
    | with_reducible rfl
    | with_reducible refine ite_outside ?_ ?_
    | with_reducible refine (State.linkOn_outside _ _ _ msk (sub_trans hm rfl)).trans ?_
    | with_reducible refine (State.sideOn_outside _ _ _ _ msk (sub_trans hm rfl)).trans ?_
    | with_reducible refine (abortOps_outside _ _ _ _ msk (sub_trans hm rfl)).trans ?_
    | with_reducible refine (busCheck_outside _ _ msk (sub_trans hm rfl)).trans ?_
    | with_reducible refine (detachTry_outside _ _ msk (sub_trans hm rfl)).trans ?_
    | with_reducible refine (fallowReturn_outside _ msk (sub_trans hm rfl)).trans ?_
    | with_reducible refine (forEach_outside _ _ _ msk ?_).trans ?_
    | with_reducible refine (portEvent_outside _ _ _ _ _ _ msk (sub_trans hm rfl)).trans ?_
    | with_reducible refine (pruneWin_outside _ _ _ msk (sub_trans hm rfl)).trans ?_
    | (intro _)
    | split
theorem refreshSide_outside (p : Nat) (sd : Side) (s : State) (msk : Nat) (hm : 64871186247690 &&& msk = 64871186247690) :
    (refreshSide p sd s).outside msk = s.outside msk := by
  unfold refreshSide
  try dsimp only
  repeat' first
    | with_reducible rfl
    | with_reducible refine ite_outside ?_ ?_
    | with_reducible refine (State.sideOn_outside _ _ _ _ msk (sub_trans hm rfl)).trans ?_
    | with_reducible refine (dropSide_outside _ _ _ _ msk (sub_trans hm rfl)).trans ?_
    | split
theorem refreshSides_outside (p : Nat) (s : State) (msk : Nat) (hm : 64871186247690 &&& msk = 64871186247690) :
    (refreshSides p s).outside msk = s.outside msk := by
  unfold refreshSides
  try dsimp only
  repeat' first
    | with_reducible rfl
    | with_reducible refine ite_outside ?_ ?_
    | with_reducible refine (refreshSide_outside _ _ _ msk (sub_trans hm rfl)).trans ?_
    | split
theorem portSafe_outside (p : Nat) (s : State) (msk : Nat) (hm : 3735552 &&& msk = 3735552) :
    (portSafe p s).outside msk = s.outside msk := by
  unfold portSafe
  try dsimp only
  repeat' first
    | with_reducible rfl
    | with_reducible refine (State.linkPut_outside _ _ _ msk (sub_trans hm rfl)).trans ?_
    | with_reducible refine (State.pathPut_outside _ _ _ msk (sub_trans hm rfl)).trans ?_
    | with_reducible refine (State.pdPut_outside _ _ _ msk (sub_trans hm rfl)).trans ?_
    | with_reducible refine (State.tcPut_outside _ _ _ msk (sub_trans hm rfl)).trans ?_
theorem persistEnd_outside (p cause : Nat) (s : State) (msk : Nat) (hm : 3736320 &&& msk = 3736320) :
    (persistEnd p cause s).outside msk = s.outside msk := by
  unfold persistEnd
  try dsimp only
  repeat' first
    | with_reducible rfl
    | with_reducible refine (portSafe_outside _ _ msk (sub_trans hm rfl)).trans ?_
    | simp only [set_sup_boot_outside _ _ _ msk (sub_trans hm rfl)]
theorem pathRamp_outside (p mv ma : Nat) (sink : Bool) (s : State) (msk : Nat) (hm : 2097152 &&& msk = 2097152) :
    (pathRamp p mv ma sink s).outside msk = s.outside msk := by
  unfold pathRamp
  try dsimp only
  repeat' first
    | with_reducible rfl
    | with_reducible refine ite_outside ?_ ?_
    | with_reducible refine (State.pathOn_outside _ _ _ msk (sub_trans hm rfl)).trans ?_
    | split
theorem pathOff_outside (p : Nat) (unlatch : Bool) (s : State) (msk : Nat) (hm : 64875483312138 &&& msk = 64875483312138) :
    (pathOff p unlatch s).outside msk = s.outside msk := by
  unfold pathOff
  try dsimp only
  repeat' first
    | with_reducible rfl
    | with_reducible refine ite_outside ?_ ?_
    | with_reducible refine (State.pathOn_outside _ _ _ msk (sub_trans hm rfl)).trans ?_
    | with_reducible refine (lineQuiet_outside _ _ msk (sub_trans hm rfl)).trans ?_
    | with_reducible refine (refreshSides_outside _ _ msk (sub_trans hm rfl)).trans ?_
    | split
theorem rpHold_outside (p l : Nat) (s : State) (msk : Nat) (hm : 524288 &&& msk = 524288) :
    (rpHold p l s).outside msk = s.outside msk := by
  unfold rpHold
  try dsimp only
  repeat' first
    | with_reducible rfl
    | with_reducible refine (State.tcOn_outside _ _ _ msk (sub_trans hm rfl)).trans ?_
theorem pathSeek_outside (p : Nat) (s : State) (msk : Nat) (hm : 64871322877952 &&& msk = 64871322877952) :
    (pathSeek p s).outside msk = s.outside msk := by
  unfold pathSeek
  try dsimp only
  repeat' first
    | with_reducible rfl
    | with_reducible refine ite_outside ?_ ?_
    | with_reducible refine (State.pathOn_outside _ _ _ msk (sub_trans hm rfl)).trans ?_
    | with_reducible refine (pathRamp_outside _ _ _ _ _ msk (sub_trans hm rfl)).trans ?_
    | with_reducible refine (powerEvent_outside _ _ _ _ _ msk (sub_trans hm rfl)).trans ?_
    | with_reducible refine (rpHold_outside _ _ _ msk (sub_trans hm rfl)).trans ?_
    | simp only [set_budget_outside _ _ msk (sub_trans hm rfl)]
    | split
theorem serveWaiting_outside (s : State) (msk : Nat) (hm : 64871322877952 &&& msk = 64871322877952) :
    (serveWaiting s).outside msk = s.outside msk := by
  unfold serveWaiting
  try dsimp only
  repeat' first
    | with_reducible rfl
    | with_reducible refine ite_outside ?_ ?_
    | with_reducible refine (forEach_outside _ _ _ msk ?_).trans ?_
    | with_reducible refine (pathSeek_outside _ _ msk (sub_trans hm rfl)).trans ?_
    | simp only [set_budget_outside _ _ msk (sub_trans hm rfl)]
    | (intro _)
    | split
theorem pdAbort_outside (p : Nat) (s : State) (msk : Nat) (hm : 64871186038792 &&& msk = 64871186038792) :
    (pdAbort p s).outside msk = s.outside msk := by
  unfold pdAbort
  try dsimp only
  repeat' first
    | with_reducible rfl
    | with_reducible refine (cmdDone_outside _ _ _ _ _ _ msk (sub_trans hm rfl)).trans ?_
    | with_reducible refine (forEach_outside _ _ _ msk ?_).trans ?_
    | with_reducible refine (opDrop_outside _ _ msk (sub_trans hm rfl)).trans ?_
    | (intro _)
theorem eprLeave_outside (p : Nat) (s : State) (msk : Nat) (hm : 64871187087360 &&& msk = 64871187087360) :
    (eprLeave p s).outside msk = s.outside msk := by
  unfold eprLeave
  try dsimp only
  repeat' first
    | with_reducible rfl
    | with_reducible refine ite_outside ?_ ?_
    | with_reducible refine (State.pdOn_outside _ _ _ msk (sub_trans hm rfl)).trans ?_
    | with_reducible refine (pdEvent_outside _ _ _ _ _ _ _ msk (sub_trans hm rfl)).trans ?_
    | split
theorem voidContract_outside (p cause : Nat) (s : State) (msk : Nat) (hm : 64871187611648 &&& msk = 64871187611648) :
    (voidContract p cause s).outside msk = s.outside msk := by
  unfold voidContract
  try dsimp only
  repeat' first
    | with_reducible rfl
    | with_reducible refine ite_outside ?_ ?_
    | with_reducible refine (State.pdOn_outside _ _ _ msk (sub_trans hm rfl)).trans ?_
    | with_reducible refine (State.tcOn_outside _ _ _ msk (sub_trans hm rfl)).trans ?_
    | with_reducible refine (eprLeave_outside _ _ msk (sub_trans hm rfl)).trans ?_
    | with_reducible refine (pdEvent_outside _ _ _ _ _ _ _ msk (sub_trans hm rfl)).trans ?_
    | split
theorem trellisEnd_outside (p : Nat) (s : State) (msk : Nat) (hm : 64871187087360 &&& msk = 64871187087360) :
    (trellisEnd p s).outside msk = s.outside msk := by
  unfold trellisEnd
  try dsimp only
  repeat' first
    | with_reducible rfl
    | with_reducible refine ite_outside ?_ ?_
    | with_reducible refine (State.pdOn_outside _ _ _ msk (sub_trans hm rfl)).trans ?_
    | with_reducible refine (pdEvent_outside _ _ _ _ _ _ _ msk (sub_trans hm rfl)).trans ?_
    | split
theorem refreshBridge_outside (p : Nat) (s : State) (msk : Nat) (hm : 64871186563072 &&& msk = 64871186563072) :
    (refreshBridge p s).outside msk = s.outside msk := by
  unfold refreshBridge
  try dsimp only
  repeat' first
    | with_reducible rfl
    | with_reducible refine ite_outside ?_ ?_
    | with_reducible refine (State.tcOn_outside _ _ _ msk (sub_trans hm rfl)).trans ?_
    | with_reducible refine (tcEvent_outside _ _ _ _ msk (sub_trans hm rfl)).trans ?_
    | split
theorem enterUnattached_outside (p : Nat) (s : State) (msk : Nat) (hm : 524288 &&& msk = 524288) :
    (enterUnattached p s).outside msk = s.outside msk := by
  unfold enterUnattached
  try dsimp only
  repeat' first
    | with_reducible rfl
    | with_reducible refine ite_outside ?_ ?_
    | with_reducible refine (State.tcPut_outside _ _ _ msk (sub_trans hm rfl)).trans ?_
    | split
theorem guestBump_outside (p : Nat) (s : State) (msk : Nat) (hm : 262144 &&& msk = 262144) :
    (guestBump p s).outside msk = s.outside msk := by
  unfold guestBump
  try dsimp only
  repeat' first
    | with_reducible rfl
    | with_reducible refine (State.guestOn_outside _ _ _ msk (sub_trans hm rfl)).trans ?_
theorem guestAbort_outside (p : Nat) (s : State) (msk : Nat) (hm : 64871186038792 &&& msk = 64871186038792) :
    (guestAbort p s).outside msk = s.outside msk := by
  unfold guestAbort
  try dsimp only
  repeat' first
    | with_reducible rfl
    | with_reducible refine (abortOps_outside _ _ _ _ msk (sub_trans hm rfl)).trans ?_
    | split
theorem guestPause_outside (r code : Nat) (s : State) (msk : Nat) (hm : 64871186046976 &&& msk = 64871186046976) :
    (guestPause r code s).outside msk = s.outside msk := by
  unfold guestPause
  try dsimp only
  repeat' first
    | with_reducible rfl
    | with_reducible refine ite_outside ?_ ?_
    | with_reducible refine (State.epOn_outside _ _ _ msk (sub_trans hm rfl)).trans ?_
    | with_reducible refine (epBump_outside _ _ msk (sub_trans hm rfl)).trans ?_
    | with_reducible refine (pauseNow_outside _ _ _ msk (sub_trans hm rfl)).trans ?_
    | split
theorem guestGone_outside (p cause : Nat) (s : State) (msk : Nat) (hm : 64871186374664 &&& msk = 64871186374664) :
    (guestGone p cause s).outside msk = s.outside msk := by
  unfold guestGone
  try dsimp only
  repeat' first
    | with_reducible rfl
    | with_reducible refine ite_outside ?_ ?_
    | with_reducible refine (State.guestOn_outside _ _ _ msk (sub_trans hm rfl)).trans ?_
    | with_reducible refine (State.linkOn_outside _ _ _ msk (sub_trans hm rfl)).trans ?_
    | with_reducible refine (forEach_outside _ _ _ msk ?_).trans ?_
    | with_reducible refine (guestAbort_outside _ _ msk (sub_trans hm rfl)).trans ?_
    | with_reducible refine (guestBump_outside _ _ msk (sub_trans hm rfl)).trans ?_
    | with_reducible refine (guestPause_outside _ _ _ msk (sub_trans hm rfl)).trans ?_
    | with_reducible refine (portEvent_outside _ _ _ _ _ _ msk (sub_trans hm rfl)).trans ?_
    | (intro _)
    | split
theorem refreshPort_outside (p : Nat) (s : State) (msk : Nat) (hm : 64871186509834 &&& msk = 64871186509834) :
    (refreshPort p s).outside msk = s.outside msk := by
  unfold refreshPort
  try dsimp only
  repeat' first
    | with_reducible rfl
    | with_reducible refine ite_outside ?_ ?_
    | with_reducible refine (guestGone_outside _ _ _ msk (sub_trans hm rfl)).trans ?_
    | with_reducible refine (refreshSides_outside _ _ msk (sub_trans hm rfl)).trans ?_
    | split
theorem refreshRole_outside (p cause : Nat) (live : Bool) (s : State) (msk : Nat) (hm : 64871186509834 &&& msk = 64871186509834) :
    (refreshRole p cause live s).outside msk = s.outside msk := by
  unfold refreshRole
  try dsimp only
  repeat' first
    | with_reducible rfl
    | with_reducible refine ite_outside ?_ ?_
    | with_reducible refine (State.linkOn_outside _ _ _ msk (sub_trans hm rfl)).trans ?_
    | with_reducible refine (dropSide_outside _ _ _ _ msk (sub_trans hm rfl)).trans ?_
    | with_reducible refine (guestGone_outside _ _ _ msk (sub_trans hm rfl)).trans ?_
    | with_reducible refine (portEvent_outside _ _ _ _ _ _ msk (sub_trans hm rfl)).trans ?_
    | with_reducible refine (refreshSides_outside _ _ msk (sub_trans hm rfl)).trans ?_
    | split
theorem tcDetach_outside (p q gone : Nat) (goal : State → State) (s : State) (msk : Nat) (hm : 64875619364874 &&& msk = 64875619364874) (hg0 : ∀ y0, (goal y0).outside msk = y0.outside msk) :
    (tcDetach p q gone goal s).outside msk = s.outside msk := by
  unfold tcDetach
  try dsimp only
  repeat' first
    | with_reducible rfl
    | with_reducible refine ite_outside ?_ ?_
    | with_reducible refine (State.pathOn_outside _ _ _ msk (sub_trans hm rfl)).trans ?_
    | with_reducible refine (State.pdPut_outside _ _ _ msk (sub_trans hm rfl)).trans ?_
    | with_reducible refine (State.tcOn_outside _ _ _ msk (sub_trans hm rfl)).trans ?_
    | with_reducible refine (lineQuiet_outside _ _ msk (sub_trans hm rfl)).trans ?_
    | with_reducible refine (pathOff_outside _ _ _ msk (sub_trans hm rfl)).trans ?_
    | with_reducible refine (pdAbort_outside _ _ msk (sub_trans hm rfl)).trans ?_
    | with_reducible refine (refreshRole_outside _ _ _ _ msk (sub_trans hm rfl)).trans ?_
    | with_reducible refine (serveWaiting_outside _ msk (sub_trans hm rfl)).trans ?_
    | with_reducible refine (tcEvent_outside _ _ _ _ msk (sub_trans hm rfl)).trans ?_
    | with_reducible refine (trellisEnd_outside _ _ msk (sub_trans hm rfl)).trans ?_
    | with_reducible refine (voidContract_outside _ _ _ msk (sub_trans hm rfl)).trans ?_
    | with_reducible refine (hg0 _ ).trans ?_
    | split

/-! ### LinkOps -/

theorem portOpDone_outside (p : Nat) (k : OpKind) (result : Nat) (s : State) (msk : Nat) (hm : 64871186038792 &&& msk = 64871186038792) :
    (portOpDone p k result s).outside msk = s.outside msk := by
  unfold portOpDone
  try dsimp only
  repeat' first
    | with_reducible rfl
    | with_reducible refine (cmdDone_outside _ _ _ _ _ _ msk (sub_trans hm rfl)).trans ?_
    | with_reducible refine (opDrop_outside _ _ msk (sub_trans hm rfl)).trans ?_
    | split
theorem longDone_outside (p : Nat) (kind : OpKind) (result : Nat) (s : State) (msk : Nat) (hm : 64871186038792 &&& msk = 64871186038792) :
    (longDone p kind result s).outside msk = s.outside msk := by
  unfold longDone
  try dsimp only
  repeat' first
    | with_reducible rfl
    | with_reducible refine ite_outside ?_ ?_
    | with_reducible refine (cmdDone_outside _ _ _ _ _ _ msk (sub_trans hm rfl)).trans ?_
    | with_reducible refine (opDrop_outside _ _ msk (sub_trans hm rfl)).trans ?_
    | split
theorem startReset_outside (p : Nat) (sd : Side) (by_ : ResetBy) (warm : Bool) (s : State) (msk : Nat) (hm : 204800 &&& msk = 204800) :
    (startReset p sd by_ warm s).outside msk = s.outside msk := by
  unfold startReset
  try dsimp only
  repeat' first
    | with_reducible rfl
    | with_reducible refine (State.reset_outside msk (sub_trans hm rfl)).trans ?_
    | with_reducible refine (State.sideOn_outside _ _ _ _ msk (sub_trans hm rfl)).trans ?_
    | with_reducible refine (forEach_outside _ _ _ msk ?_).trans ?_
    | with_reducible refine (stopStart_outside _ _ _ msk (sub_trans hm rfl)).trans ?_
    | (intro _)
theorem driveReset_outside (p : Nat) (sd : Side) (s : State) (msk : Nat) (hm : 64871186116608 &&& msk = 64871186116608) :
    (driveReset p sd s).outside msk = s.outside msk := by
  unfold driveReset
  try dsimp only
  repeat' first
    | with_reducible rfl
    | with_reducible refine ite_outside ?_ ?_
    | with_reducible refine (State.emit_outside _ _ msk (sub_trans hm rfl)).trans ?_
    | with_reducible refine (State.reset_outside msk (sub_trans hm rfl)).trans ?_
    | with_reducible refine (State.sideOn_outside _ _ _ _ msk (sub_trans hm rfl)).trans ?_
    | with_reducible refine (forEach_outside _ _ _ msk ?_).trans ?_
    | with_reducible refine (resetSlot_outside _ _ msk (sub_trans hm rfl)).trans ?_
    | (intro _)
    | split
theorem errorSide_outside (p : Nat) (sd : Side) (change value : Nat) (s : State) (msk : Nat) (hm : 64871186243594 &&& msk = 64871186243594) :
    (errorSide p sd change value s).outside msk = s.outside msk := by
  unfold errorSide
  try dsimp only
  repeat' first
    | with_reducible rfl
    | with_reducible refine ite_outside ?_ ?_
    | with_reducible refine (State.sideOn_outside _ _ _ _ msk (sub_trans hm rfl)).trans ?_
    | with_reducible refine (abortOps_outside _ _ _ _ msk (sub_trans hm rfl)).trans ?_
    | with_reducible refine (forEach_outside _ _ _ msk ?_).trans ?_
    | with_reducible refine (haltXfer_outside _ _ _ msk (sub_trans hm rfl)).trans ?_
    | with_reducible refine (portEvent_outside _ _ _ _ _ _ msk (sub_trans hm rfl)).trans ?_
    | with_reducible refine (pruneWin_outside _ _ _ msk (sub_trans hm rfl)).trans ?_
    | with_reducible refine (startReset_outside _ _ _ _ _ msk (sub_trans hm rfl)).trans ?_
    | (intro _)
    | split
theorem startResume_outside (p : Nat) (sd : Side) (by_ : ResumeBy) (s : State) (msk : Nat) (hm : 1099511693312 &&& msk = 1099511693312) :
    (startResume p sd by_ s).outside msk = s.outside msk := by
  unfold startResume
  try dsimp only
  repeat' first
    | with_reducible rfl
    | with_reducible refine ite_outside ?_ ?_
    | with_reducible refine (State.emit_outside _ _ msk (sub_trans hm rfl)).trans ?_
    | with_reducible refine (State.sideOn_outside _ _ _ _ msk (sub_trans hm rfl)).trans ?_
    | split
theorem endResume_outside (p : Nat) (sd : Side) (s : State) (msk : Nat) (hm : 64871186235400 &&& msk = 64871186235400) :
    (endResume p sd s).outside msk = s.outside msk := by
  unfold endResume
  try dsimp only
  repeat' first
    | with_reducible rfl
    | with_reducible refine ite_outside ?_ ?_
    | with_reducible refine (State.sideOn_outside _ _ _ _ msk (sub_trans hm rfl)).trans ?_
    | with_reducible refine (busStart_outside _ _ msk (sub_trans hm rfl)).trans ?_
    | with_reducible refine (longDone_outside _ _ _ _ msk (sub_trans hm rfl)).trans ?_
    | with_reducible refine (portEvent_outside _ _ _ _ _ _ msk (sub_trans hm rfl)).trans ?_
    | split

/-! ### FaultOps -/

theorem faultEvent_outside (r : FltRec) (phase : Nat) (absorbed : Bool) (s : State) (msk : Nat) (hm : 64871186038784 &&& msk = 64871186038784) :
    (faultEvent r phase absorbed s).outside msk = s.outside msk := by
  unfold faultEvent
  try dsimp only
  repeat' first
    | with_reducible rfl
    | with_reducible refine (postFault_outside _ _ _ msk (sub_trans hm rfl)).trans ?_
theorem fltCount_outside (n : Nat) (s : State) (msk : Nat) (hm : 35188667056144 &&& msk = 35188667056144) :
    (fltCount n s).outside msk = s.outside msk := by
  unfold fltCount
  try dsimp only
  repeat' first
    | with_reducible rfl
    | with_reducible refine ite_outside ?_ ?_
    | with_reducible refine (State.fltSrcOn_outside _ _ _ msk (sub_trans hm rfl)).trans ?_
    | with_reducible refine (State.rsAdd_outside _ _ _ _ _ msk (sub_trans hm rfl)).trans ?_
    | split
theorem faultPin_outside (r : FltRec) (s : State) (msk : Nat) (hm : 35188667056144 &&& msk = 35188667056144) :
    (faultPin r s).outside msk = s.outside msk := by
  unfold faultPin
  try dsimp only
  repeat' first
    | with_reducible rfl
    | with_reducible refine ite_outside ?_ ?_
    | with_reducible refine (State.fldPut_outside _ _ _ _ _ msk (sub_trans hm rfl)).trans ?_
    | simp only [set_flt_outside _ _ msk (sub_trans hm rfl)]
    | split
theorem portHold_outside (p : Nat) (r : FltRec) (s : State) (msk : Nat) (hm : 4295041024 &&& msk = 4295041024) :
    (portHold p r s).outside msk = s.outside msk := by
  unfold portHold
  try dsimp only
  repeat' first
    | with_reducible rfl
    | with_reducible refine ite_outside ?_ ?_
    | with_reducible refine (State.epOn_outside _ _ _ msk (sub_trans hm rfl)).trans ?_
    | with_reducible refine (State.linkOn_outside _ _ _ msk (sub_trans hm rfl)).trans ?_
    | with_reducible refine (forEach_outside _ _ _ msk ?_).trans ?_
    | simp only [set_flt_outside _ _ msk (sub_trans hm rfl)]
    | (intro _)
    | split
theorem portHoldEnd_outside (p : Nat) (s : State) (msk : Nat) (hm : 4295041024 &&& msk = 4295041024) :
    (portHoldEnd p s).outside msk = s.outside msk := by
  unfold portHoldEnd
  try dsimp only
  repeat' first
    | with_reducible rfl
    | with_reducible refine ite_outside ?_ ?_
    | with_reducible refine (State.epOn_outside _ _ _ msk (sub_trans hm rfl)).trans ?_
    | with_reducible refine (State.linkOn_outside _ _ _ msk (sub_trans hm rfl)).trans ?_
    | with_reducible refine (forEach_outside _ _ _ msk ?_).trans ?_
    | simp only [set_flt_outside _ _ msk (sub_trans hm rfl)]
    | (intro _)
    | split
theorem resetDropped_outside (p : Nat) (sd : Side) (s : State) (msk : Nat) (hm : 73728 &&& msk = 73728) :
    (resetDropped p sd s).outside msk = s.outside msk := by
  unfold resetDropped
  try dsimp only
  repeat' first
    | with_reducible rfl
    | with_reducible refine ite_outside ?_ ?_
    | with_reducible refine (State.epOn_outside _ _ _ msk (sub_trans hm rfl)).trans ?_
    | with_reducible refine (State.sideOn_outside _ _ _ _ msk (sub_trans hm rfl)).trans ?_
    | with_reducible refine (forEach_outside _ _ _ msk ?_).trans ?_
    | (intro _)
    | split
theorem isolateSide_outside (p : Nat) (sd : Side) (s : State) (msk : Nat) (hm : 1099511701504 &&& msk = 1099511701504) :
    (isolateSide p sd s).outside msk = s.outside msk := by
  unfold isolateSide
  try dsimp only
  repeat' first
    | with_reducible rfl
    | with_reducible refine ite_outside ?_ ?_
    | with_reducible refine (State.emit_outside _ _ msk (sub_trans hm rfl)).trans ?_
    | with_reducible refine (State.sideOn_outside _ _ _ _ msk (sub_trans hm rfl)).trans ?_
    | with_reducible refine (resetDropped_outside _ _ _ msk (sub_trans hm rfl)).trans ?_
    | split
theorem isolateWire_outside (p : Nat) (s : State) (msk : Nat) (hm : 64871186046986 &&& msk = 64871186046986) :
    (isolateWire p s).outside msk = s.outside msk := by
  unfold isolateWire
  try dsimp only
  repeat' first
    | with_reducible rfl
    | with_reducible refine ite_outside ?_ ?_
    | with_reducible refine (State.epOn_outside _ _ _ msk (sub_trans hm rfl)).trans ?_
    | with_reducible refine (afterXact_outside _ _ msk (sub_trans hm rfl)).trans ?_
    | with_reducible refine (forEach_outside _ _ _ msk ?_).trans ?_
    | (intro _)
    | split
theorem isolateBed_outside (b : Nat) (r : FltRec) (s : State) (msk : Nat) (hm : 64875514765322 &&& msk = 64875514765322) :
    (isolateBed b r s).outside msk = s.outside msk := by
  unfold isolateBed
  try dsimp only
  repeat' first
    | with_reducible rfl
    | with_reducible refine ite_outside ?_ ?_
    | with_reducible refine (State.bedOn_outside _ _ _ msk (sub_trans hm rfl)).trans ?_
    | with_reducible refine (State.reset_outside msk (sub_trans hm rfl)).trans ?_
    | with_reducible refine (abortOps_outside _ _ _ _ msk (sub_trans hm rfl)).trans ?_
    | with_reducible refine (forEach_outside _ _ _ msk ?_).trans ?_
    | with_reducible refine (isolateSide_outside _ _ _ msk (sub_trans hm rfl)).trans ?_
    | with_reducible refine (isolateWire_outside _ _ msk (sub_trans hm rfl)).trans ?_
    | with_reducible refine (portHoldEnd_outside _ _ msk (sub_trans hm rfl)).trans ?_
    | with_reducible refine (pruneWin_outside _ _ _ msk (sub_trans hm rfl)).trans ?_
    | simp only [set_flt_outside _ _ msk (sub_trans hm rfl)]
    | (intro _)
    | split
theorem retirePort_outside (p : Nat) (s : State) (msk : Nat) (hm : 64875627753498 &&& msk = 64875627753498) :
    (retirePort p s).outside msk = s.outside msk := by
  unfold retirePort
  try dsimp only
  repeat' first
    | with_reducible rfl
    | with_reducible refine ite_outside ?_ ?_
    | with_reducible refine (State.tcOn_outside _ _ _ msk (sub_trans hm rfl)).trans ?_
    | with_reducible refine (capEnd_outside _ _ _ msk (sub_trans hm rfl)).trans ?_
    | with_reducible refine (guestGone_outside _ _ _ msk (sub_trans hm rfl)).trans ?_
    | with_reducible refine (pathOff_outside _ _ _ msk (sub_trans hm rfl)).trans ?_
    | with_reducible refine (portHoldEnd_outside _ _ msk (sub_trans hm rfl)).trans ?_
    | with_reducible refine (refreshSides_outside _ _ msk (sub_trans hm rfl)).trans ?_
    | with_reducible refine (tcDetach_outside _ _ _ _ _ msk (sub_trans hm rfl) ?_).trans ?_
    | (intro _)
    | split
theorem retireBed_outside (b : Nat) (r : FltRec) (s : State) (msk : Nat) (hm : 64875661307930 &&& msk = 64875661307930) :
    (retireBed b r s).outside msk = s.outside msk := by
  unfold retireBed
  try dsimp only
  repeat' first
    | with_reducible rfl
    | with_reducible refine (State.bedOn_outside _ _ _ msk (sub_trans hm rfl)).trans ?_
    | with_reducible refine (faultEvent_outside _ _ _ _ msk (sub_trans hm rfl)).trans ?_
    | with_reducible refine (forEach_outside _ _ _ msk ?_).trans ?_
    | with_reducible refine (retirePort_outside _ _ msk (sub_trans hm rfl)).trans ?_
    | with_reducible refine (serveWaiting_outside _ msk (sub_trans hm rfl)).trans ?_
    | (intro _)
theorem orderIsolate_outside (b : Nat) (r : FltRec) (s : State) (msk : Nat) (hm : 64875661307930 &&& msk = 64875661307930) :
    (orderIsolate b r s).outside msk = s.outside msk := by
  unfold orderIsolate
  try dsimp only
  repeat' first
    | with_reducible rfl
    | with_reducible refine ite_outside ?_ ?_
    | with_reducible refine (State.bedOn_outside _ _ _ msk (sub_trans hm rfl)).trans ?_
    | with_reducible refine (isolateBed_outside _ _ _ msk (sub_trans hm rfl)).trans ?_
    | with_reducible refine (retireBed_outside _ _ _ msk (sub_trans hm rfl)).trans ?_
    | split
theorem safeHoldEnter_outside (r : FltRec) (s : State) (msk : Nat) (hm : 4831838208 &&& msk = 4831838208) :
    (safeHoldEnter r s).outside msk = s.outside msk := by
  unfold safeHoldEnter
  try dsimp only
  repeat' first
    | with_reducible rfl
    | with_reducible refine ite_outside ?_ ?_
    | simp only [set_eng_flt_outside _ _ _ msk (sub_trans hm rfl)]
    | split
theorem fltReact_outside (r : FltRec) (s : State) (msk : Nat) (hm : 64878345662490 &&& msk = 64878345662490) :
    (fltReact r s).outside msk = s.outside msk := by
  unfold fltReact
  try dsimp only
  repeat' first
    | with_reducible rfl
    | with_reducible refine ite_outside ?_ ?_
    | with_reducible refine (dspAssert_outside _ _ msk (sub_trans hm rfl)).trans ?_
    | with_reducible refine (faultEvent_outside _ _ _ _ msk (sub_trans hm rfl)).trans ?_
    | with_reducible refine (faultPin_outside _ _ msk (sub_trans hm rfl)).trans ?_
    | with_reducible refine (orderIsolate_outside _ _ _ msk (sub_trans hm rfl)).trans ?_
    | with_reducible refine (portHold_outside _ _ _ msk (sub_trans hm rfl)).trans ?_
    | with_reducible refine (safeHoldEnter_outside _ _ msk (sub_trans hm rfl)).trans ?_
    | split
theorem faultAlm_outside (r : FltRec) (s : State) (msk : Nat) (hm : 85899345920 &&& msk = 85899345920) :
    (faultAlm r s).outside msk = s.outside msk := by
  unfold faultAlm
  try dsimp only
  repeat' first
    | with_reducible rfl
    | with_reducible refine ite_outside ?_ ?_
    | with_reducible refine (almRecord_outside _ _ _ msk (sub_trans hm rfl)).trans ?_
    | with_reducible refine (smbAlert_outside _ msk (sub_trans hm rfl)).trans ?_
    | simp only [set_alm_outside _ _ msk (sub_trans hm rfl)]
    | split
theorem fltRecord_outside (r : FltRec) (s : State) (msk : Nat) (hm : 64972834943002 &&& msk = 64972834943002) :
    (fltRecord r s).outside msk = s.outside msk := by
  unfold fltRecord
  try dsimp only
  repeat' first
    | with_reducible rfl
    | with_reducible refine ite_outside ?_ ?_
    | with_reducible refine (State.fltSrcOn_outside _ _ _ msk (sub_trans hm rfl)).trans ?_
    | with_reducible refine (State.rsAdd_outside _ _ _ _ _ msk (sub_trans hm rfl)).trans ?_
    | with_reducible refine (faultAlm_outside _ _ msk (sub_trans hm rfl)).trans ?_
    | with_reducible refine (faultEvent_outside _ _ _ _ msk (sub_trans hm rfl)).trans ?_
    | with_reducible refine (fltCount_outside _ _ msk (sub_trans hm rfl)).trans ?_
    | with_reducible refine (fltReact_outside _ _ msk (sub_trans hm rfl)).trans ?_
    | simp only [set_inj_outside _ _ msk (sub_trans hm rfl)]
    | split
theorem fltCause_outside (r : FltRec) (line : Line) (s : State) (msk : Nat) (hm : 64972834943002 &&& msk = 64972834943002) :
    (fltCause r line s).outside msk = s.outside msk := by
  unfold fltCause
  try dsimp only
  repeat' first
    | with_reducible rfl
    | with_reducible refine ite_outside ?_ ?_
    | with_reducible refine (State.fltSrcOn_outside _ _ _ msk (sub_trans hm rfl)).trans ?_
    | with_reducible refine (faultEvent_outside _ _ _ _ msk (sub_trans hm rfl)).trans ?_
    | with_reducible refine (fltCount_outside _ _ msk (sub_trans hm rfl)).trans ?_
    | with_reducible refine (fltRecord_outside _ _ msk (sub_trans hm rfl)).trans ?_
    | simp only [set_flt_outside _ _ msk (sub_trans hm rfl)]
    | split
theorem raiseFault_outside (n cause unit info f : Nat) (lasting : Bool) (s : State) (msk : Nat) (hm : 64972834943002 &&& msk = 64972834943002) :
    (raiseFault n cause unit info f lasting s).outside msk = s.outside msk := by
  unfold raiseFault
  try dsimp only
  repeat' first
    | with_reducible rfl
    | with_reducible refine ite_outside ?_ ?_
    | with_reducible refine (fltCause_outside _ _ _ msk (sub_trans hm rfl)).trans ?_
    | split
theorem fltDeferred_outside (s : State) (msk : Nat) (hm : 64972834943002 &&& msk = 64972834943002) :
    (fltDeferred s).outside msk = s.outside msk := by
  unfold fltDeferred
  try dsimp only
  repeat' first
    | with_reducible rfl
    | with_reducible refine ite_outside ?_ ?_
    | with_reducible refine (State.fltSrcOn_outside _ _ _ msk (sub_trans hm rfl)).trans ?_
    | with_reducible refine (fltRecord_outside _ _ msk (sub_trans hm rfl)).trans ?_
    | with_reducible refine (forEach_outside _ _ _ msk ?_).trans ?_
    | simp only [set_flt_outside _ _ msk (sub_trans hm rfl)]
    | (intro _)
    | split
theorem injAck_outside (s : State) (msk : Nat) (hm : 64972834943002 &&& msk = 64972834943002) :
    (injAck s).outside msk = s.outside msk := by
  unfold injAck
  try dsimp only
  repeat' first
    | with_reducible rfl
    | with_reducible refine ite_outside ?_ ?_
    | with_reducible refine (fltRecord_outside _ _ msk (sub_trans hm rfl)).trans ?_
    | split

/-! ### EngOps -/

theorem engOn_outside (g : Eng → Eng) (s : State) (msk : Nat) (hm : 536870912 &&& msk = 536870912) :
    (engOn g s).outside msk = s.outside msk := by
  unfold engOn
  try dsimp only
  repeat' first
    | with_reducible rfl
    | simp only [set_eng_outside _ _ msk (sub_trans hm rfl)]
theorem rotOrder_outside (out : Nat) (by_ : RotBy) (s : State) (msk : Nat) (hm : 536870912 &&& msk = 536870912) :
    (rotOrder out by_ s).outside msk = s.outside msk := by
  unfold rotOrder
  try dsimp only
  repeat' first
    | with_reducible rfl
    | with_reducible refine (engOn_outside _ _ msk (sub_trans hm rfl)).trans ?_
theorem rotServe_outside (s : State) (msk : Nat) (hm : 64871722909696 &&& msk = 64871722909696) :
    (rotServe s).outside msk = s.outside msk := by
  unfold rotServe
  try dsimp only
  repeat' first
    | with_reducible rfl
    | with_reducible refine ite_outside ?_ ?_
    | with_reducible refine (cmdDone_outside _ _ _ _ _ _ msk (sub_trans hm rfl)).trans ?_
    | with_reducible refine (engOn_outside _ _ msk (sub_trans hm rfl)).trans ?_
    | split
theorem dspMove_outside (out into : Nat) (s : State) (msk : Nat) (hm : 2147483648 &&& msk = 2147483648) :
    (dspMove out into s).outside msk = s.outside msk := by
  unfold dspMove
  try dsimp only
  repeat' first
    | with_reducible rfl
    | with_reducible refine ite_outside ?_ ?_
    | with_reducible refine (State.procOn_outside _ _ _ msk (sub_trans hm rfl)).trans ?_
    | simp only [set_dsp_outside _ _ msk (sub_trans hm rfl)]
    | split
theorem engMove_outside (out : Nat) (s : State) (msk : Nat) (hm : 2684354560 &&& msk = 2684354560) :
    (engMove out s).outside msk = s.outside msk := by
  unfold engMove
  try dsimp only
  repeat' first
    | with_reducible rfl
    | with_reducible refine (dspMove_outside _ _ _ msk (sub_trans hm rfl)).trans ?_
    | with_reducible refine (engOn_outside _ _ msk (sub_trans hm rfl)).trans ?_
theorem engPassed_outside (t : Nat) (s : State) (msk : Nat) (hm : 536870912 &&& msk = 536870912) :
    (engPassed t s).outside msk = s.outside msk := by
  unfold engPassed
  try dsimp only
  repeat' first
    | with_reducible rfl
    | with_reducible refine (engOn_outside _ _ msk (sub_trans hm rfl)).trans ?_
theorem updAbandon_outside (s : State) (msk : Nat) (hm : 536870912 &&& msk = 536870912) :
    (updAbandon s).outside msk = s.outside msk := by
  unfold updAbandon
  try dsimp only
  repeat' first
    | with_reducible rfl
    | with_reducible refine ite_outside ?_ ?_
    | with_reducible refine (engOn_outside _ _ msk (sub_trans hm rfl)).trans ?_
    | split
theorem rotFinish_outside (r : Rot) (s : State) (msk : Nat) (hm : 64871722909712 &&& msk = 64871722909712) :
    (rotFinish r s).outside msk = s.outside msk := by
  unfold rotFinish
  try dsimp only
  repeat' first
    | with_reducible rfl
    | with_reducible refine ite_outside ?_ ?_
    | with_reducible refine (State.rsAdd_outside _ _ _ _ _ msk (sub_trans hm rfl)).trans ?_
    | with_reducible refine (cmdDone_outside _ _ _ _ _ _ msk (sub_trans hm rfl)).trans ?_
    | with_reducible refine (engOn_outside _ _ msk (sub_trans hm rfl)).trans ?_
    | with_reducible refine (rotOrder_outside _ _ _ msk (sub_trans hm rfl)).trans ?_
    | split
theorem engRetire_outside (t : Nat) (s : State) (msk : Nat) (hm : 64972834943002 &&& msk = 64972834943002) :
    (engRetire t s).outside msk = s.outside msk := by
  unfold engRetire
  try dsimp only
  repeat' first
    | with_reducible rfl
    | with_reducible refine ite_outside ?_ ?_
    | with_reducible refine (State.rsAdd_outside _ _ _ _ _ msk (sub_trans hm rfl)).trans ?_
    | with_reducible refine (cmdDone_outside _ _ _ _ _ _ msk (sub_trans hm rfl)).trans ?_
    | with_reducible refine (engOn_outside _ _ msk (sub_trans hm rfl)).trans ?_
    | with_reducible refine (fltCause_outside _ _ _ msk (sub_trans hm rfl)).trans ?_
    | with_reducible refine (updAbandon_outside _ msk (sub_trans hm rfl)).trans ?_
    | split
theorem engFailed_outside (t : Nat) (again : Bool) (s : State) (msk : Nat) (hm : 64972834943002 &&& msk = 64972834943002) :
    (engFailed t again s).outside msk = s.outside msk := by
  unfold engFailed
  try dsimp only
  repeat' first
    | with_reducible rfl
    | with_reducible refine ite_outside ?_ ?_
    | with_reducible refine (State.rsAdd_outside _ _ _ _ _ msk (sub_trans hm rfl)).trans ?_
    | with_reducible refine (engRetire_outside _ _ msk (sub_trans hm rfl)).trans ?_
    | with_reducible refine (raiseFault_outside _ _ _ _ _ _ _ msk (sub_trans hm rfl)).trans ?_
    | split
theorem rotAbandon_outside (r : Rot) (s : State) (msk : Nat) (hm : 35184908959760 &&& msk = 35184908959760) :
    (rotAbandon r s).outside msk = s.outside msk := by
  unfold rotAbandon
  try dsimp only
  repeat' first
    | with_reducible rfl
    | with_reducible refine (State.rsAdd_outside _ _ _ _ _ msk (sub_trans hm rfl)).trans ?_
    | with_reducible refine (engOn_outside _ _ msk (sub_trans hm rfl)).trans ?_
theorem engLost_outside (t : Nat) (s : State) (msk : Nat) (hm : 2684354560 &&& msk = 2684354560) :
    (engLost t s).outside msk = s.outside msk := by
  unfold engLost
  try dsimp only
  repeat' first
    | with_reducible rfl
    | with_reducible refine ite_outside ?_ ?_
    | with_reducible refine (engMove_outside _ _ msk (sub_trans hm rfl)).trans ?_
    | with_reducible refine (engOn_outside _ _ msk (sub_trans hm rfl)).trans ?_
    | split
theorem threadFault_outside (t : Nat) (lost : Bool) (s : State) (msk : Nat) (hm : 35187056443408 &&& msk = 35187056443408) :
    (threadFault t lost s).outside msk = s.outside msk := by
  unfold threadFault
  try dsimp only
  repeat' first
    | with_reducible rfl
    | with_reducible refine ite_outside ?_ ?_
    | with_reducible refine (State.rsAdd_outside _ _ _ _ _ msk (sub_trans hm rfl)).trans ?_
    | with_reducible refine (engLost_outside _ _ msk (sub_trans hm rfl)).trans ?_
    | with_reducible refine (engOn_outside _ _ msk (sub_trans hm rfl)).trans ?_
    | with_reducible refine (rotAbandon_outside _ _ msk (sub_trans hm rfl)).trans ?_
    | split

/-! ### ModeOps -/

theorem modeOn_outside (g : ModeSt → ModeSt) (s : State) (msk : Nat) (hm : 268435456 &&& msk = 268435456) :
    (modeOn g s).outside msk = s.outside msk := by
  unfold modeOn
  try dsimp only
  repeat' first
    | with_reducible rfl
    | simp only [set_mode_outside _ _ msk (sub_trans hm rfl)]
theorem tempoEvent_outside (kind : Nat) (s : State) (msk : Nat) (hm : 64871454474240 &&& msk = 64871454474240) :
    (tempoEvent kind s).outside msk = s.outside msk := by
  unfold tempoEvent
  try dsimp only
  repeat' first
    | with_reducible rfl
    | with_reducible refine ite_outside ?_ ?_
    | with_reducible refine (modeOn_outside _ _ msk (sub_trans hm rfl)).trans ?_
    | with_reducible refine (postPf_outside _ _ msk (sub_trans hm rfl)).trans ?_
    | split
theorem modeEvent_outside (kind cause : Nat) (old : Mode) (oldPwr : PwrSt) (withheld stopped : Nat) (s : State) (msk : Nat) (hm : 64871454474240 &&& msk = 64871454474240) :
    (modeEvent kind cause old oldPwr withheld stopped s).outside msk = s.outside msk := by
  unfold modeEvent
  try dsimp only
  repeat' first
    | with_reducible rfl
    | with_reducible refine ite_outside ?_ ?_
    | with_reducible refine (modeOn_outside _ _ msk (sub_trans hm rfl)).trans ?_
    | with_reducible refine (postPf_outside _ _ msk (sub_trans hm rfl)).trans ?_
    | split
theorem voutTo_outside (mv : Nat) (s : State) (msk : Nat) (hm : 1099780063232 &&& msk = 1099780063232) :
    (voutTo mv s).outside msk = s.outside msk := by
  unfold voutTo
  try dsimp only
  repeat' first
    | with_reducible rfl
    | with_reducible refine ite_outside ?_ ?_
    | with_reducible refine (State.emit_outside _ _ msk (sub_trans hm rfl)).trans ?_
    | with_reducible refine (modeOn_outside _ _ msk (sub_trans hm rfl)).trans ?_
    | split
theorem modeTake_outside (g : Mode) (s : State) (msk : Nat) (hm : 268435456 &&& msk = 268435456) :
    (modeTake g s).outside msk = s.outside msk := by
  unfold modeTake
  try dsimp only
  repeat' first
    | with_reducible rfl
    | with_reducible refine (modeOn_outside _ _ msk (sub_trans hm rfl)).trans ?_
theorem setModeDone_outside (h : CmdHdr) (code result : Nat) (s : State) (msk : Nat) (hm : 64871186038784 &&& msk = 64871186038784) :
    (setModeDone h code result s).outside msk = s.outside msk := by
  unfold setModeDone
  try dsimp only
  repeat' first
    | with_reducible rfl
    | with_reducible refine (cmdDone_outside _ _ _ _ _ _ msk (sub_trans hm rfl)).trans ?_
theorem withholdSide_outside (p : Nat) (s : State) (msk : Nat) (hm : 64871186247690 &&& msk = 64871186247690) :
    (withholdSide p s).outside msk = s.outside msk := by
  unfold withholdSide
  try dsimp only
  repeat' first
    | with_reducible rfl
    | with_reducible refine (State.sideOn_outside _ _ _ _ msk (sub_trans hm rfl)).trans ?_
    | with_reducible refine (dropSide_outside _ _ _ _ msk (sub_trans hm rfl)).trans ?_
    | with_reducible refine (portEvent_outside _ _ _ _ _ _ msk (sub_trans hm rfl)).trans ?_
theorem modeSlower_outside (g : Mode) (by_ : ModeBy) (s : State) (msk : Nat) (hm : 64871463071770 &&& msk = 64871463071770) :
    (modeSlower g by_ s).outside msk = s.outside msk := by
  unfold modeSlower
  try dsimp only
  repeat' first
    | with_reducible rfl
    | with_reducible refine ite_outside ?_ ?_
    | with_reducible refine (capEnd_outside _ _ _ msk (sub_trans hm rfl)).trans ?_
    | with_reducible refine (forEach_outside _ _ _ msk ?_).trans ?_
    | with_reducible refine (modeOn_outside _ _ msk (sub_trans hm rfl)).trans ?_
    | with_reducible refine (modeTake_outside _ _ msk (sub_trans hm rfl)).trans ?_
    | with_reducible refine (withholdSide_outside _ _ msk (sub_trans hm rfl)).trans ?_
    | (intro _)
    | split
theorem modeFaster_outside (g : Mode) (by_ : ModeBy) (s : State) (msk : Nat) (hm : 1099780063232 &&& msk = 1099780063232) :
    (modeFaster g by_ s).outside msk = s.outside msk := by
  unfold modeFaster
  try dsimp only
  repeat' first
    | with_reducible rfl
    | with_reducible refine (modeOn_outside _ _ msk (sub_trans hm rfl)).trans ?_
    | with_reducible refine (voutTo_outside _ _ msk (sub_trans hm rfl)).trans ?_
theorem modeServe_outside (s : State) (msk : Nat) (hm : 64871463071770 &&& msk = 64871463071770) :
    (modeServe s).outside msk = s.outside msk := by
  unfold modeServe
  try dsimp only
  repeat' first
    | with_reducible rfl
    | with_reducible refine ite_outside ?_ ?_
    | with_reducible refine (modeFaster_outside _ _ _ msk (sub_trans hm rfl)).trans ?_
    | with_reducible refine (modeOn_outside _ _ msk (sub_trans hm rfl)).trans ?_
    | with_reducible refine (modeSlower_outside _ _ _ msk (sub_trans hm rfl)).trans ?_
    | split
theorem modeEnd_outside (s : State) (msk : Nat) (hm : 64871999942682 &&& msk = 64871999942682) :
    (modeEnd s).outside msk = s.outside msk := by
  unfold modeEnd
  try dsimp only
  repeat' first
    | with_reducible rfl
    | with_reducible refine (modeOn_outside _ _ msk (sub_trans hm rfl)).trans ?_
    | with_reducible refine (modeServe_outside _ msk (sub_trans hm rfl)).trans ?_
    | with_reducible refine (rotServe_outside _ msk (sub_trans hm rfl)).trans ?_
theorem fasterFails_outside (c : ModeChg) (cause : Nat) (s : State) (msk : Nat) (hm : 64871454474240 &&& msk = 64871454474240) :
    (fasterFails c cause s).outside msk = s.outside msk := by
  unfold fasterFails
  try dsimp only
  repeat' first
    | with_reducible rfl
    | with_reducible refine ite_outside ?_ ?_
    | with_reducible refine (modeEvent_outside _ _ _ _ _ _ _ msk (sub_trans hm rfl)).trans ?_
    | with_reducible refine (setModeDone_outside _ _ _ _ msk (sub_trans hm rfl)).trans ?_
    | with_reducible refine (voutTo_outside _ _ msk (sub_trans hm rfl)).trans ?_
    | split
theorem fasterDone_outside (c : ModeChg) (s : State) (msk : Nat) (hm : 64871454474240 &&& msk = 64871454474240) :
    (fasterDone c s).outside msk = s.outside msk := by
  unfold fasterDone
  try dsimp only
  repeat' first
    | with_reducible rfl
    | with_reducible refine (modeEvent_outside _ _ _ _ _ _ _ msk (sub_trans hm rfl)).trans ?_
    | with_reducible refine (modeOn_outside _ _ msk (sub_trans hm rfl)).trans ?_
    | with_reducible refine (modeTake_outside _ _ msk (sub_trans hm rfl)).trans ?_
    | with_reducible refine (setModeDone_outside _ _ _ _ msk (sub_trans hm rfl)).trans ?_
    | split
theorem slowerDone_outside (c : ModeChg) (settled : Bool) (s : State) (msk : Nat) (hm : 64871454474240 &&& msk = 64871454474240) :
    (slowerDone c settled s).outside msk = s.outside msk := by
  unfold slowerDone
  try dsimp only
  repeat' first
    | with_reducible rfl
    | with_reducible refine ite_outside ?_ ?_
    | with_reducible refine (modeEvent_outside _ _ _ _ _ _ _ msk (sub_trans hm rfl)).trans ?_
    | with_reducible refine (modeOn_outside _ _ msk (sub_trans hm rfl)).trans ?_
    | with_reducible refine (setModeDone_outside _ _ _ _ msk (sub_trans hm rfl)).trans ?_
    | split
theorem stepDown_outside (s : State) (msk : Nat) (hm : 64871463071770 &&& msk = 64871463071770) :
    (stepDown s).outside msk = s.outside msk := by
  unfold stepDown
  try dsimp only
  repeat' first
    | with_reducible rfl
    | with_reducible refine ite_outside ?_ ?_
    | with_reducible refine (modeOn_outside _ _ msk (sub_trans hm rfl)).trans ?_
    | with_reducible refine (modeSlower_outside _ _ _ msk (sub_trans hm rfl)).trans ?_
    | with_reducible refine (setModeDone_outside _ _ _ _ msk (sub_trans hm rfl)).trans ?_
    | split
theorem pwrTo_outside (g : PwrSt) (cause : Nat) (s : State) (msk : Nat) (hm : 64871454474240 &&& msk = 64871454474240) :
    (pwrTo g cause s).outside msk = s.outside msk := by
  unfold pwrTo
  try dsimp only
  repeat' first
    | with_reducible rfl
    | with_reducible refine ite_outside ?_ ?_
    | with_reducible refine (modeEvent_outside _ _ _ _ _ _ _ msk (sub_trans hm rfl)).trans ?_
    | with_reducible refine (modeOn_outside _ _ msk (sub_trans hm rfl)).trans ?_
    | split
theorem wake_outside (cause : Nat) (s : State) (msk : Nat) (hm : 64871463071770 &&& msk = 64871463071770) :
    (wake cause s).outside msk = s.outside msk := by
  unfold wake
  try dsimp only
  repeat' first
    | with_reducible rfl
    | with_reducible refine ite_outside ?_ ?_
    | with_reducible refine (modeOn_outside _ _ msk (sub_trans hm rfl)).trans ?_
    | with_reducible refine (modeServe_outside _ msk (sub_trans hm rfl)).trans ?_
    | with_reducible refine (pwrTo_outside _ _ _ msk (sub_trans hm rfl)).trans ?_
    | with_reducible refine (voutTo_outside _ _ msk (sub_trans hm rfl)).trans ?_
    | split

/-! ### PathOps -/

theorem tripEvent_outside (p cause : Nat) (s : State) (msk : Nat) (hm : 69269232549888 &&& msk = 69269232549888) :
    (tripEvent p cause s).outside msk = s.outside msk := by
  unfold tripEvent
  try dsimp only
  repeat' first
    | with_reducible rfl
    | with_reducible refine (postPort_outside _ _ _ msk (sub_trans hm rfl)).trans ?_
    | simp only [set_free_outside _ _ msk (sub_trans hm rfl)]
theorem pathTrip_outside (p cause : Nat) (s : State) (msk : Nat) (hm : 69370881454874 &&& msk = 69370881454874) :
    (pathTrip p cause s).outside msk = s.outside msk := by
  unfold pathTrip
  try dsimp only
  repeat' first
    | with_reducible rfl
    | with_reducible refine ite_outside ?_ ?_
    | with_reducible refine (State.pathOn_outside _ _ _ msk (sub_trans hm rfl)).trans ?_
    | with_reducible refine (State.pdOn_outside _ _ _ msk (sub_trans hm rfl)).trans ?_
    | with_reducible refine (State.rsAdd_outside _ _ _ _ _ msk (sub_trans hm rfl)).trans ?_
    | with_reducible refine (persistEnd_outside _ _ _ msk (sub_trans hm rfl)).trans ?_
    | with_reducible refine (raiseFault_outside _ _ _ _ _ _ _ msk (sub_trans hm rfl)).trans ?_
    | with_reducible refine (refreshSides_outside _ _ msk (sub_trans hm rfl)).trans ?_
    | with_reducible refine (serveWaiting_outside _ msk (sub_trans hm rfl)).trans ?_
    | with_reducible refine (tripEvent_outside _ _ _ msk (sub_trans hm rfl)).trans ?_
    | with_reducible refine (voidContract_outside _ _ _ msk (sub_trans hm rfl)).trans ?_
    | split
theorem coolEnd_outside (p : Nat) (s : State) (msk : Nat) (hm : 64972834943002 &&& msk = 64972834943002) :
    (coolEnd p s).outside msk = s.outside msk := by
  unfold coolEnd
  try dsimp only
  repeat' first
    | with_reducible rfl
    | with_reducible refine ite_outside ?_ ?_
    | with_reducible refine (State.pathOn_outside _ _ _ msk (sub_trans hm rfl)).trans ?_
    | with_reducible refine (State.rsAdd_outside _ _ _ _ _ msk (sub_trans hm rfl)).trans ?_
    | with_reducible refine (pathRamp_outside _ _ _ _ _ msk (sub_trans hm rfl)).trans ?_
    | with_reducible refine (powerEvent_outside _ _ _ _ _ msk (sub_trans hm rfl)).trans ?_
    | with_reducible refine (raiseFault_outside _ _ _ _ _ _ _ msk (sub_trans hm rfl)).trans ?_
    | split
theorem pathTarget_outside (p mv ma : Nat) (s : State) (msk : Nat) (hm : 2097152 &&& msk = 2097152) :
    (pathTarget p mv ma s).outside msk = s.outside msk := by
  unfold pathTarget
  try dsimp only
  repeat' first
    | with_reducible rfl
    | with_reducible refine ite_outside ?_ ?_
    | with_reducible refine (State.pathOn_outside _ _ _ msk (sub_trans hm rfl)).trans ?_
    | split
theorem pathSettle_outside (p : Nat) (s : State) (msk : Nat) (hm : 2097152 &&& msk = 2097152) :
    (pathSettle p s).outside msk = s.outside msk := by
  unfold pathSettle
  try dsimp only
  repeat' first
    | with_reducible rfl
    | with_reducible refine (State.pathOn_outside _ _ _ msk (sub_trans hm rfl)).trans ?_
    | split
theorem pathDo_outside (p : Nat) (o : PathOrder) (s : State) (msk : Nat) (hm : 64875618054154 &&& msk = 64875618054154) :
    (pathDo p o s).outside msk = s.outside msk := by
  unfold pathDo
  try dsimp only
  repeat' first
    | with_reducible rfl
    | with_reducible refine ite_outside ?_ ?_
    | with_reducible refine (State.pathOn_outside _ _ _ msk (sub_trans hm rfl)).trans ?_
    | with_reducible refine (pathOff_outside _ _ _ msk (sub_trans hm rfl)).trans ?_
    | with_reducible refine (pathRamp_outside _ _ _ _ _ msk (sub_trans hm rfl)).trans ?_
    | with_reducible refine (pathSeek_outside _ _ msk (sub_trans hm rfl)).trans ?_
    | with_reducible refine (pathTarget_outside _ _ _ _ msk (sub_trans hm rfl)).trans ?_
    | split
theorem pathQueued_outside (p : Nat) (s : State) (msk : Nat) (hm : 64875618054154 &&& msk = 64875618054154) :
    (pathQueued p s).outside msk = s.outside msk := by
  unfold pathQueued
  try dsimp only
  repeat' first
    | with_reducible rfl
    | with_reducible refine ite_outside ?_ ?_
    | with_reducible refine (State.pathOn_outside _ _ _ msk (sub_trans hm rfl)).trans ?_
    | with_reducible refine (pathDo_outside _ _ _ msk (sub_trans hm rfl)).trans ?_
    | split
theorem pathResume_outside (p : Nat) (s : State) (msk : Nat) (hm : 64972834943002 &&& msk = 64972834943002) :
    (pathResume p s).outside msk = s.outside msk := by
  unfold pathResume
  try dsimp only
  repeat' first
    | with_reducible rfl
    | with_reducible refine ite_outside ?_ ?_
    | with_reducible refine (State.pathOn_outside _ _ _ msk (sub_trans hm rfl)).trans ?_
    | with_reducible refine (coolEnd_outside _ _ msk (sub_trans hm rfl)).trans ?_
    | with_reducible refine (pathQueued_outside _ _ msk (sub_trans hm rfl)).trans ?_
    | split
theorem markShed_outside (p : Nat) (s : State) (msk : Nat) (hm : 64871322353680 &&& msk = 64871322353680) :
    (markShed p s).outside msk = s.outside msk := by
  unfold markShed
  try dsimp only
  repeat' first
    | with_reducible rfl
    | with_reducible refine (State.pathOn_outside _ _ _ msk (sub_trans hm rfl)).trans ?_
    | with_reducible refine (State.rsAdd_outside _ _ _ _ _ msk (sub_trans hm rfl)).trans ?_
    | with_reducible refine (powerEvent_outside _ _ _ _ _ msk (sub_trans hm rfl)).trans ?_
    | simp only [set_budget_outside _ _ msk (sub_trans hm rfl)]
theorem shedHardware_outside (p : Nat) (s : State) (msk : Nat) (hm : 64875617529882 &&& msk = 64875617529882) :
    (shedHardware p s).outside msk = s.outside msk := by
  unfold shedHardware
  try dsimp only
  repeat' first
    | with_reducible rfl
    | with_reducible refine ite_outside ?_ ?_
    | with_reducible refine (markShed_outside _ _ msk (sub_trans hm rfl)).trans ?_
    | with_reducible refine (pathOff_outside _ _ _ msk (sub_trans hm rfl)).trans ?_
    | split

/-! ### PdOps -/

theorem graftClip_outside (g : Nat) (s : State) (msk : Nat) (hm : 35184372088848 &&& msk = 35184372088848) :
    (graftClip g s).outside msk = s.outside msk := by
  unfold graftClip
  try dsimp only
  repeat' first
    | with_reducible rfl
    | with_reducible refine (State.rsAdd_outside _ _ _ _ _ msk (sub_trans hm rfl)).trans ?_
theorem graftNarrow_outside (hook p dflt : Nat) (s : State) (msk : Nat) (hm : 39582418599952 &&& msk = 39582418599952) :
    (graftNarrow hook p dflt s).2.outside msk = s.outside msk := by
  unfold graftNarrow
  try dsimp only
  repeat' first
    | with_reducible rfl
    | with_reducible refine ite_outside ?_ ?_
    | with_reducible refine (graftClip_outside _ _ msk (sub_trans hm rfl)).trans ?_
    | simp only [set_free_outside _ _ msk (sub_trans hm rfl)]
    | split
theorem graftOffers_outside (p : Nat) (l : List Nat) (s : State) (msk : Nat) (hm : 39582418599952 &&& msk = 39582418599952) :
    (graftOffers p l s).2.outside msk = s.outside msk := by
  unfold graftOffers
  try dsimp only
  repeat' first
    | with_reducible rfl
    | with_reducible refine ite_outside ?_ ?_
    | with_reducible refine (graftClip_outside _ _ msk (sub_trans hm rfl)).trans ?_
    | simp only [set_free_outside _ _ msk (sub_trans hm rfl)]
    | split
theorem pdOwn_outside (p : Nat) (m : PdTx) (s : State) (msk : Nat) (hm : 1572864 &&& msk = 1572864) :
    (pdOwn p m s).outside msk = s.outside msk := by
  unfold pdOwn
  try dsimp only
  repeat' first
    | with_reducible rfl
    | with_reducible refine ite_outside ?_ ?_
    | with_reducible refine (State.pdOn_outside _ _ _ msk (sub_trans hm rfl)).trans ?_
    | with_reducible refine (State.tcOn_outside _ _ _ msk (sub_trans hm rfl)).trans ?_
    | split
theorem pdReply_outside (p : Nat) (m : PdTx) (s : State) (msk : Nat) (hm : 1048576 &&& msk = 1048576) :
    (pdReply p m s).outside msk = s.outside msk := by
  unfold pdReply
  try dsimp only
  repeat' first
    | with_reducible rfl
    | with_reducible refine ite_outside ?_ ?_
    | with_reducible refine (State.pdOn_outside _ _ _ msk (sub_trans hm rfl)).trans ?_
    | split
theorem seqEnd_outside (p : Nat) (s : State) (msk : Nat) (hm : 524288 &&& msk = 524288) :
    (seqEnd p s).outside msk = s.outside msk := by
  unfold seqEnd
  try dsimp only
  repeat' first
    | with_reducible rfl
    | with_reducible refine ite_outside ?_ ?_
    | with_reducible refine (State.tcOn_outside _ _ _ msk (sub_trans hm rfl)).trans ?_
    | split
theorem pdOpDone_outside (p : Nat) (u : MsgUse) (answer : Nat) (block : Option (List Byte)) (s : State) (msk : Nat) (hm : 64871186038792 &&& msk = 64871186038792) :
    (pdOpDone p u answer block s).outside msk = s.outside msk := by
  unfold pdOpDone
  try dsimp only
  repeat' first
    | with_reducible rfl
    | with_reducible refine ite_outside ?_ ?_
    | with_reducible refine (State.emit_outside _ _ msk (sub_trans hm rfl)).trans ?_
    | with_reducible refine (cmdDone_outside _ _ _ _ _ _ msk (sub_trans hm rfl)).trans ?_
    | with_reducible refine (opDrop_outside _ _ msk (sub_trans hm rfl)).trans ?_
    | split
theorem pdOpsEnd_outside (p answer : Nat) (s : State) (msk : Nat) (hm : 64871186038792 &&& msk = 64871186038792) :
    (pdOpsEnd p answer s).outside msk = s.outside msk := by
  unfold pdOpsEnd
  try dsimp only
  repeat' first
    | with_reducible rfl
    | with_reducible refine (cmdDone_outside _ _ _ _ _ _ msk (sub_trans hm rfl)).trans ?_
    | with_reducible refine (forEach_outside _ _ _ msk ?_).trans ?_
    | with_reducible refine (opDrop_outside _ _ msk (sub_trans hm rfl)).trans ?_
    | (intro _)
theorem sendCaps_outside (p : Nat) (s : State) (msk : Nat) (hm : 39582420172816 &&& msk = 39582420172816) :
    (sendCaps p s).outside msk = s.outside msk := by
  unfold sendCaps
  try dsimp only
  repeat' first
    | with_reducible rfl
    | with_reducible refine ite_outside ?_ ?_
    | with_reducible refine (State.pdOn_outside _ _ _ msk (sub_trans hm rfl)).trans ?_
    | with_reducible refine (snd_outside (graftOffers_outside _ _ _ msk (sub_trans hm rfl)) ‹_›).trans ?_
    | with_reducible refine (graftOffers_outside _ _ _ msk (sub_trans hm rfl)).trans ?_
    | with_reducible refine (pdOwn_outside _ _ _ msk (sub_trans hm rfl)).trans ?_
    | split
theorem capsCheck_outside (p : Nat) (s : State) (msk : Nat) (hm : 39582420172816 &&& msk = 39582420172816) :
    (capsCheck p s).outside msk = s.outside msk := by
  unfold capsCheck
  try dsimp only
  repeat' first
    | with_reducible rfl
    | with_reducible refine ite_outside ?_ ?_
    | with_reducible refine (sendCaps_outside _ _ msk (sub_trans hm rfl)).trans ?_
    | split
theorem setPowerRole_outside (p : Nat) (src : Bool) (s : State) (msk : Nat) (hm : 524288 &&& msk = 524288) :
    (setPowerRole p src s).outside msk = s.outside msk := by
  unfold setPowerRole
  try dsimp only
  repeat' first
    | with_reducible rfl
    | with_reducible refine ite_outside ?_ ?_
    | with_reducible refine (State.tcOn_outside _ _ _ msk (sub_trans hm rfl)).trans ?_
    | split
theorem setVconn_outside (p : Nat) (on : Bool) (s : State) (msk : Nat) (hm : 524288 &&& msk = 524288) :
    (setVconn p on s).outside msk = s.outside msk := by
  unfold setVconn
  try dsimp only
  repeat' first
    | with_reducible rfl
    | with_reducible refine (State.tcOn_outside _ _ _ msk (sub_trans hm rfl)).trans ?_
theorem softEnds_outside (p : Nat) (x : Sop) (last : Option Nat) (s : State) (msk : Nat) (hm : 1048576 &&& msk = 1048576) :
    (softEnds p x last s).outside msk = s.outside msk := by
  unfold softEnds
  try dsimp only
  repeat' first
    | with_reducible rfl
    | with_reducible refine ite_outside ?_ ?_
    | with_reducible refine (State.pdOn_outside _ _ _ msk (sub_trans hm rfl)).trans ?_
    | split
theorem softReset_outside (p : Nat) (x : Sop) (asCmd : Bool) (s : State) (msk : Nat) (hm : 64871187611672 &&& msk = 64871187611672) :
    (softReset p x asCmd s).outside msk = s.outside msk := by
  unfold softReset
  try dsimp only
  repeat' first
    | with_reducible rfl
    | with_reducible refine ite_outside ?_ ?_
    | with_reducible refine (State.rsAdd_outside _ _ _ _ _ msk (sub_trans hm rfl)).trans ?_
    | with_reducible refine (pdEvent_outside _ _ _ _ _ _ _ msk (sub_trans hm rfl)).trans ?_
    | with_reducible refine (pdOpsEnd_outside _ _ _ msk (sub_trans hm rfl)).trans ?_
    | with_reducible refine (pdOwn_outside _ _ _ msk (sub_trans hm rfl)).trans ?_
    | with_reducible refine (pdReply_outside _ _ _ msk (sub_trans hm rfl)).trans ?_
    | with_reducible refine (softEnds_outside _ _ _ _ msk (sub_trans hm rfl)).trans ?_
    | split
theorem hardReset_outside (p cause void : Nat) (s : State) (msk : Nat) (hm : 64871324397594 &&& msk = 64871324397594) :
    (hardReset p cause void s).outside msk = s.outside msk := by
  unfold hardReset
  try dsimp only
  repeat' first
    | with_reducible rfl
    | with_reducible refine ite_outside ?_ ?_
    | with_reducible refine (State.pdOn_outside _ _ _ msk (sub_trans hm rfl)).trans ?_
    | with_reducible refine (State.rsAdd_outside _ _ _ _ _ msk (sub_trans hm rfl)).trans ?_
    | with_reducible refine (State.tcOn_outside _ _ _ msk (sub_trans hm rfl)).trans ?_
    | with_reducible refine (pdAbort_outside _ _ msk (sub_trans hm rfl)).trans ?_
    | with_reducible refine (pdEvent_outside _ _ _ _ _ _ _ msk (sub_trans hm rfl)).trans ?_
    | with_reducible refine (refreshBridge_outside _ _ msk (sub_trans hm rfl)).trans ?_
    | with_reducible refine (refreshRole_outside _ _ _ _ msk (sub_trans hm rfl)).trans ?_
    | with_reducible refine (serveWaiting_outside _ msk (sub_trans hm rfl)).trans ?_
    | with_reducible refine (setPowerRole_outside _ _ _ msk (sub_trans hm rfl)).trans ?_
    | with_reducible refine (setVconn_outside _ _ _ msk (sub_trans hm rfl)).trans ?_
    | with_reducible refine (trellisEnd_outside _ _ msk (sub_trans hm rfl)).trans ?_
    | with_reducible refine (voidContract_outside _ _ _ msk (sub_trans hm rfl)).trans ?_
    | split
theorem hardSend_outside (p void : Nat) (s : State) (msk : Nat) (hm : 64871324397594 &&& msk = 64871324397594) :
    (hardSend p void s).outside msk = s.outside msk := by
  unfold hardSend
  try dsimp only
  repeat' first
    | with_reducible rfl
    | with_reducible refine ite_outside ?_ ?_
    | with_reducible refine (hardReset_outside _ _ _ _ msk (sub_trans hm rfl)).trans ?_
    | split
theorem errorRecovery_outside (p q : Nat) (s : State) (msk : Nat) (hm : 64875619364874 &&& msk = 64875619364874) :
    (errorRecovery p q s).outside msk = s.outside msk := by
  unfold errorRecovery
  try dsimp only
  repeat' first
    | with_reducible rfl
    | with_reducible refine (State.tcOn_outside _ _ _ msk (sub_trans hm rfl)).trans ?_
    | with_reducible refine (tcDetach_outside _ _ _ _ _ msk (sub_trans hm rfl) ?_).trans ?_
    | (intro _)
theorem quarantine_outside (p : Nat) (s : State) (msk : Nat) (hm : 64972834943002 &&& msk = 64972834943002) :
    (quarantine p s).outside msk = s.outside msk := by
  unfold quarantine
  try dsimp only
  repeat' first
    | with_reducible rfl
    | with_reducible refine ite_outside ?_ ?_
    | with_reducible refine (State.pathOn_outside _ _ _ msk (sub_trans hm rfl)).trans ?_
    | with_reducible refine (State.pdOn_outside _ _ _ msk (sub_trans hm rfl)).trans ?_
    | with_reducible refine (State.rsAdd_outside _ _ _ _ _ msk (sub_trans hm rfl)).trans ?_
    | with_reducible refine (State.tcOn_outside _ _ _ msk (sub_trans hm rfl)).trans ?_
    | with_reducible refine (hardReset_outside _ _ _ _ msk (sub_trans hm rfl)).trans ?_
    | with_reducible refine (pathOff_outside _ _ _ msk (sub_trans hm rfl)).trans ?_
    | with_reducible refine (pdOpsEnd_outside _ _ _ msk (sub_trans hm rfl)).trans ?_
    | with_reducible refine (raiseFault_outside _ _ _ _ _ _ _ msk (sub_trans hm rfl)).trans ?_
    | with_reducible refine (serveWaiting_outside _ msk (sub_trans hm rfl)).trans ?_
    | with_reducible refine (tcEvent_outside _ _ _ _ msk (sub_trans hm rfl)).trans ?_
    | split
theorem floodItem_outside (p : Nat) (s : State) (msk : Nat) (hm : 64972834943002 &&& msk = 64972834943002) :
    (floodItem p s).outside msk = s.outside msk := by
  unfold floodItem
  try dsimp only
  repeat' first
    | with_reducible rfl
    | with_reducible refine ite_outside ?_ ?_
    | with_reducible refine (State.rsAdd_outside _ _ _ _ _ msk (sub_trans hm rfl)).trans ?_
    | with_reducible refine (State.tcOn_outside _ _ _ msk (sub_trans hm rfl)).trans ?_
    | with_reducible refine (quarantine_outside _ _ msk (sub_trans hm rfl)).trans ?_
    | split
theorem trellisSend_outside (p cmd svid pos : Nat) (use : MsgUse) (s : State) (msk : Nat) (hm : 1572864 &&& msk = 1572864) :
    (trellisSend p cmd svid pos use s).outside msk = s.outside msk := by
  unfold trellisSend
  try dsimp only
  repeat' first
    | with_reducible rfl
    | with_reducible refine (pdOwn_outside _ _ _ msk (sub_trans hm rfl)).trans ?_
theorem trellisStart_outside (p : Nat) (s : State) (msk : Nat) (hm : 1572864 &&& msk = 1572864) :
    (trellisStart p s).outside msk = s.outside msk := by
  unfold trellisStart
  try dsimp only
  repeat' first
    | with_reducible rfl
    | with_reducible refine ite_outside ?_ ?_
    | with_reducible refine (State.pdOn_outside _ _ _ msk (sub_trans hm rfl)).trans ?_
    | with_reducible refine (trellisSend_outside _ _ _ _ _ _ msk (sub_trans hm rfl)).trans ?_
    | split
theorem trellisHello_outside (p : Nat) (s : State) (msk : Nat) (hm : 1572864 &&& msk = 1572864) :
    (trellisHello p s).outside msk = s.outside msk := by
  unfold trellisHello
  try dsimp only
  repeat' first
    | with_reducible rfl
    | with_reducible refine (State.pdOn_outside _ _ _ msk (sub_trans hm rfl)).trans ?_
    | with_reducible refine (pdOwn_outside _ _ _ msk (sub_trans hm rfl)).trans ?_
theorem trellisCheck_outside (p : Nat) (s : State) (msk : Nat) (hm : 64871187611648 &&& msk = 64871187611648) :
    (trellisCheck p s).outside msk = s.outside msk := by
  unfold trellisCheck
  try dsimp only
  repeat' first
    | with_reducible rfl
    | with_reducible refine ite_outside ?_ ?_
    | with_reducible refine (State.pdOn_outside _ _ _ msk (sub_trans hm rfl)).trans ?_
    | with_reducible refine (pdEvent_outside _ _ _ _ _ _ _ msk (sub_trans hm rfl)).trans ?_
    | with_reducible refine (refreshBridge_outside _ _ msk (sub_trans hm rfl)).trans ?_
    | split
theorem trellisLeave_outside (p : Nat) (s : State) (msk : Nat) (hm : 64871187611648 &&& msk = 64871187611648) :
    (trellisLeave p s).outside msk = s.outside msk := by
  unfold trellisLeave
  try dsimp only
  repeat' first
    | with_reducible rfl
    | with_reducible refine (refreshBridge_outside _ _ msk (sub_trans hm rfl)).trans ?_
    | with_reducible refine (trellisEnd_outside _ _ msk (sub_trans hm rfl)).trans ?_
theorem contractEffect_outside (p : Nat) (s : State) (msk : Nat) (hm : 1048576 &&& msk = 1048576) :
    (contractEffect p s).outside msk = s.outside msk := by
  unfold contractEffect
  try dsimp only
  repeat' first
    | with_reducible rfl
    | with_reducible refine (State.pdOn_outside _ _ _ msk (sub_trans hm rfl)).trans ?_
    | split
theorem contractDone_outside (p : Nat) (s : State) (msk : Nat) (hm : 64871323926536 &&& msk = 64871323926536) :
    (contractDone p s).outside msk = s.outside msk := by
  unfold contractDone
  try dsimp only
  repeat' first
    | with_reducible rfl
    | with_reducible refine (State.pdOn_outside _ _ _ msk (sub_trans hm rfl)).trans ?_
    | with_reducible refine (pdEvent_outside _ _ _ _ _ _ _ msk (sub_trans hm rfl)).trans ?_
    | with_reducible refine (pdOpDone_outside _ _ _ _ _ msk (sub_trans hm rfl)).trans ?_
    | with_reducible refine (serveWaiting_outside _ msk (sub_trans hm rfl)).trans ?_
    | with_reducible refine (trellisStart_outside _ _ msk (sub_trans hm rfl)).trans ?_
    | split

end Sys2Proof.Machine
end

