-- ==== Sys2Proof/Laws/OutsidePorts.lean ====
section
/-! SUPPORT. What each operation leaves as it was, by Machine file: Path, TypeC, UnitOps, SlotCmds, Modes, PortCmds, GuestCmds, Pd, PdCmds, PowerCmds. -/

namespace Sys2Proof.Machine

open Sys2Proof

/-! ### Path -/

theorem doPathOrder_outside (p : Nat) (o : PathOrder) (s : State) (msk : Nat) (hm : 64875618054154 &&& msk = 64875618054154) :
    (doPathOrder p o s).outside msk = s.outside msk := by
  unfold doPathOrder
  try dsimp only
  repeat' first
    | with_reducible rfl
    | with_reducible refine ite_outside ?_ ?_
    | with_reducible refine (State.pathOn_outside _ _ _ msk (sub_trans hm rfl)).trans ?_
    | with_reducible refine (pathDo_outside _ _ _ msk (sub_trans hm rfl)).trans ?_
    | with_reducible refine (pathOff_outside _ _ _ msk (sub_trans hm rfl)).trans ?_
    | split
theorem doRampComplete_outside (p : Nat) (s : State) (msk : Nat) (hm : 64875618054154 &&& msk = 64875618054154) :
    (doRampComplete p s).outside msk = s.outside msk := by
  unfold doRampComplete
  try dsimp only
  repeat' first
    | with_reducible rfl
    | with_reducible refine ite_outside ?_ ?_
    | with_reducible refine (State.pathOn_outside _ _ _ msk (sub_trans hm rfl)).trans ?_
    | with_reducible refine (pathQueued_outside _ _ msk (sub_trans hm rfl)).trans ?_
    | with_reducible refine (powerEvent_outside _ _ _ _ _ msk (sub_trans hm rfl)).trans ?_
    | with_reducible refine (refreshSides_outside _ _ msk (sub_trans hm rfl)).trans ?_
    | split
theorem doOcTimerStart_outside (p : Nat) (s : State) (msk : Nat) (hm : 35184374186000 &&& msk = 35184374186000) :
    (doOcTimerStart p s).outside msk = s.outside msk := by
  unfold doOcTimerStart
  try dsimp only
  repeat' first
    | with_reducible rfl
    | with_reducible refine ite_outside ?_ ?_
    | with_reducible refine (State.pathOn_outside _ _ _ msk (sub_trans hm rfl)).trans ?_
    | with_reducible refine (State.rsAdd_outside _ _ _ _ _ msk (sub_trans hm rfl)).trans ?_
    | split
theorem doOcTimerReset_outside (p : Nat) (s : State) (msk : Nat) (hm : 2097152 &&& msk = 2097152) :
    (doOcTimerReset p s).outside msk = s.outside msk := by
  unfold doOcTimerReset
  try dsimp only
  repeat' first
    | with_reducible rfl
    | with_reducible refine (State.pathOn_outside _ _ _ msk (sub_trans hm rfl)).trans ?_
theorem doOcTimerExpire_outside (p : Nat) (s : State) (msk : Nat) (hm : 69370881454874 &&& msk = 69370881454874) :
    (doOcTimerExpire p s).outside msk = s.outside msk := by
  unfold doOcTimerExpire
  try dsimp only
  repeat' first
    | with_reducible rfl
    | with_reducible refine ite_outside ?_ ?_
    | with_reducible refine (pathTrip_outside _ _ _ msk (sub_trans hm rfl)).trans ?_
    | split
theorem doShortCircuit_outside (p : Nat) (s : State) (msk : Nat) (hm : 69370881454874 &&& msk = 69370881454874) :
    (doShortCircuit p s).outside msk = s.outside msk := by
  unfold doShortCircuit
  try dsimp only
  repeat' first
    | with_reducible rfl
    | with_reducible refine (pathTrip_outside _ _ _ msk (sub_trans hm rfl)).trans ?_
theorem doRampTimeout_outside (p : Nat) (s : State) (msk : Nat) (hm : 69370881454874 &&& msk = 69370881454874) :
    (doRampTimeout p s).outside msk = s.outside msk := by
  unfold doRampTimeout
  try dsimp only
  repeat' first
    | with_reducible rfl
    | with_reducible refine ite_outside ?_ ?_
    | with_reducible refine (pathTrip_outside _ _ _ msk (sub_trans hm rfl)).trans ?_
    | split
theorem doOverVoltage_outside (p : Nat) (s : State) (msk : Nat) (hm : 69370881454874 &&& msk = 69370881454874) :
    (doOverVoltage p s).outside msk = s.outside msk := by
  unfold doOverVoltage
  try dsimp only
  repeat' first
    | with_reducible rfl
    | with_reducible refine (pathTrip_outside _ _ _ msk (sub_trans hm rfl)).trans ?_
theorem doReverseCurrent_outside (p : Nat) (s : State) (msk : Nat) (hm : 69370881454874 &&& msk = 69370881454874) :
    (doReverseCurrent p s).outside msk = s.outside msk := by
  unfold doReverseCurrent
  try dsimp only
  repeat' first
    | with_reducible rfl
    | with_reducible refine ite_outside ?_ ?_
    | with_reducible refine (pathTrip_outside _ _ _ msk (sub_trans hm rfl)).trans ?_
    | split
theorem doGateOffConfirmed_outside (p : Nat) (s : State) (msk : Nat) (hm : 2097152 &&& msk = 2097152) :
    (doGateOffConfirmed p s).outside msk = s.outside msk := by
  unfold doGateOffConfirmed
  try dsimp only
  repeat' first
    | with_reducible rfl
    | with_reducible refine ite_outside ?_ ?_
    | with_reducible refine (State.pathOn_outside _ _ _ msk (sub_trans hm rfl)).trans ?_
    | split
theorem doCoolExpire_outside (p : Nat) (s : State) (msk : Nat) (hm : 64972834943002 &&& msk = 64972834943002) :
    (doCoolExpire p s).outside msk = s.outside msk := by
  unfold doCoolExpire
  try dsimp only
  repeat' first
    | with_reducible rfl
    | with_reducible refine ite_outside ?_ ?_
    | with_reducible refine (State.pathOn_outside _ _ _ msk (sub_trans hm rfl)).trans ?_
    | with_reducible refine (coolEnd_outside _ _ msk (sub_trans hm rfl)).trans ?_
    | split
theorem doOnStableExpire_outside (p : Nat) (s : State) (msk : Nat) (hm : 2097152 &&& msk = 2097152) :
    (doOnStableExpire p s).outside msk = s.outside msk := by
  unfold doOnStableExpire
  try dsimp only
  repeat' first
    | with_reducible rfl
    | with_reducible refine ite_outside ?_ ?_
    | with_reducible refine (State.pathOn_outside _ _ _ msk (sub_trans hm rfl)).trans ?_
    | split
theorem doFbTrimTick_outside (p : Nat) (s : State) (msk : Nat) (hm : 2097152 &&& msk = 2097152) :
    (doFbTrimTick p s).outside msk = s.outside msk := by
  unfold doFbTrimTick
  try dsimp only
  repeat' first
    | with_reducible rfl
    | with_reducible refine ite_outside ?_ ?_
    | with_reducible refine (State.pathOn_outside _ _ _ msk (sub_trans hm rfl)).trans ?_
    | split
theorem pgServe_outside (p : Nat) (s : State) (msk : Nat) (hm : 39582420172816 &&& msk = 39582420172816) :
    (pgServe p s).outside msk = s.outside msk := by
  unfold pgServe
  try dsimp only
  repeat' first
    | with_reducible rfl
    | with_reducible refine ite_outside ?_ ?_
    | with_reducible refine (capsCheck_outside _ _ msk (sub_trans hm rfl)).trans ?_
    | with_reducible refine (pdReply_outside _ _ _ msk (sub_trans hm rfl)).trans ?_
    | split
theorem doPowerGoodAssert_outside (p : Nat) (s : State) (msk : Nat) (hm : 69273665613850 &&& msk = 69273665613850) :
    (doPowerGoodAssert p s).outside msk = s.outside msk := by
  unfold doPowerGoodAssert
  try dsimp only
  repeat' first
    | with_reducible rfl
    | with_reducible refine ite_outside ?_ ?_
    | with_reducible refine (State.pathOn_outside _ _ _ msk (sub_trans hm rfl)).trans ?_
    | with_reducible refine (pathQueued_outside _ _ msk (sub_trans hm rfl)).trans ?_
    | with_reducible refine (pathSettle_outside _ _ msk (sub_trans hm rfl)).trans ?_
    | with_reducible refine (pgServe_outside _ _ msk (sub_trans hm rfl)).trans ?_
    | split
theorem doPpsCurrentLimit_outside (p ma : Nat) (s : State) (msk : Nat) (hm : 4398049656832 &&& msk = 4398049656832) :
    (doPpsCurrentLimit p ma s).outside msk = s.outside msk := by
  unfold doPpsCurrentLimit
  try dsimp only
  repeat' first
    | with_reducible rfl
    | with_reducible refine ite_outside ?_ ?_
    | with_reducible refine (State.pathOn_outside _ _ _ msk (sub_trans hm rfl)).trans ?_
    | with_reducible refine (State.pdOn_outside _ _ _ msk (sub_trans hm rfl)).trans ?_
    | simp only [set_free_outside _ _ msk (sub_trans hm rfl)]
    | split
theorem doVbusSafe0vReached_outside (p : Nat) (s : State) (msk : Nat) (hm : 64871323926528 &&& msk = 64871323926528) :
    (doVbusSafe0vReached p s).outside msk = s.outside msk := by
  unfold doVbusSafe0vReached
  try dsimp only
  repeat' first
    | with_reducible rfl
    | with_reducible refine ite_outside ?_ ?_
    | with_reducible refine (State.pathOn_outside _ _ _ msk (sub_trans hm rfl)).trans ?_
    | with_reducible refine (State.pdOn_outside _ _ _ msk (sub_trans hm rfl)).trans ?_
    | with_reducible refine (pdReply_outside _ _ _ msk (sub_trans hm rfl)).trans ?_
    | with_reducible refine (serveWaiting_outside _ msk (sub_trans hm rfl)).trans ?_
    | with_reducible refine (setPowerRole_outside _ _ _ msk (sub_trans hm rfl)).trans ?_
    | split
theorem sendAlert_outside (p ado : Nat) (s : State) (msk : Nat) (hm : 1572864 &&& msk = 1572864) :
    (sendAlert p ado s).outside msk = s.outside msk := by
  unfold sendAlert
  try dsimp only
  repeat' first
    | with_reducible rfl
    | with_reducible refine ite_outside ?_ ?_
    | with_reducible refine (pdOwn_outside _ _ _ msk (sub_trans hm rfl)).trans ?_
    | split
theorem warnCut_outside (b : Nat) (s : State) (msk : Nat) (hm : 64871221166080 &&& msk = 64871221166080) :
    (warnCut b s).outside msk = s.outside msk := by
  unfold warnCut
  try dsimp only
  repeat' first
    | with_reducible rfl
    | with_reducible refine (State.bedOn_outside _ _ _ msk (sub_trans hm rfl)).trans ?_
    | with_reducible refine (earlyWarnEvent_outside _ _ _ msk (sub_trans hm rfl)).trans ?_
    | with_reducible refine (forEach_outside _ _ _ msk ?_).trans ?_
    | with_reducible refine (sendAlert_outside _ _ _ msk (sub_trans hm rfl)).trans ?_
    | (intro _)
theorem doEarlywarnEntry_outside (b ch : Nat) (s : State) (msk : Nat) (hm : 64875652657178 &&& msk = 64875652657178) :
    (doEarlywarnEntry b ch s).outside msk = s.outside msk := by
  unfold doEarlywarnEntry
  try dsimp only
  repeat' first
    | with_reducible rfl
    | with_reducible refine ite_outside ?_ ?_
    | with_reducible refine (State.bedOn_outside _ _ _ msk (sub_trans hm rfl)).trans ?_
    | with_reducible refine (State.rsAdd_outside _ _ _ _ _ msk (sub_trans hm rfl)).trans ?_
    | with_reducible refine (forEach_outside _ _ _ msk ?_).trans ?_
    | with_reducible refine (shedHardware_outside _ _ msk (sub_trans hm rfl)).trans ?_
    | with_reducible refine (warnCut_outside _ _ msk (sub_trans hm rfl)).trans ?_
    | simp only [set_budget_outside _ _ msk (sub_trans hm rfl)]
    | (intro _)
    | split
theorem shedPort_outside (p : Nat) (s : State) (msk : Nat) (hm : 64875619364890 &&& msk = 64875619364890) :
    (shedPort p s).outside msk = s.outside msk := by
  unfold shedPort
  try dsimp only
  repeat' first
    | with_reducible rfl
    | with_reducible refine ite_outside ?_ ?_
    | with_reducible refine (State.pathOn_outside _ _ _ msk (sub_trans hm rfl)).trans ?_
    | with_reducible refine (hardSend_outside _ _ _ msk (sub_trans hm rfl)).trans ?_
    | with_reducible refine (markShed_outside _ _ msk (sub_trans hm rfl)).trans ?_
    | with_reducible refine (pathOff_outside _ _ _ msk (sub_trans hm rfl)).trans ?_
    | with_reducible refine (serveWaiting_outside _ msk (sub_trans hm rfl)).trans ?_
    | split
theorem doShedNext_outside (b : Nat) (s : State) (msk : Nat) (hm : 64875619364890 &&& msk = 64875619364890) :
    (doShedNext b s).outside msk = s.outside msk := by
  unfold doShedNext
  try dsimp only
  repeat' first
    | with_reducible rfl
    | with_reducible refine ite_outside ?_ ?_
    | with_reducible refine (shedPort_outside _ _ msk (sub_trans hm rfl)).trans ?_
    | split
theorem doEarlywarnRestoreExpire_outside (b : Nat) (s : State) (msk : Nat) (hm : 64871356432384 &&& msk = 64871356432384) :
    (doEarlywarnRestoreExpire b s).outside msk = s.outside msk := by
  unfold doEarlywarnRestoreExpire
  try dsimp only
  repeat' first
    | with_reducible rfl
    | with_reducible refine ite_outside ?_ ?_
    | with_reducible refine (State.bedOn_outside _ _ _ msk (sub_trans hm rfl)).trans ?_
    | with_reducible refine (earlyWarnEvent_outside _ _ _ msk (sub_trans hm rfl)).trans ?_
    | with_reducible refine (serveWaiting_outside _ msk (sub_trans hm rfl)).trans ?_
    | simp only [set_budget_outside _ _ msk (sub_trans hm rfl)]
    | split
theorem doRestoreNext_outside (s : State) (msk : Nat) (hm : 64871357952026 &&& msk = 64871357952026) :
    (doRestoreNext s).outside msk = s.outside msk := by
  unfold doRestoreNext
  try dsimp only
  repeat' first
    | with_reducible rfl
    | with_reducible refine ite_outside ?_ ?_
    | with_reducible refine (State.bedOn_outside _ _ _ msk (sub_trans hm rfl)).trans ?_
    | with_reducible refine (State.pathOn_outside _ _ _ msk (sub_trans hm rfl)).trans ?_
    | with_reducible refine (hardSend_outside _ _ _ msk (sub_trans hm rfl)).trans ?_
    | with_reducible refine (pathSeek_outside _ _ msk (sub_trans hm rfl)).trans ?_
    | with_reducible refine (powerEvent_outside _ _ _ _ _ msk (sub_trans hm rfl)).trans ?_
    | simp only [set_budget_outside _ _ msk (sub_trans hm rfl)]
    | split

/-! ### TypeC -/

theorem enterUnatt_outside (p : Nat) (src : Bool) (s : State) (msk : Nat) (hm : 524288 &&& msk = 524288) :
    (enterUnatt p src s).outside msk = s.outside msk := by
  unfold enterUnatt
  try dsimp only
  repeat' first
    | with_reducible rfl
    | with_reducible refine ite_outside ?_ ?_
    | with_reducible refine (State.tcOn_outside _ _ _ msk (sub_trans hm rfl)).trans ?_
    | with_reducible refine (enterUnattached_outside _ _ msk (sub_trans hm rfl)).trans ?_
    | split
theorem tcAttach_outside (p : Nat) (st : TcSt) (src : Bool) (s : State) (msk : Nat) (hm : 64871324397578 &&& msk = 64871324397578) :
    (tcAttach p st src s).outside msk = s.outside msk := by
  unfold tcAttach
  try dsimp only
  repeat' first
    | with_reducible rfl
    | with_reducible refine ite_outside ?_ ?_
    | with_reducible refine (State.linkOn_outside _ _ _ msk (sub_trans hm rfl)).trans ?_
    | with_reducible refine (State.pdPut_outside _ _ _ msk (sub_trans hm rfl)).trans ?_
    | with_reducible refine (State.tcOn_outside _ _ _ msk (sub_trans hm rfl)).trans ?_
    | with_reducible refine (pathSeek_outside _ _ msk (sub_trans hm rfl)).trans ?_
    | with_reducible refine (pdOwn_outside _ _ _ msk (sub_trans hm rfl)).trans ?_
    | with_reducible refine (refreshBridge_outside _ _ msk (sub_trans hm rfl)).trans ?_
    | with_reducible refine (refreshRole_outside _ _ _ _ msk (sub_trans hm rfl)).trans ?_
    | with_reducible refine (tcEvent_outside _ _ _ _ msk (sub_trans hm rfl)).trans ?_
    | split
theorem ccLook_outside (p : Nat) (s : State) (msk : Nat) (hm : 64871186771978 &&& msk = 64871186771978) :
    (ccLook p s).outside msk = s.outside msk := by
  unfold ccLook
  try dsimp only
  repeat' first
    | with_reducible rfl
    | with_reducible refine ite_outside ?_ ?_
    | with_reducible refine (State.linkOn_outside _ _ _ msk (sub_trans hm rfl)).trans ?_
    | with_reducible refine (State.tcOn_outside _ _ _ msk (sub_trans hm rfl)).trans ?_
    | with_reducible refine (enterUnatt_outside _ _ _ msk (sub_trans hm rfl)).trans ?_
    | with_reducible refine (refreshSides_outside _ _ msk (sub_trans hm rfl)).trans ?_
    | split
theorem doCcTerminationChange_outside (p : Nat) (cc1 cc2 : CcSee) (s : State) (msk : Nat) (hm : 64871186771978 &&& msk = 64871186771978) :
    (doCcTerminationChange p cc1 cc2 s).outside msk = s.outside msk := by
  unfold doCcTerminationChange
  try dsimp only
  repeat' first
    | with_reducible rfl
    | with_reducible refine ite_outside ?_ ?_
    | with_reducible refine (State.tcOn_outside _ _ _ msk (sub_trans hm rfl)).trans ?_
    | with_reducible refine (ccLook_outside _ _ msk (sub_trans hm rfl)).trans ?_
    | split
theorem ccAdvance_outside (p : Nat) (s : State) (msk : Nat) (hm : 64871324397578 &&& msk = 64871324397578) :
    (ccAdvance p s).outside msk = s.outside msk := by
  unfold ccAdvance
  try dsimp only
  repeat' first
    | with_reducible rfl
    | with_reducible refine ite_outside ?_ ?_
    | with_reducible refine (State.tcOn_outside _ _ _ msk (sub_trans hm rfl)).trans ?_
    | with_reducible refine (tcAttach_outside _ _ _ _ msk (sub_trans hm rfl)).trans ?_
    | split
theorem doCcAttachDebounce_outside (p : Nat) (s : State) (msk : Nat) (hm : 64871324397578 &&& msk = 64871324397578) :
    (doCcAttachDebounce p s).outside msk = s.outside msk := by
  unfold doCcAttachDebounce
  try dsimp only
  repeat' first
    | with_reducible rfl
    | with_reducible refine ite_outside ?_ ?_
    | with_reducible refine (State.tcOn_outside _ _ _ msk (sub_trans hm rfl)).trans ?_
    | with_reducible refine (ccAdvance_outside _ _ msk (sub_trans hm rfl)).trans ?_
    | split
theorem tcDetached_outside (p gone : Nat) (s : State) (msk : Nat) (hm : 64875619364874 &&& msk = 64875619364874) :
    (tcDetached p gone s).outside msk = s.outside msk := by
  unfold tcDetached
  try dsimp only
  repeat' first
    | with_reducible rfl
    | with_reducible refine (enterUnatt_outside _ _ _ msk (sub_trans hm rfl)).trans ?_
    | with_reducible refine (tcDetach_outside _ _ _ _ _ msk (sub_trans hm rfl) ?_).trans ?_
    | (intro _)
theorem doCcDetachDebounce_outside (p : Nat) (s : State) (msk : Nat) (hm : 64875619365642 &&& msk = 64875619365642) :
    (doCcDetachDebounce p s).outside msk = s.outside msk := by
  unfold doCcDetachDebounce
  try dsimp only
  repeat' first
    | with_reducible rfl
    | with_reducible refine ite_outside ?_ ?_
    | with_reducible refine (enterUnatt_outside _ _ _ msk (sub_trans hm rfl)).trans ?_
    | with_reducible refine (persistEnd_outside _ _ _ msk (sub_trans hm rfl)).trans ?_
    | with_reducible refine (tcDetached_outside _ _ _ msk (sub_trans hm rfl)).trans ?_
    | split
theorem doVbusSinkDisconnect_outside (p : Nat) (s : State) (msk : Nat) (hm : 64875619364874 &&& msk = 64875619364874) :
    (doVbusSinkDisconnect p s).outside msk = s.outside msk := by
  unfold doVbusSinkDisconnect
  try dsimp only
  repeat' first
    | with_reducible rfl
    | with_reducible refine ite_outside ?_ ?_
    | with_reducible refine (tcDetached_outside _ _ _ msk (sub_trans hm rfl)).trans ?_
    | split
theorem doDrpPeriodExpire_outside (p : Nat) (s : State) (msk : Nat) (hm : 524288 &&& msk = 524288) :
    (doDrpPeriodExpire p s).outside msk = s.outside msk := by
  unfold doDrpPeriodExpire
  try dsimp only
  repeat' first
    | with_reducible rfl
    | with_reducible refine ite_outside ?_ ?_
    | with_reducible refine (enterUnatt_outside _ _ _ msk (sub_trans hm rfl)).trans ?_
    | split
theorem doTryTimerExpire_outside (p : Nat) (s : State) (msk : Nat) (hm : 524288 &&& msk = 524288) :
    (doTryTimerExpire p s).outside msk = s.outside msk := by
  unfold doTryTimerExpire
  try dsimp only
  repeat' first
    | with_reducible rfl
    | with_reducible refine ite_outside ?_ ?_
    | with_reducible refine (State.tcOn_outside _ _ _ msk (sub_trans hm rfl)).trans ?_
    | with_reducible refine (enterUnatt_outside _ _ _ msk (sub_trans hm rfl)).trans ?_
    | split
theorem doErrorRecoveryExpire_outside (p : Nat) (s : State) (msk : Nat) (hm : 524288 &&& msk = 524288) :
    (doErrorRecoveryExpire p s).outside msk = s.outside msk := by
  unfold doErrorRecoveryExpire
  try dsimp only
  repeat' first
    | with_reducible rfl
    | with_reducible refine ite_outside ?_ ?_
    | with_reducible refine (enterUnatt_outside _ _ _ msk (sub_trans hm rfl)).trans ?_
    | split
theorem doMoistureReadingStart_outside (p : Nat) (s : State) (msk : Nat) (hm : 524288 &&& msk = 524288) :
    (doMoistureReadingStart p s).outside msk = s.outside msk := by
  unfold doMoistureReadingStart
  try dsimp only
  repeat' first
    | with_reducible rfl
    | with_reducible refine ite_outside ?_ ?_
    | with_reducible refine (State.tcOn_outside _ _ _ msk (sub_trans hm rfl)).trans ?_
    | split
theorem doMoistureReadingDone_outside (p : Nat) (m : MoistReading) (s : State) (msk : Nat) (hm : 64871186771994 &&& msk = 64871186771994) :
    (doMoistureReadingDone p m s).outside msk = s.outside msk := by
  unfold doMoistureReadingDone
  try dsimp only
  repeat' first
    | with_reducible rfl
    | with_reducible refine ite_outside ?_ ?_
    | with_reducible refine (State.rsAdd_outside _ _ _ _ _ msk (sub_trans hm rfl)).trans ?_
    | with_reducible refine (State.tcOn_outside _ _ _ msk (sub_trans hm rfl)).trans ?_
    | with_reducible refine (ccLook_outside _ _ msk (sub_trans hm rfl)).trans ?_
    | with_reducible refine (enterUnatt_outside _ _ _ msk (sub_trans hm rfl)).trans ?_
    | with_reducible refine (tcEvent_outside _ _ _ _ msk (sub_trans hm rfl)).trans ?_
    | split
theorem cableLost_outside (p : Nat) (s : State) (msk : Nat) (hm : 69269234122768 &&& msk = 69269234122768) :
    (cableLost p s).outside msk = s.outside msk := by
  unfold cableLost
  try dsimp only
  repeat' first
    | with_reducible rfl
    | with_reducible refine ite_outside ?_ ?_
    | with_reducible refine (State.pdOn_outside _ _ _ msk (sub_trans hm rfl)).trans ?_
    | with_reducible refine (capsCheck_outside _ _ msk (sub_trans hm rfl)).trans ?_
    | with_reducible refine (pdEvent_outside _ _ _ _ _ _ _ msk (sub_trans hm rfl)).trans ?_
    | split
theorem vconnTrip_outside (p kind : Nat) (s : State) (msk : Nat) (hm : 69370881454106 &&& msk = 69370881454106) :
    (vconnTrip p kind s).outside msk = s.outside msk := by
  unfold vconnTrip
  try dsimp only
  repeat' first
    | with_reducible rfl
    | with_reducible refine ite_outside ?_ ?_
    | with_reducible refine (State.rsAdd_outside _ _ _ _ _ msk (sub_trans hm rfl)).trans ?_
    | with_reducible refine (State.tcOn_outside _ _ _ msk (sub_trans hm rfl)).trans ?_
    | with_reducible refine (cableLost_outside _ _ msk (sub_trans hm rfl)).trans ?_
    | with_reducible refine (raiseFault_outside _ _ _ _ _ _ _ msk (sub_trans hm rfl)).trans ?_
    | with_reducible refine (tcEvent_outside _ _ _ _ msk (sub_trans hm rfl)).trans ?_
    | split
theorem doFloodBucketRoll_outside (p : Nat) (s : State) (msk : Nat) (hm : 524288 &&& msk = 524288) :
    (doFloodBucketRoll p s).outside msk = s.outside msk := by
  unfold doFloodBucketRoll
  try dsimp only
  repeat' first
    | with_reducible rfl
    | with_reducible refine (State.tcOn_outside _ _ _ msk (sub_trans hm rfl)).trans ?_
theorem doQuarantineReleaseExpire_outside (p : Nat) (s : State) (msk : Nat) (hm : 64875619364874 &&& msk = 64875619364874) :
    (doQuarantineReleaseExpire p s).outside msk = s.outside msk := by
  unfold doQuarantineReleaseExpire
  try dsimp only
  repeat' first
    | with_reducible rfl
    | with_reducible refine ite_outside ?_ ?_
    | with_reducible refine (errorRecovery_outside _ _ _ msk (sub_trans hm rfl)).trans ?_
    | split
theorem brgWrite_outside (p off : Nat) (bs : List Byte) (s : State) (msk : Nat) (hm : 1099511627776 &&& msk = 1099511627776) :
    (brgWrite p off bs s).outside msk = s.outside msk := by
  unfold brgWrite
  try dsimp only
  repeat' first
    | with_reducible rfl
    | with_reducible refine ite_outside ?_ ?_
    | with_reducible refine (State.emit_outside _ _ msk (sub_trans hm rfl)).trans ?_
    | split
theorem brgRx_outside (p pos : Nat) (bs : List Byte) (s : State) (msk : Nat) (hm : 1099511627776 &&& msk = 1099511627776) :
    (brgRx p pos bs s).outside msk = s.outside msk := by
  unfold brgRx
  try dsimp only
  repeat' first
    | with_reducible rfl
    | with_reducible refine ite_outside ?_ ?_
    | with_reducible refine (brgWrite_outside _ _ _ _ msk (sub_trans hm rfl)).trans ?_
    | split
theorem doBridgePoll_outside (p : Nat) (txProd rxCons : Nat) (tx : List Byte) (s : State) (msk : Nat) (hm : 64871190233088 &&& msk = 64871190233088) :
    (doBridgePoll p txProd rxCons tx s).outside msk = s.outside msk := by
  unfold doBridgePoll
  try dsimp only
  repeat' first
    | with_reducible rfl
    | with_reducible refine ite_outside ?_ ?_
    | with_reducible refine (State.brgOn_outside _ _ _ msk (sub_trans hm rfl)).trans ?_
    | with_reducible refine (brgRx_outside _ _ _ _ msk (sub_trans hm rfl)).trans ?_
    | with_reducible refine (brgWrite_outside _ _ _ _ msk (sub_trans hm rfl)).trans ?_
    | with_reducible refine (portEvent_outside _ _ _ _ _ _ msk (sub_trans hm rfl)).trans ?_
    | split
theorem doUartByteReceived_outside (p : Nat) (b : Byte) (bad : Bool) (s : State) (msk : Nat) (hm : 35184376283152 &&& msk = 35184376283152) :
    (doUartByteReceived p b bad s).outside msk = s.outside msk := by
  unfold doUartByteReceived
  try dsimp only
  repeat' first
    | with_reducible rfl
    | with_reducible refine ite_outside ?_ ?_
    | with_reducible refine (State.brgOn_outside _ _ _ msk (sub_trans hm rfl)).trans ?_
    | with_reducible refine (State.rsAdd_outside _ _ _ _ _ msk (sub_trans hm rfl)).trans ?_
    | split
theorem doUartByteSent_outside (p : Nat) (s : State) (msk : Nat) (hm : 1099515822080 &&& msk = 1099515822080) :
    (doUartByteSent p s).outside msk = s.outside msk := by
  unfold doUartByteSent
  try dsimp only
  repeat' first
    | with_reducible rfl
    | with_reducible refine ite_outside ?_ ?_
    | with_reducible refine (State.brgOn_outside _ _ _ msk (sub_trans hm rfl)).trans ?_
    | with_reducible refine (State.emit_outside _ _ msk (sub_trans hm rfl)).trans ?_
    | with_reducible refine (brgWrite_outside _ _ _ _ msk (sub_trans hm rfl)).trans ?_
    | split

/-! ### UnitOps -/

theorem pathKill_outside (p : Nat) (s : State) (msk : Nat) (hm : 64875484885002 &&& msk = 64875484885002) :
    (pathKill p s).outside msk = s.outside msk := by
  unfold pathKill
  try dsimp only
  repeat' first
    | with_reducible rfl
    | with_reducible refine (State.pdOn_outside _ _ _ msk (sub_trans hm rfl)).trans ?_
    | with_reducible refine (pathOff_outside _ _ _ msk (sub_trans hm rfl)).trans ?_
    | with_reducible refine (voidContract_outside _ _ _ msk (sub_trans hm rfl)).trans ?_
    | split
theorem hvDown_outside (hold p : Nat) (s : State) (msk : Nat) (hm : 64875619102730 &&& msk = 64875619102730) :
    (hvDown hold p s).outside msk = s.outside msk := by
  unfold hvDown
  try dsimp only
  repeat' first
    | with_reducible rfl
    | with_reducible refine (State.pathOn_outside _ _ _ msk (sub_trans hm rfl)).trans ?_
    | with_reducible refine (pathKill_outside _ _ msk (sub_trans hm rfl)).trans ?_
    | with_reducible refine (serveWaiting_outside _ msk (sub_trans hm rfl)).trans ?_
theorem hvUp_outside (hold p : Nat) (s : State) (msk : Nat) (hm : 64875619364874 &&& msk = 64875619364874) :
    (hvUp hold p s).outside msk = s.outside msk := by
  unfold hvUp
  try dsimp only
  repeat' first
    | with_reducible rfl
    | with_reducible refine ite_outside ?_ ?_
    | with_reducible refine (State.pathOn_outside _ _ _ msk (sub_trans hm rfl)).trans ?_
    | with_reducible refine (ccLook_outside _ _ msk (sub_trans hm rfl)).trans ?_
    | with_reducible refine (enterUnattached_outside _ _ msk (sub_trans hm rfl)).trans ?_
    | with_reducible refine (pathSeek_outside _ _ msk (sub_trans hm rfl)).trans ?_
    | with_reducible refine (tcDetach_outside _ _ _ _ _ msk (sub_trans hm rfl) ?_).trans ?_
    | (intro _)
    | split
theorem chainDisagrees_outside (p : Nat) (s : State) (msk : Nat) (hm : 64875619102730 &&& msk = 64875619102730) :
    (chainDisagrees p s).outside msk = s.outside msk := by
  unfold chainDisagrees
  try dsimp only
  repeat' first
    | with_reducible rfl
    | with_reducible refine ite_outside ?_ ?_
    | with_reducible refine (State.pathOn_outside _ _ _ msk (sub_trans hm rfl)).trans ?_
    | with_reducible refine (pathKill_outside _ _ msk (sub_trans hm rfl)).trans ?_
    | with_reducible refine (serveWaiting_outside _ msk (sub_trans hm rfl)).trans ?_
    | split
theorem pfCmd_outside (c : Instr) (h : CmdHdr) (opcode : Nat) (keys : List WaitKey) (bad : Bool) (check : State → Option (Nat × Nat)) (ok : State → State) (s : State) (msk : Nat) (hm : 64871186038786 &&& msk = 64871186038786) (hg0 : ∀ y0, (ok y0).outside msk = y0.outside msk) :
    (pfCmd c h opcode keys bad check ok s).outside msk = s.outside msk := by
  unfold pfCmd
  try dsimp only
  repeat' first
    | with_reducible rfl
    | with_reducible refine ite_outside ?_ ?_
    | with_reducible refine (cmdDone_outside _ _ _ _ _ _ msk (sub_trans hm rfl)).trans ?_
    | with_reducible refine (command_outside _ _ _ _ _ msk (sub_trans hm rfl) ?_).trans ?_
    | with_reducible refine (hg0 _ ).trans ?_
    | (intro _)
    | split
theorem unitsOn_outside (g : Units → Units) (s : State) (msk : Nat) (hm : 549755813888 &&& msk = 549755813888) :
    (unitsOn g s).outside msk = s.outside msk := by
  unfold unitsOn
  try dsimp only
  repeat' first
    | with_reducible rfl
    | simp only [set_units_outside _ _ msk (sub_trans hm rfl)]
theorem recovered_outside (n cause unit : Nat) (s : State) (msk : Nat) (hm : 64871186038784 &&& msk = 64871186038784) :
    (recovered n cause unit s).outside msk = s.outside msk := by
  unfold recovered
  try dsimp only
  repeat' first
    | with_reducible rfl
    | with_reducible refine ite_outside ?_ ?_
    | with_reducible refine (faultEvent_outside _ _ _ _ msk (sub_trans hm rfl)).trans ?_
    | split
theorem bankRetire_outside (k cause : Nat) (s : State) (msk : Nat) (hm : 65522590756890 &&& msk = 65522590756890) :
    (bankRetire k cause s).outside msk = s.outside msk := by
  unfold bankRetire
  try dsimp only
  repeat' first
    | with_reducible rfl
    | with_reducible refine ite_outside ?_ ?_
    | with_reducible refine (fltCause_outside _ _ _ msk (sub_trans hm rfl)).trans ?_
    | with_reducible refine (unitsOn_outside _ _ msk (sub_trans hm rfl)).trans ?_
    | split
theorem wordRebuilt_outside (k : Nat) (s : State) (msk : Nat) (hm : 65522590756890 &&& msk = 65522590756890) :
    (wordRebuilt k s).outside msk = s.outside msk := by
  unfold wordRebuilt
  try dsimp only
  repeat' first
    | with_reducible rfl
    | with_reducible refine ite_outside ?_ ?_
    | with_reducible refine (bankRetire_outside _ _ _ msk (sub_trans hm rfl)).trans ?_
    | with_reducible refine (unitsOn_outside _ _ msk (sub_trans hm rfl)).trans ?_
    | split
theorem epFault_outside (k : Nat) (s : State) (msk : Nat) (hm : 139264 &&& msk = 139264) :
    (epFault k s).outside msk = s.outside msk := by
  unfold epFault
  try dsimp only
  repeat' first
    | with_reducible rfl
    | with_reducible refine ite_outside ?_ ?_
    | with_reducible refine (State.epOn_outside _ _ _ msk (sub_trans hm rfl)).trans ?_
    | with_reducible refine (forEach_outside _ _ _ msk ?_).trans ?_
    | with_reducible refine (pruneWin_outside _ _ _ msk (sub_trans hm rfl)).trans ?_
    | (intro _)
    | split
theorem ringLost_outside (k : Nat) (s : State) (msk : Nat) (hm : 65420942057472 &&& msk = 65420942057472) :
    (ringLost k s).outside msk = s.outside msk := by
  unfold ringLost
  try dsimp only
  repeat' first
    | with_reducible rfl
    | with_reducible refine ite_outside ?_ ?_
    | with_reducible refine (epFault_outside _ _ msk (sub_trans hm rfl)).trans ?_
    | with_reducible refine (forEach_outside _ _ _ msk ?_).trans ?_
    | with_reducible refine (handOver_outside _ _ _ msk (sub_trans hm rfl)).trans ?_
    | with_reducible refine (unitsOn_outside _ _ msk (sub_trans hm rfl)).trans ?_
    | (intro _)
    | split
theorem keeperRestart_outside (s : State) (msk : Nat) (hm : 35184372088848 &&& msk = 35184372088848) :
    (keeperRestart s).outside msk = s.outside msk := by
  unfold keeperRestart
  try dsimp only
  repeat' first
    | with_reducible rfl
    | with_reducible refine (State.rsAdd_outside _ _ _ _ _ msk (sub_trans hm rfl)).trans ?_
theorem coreHot_outside (r : FltRec) (s : State) (msk : Nat) (hm : 64876294909978 &&& msk = 64876294909978) :
    (coreHot r s).outside msk = s.outside msk := by
  unfold coreHot
  try dsimp only
  repeat' first
    | with_reducible rfl
    | with_reducible refine ite_outside ?_ ?_
    | with_reducible refine (State.fltSrcOn_outside _ _ _ msk (sub_trans hm rfl)).trans ?_
    | with_reducible refine (safeHoldEnter_outside _ _ msk (sub_trans hm rfl)).trans ?_
    | with_reducible refine (stepDown_outside _ msk (sub_trans hm rfl)).trans ?_
    | split
theorem sieveReset_outside (p : Nat) (s : State) (msk : Nat) (hm : 64871194427408 &&& msk = 64871194427408) :
    (sieveReset p s).outside msk = s.outside msk := by
  unfold sieveReset
  try dsimp only
  repeat' first
    | with_reducible rfl
    | with_reducible refine ite_outside ?_ ?_
    | with_reducible refine (State.capOn_outside _ _ _ msk (sub_trans hm rfl)).trans ?_
    | with_reducible refine (capEvent_outside _ _ _ _ _ msk (sub_trans hm rfl)).trans ?_
    | with_reducible refine (capLost_outside _ _ _ msk (sub_trans hm rfl)).trans ?_
    | split
theorem coldCopies_outside (s : State) (msk : Nat) (hm : 268435968 &&& msk = 268435968) :
    (coldCopies s).outside msk = s.outside msk := by
  unfold coldCopies
  try dsimp only
  repeat' first
    | with_reducible rfl
    | with_reducible refine ite_outside ?_ ?_
    | with_reducible refine (modeOn_outside _ _ msk (sub_trans hm rfl)).trans ?_
    | simp only [set_boot_outside _ _ msk (sub_trans hm rfl)]
    | split
theorem almRewrite_outside (s : State) (msk : Nat) (hm : 17179869184 &&& msk = 17179869184) :
    (almRewrite s).outside msk = s.outside msk := by
  unfold almRewrite
  try dsimp only
  repeat' first
    | with_reducible rfl
    | with_reducible refine ite_outside ?_ ?_
    | simp only [set_alm_outside _ _ msk (sub_trans hm rfl)]
    | split
theorem builtIn_outside (r : FltRec) (s : State) (msk : Nat) (hm : 65522859193370 &&& msk = 65522859193370) :
    (builtIn r s).outside msk = s.outside msk := by
  unfold builtIn
  try dsimp only
  repeat' first
    | with_reducible rfl
    | with_reducible refine ite_outside ?_ ?_
    | with_reducible refine (State.bedOn_outside _ _ _ msk (sub_trans hm rfl)).trans ?_
    | with_reducible refine (State.cfgFnOn_outside _ _ _ msk (sub_trans hm rfl)).trans ?_
    | with_reducible refine (chainDisagrees_outside _ _ msk (sub_trans hm rfl)).trans ?_
    | with_reducible refine (coreHot_outside _ _ msk (sub_trans hm rfl)).trans ?_
    | with_reducible refine (epFault_outside _ _ msk (sub_trans hm rfl)).trans ?_
    | with_reducible refine (forEach_outside _ _ _ msk ?_).trans ?_
    | with_reducible refine (hvDown_outside _ _ _ msk (sub_trans hm rfl)).trans ?_
    | with_reducible refine (keeperRestart_outside _ msk (sub_trans hm rfl)).trans ?_
    | with_reducible refine (modeOn_outside _ _ msk (sub_trans hm rfl)).trans ?_
    | with_reducible refine (recovered_outside _ _ _ _ msk (sub_trans hm rfl)).trans ?_
    | with_reducible refine (ringLost_outside _ _ msk (sub_trans hm rfl)).trans ?_
    | with_reducible refine (sieveReset_outside _ _ msk (sub_trans hm rfl)).trans ?_
    | with_reducible refine (stepDown_outside _ msk (sub_trans hm rfl)).trans ?_
    | with_reducible refine (tempoEvent_outside _ _ msk (sub_trans hm rfl)).trans ?_
    | with_reducible refine (threadFault_outside _ _ _ msk (sub_trans hm rfl)).trans ?_
    | with_reducible refine (wordRebuilt_outside _ _ msk (sub_trans hm rfl)).trans ?_
    | (intro _)
    | split
theorem unitFault_outside (r : FltRec) (lasting : Bool) (s : State) (msk : Nat) (hm : 65522859193370 &&& msk = 65522859193370) :
    (unitFault r lasting s).outside msk = s.outside msk := by
  unfold unitFault
  try dsimp only
  repeat' first
    | with_reducible rfl
    | with_reducible refine ite_outside ?_ ?_
    | with_reducible refine (almRewrite_outside _ msk (sub_trans hm rfl)).trans ?_
    | with_reducible refine (bankRetire_outside _ _ _ msk (sub_trans hm rfl)).trans ?_
    | with_reducible refine (builtIn_outside _ _ msk (sub_trans hm rfl)).trans ?_
    | with_reducible refine (fltCause_outside _ _ _ msk (sub_trans hm rfl)).trans ?_
    | split
theorem unitOnce_outside (n cause unit info : Nat) (s : State) (msk : Nat) (hm : 65522859193370 &&& msk = 65522859193370) :
    (unitOnce n cause unit info s).outside msk = s.outside msk := by
  unfold unitOnce
  try dsimp only
  repeat' first
    | with_reducible rfl
    | with_reducible refine (unitFault_outside _ _ _ msk (sub_trans hm rfl)).trans ?_

/-! ### SlotCmds -/

theorem slotCommand_outside (c : Instr) (h : CmdHdr) (opcode b : Nat) (rs : List Nat) (code : State → Option Nat) (ok : State → State) (s : State) (msk : Nat) (hm : 64871186038786 &&& msk = 64871186038786) (hg0 : ∀ y0, (ok y0).outside msk = y0.outside msk) :
    (slotCommand c h opcode b rs code ok s).outside msk = s.outside msk := by
  unfold slotCommand
  try dsimp only
  repeat' first
    | with_reducible rfl
    | with_reducible refine (cmdDone_outside _ _ _ _ _ _ msk (sub_trans hm rfl)).trans ?_
    | with_reducible refine (command_outside _ _ _ _ _ msk (sub_trans hm rfl) ?_).trans ?_
    | with_reducible refine (hg0 _ ).trans ?_
    | (intro _)
    | split
theorem doNoOp_outside (c : Instr) (h : CmdHdr) (q : Params) (rsv : Word) (s : State) (msk : Nat) (hm : 64871186038786 &&& msk = 64871186038786) :
    (doNoOp c h q rsv s).outside msk = s.outside msk := by
  unfold doNoOp
  try dsimp only
  repeat' first
    | with_reducible rfl
    | with_reducible refine ite_outside ?_ ?_
    | with_reducible refine (cmdDone_outside _ _ _ _ _ _ msk (sub_trans hm rfl)).trans ?_
    | with_reducible refine (command_outside _ _ _ _ _ msk (sub_trans hm rfl) ?_).trans ?_
    | (intro _)
    | split
theorem openSlot_outside (h : CmdHdr) (q : Params) (s : State) (msk : Nat) (hm : 69269232824320 &&& msk = 69269232824320) :
    (openSlot h q s).outside msk = s.outside msk := by
  unfold openSlot
  try dsimp only
  repeat' first
    | with_reducible rfl
    | with_reducible refine (State.epPut_outside _ _ _ msk (sub_trans hm rfl)).trans ?_
    | with_reducible refine (State.slotPut_outside _ _ _ msk (sub_trans hm rfl)).trans ?_
    | with_reducible refine (cmdDone_outside _ _ _ _ _ _ msk (sub_trans hm rfl)).trans ?_
    | with_reducible refine (epCmdDone_outside _ _ _ _ _ _ _ msk (sub_trans hm rfl)).trans ?_
    | with_reducible refine (fixRuns_outside _ msk (sub_trans hm rfl)).trans ?_
    | simp only [set_free_outside _ _ msk (sub_trans hm rfl)]
    | split
theorem doOpenSlot_outside (c : Instr) (h : CmdHdr) (q : Params) (s : State) (msk : Nat) (hm : 69269232824322 &&& msk = 69269232824322) :
    (doOpenSlot c h q s).outside msk = s.outside msk := by
  unfold doOpenSlot
  try dsimp only
  repeat' first
    | with_reducible rfl
    | with_reducible refine (command_outside _ _ _ _ _ msk (sub_trans hm rfl) ?_).trans ?_
    | with_reducible refine (openSlot_outside _ _ _ msk (sub_trans hm rfl)).trans ?_
    | (intro _)
theorem doAssignAddress_outside (c : Instr) (h : CmdHdr) (q : Params) (s : State) (msk : Nat) (hm : 64871186042882 &&& msk = 64871186042882) :
    (doAssignAddress c h q s).outside msk = s.outside msk := by
  unfold doAssignAddress
  try dsimp only
  repeat' first
    | with_reducible rfl
    | with_reducible refine ite_outside ?_ ?_
    | with_reducible refine (State.slotOn_outside _ _ _ msk (sub_trans hm rfl)).trans ?_
    | with_reducible refine (cmdDone_outside _ _ _ _ _ _ msk (sub_trans hm rfl)).trans ?_
    | with_reducible refine (slotBump_outside _ _ msk (sub_trans hm rfl)).trans ?_
    | with_reducible refine (slotCommand_outside _ _ _ _ _ _ _ _ msk (sub_trans hm rfl) ?_).trans ?_
    | (intro _)
    | split
theorem defineEp_outside (r port : Nat) (guest : Bool) (x : EpIn) (s : State) (msk : Nat) (hm : 4398046650368 &&& msk = 4398046650368) :
    (defineEp r port guest x s).outside msk = s.outside msk := by
  unfold defineEp
  try dsimp only
  repeat' first
    | with_reducible rfl
    | with_reducible refine ite_outside ?_ ?_
    | with_reducible refine (State.epPut_outside _ _ _ msk (sub_trans hm rfl)).trans ?_
    | with_reducible refine (epClose_outside _ _ msk (sub_trans hm rfl)).trans ?_
    | with_reducible refine (forEach_outside _ _ _ msk ?_).trans ?_
    | simp only [set_free_outside _ _ msk (sub_trans hm rfl)]
    | (intro _)
    | split
theorem placeEp_outside (r : Nat) (s : State) (msk : Nat) (hm : 8192 &&& msk = 8192) :
    (placeEp r s).outside msk = s.outside msk := by
  unfold placeEp
  try dsimp only
  repeat' first
    | with_reducible rfl
    | with_reducible refine ite_outside ?_ ?_
    | with_reducible refine (State.epOn_outside _ _ _ msk (sub_trans hm rfl)).trans ?_
    | split
theorem applyEndpoints_outside (f b port : Nat) (guest : Bool) (blk : List Byte) (s : State) (msk : Nat) (hm : 4398046650368 &&& msk = 4398046650368) :
    (applyEndpoints f b port guest blk s).outside msk = s.outside msk := by
  unfold applyEndpoints
  try dsimp only
  repeat' first
    | with_reducible rfl
    | with_reducible refine ite_outside ?_ ?_
    | with_reducible refine (State.epOn_outside _ _ _ msk (sub_trans hm rfl)).trans ?_
    | with_reducible refine (defineEp_outside _ _ _ _ _ msk (sub_trans hm rfl)).trans ?_
    | with_reducible refine (epBump_outside _ _ msk (sub_trans hm rfl)).trans ?_
    | with_reducible refine (epClose_outside _ _ msk (sub_trans hm rfl)).trans ?_
    | with_reducible refine (forEach_outside _ _ _ msk ?_).trans ?_
    | with_reducible refine (placeEp_outside _ _ msk (sub_trans hm rfl)).trans ?_
    | (intro _)
    | split
theorem setEndpointsTo_outside (f b : Nat) (blk : List Byte) (s : State) (msk : Nat) (hm : 4398046654464 &&& msk = 4398046654464) :
    (setEndpointsTo f b blk s).outside msk = s.outside msk := by
  unfold setEndpointsTo
  try dsimp only
  repeat' first
    | with_reducible rfl
    | with_reducible refine ite_outside ?_ ?_
    | with_reducible refine (State.slotOn_outside _ _ _ msk (sub_trans hm rfl)).trans ?_
    | with_reducible refine (applyEndpoints_outside _ _ _ _ _ _ msk (sub_trans hm rfl)).trans ?_
    | with_reducible refine (slotBump_outside _ _ msk (sub_trans hm rfl)).trans ?_
    | split
theorem setEndpoints_outside (h : CmdHdr) (b : Nat) (blk : List Byte) (s : State) (msk : Nat) (hm : 69269232955392 &&& msk = 69269232955392) :
    (setEndpoints h b blk s).outside msk = s.outside msk := by
  unfold setEndpoints
  try dsimp only
  repeat' first
    | with_reducible rfl
    | with_reducible refine ite_outside ?_ ?_
    | with_reducible refine (cmdDone_outside _ _ _ _ _ _ msk (sub_trans hm rfl)).trans ?_
    | with_reducible refine (epCmdDone_outside _ _ _ _ _ _ _ msk (sub_trans hm rfl)).trans ?_
    | with_reducible refine (fixRuns_outside _ msk (sub_trans hm rfl)).trans ?_
    | with_reducible refine (setEndpointsTo_outside _ _ _ _ msk (sub_trans hm rfl)).trans ?_
    | split
theorem doSetEndpoints_outside (c : Instr) (h : CmdHdr) (q : Params) (blk : List Byte) (s : State) (msk : Nat) (hm : 69269232955394 &&& msk = 69269232955394) :
    (doSetEndpoints c h q blk s).outside msk = s.outside msk := by
  unfold doSetEndpoints
  try dsimp only
  repeat' first
    | with_reducible rfl
    | with_reducible refine (setEndpoints_outside _ _ _ _ msk (sub_trans hm rfl)).trans ?_
    | with_reducible refine (slotCommand_outside _ _ _ _ _ _ _ _ msk (sub_trans hm rfl) ?_).trans ?_
    | (intro _)
theorem clearHalt_outside (r : Nat) (toggle : Bool) (s : State) (msk : Nat) (hm : 64871186178048 &&& msk = 64871186178048) :
    (clearHalt r toggle s).outside msk = s.outside msk := by
  unfold clearHalt
  try dsimp only
  repeat' first
    | with_reducible rfl
    | with_reducible refine ite_outside ?_ ?_
    | with_reducible refine (State.epOn_outside _ _ _ msk (sub_trans hm rfl)).trans ?_
    | with_reducible refine (epBump_outside _ _ msk (sub_trans hm rfl)).trans ?_
    | with_reducible refine (epSettle_outside _ _ msk (sub_trans hm rfl)).trans ?_
    | with_reducible refine (forEach_outside _ _ _ msk ?_).trans ?_
    | (intro _)
    | split
theorem moveCursor_outside (k deq gen count : Nat) (s : State) (msk : Nat) (hm : 8192 &&& msk = 8192) :
    (moveCursor k deq gen count s).outside msk = s.outside msk := by
  unfold moveCursor
  try dsimp only
  repeat' first
    | with_reducible rfl
    | with_reducible refine (State.epOn_outside _ _ _ msk (sub_trans hm rfl)).trans ?_
    | with_reducible refine (epBump_outside _ _ msk (sub_trans hm rfl)).trans ?_
theorem pauseStart_outside (h : CmdHdr) (opcode r : Nat) (o : Op) (s : State) (msk : Nat) (hm : 64871186178056 &&& msk = 64871186178056) :
    (pauseStart h opcode r o s).outside msk = s.outside msk := by
  unfold pauseStart
  try dsimp only
  repeat' first
    | with_reducible rfl
    | with_reducible refine ite_outside ?_ ?_
    | with_reducible refine (opStart_outside _ _ msk (sub_trans hm rfl)).trans ?_
    | with_reducible refine (pauseFinish_outside _ _ msk (sub_trans hm rfl)).trans ?_
    | with_reducible refine (stopStart_outside _ _ _ msk (sub_trans hm rfl)).trans ?_
    | split
theorem doClearHalt_outside (c : Instr) (h : CmdHdr) (q : Params) (s : State) (msk : Nat) (hm : 64871186178050 &&& msk = 64871186178050) :
    (doClearHalt c h q s).outside msk = s.outside msk := by
  unfold doClearHalt
  try dsimp only
  repeat' first
    | with_reducible rfl
    | with_reducible refine ite_outside ?_ ?_
    | with_reducible refine (clearHalt_outside _ _ _ msk (sub_trans hm rfl)).trans ?_
    | with_reducible refine (epCmdDone_outside _ _ _ _ _ _ _ msk (sub_trans hm rfl)).trans ?_
    | with_reducible refine (slotCommand_outside _ _ _ _ _ _ _ _ msk (sub_trans hm rfl) ?_).trans ?_
    | (intro _)
    | split
theorem doPauseEndpoint_outside (c : Instr) (h : CmdHdr) (q : Params) (s : State) (msk : Nat) (hm : 64871186178058 &&& msk = 64871186178058) :
    (doPauseEndpoint c h q s).outside msk = s.outside msk := by
  unfold doPauseEndpoint
  try dsimp only
  repeat' first
    | with_reducible rfl
    | with_reducible refine ite_outside ?_ ?_
    | with_reducible refine (cmdDone_outside _ _ _ _ _ _ msk (sub_trans hm rfl)).trans ?_
    | with_reducible refine (pauseStart_outside _ _ _ _ _ msk (sub_trans hm rfl)).trans ?_
    | with_reducible refine (slotCommand_outside _ _ _ _ _ _ _ _ msk (sub_trans hm rfl) ?_).trans ?_
    | (intro _)
    | split
theorem doMoveCursor_outside (c : Instr) (h : CmdHdr) (q : Params) (s : State) (msk : Nat) (hm : 64871186046978 &&& msk = 64871186046978) :
    (doMoveCursor c h q s).outside msk = s.outside msk := by
  unfold doMoveCursor
  try dsimp only
  repeat' first
    | with_reducible rfl
    | with_reducible refine (epCmdDone_outside _ _ _ _ _ _ _ msk (sub_trans hm rfl)).trans ?_
    | with_reducible refine (moveCursor_outside _ _ _ _ _ msk (sub_trans hm rfl)).trans ?_
    | with_reducible refine (slotCommand_outside _ _ _ _ _ _ _ _ msk (sub_trans hm rfl) ?_).trans ?_
    | (intro _)
    | split
theorem closeSlot_outside (key : Nat) (s : State) (msk : Nat) (hm : 143360 &&& msk = 143360) :
    (closeSlot key s).outside msk = s.outside msk := by
  unfold closeSlot
  try dsimp only
  repeat' first
    | with_reducible rfl
    | with_reducible refine (State.slotPut_outside _ _ _ msk (sub_trans hm rfl)).trans ?_
    | with_reducible refine (epClose_outside _ _ msk (sub_trans hm rfl)).trans ?_
    | with_reducible refine (forEach_outside _ _ _ msk ?_).trans ?_
    | (intro _)
theorem doCloseSlot_outside (c : Instr) (h : CmdHdr) (q : Params) (s : State) (msk : Nat) (hm : 64871186182158 &&& msk = 64871186182158) :
    (doCloseSlot c h q s).outside msk = s.outside msk := by
  unfold doCloseSlot
  try dsimp only
  repeat' first
    | with_reducible rfl
    | with_reducible refine (abortOps_outside _ _ _ _ msk (sub_trans hm rfl)).trans ?_
    | with_reducible refine (abortWaiting_outside _ _ _ msk (sub_trans hm rfl)).trans ?_
    | with_reducible refine (closeSlot_outside _ _ msk (sub_trans hm rfl)).trans ?_
    | with_reducible refine (cmdDone_outside _ _ _ _ _ _ msk (sub_trans hm rfl)).trans ?_
    | with_reducible refine (commandOver_outside _ _ _ _ _ msk (sub_trans hm rfl) ?_).trans ?_
    | (intro _)
    | split
theorem clearCounts_outside (k : Nat) (s : State) (msk : Nat) (hm : 8192 &&& msk = 8192) :
    (clearCounts k s).outside msk = s.outside msk := by
  unfold clearCounts
  try dsimp only
  repeat' first
    | with_reducible rfl
    | with_reducible refine (State.epOn_outside _ _ _ msk (sub_trans hm rfl)).trans ?_
    | with_reducible refine (epBump_outside _ _ msk (sub_trans hm rfl)).trans ?_
theorem doSnapshotContext_outside (c : Instr) (h : CmdHdr) (q : Params) (s : State) (msk : Nat) (hm : 64871186046978 &&& msk = 64871186046978) :
    (doSnapshotContext c h q s).outside msk = s.outside msk := by
  unfold doSnapshotContext
  try dsimp only
  repeat' first
    | with_reducible rfl
    | with_reducible refine ite_outside ?_ ?_
    | with_reducible refine (State.emit_outside _ _ msk (sub_trans hm rfl)).trans ?_
    | with_reducible refine (clearCounts_outside _ _ msk (sub_trans hm rfl)).trans ?_
    | with_reducible refine (epCmdDone_outside _ _ _ _ _ _ _ msk (sub_trans hm rfl)).trans ?_
    | with_reducible refine (forEach_outside _ _ _ msk ?_).trans ?_
    | with_reducible refine (slotCommand_outside _ _ _ _ _ _ _ _ msk (sub_trans hm rfl) ?_).trans ?_
    | (intro _)
    | split

/-! ### Modes -/

theorem setModeStart_outside (h : CmdHdr) (g : Mode) (force : Bool) (s : State) (msk : Nat) (hm : 64871463071770 &&& msk = 64871463071770) :
    (setModeStart h g force s).outside msk = s.outside msk := by
  unfold setModeStart
  try dsimp only
  repeat' first
    | with_reducible rfl
    | with_reducible refine ite_outside ?_ ?_
    | with_reducible refine (modeFaster_outside _ _ _ msk (sub_trans hm rfl)).trans ?_
    | with_reducible refine (modeOn_outside _ _ msk (sub_trans hm rfl)).trans ?_
    | with_reducible refine (modeSlower_outside _ _ _ msk (sub_trans hm rfl)).trans ?_
    | with_reducible refine (setModeDone_outside _ _ _ _ msk (sub_trans hm rfl)).trans ?_
    | split
theorem doSetMode_outside (c : Instr) (h : CmdHdr) (q : Params) (s : State) (msk : Nat) (hm : 64871463071770 &&& msk = 64871463071770) :
    (doSetMode c h q s).outside msk = s.outside msk := by
  unfold doSetMode
  try dsimp only
  repeat' first
    | with_reducible rfl
    | with_reducible refine (pfCmd_outside _ _ _ _ _ _ _ _ msk (sub_trans hm rfl) ?_).trans ?_
    | with_reducible refine (setModeStart_outside _ _ _ _ msk (sub_trans hm rfl)).trans ?_
    | (intro _)
theorem tempoCounts_outside (n : Nat) (s : State) (msk : Nat) (hm : 64871463071770 &&& msk = 64871463071770) :
    (tempoCounts n s).outside msk = s.outside msk := by
  unfold tempoCounts
  try dsimp only
  repeat' first
    | with_reducible rfl
    | with_reducible refine ite_outside ?_ ?_
    | with_reducible refine (modeOn_outside _ _ msk (sub_trans hm rfl)).trans ?_
    | with_reducible refine (stepDown_outside _ msk (sub_trans hm rfl)).trans ?_
    | with_reducible refine (tempoEvent_outside _ _ msk (sub_trans hm rfl)).trans ?_
    | split
theorem tempoConfirm_outside (n : Nat) (s : State) (msk : Nat) (hm : 64871999942682 &&& msk = 64871999942682) :
    (tempoConfirm n s).outside msk = s.outside msk := by
  unfold tempoConfirm
  try dsimp only
  repeat' first
    | with_reducible rfl
    | with_reducible refine ite_outside ?_ ?_
    | with_reducible refine (fasterDone_outside _ _ msk (sub_trans hm rfl)).trans ?_
    | with_reducible refine (fasterFails_outside _ _ _ msk (sub_trans hm rfl)).trans ?_
    | with_reducible refine (modeEnd_outside _ msk (sub_trans hm rfl)).trans ?_
    | with_reducible refine (modeOn_outside _ _ msk (sub_trans hm rfl)).trans ?_
    | split
theorem tempoHold_outside (n : Nat) (s : State) (msk : Nat) (hm : 268435456 &&& msk = 268435456) :
    (tempoHold n s).outside msk = s.outside msk := by
  unfold tempoHold
  try dsimp only
  repeat' first
    | with_reducible rfl
    | with_reducible refine (modeOn_outside _ _ msk (sub_trans hm rfl)).trans ?_
theorem doTempoSample_outside (idx : BitVec 16) (s : State) (msk : Nat) (hm : 64871999942682 &&& msk = 64871999942682) :
    (doTempoSample idx s).outside msk = s.outside msk := by
  unfold doTempoSample
  try dsimp only
  repeat' first
    | with_reducible rfl
    | with_reducible refine ite_outside ?_ ?_
    | with_reducible refine (bundleElse_outside _ _ _ msk (sub_trans hm rfl) ?_ ?_).trans ?_
    | with_reducible refine (modeOn_outside _ _ msk (sub_trans hm rfl)).trans ?_
    | with_reducible refine (tempoConfirm_outside _ _ msk (sub_trans hm rfl)).trans ?_
    | with_reducible refine (tempoCounts_outside _ _ msk (sub_trans hm rfl)).trans ?_
    | with_reducible refine (tempoHold_outside _ _ msk (sub_trans hm rfl)).trans ?_
    | (intro _)
    | split
theorem doTempoRecoveredExpire_outside (s : State) (msk : Nat) (hm : 64871454474240 &&& msk = 64871454474240) :
    (doTempoRecoveredExpire s).outside msk = s.outside msk := by
  unfold doTempoRecoveredExpire
  try dsimp only
  repeat' first
    | with_reducible rfl
    | with_reducible refine ite_outside ?_ ?_
    | with_reducible refine (modeOn_outside _ _ msk (sub_trans hm rfl)).trans ?_
    | with_reducible refine (tempoEvent_outside _ _ msk (sub_trans hm rfl)).trans ?_
    | split
theorem doSundialCheck_outside (second : BitVec 16) (s : State) (msk : Nat) (hm : 65522859193370 &&& msk = 65522859193370) :
    (doSundialCheck second s).outside msk = s.outside msk := by
  unfold doSundialCheck
  try dsimp only
  repeat' first
    | with_reducible rfl
    | with_reducible refine ite_outside ?_ ?_
    | with_reducible refine (unitOnce_outside _ _ _ _ _ msk (sub_trans hm rfl)).trans ?_
    | split
theorem doRegulatorSettled_outside (mv : Nat) (s : State) (msk : Nat) (hm : 64871999942682 &&& msk = 64871999942682) :
    (doRegulatorSettled mv s).outside msk = s.outside msk := by
  unfold doRegulatorSettled
  try dsimp only
  repeat' first
    | with_reducible rfl
    | with_reducible refine ite_outside ?_ ?_
    | with_reducible refine (modeEnd_outside _ msk (sub_trans hm rfl)).trans ?_
    | with_reducible refine (modeOn_outside _ _ msk (sub_trans hm rfl)).trans ?_
    | with_reducible refine (slowerDone_outside _ _ _ msk (sub_trans hm rfl)).trans ?_
    | split
theorem doRegulatorSettleTimeout_outside (s : State) (msk : Nat) (hm : 64871999942682 &&& msk = 64871999942682) :
    (doRegulatorSettleTimeout s).outside msk = s.outside msk := by
  unfold doRegulatorSettleTimeout
  try dsimp only
  repeat' first
    | with_reducible rfl
    | with_reducible refine (fasterFails_outside _ _ _ msk (sub_trans hm rfl)).trans ?_
    | with_reducible refine (modeEnd_outside _ msk (sub_trans hm rfl)).trans ?_
    | with_reducible refine (slowerDone_outside _ _ _ msk (sub_trans hm rfl)).trans ?_
    | split
theorem doModeWindowsDrained_outside (s : State) (msk : Nat) (hm : 1099780063232 &&& msk = 1099780063232) :
    (doModeWindowsDrained s).outside msk = s.outside msk := by
  unfold doModeWindowsDrained
  try dsimp only
  repeat' first
    | with_reducible rfl
    | with_reducible refine ite_outside ?_ ?_
    | with_reducible refine (modeOn_outside _ _ msk (sub_trans hm rfl)).trans ?_
    | with_reducible refine (voutTo_outside _ _ msk (sub_trans hm rfl)).trans ?_
    | split
theorem doAutoRaiseTimer_outside (s : State) (msk : Nat) (hm : 64871463071770 &&& msk = 64871463071770) :
    (doAutoRaiseTimer s).outside msk = s.outside msk := by
  unfold doAutoRaiseTimer
  try dsimp only
  repeat' first
    | with_reducible rfl
    | with_reducible refine ite_outside ?_ ?_
    | with_reducible refine (modeOn_outside _ _ msk (sub_trans hm rfl)).trans ?_
    | with_reducible refine (modeServe_outside _ msk (sub_trans hm rfl)).trans ?_
    | split
theorem regulatorBad_outside (cause : Nat) (s : State) (msk : Nat) (hm : 65522859193370 &&& msk = 65522859193370) :
    (regulatorBad cause s).outside msk = s.outside msk := by
  unfold regulatorBad
  try dsimp only
  repeat' first
    | with_reducible rfl
    | with_reducible refine (modeEvent_outside _ _ _ _ _ _ _ msk (sub_trans hm rfl)).trans ?_
    | with_reducible refine (unitOnce_outside _ _ _ _ _ msk (sub_trans hm rfl)).trans ?_
theorem doRegulatorPoll_outside (rd : Option Nat) (s : State) (msk : Nat) (hm : 65522859193370 &&& msk = 65522859193370) :
    (doRegulatorPoll rd s).outside msk = s.outside msk := by
  unfold doRegulatorPoll
  try dsimp only
  repeat' first
    | with_reducible rfl
    | with_reducible refine ite_outside ?_ ?_
    | with_reducible refine (modeOn_outside _ _ msk (sub_trans hm rfl)).trans ?_
    | with_reducible refine (regulatorBad_outside _ _ msk (sub_trans hm rfl)).trans ?_
    | split
theorem doDrowseIdleExpire_outside (s : State) (msk : Nat) (hm : 64871454474752 &&& msk = 64871454474752) :
    (doDrowseIdleExpire s).outside msk = s.outside msk := by
  unfold doDrowseIdleExpire
  try dsimp only
  repeat' first
    | with_reducible rfl
    | with_reducible refine ite_outside ?_ ?_
    | with_reducible refine (coldCopies_outside _ msk (sub_trans hm rfl)).trans ?_
    | with_reducible refine (pwrTo_outside _ _ _ msk (sub_trans hm rfl)).trans ?_
    | split
theorem doDormantIdleExpire_outside (s : State) (msk : Nat) (hm : 64871454474240 &&& msk = 64871454474240) :
    (doDormantIdleExpire s).outside msk = s.outside msk := by
  unfold doDormantIdleExpire
  try dsimp only
  repeat' first
    | with_reducible rfl
    | with_reducible refine ite_outside ?_ ?_
    | with_reducible refine (modeEvent_outside _ _ _ _ _ _ _ msk (sub_trans hm rfl)).trans ?_
    | with_reducible refine (modeOn_outside _ _ msk (sub_trans hm rfl)).trans ?_
    | split
theorem doDormantEntryComplete_outside (s : State) (msk : Nat) (hm : 1099780063232 &&& msk = 1099780063232) :
    (doDormantEntryComplete s).outside msk = s.outside msk := by
  unfold doDormantEntryComplete
  try dsimp only
  repeat' first
    | with_reducible rfl
    | with_reducible refine ite_outside ?_ ?_
    | with_reducible refine (modeOn_outside _ _ msk (sub_trans hm rfl)).trans ?_
    | with_reducible refine (voutTo_outside _ _ msk (sub_trans hm rfl)).trans ?_
    | split
theorem doWakeCause_outside (c : WakeCause) (s : State) (msk : Nat) (hm : 64871463071770 &&& msk = 64871463071770) :
    (doWakeCause c s).outside msk = s.outside msk := by
  unfold doWakeCause
  try dsimp only
  repeat' first
    | with_reducible rfl
    | with_reducible refine ite_outside ?_ ?_
    | with_reducible refine (wake_outside _ _ msk (sub_trans hm rfl)).trans ?_
    | split
theorem doDormantExitComplete_outside (s : State) (msk : Nat) (hm : 64871999942682 &&& msk = 64871999942682) :
    (doDormantExitComplete s).outside msk = s.outside msk := by
  unfold doDormantExitComplete
  try dsimp only
  repeat' first
    | with_reducible rfl
    | with_reducible refine (modeOn_outside _ _ msk (sub_trans hm rfl)).trans ?_
    | with_reducible refine (modeServe_outside _ msk (sub_trans hm rfl)).trans ?_
    | with_reducible refine (pwrTo_outside _ _ _ msk (sub_trans hm rfl)).trans ?_
    | with_reducible refine (rotServe_outside _ msk (sub_trans hm rfl)).trans ?_
    | split
theorem doBrownOut_outside (s : State) (msk : Nat) (hm : 35201820393488 &&& msk = 35201820393488) :
    (doBrownOut s).outside msk = s.outside msk := by
  unfold doBrownOut
  try dsimp only
  repeat' first
    | with_reducible rfl
    | with_reducible refine ite_outside ?_ ?_
    | with_reducible refine (State.fldPut_outside _ _ _ _ _ msk (sub_trans hm rfl)).trans ?_
    | with_reducible refine (State.rsAdd_outside _ _ _ _ _ msk (sub_trans hm rfl)).trans ?_
    | with_reducible refine (almEvent_outside _ _ _ _ _ msk (sub_trans hm rfl)).trans ?_
    | with_reducible refine (modeOn_outside _ _ msk (sub_trans hm rfl)).trans ?_
    | split

/-! ### PortCmds -/

theorem paDone_outside (h : CmdHdr) (q : Params) (code result : Nat) (s : State) (msk : Nat) (hm : 64871186038784 &&& msk = 64871186038784) :
    (paDone h q code result s).outside msk = s.outside msk := by
  unfold paDone
  try dsimp only
  repeat' first
    | with_reducible rfl
    | with_reducible refine (cmdDone_outside _ _ _ _ _ _ msk (sub_trans hm rfl)).trans ?_
theorem paMulti_outside (c : Instr) (h : CmdHdr) (q : Params) (permitted : Nat → State → Bool) (act : Nat → State → State) (s : State) (msk : Nat) (hm : 64871186038786 &&& msk = 64871186038786) (hg0 : ∀ y0 y1, (act y0 y1).outside msk = y1.outside msk) :
    (paMulti c h q permitted act s).outside msk = s.outside msk := by
  unfold paMulti
  try dsimp only
  repeat' first
    | with_reducible rfl
    | with_reducible refine ite_outside ?_ ?_
    | with_reducible refine (command_outside _ _ _ _ _ msk (sub_trans hm rfl) ?_).trans ?_
    | with_reducible refine (forEach_outside _ _ _ msk ?_).trans ?_
    | with_reducible refine (paDone_outside _ _ _ _ _ msk (sub_trans hm rfl)).trans ?_
    | with_reducible refine (hg0 _ _ ).trans ?_
    | (intro _)
    | split
theorem paRun_outside (h : CmdHdr) (q : Params) (bad : Bool) (code : State → Option Nat) (ok : State → State) (s : State) (msk : Nat) (hm : 64871186038784 &&& msk = 64871186038784) (hg0 : ∀ y0, (ok y0).outside msk = y0.outside msk) :
    (paRun h q bad code ok s).outside msk = s.outside msk := by
  unfold paRun
  try dsimp only
  repeat' first
    | with_reducible rfl
    | with_reducible refine (paDone_outside _ _ _ _ _ msk (sub_trans hm rfl)).trans ?_
    | with_reducible refine (hg0 _ ).trans ?_
    | split
theorem paOne_outside (c : Instr) (h : CmdHdr) (q : Params) (bad : Bool) (code : State → Option Nat) (ok : State → State) (s : State) (msk : Nat) (hm : 64871186038786 &&& msk = 64871186038786) (hg0 : ∀ y0, (ok y0).outside msk = y0.outside msk) :
    (paOne c h q bad code ok s).outside msk = s.outside msk := by
  unfold paOne
  try dsimp only
  repeat' first
    | with_reducible rfl
    | with_reducible refine (command_outside _ _ _ _ _ msk (sub_trans hm rfl) ?_).trans ?_
    | with_reducible refine (paRun_outside _ _ _ _ _ _ msk (sub_trans hm rfl) ?_).trans ?_
    | with_reducible refine (hg0 _ ).trans ?_
    | (intro _)
theorem paTree_outside (c : Instr) (h : CmdHdr) (q : Params) (code : State → Option Nat) (ok : State → State) (s : State) (msk : Nat) (hm : 64871186038786 &&& msk = 64871186038786) (hg0 : ∀ y0, (ok y0).outside msk = y0.outside msk) :
    (paTree c h q code ok s).outside msk = s.outside msk := by
  unfold paTree
  try dsimp only
  repeat' first
    | with_reducible rfl
    | with_reducible refine (command_outside _ _ _ _ _ msk (sub_trans hm rfl) ?_).trans ?_
    | with_reducible refine (paRun_outside _ _ _ _ _ _ msk (sub_trans hm rfl) ?_).trans ?_
    | with_reducible refine (hg0 _ ).trans ?_
    | (intro _)
theorem doPortEnable_outside (c : Instr) (h : CmdHdr) (q : Params) (s : State) (msk : Nat) (hm : 64871186247690 &&& msk = 64871186247690) :
    (doPortEnable c h q s).outside msk = s.outside msk := by
  unfold doPortEnable
  try dsimp only
  repeat' first
    | with_reducible rfl
    | with_reducible refine (State.linkOn_outside _ _ _ msk (sub_trans hm rfl)).trans ?_
    | with_reducible refine (paMulti_outside _ _ _ _ _ _ msk (sub_trans hm rfl) ?_).trans ?_
    | with_reducible refine (refreshSides_outside _ _ msk (sub_trans hm rfl)).trans ?_
    | (intro _)
theorem disablePort_outside (p : Nat) (s : State) (msk : Nat) (hm : 64871186247690 &&& msk = 64871186247690) :
    (disablePort p s).outside msk = s.outside msk := by
  unfold disablePort
  try dsimp only
  repeat' first
    | with_reducible rfl
    | with_reducible refine ite_outside ?_ ?_
    | with_reducible refine (State.linkOn_outside _ _ _ msk (sub_trans hm rfl)).trans ?_
    | with_reducible refine (refreshSides_outside _ _ msk (sub_trans hm rfl)).trans ?_
    | split
theorem doPortDisable_outside (c : Instr) (h : CmdHdr) (q : Params) (s : State) (msk : Nat) (hm : 64871186247690 &&& msk = 64871186247690) :
    (doPortDisable c h q s).outside msk = s.outside msk := by
  unfold doPortDisable
  try dsimp only
  repeat' first
    | with_reducible rfl
    | with_reducible refine (disablePort_outside _ _ msk (sub_trans hm rfl)).trans ?_
    | with_reducible refine (paMulti_outside _ _ _ _ _ _ msk (sub_trans hm rfl) ?_).trans ?_
    | (intro _)
theorem doPortReset_outside (c : Instr) (h : CmdHdr) (q : Params) (s : State) (msk : Nat) (hm : 64871186243594 &&& msk = 64871186243594) :
    (doPortReset c h q s).outside msk = s.outside msk := by
  unfold doPortReset
  try dsimp only
  repeat' first
    | with_reducible rfl
    | with_reducible refine (State.reset_outside msk (sub_trans hm rfl)).trans ?_
    | with_reducible refine (forEach_outside _ _ _ msk ?_).trans ?_
    | with_reducible refine (opStart_outside _ _ msk (sub_trans hm rfl)).trans ?_
    | with_reducible refine (paOne_outside _ _ _ _ _ _ _ msk (sub_trans hm rfl) ?_).trans ?_
    | with_reducible refine (startReset_outside _ _ _ _ _ msk (sub_trans hm rfl)).trans ?_
    | (intro _)
theorem doPortResetQuiesced_outside (p : Port) (s : State) (msk : Nat) (hm : 64871186116608 &&& msk = 64871186116608) :
    (doPortResetQuiesced p s).outside msk = s.outside msk := by
  unfold doPortResetQuiesced
  try dsimp only
  repeat' first
    | with_reducible rfl
    | with_reducible refine ite_outside ?_ ?_
    | with_reducible refine (driveReset_outside _ _ _ msk (sub_trans hm rfl)).trans ?_
    | with_reducible refine (forEach_outside _ _ _ msk ?_).trans ?_
    | (intro _)
    | split
theorem doHotResetTimeout_outside (p : Port) (s : State) (msk : Nat) (hm : 1099511693312 &&& msk = 1099511693312) :
    (doHotResetTimeout p s).outside msk = s.outside msk := by
  unfold doHotResetTimeout
  try dsimp only
  repeat' first
    | with_reducible rfl
    | with_reducible refine ite_outside ?_ ?_
    | with_reducible refine (State.emit_outside _ _ msk (sub_trans hm rfl)).trans ?_
    | with_reducible refine (State.reset_outside msk (sub_trans hm rfl)).trans ?_
    | with_reducible refine (State.sideOn_outside _ _ _ _ msk (sub_trans hm rfl)).trans ?_
    | split
theorem doPortResetDone_outside (p : Port) (sd : Side) (sp : Speed) (s : State) (msk : Nat) (hm : 64871186235400 &&& msk = 64871186235400) :
    (doPortResetDone p sd sp s).outside msk = s.outside msk := by
  unfold doPortResetDone
  try dsimp only
  repeat' first
    | with_reducible rfl
    | with_reducible refine ite_outside ?_ ?_
    | with_reducible refine (State.reset_outside msk (sub_trans hm rfl)).trans ?_
    | with_reducible refine (State.sideOn_outside _ _ _ _ msk (sub_trans hm rfl)).trans ?_
    | with_reducible refine (busStart_outside _ _ msk (sub_trans hm rfl)).trans ?_
    | with_reducible refine (portEvent_outside _ _ _ _ _ _ msk (sub_trans hm rfl)).trans ?_
    | with_reducible refine (portOpDone_outside _ _ _ _ msk (sub_trans hm rfl)).trans ?_
    | with_reducible refine (post_outside _ _ _ _ msk (sub_trans hm rfl)).trans ?_
    | split
theorem startSuspend_outside (p : Nat) (s : State) (msk : Nat) (hm : 196608 &&& msk = 196608) :
    (startSuspend p s).outside msk = s.outside msk := by
  unfold startSuspend
  try dsimp only
  repeat' first
    | with_reducible rfl
    | with_reducible refine (State.sideOn_outside _ _ _ _ msk (sub_trans hm rfl)).trans ?_
    | with_reducible refine (forEach_outside _ _ _ msk ?_).trans ?_
    | with_reducible refine (pruneWin_outside _ _ _ msk (sub_trans hm rfl)).trans ?_
    | (intro _)
theorem paLong_outside (c : Instr) (h : CmdHdr) (q : Params) (kind : OpKind) (permitted : Nat → State → Bool) (act : Nat → State → State) (s : State) (msk : Nat) (hm : 64871186038794 &&& msk = 64871186038794) (hg0 : ∀ y0 y1, (act y0 y1).outside msk = y1.outside msk) :
    (paLong c h q kind permitted act s).outside msk = s.outside msk := by
  unfold paLong
  try dsimp only
  repeat' first
    | with_reducible rfl
    | with_reducible refine ite_outside ?_ ?_
    | with_reducible refine (command_outside _ _ _ _ _ msk (sub_trans hm rfl) ?_).trans ?_
    | with_reducible refine (forEach_outside _ _ _ msk ?_).trans ?_
    | with_reducible refine (opStart_outside _ _ msk (sub_trans hm rfl)).trans ?_
    | with_reducible refine (paDone_outside _ _ _ _ _ msk (sub_trans hm rfl)).trans ?_
    | with_reducible refine (hg0 _ _ ).trans ?_
    | (intro _)
    | split
theorem doPortSuspend_outside (c : Instr) (h : CmdHdr) (q : Params) (s : State) (msk : Nat) (hm : 64871186235402 &&& msk = 64871186235402) :
    (doPortSuspend c h q s).outside msk = s.outside msk := by
  unfold doPortSuspend
  try dsimp only
  repeat' first
    | with_reducible rfl
    | with_reducible refine (paLong_outside _ _ _ _ _ _ _ msk (sub_trans hm rfl) ?_).trans ?_
    | with_reducible refine (startSuspend_outside _ _ msk (sub_trans hm rfl)).trans ?_
    | (intro _)
theorem doSuspendQuiesced_outside (p : Port) (s : State) (msk : Nat) (hm : 65536 &&& msk = 65536) :
    (doSuspendQuiesced p s).outside msk = s.outside msk := by
  unfold doSuspendQuiesced
  try dsimp only
  repeat' first
    | with_reducible rfl
    | with_reducible refine ite_outside ?_ ?_
    | with_reducible refine (State.sideOn_outside _ _ _ _ msk (sub_trans hm rfl)).trans ?_
    | with_reducible refine (forEach_outside _ _ _ msk ?_).trans ?_
    | (intro _)
    | split
theorem doSsU3Entered_outside (p : Port) (s : State) (msk : Nat) (hm : 1099511693312 &&& msk = 1099511693312) :
    (doSsU3Entered p s).outside msk = s.outside msk := by
  unfold doSsU3Entered
  try dsimp only
  repeat' first
    | with_reducible rfl
    | with_reducible refine ite_outside ?_ ?_
    | with_reducible refine (State.emit_outside _ _ msk (sub_trans hm rfl)).trans ?_
    | with_reducible refine (State.sideOn_outside _ _ _ _ msk (sub_trans hm rfl)).trans ?_
    | split
theorem leaveStreams_outside (p : Nat) (sd : Side) (s : State) (msk : Nat) (hm : 8192 &&& msk = 8192) :
    (leaveStreams p sd s).outside msk = s.outside msk := by
  unfold leaveStreams
  try dsimp only
  repeat' first
    | with_reducible rfl
    | with_reducible refine (State.epOn_outside _ _ _ msk (sub_trans hm rfl)).trans ?_
    | with_reducible refine (forEach_outside _ _ _ msk ?_).trans ?_
    | (intro _)
theorem doSuspendComplete_outside (p : Port) (s : State) (msk : Nat) (hm : 64871186112520 &&& msk = 64871186112520) :
    (doSuspendComplete p s).outside msk = s.outside msk := by
  unfold doSuspendComplete
  try dsimp only
  repeat' first
    | with_reducible rfl
    | with_reducible refine ite_outside ?_ ?_
    | with_reducible refine (State.sideOn_outside _ _ _ _ msk (sub_trans hm rfl)).trans ?_
    | with_reducible refine (forEach_outside _ _ _ msk ?_).trans ?_
    | with_reducible refine (leaveStreams_outside _ _ _ msk (sub_trans hm rfl)).trans ?_
    | with_reducible refine (longDone_outside _ _ _ _ msk (sub_trans hm rfl)).trans ?_
    | with_reducible refine (portEvent_outside _ _ _ _ _ _ msk (sub_trans hm rfl)).trans ?_
    | with_reducible refine (startResume_outside _ _ _ _ msk (sub_trans hm rfl)).trans ?_
    | (intro _)
    | split
theorem actResume_outside (p : Nat) (s : State) (msk : Nat) (hm : 1099511693312 &&& msk = 1099511693312) :
    (actResume p s).outside msk = s.outside msk := by
  unfold actResume
  try dsimp only
  repeat' first
    | with_reducible rfl
    | with_reducible refine ite_outside ?_ ?_
    | with_reducible refine (State.sideOn_outside _ _ _ _ msk (sub_trans hm rfl)).trans ?_
    | with_reducible refine (forEach_outside _ _ _ msk ?_).trans ?_
    | with_reducible refine (startResume_outside _ _ _ _ msk (sub_trans hm rfl)).trans ?_
    | (intro _)
    | split
theorem doPortResume_outside (c : Instr) (h : CmdHdr) (q : Params) (s : State) (msk : Nat) (hm : 64871186104330 &&& msk = 64871186104330) :
    (doPortResume c h q s).outside msk = s.outside msk := by
  unfold doPortResume
  try dsimp only
  repeat' first
    | with_reducible rfl
    | with_reducible refine (actResume_outside _ _ msk (sub_trans hm rfl)).trans ?_
    | with_reducible refine (paLong_outside _ _ _ _ _ _ _ msk (sub_trans hm rfl) ?_).trans ?_
    | (intro _)
theorem doResumeKEnd_outside (p : Port) (s : State) (msk : Nat) (hm : 65536 &&& msk = 65536) :
    (doResumeKEnd p s).outside msk = s.outside msk := by
  unfold doResumeKEnd
  try dsimp only
  repeat' first
    | with_reducible rfl
    | with_reducible refine ite_outside ?_ ?_
    | with_reducible refine (State.sideOn_outside _ _ _ _ msk (sub_trans hm rfl)).trans ?_
    | split
theorem doResumeRecoveryEnd_outside (p : Port) (sd : Side) (s : State) (msk : Nat) (hm : 64871186235400 &&& msk = 64871186235400) :
    (doResumeRecoveryEnd p sd s).outside msk = s.outside msk := by
  unfold doResumeRecoveryEnd
  try dsimp only
  repeat' first
    | with_reducible rfl
    | with_reducible refine ite_outside ?_ ?_
    | with_reducible refine (endResume_outside _ _ _ msk (sub_trans hm rfl)).trans ?_
    | split
theorem doSsResumeTimeout_outside (p : Port) (s : State) (msk : Nat) (hm : 64871186243594 &&& msk = 64871186243594) :
    (doSsResumeTimeout p s).outside msk = s.outside msk := by
  unfold doSsResumeTimeout
  try dsimp only
  repeat' first
    | with_reducible rfl
    | with_reducible refine ite_outside ?_ ?_
    | with_reducible refine (errorSide_outside _ _ _ _ _ msk (sub_trans hm rfl)).trans ?_
    | split
theorem treeMark_outside (p key : Nat) (s : State) (msk : Nat) (hm : 143360 &&& msk = 143360) :
    (treeMark p key s).outside msk = s.outside msk := by
  unfold treeMark
  try dsimp only
  repeat' first
    | with_reducible rfl
    | with_reducible refine (State.epOn_outside _ _ _ msk (sub_trans hm rfl)).trans ?_
    | with_reducible refine (State.slotOn_outside _ _ _ msk (sub_trans hm rfl)).trans ?_
    | with_reducible refine (forEach_outside _ _ _ msk ?_).trans ?_
    | with_reducible refine (pruneWin_outside _ _ _ msk (sub_trans hm rfl)).trans ?_
    | with_reducible refine (slotBump_outside _ _ msk (sub_trans hm rfl)).trans ?_
    | (intro _)
theorem doTreeSleep_outside (c : Instr) (h : CmdHdr) (q : Params) (s : State) (msk : Nat) (hm : 64871186182154 &&& msk = 64871186182154) :
    (doTreeSleep c h q s).outside msk = s.outside msk := by
  unfold doTreeSleep
  try dsimp only
  repeat' first
    | with_reducible rfl
    | with_reducible refine ite_outside ?_ ?_
    | with_reducible refine (opStart_outside _ _ msk (sub_trans hm rfl)).trans ?_
    | with_reducible refine (paDone_outside _ _ _ _ _ msk (sub_trans hm rfl)).trans ?_
    | with_reducible refine (paTree_outside _ _ _ _ _ _ msk (sub_trans hm rfl) ?_).trans ?_
    | with_reducible refine (treeMark_outside _ _ _ msk (sub_trans hm rfl)).trans ?_
    | (intro _)
    | split
theorem doTreeSleepQuiesced_outside (p : Port) (s : State) (msk : Nat) (hm : 64871186038792 &&& msk = 64871186038792) :
    (doTreeSleepQuiesced p s).outside msk = s.outside msk := by
  unfold doTreeSleepQuiesced
  try dsimp only
  repeat' first
    | with_reducible rfl
    | with_reducible refine ite_outside ?_ ?_
    | with_reducible refine (cmdDone_outside _ _ _ _ _ _ msk (sub_trans hm rfl)).trans ?_
    | with_reducible refine (opDrop_outside _ _ msk (sub_trans hm rfl)).trans ?_
    | split
theorem doTreeWake_outside (c : Instr) (h : CmdHdr) (q : Params) (s : State) (msk : Nat) (hm : 64871186042882 &&& msk = 64871186042882) :
    (doTreeWake c h q s).outside msk = s.outside msk := by
  unfold doTreeWake
  try dsimp only
  repeat' first
    | with_reducible rfl
    | with_reducible refine (State.slotOn_outside _ _ _ msk (sub_trans hm rfl)).trans ?_
    | with_reducible refine (paDone_outside _ _ _ _ _ msk (sub_trans hm rfl)).trans ?_
    | with_reducible refine (paTree_outside _ _ _ _ _ _ msk (sub_trans hm rfl) ?_).trans ?_
    | with_reducible refine (slotBump_outside _ _ msk (sub_trans hm rfl)).trans ?_
    | (intro _)
theorem doPortTest_outside (c : Instr) (h : CmdHdr) (q : Params) (s : State) (msk : Nat) (hm : 64871186104322 &&& msk = 64871186104322) :
    (doPortTest c h q s).outside msk = s.outside msk := by
  unfold doPortTest
  try dsimp only
  repeat' first
    | with_reducible rfl
    | with_reducible refine ite_outside ?_ ?_
    | with_reducible refine (State.emit_outside _ _ msk (sub_trans hm rfl)).trans ?_
    | with_reducible refine (State.linkOn_outside _ _ _ msk (sub_trans hm rfl)).trans ?_
    | with_reducible refine (paDone_outside _ _ _ _ _ msk (sub_trans hm rfl)).trans ?_
    | with_reducible refine (paOne_outside _ _ _ _ _ _ _ msk (sub_trans hm rfl) ?_).trans ?_
    | (intro _)
    | split
theorem doSsRetry_outside (c : Instr) (h : CmdHdr) (q : Params) (s : State) (msk : Nat) (hm : 64871186104322 &&& msk = 64871186104322) :
    (doSsRetry c h q s).outside msk = s.outside msk := by
  unfold doSsRetry
  try dsimp only
  repeat' first
    | with_reducible rfl
    | with_reducible refine (State.sideOn_outside _ _ _ _ msk (sub_trans hm rfl)).trans ?_
    | with_reducible refine (paDone_outside _ _ _ _ _ msk (sub_trans hm rfl)).trans ?_
    | with_reducible refine (paOne_outside _ _ _ _ _ _ _ msk (sub_trans hm rfl) ?_).trans ?_
    | (intro _)
theorem powerOffPort_outside (p : Nat) (s : State) (msk : Nat) (hm : 64875619364874 &&& msk = 64875619364874) :
    (powerOffPort p s).outside msk = s.outside msk := by
  unfold powerOffPort
  try dsimp only
  repeat' first
    | with_reducible rfl
    | with_reducible refine (State.pathOn_outside _ _ _ msk (sub_trans hm rfl)).trans ?_
    | with_reducible refine (State.tcOn_outside _ _ _ msk (sub_trans hm rfl)).trans ?_
    | with_reducible refine (pathOff_outside _ _ _ msk (sub_trans hm rfl)).trans ?_
    | with_reducible refine (serveWaiting_outside _ msk (sub_trans hm rfl)).trans ?_
    | with_reducible refine (tcDetach_outside _ _ _ _ _ msk (sub_trans hm rfl) ?_).trans ?_
    | (intro _)
    | split
theorem powerOnPort_outside (p : Nat) (s : State) (msk : Nat) (hm : 64871322877952 &&& msk = 64871322877952) :
    (powerOnPort p s).outside msk = s.outside msk := by
  unfold powerOnPort
  try dsimp only
  repeat' first
    | with_reducible rfl
    | with_reducible refine ite_outside ?_ ?_
    | with_reducible refine (State.tcOn_outside _ _ _ msk (sub_trans hm rfl)).trans ?_
    | with_reducible refine (enterUnattached_outside _ _ msk (sub_trans hm rfl)).trans ?_
    | with_reducible refine (pathSeek_outside _ _ msk (sub_trans hm rfl)).trans ?_
    | split
theorem doPowerOff_outside (c : Instr) (h : CmdHdr) (q : Params) (s : State) (msk : Nat) (hm : 64875619364874 &&& msk = 64875619364874) :
    (doPowerOff c h q s).outside msk = s.outside msk := by
  unfold doPowerOff
  try dsimp only
  repeat' first
    | with_reducible rfl
    | with_reducible refine (paDone_outside _ _ _ _ _ msk (sub_trans hm rfl)).trans ?_
    | with_reducible refine (paOne_outside _ _ _ _ _ _ _ msk (sub_trans hm rfl) ?_).trans ?_
    | with_reducible refine (powerOffPort_outside _ _ msk (sub_trans hm rfl)).trans ?_
    | (intro _)
theorem doPowerCycle_outside (c : Instr) (h : CmdHdr) (q : Params) (s : State) (msk : Nat) (hm : 64875619364874 &&& msk = 64875619364874) :
    (doPowerCycle c h q s).outside msk = s.outside msk := by
  unfold doPowerCycle
  try dsimp only
  repeat' first
    | with_reducible rfl
    | with_reducible refine (opStart_outside _ _ msk (sub_trans hm rfl)).trans ?_
    | with_reducible refine (paOne_outside _ _ _ _ _ _ _ msk (sub_trans hm rfl) ?_).trans ?_
    | with_reducible refine (powerOffPort_outside _ _ msk (sub_trans hm rfl)).trans ?_
    | (intro _)
theorem doPowerCycleDelayExpire_outside (p : Port) (s : State) (msk : Nat) (hm : 64871322877960 &&& msk = 64871322877960) :
    (doPowerCycleDelayExpire p s).outside msk = s.outside msk := by
  unfold doPowerCycleDelayExpire
  try dsimp only
  repeat' first
    | with_reducible rfl
    | with_reducible refine (portOpDone_outside _ _ _ _ msk (sub_trans hm rfl)).trans ?_
    | with_reducible refine (powerOnPort_outside _ _ msk (sub_trans hm rfl)).trans ?_
    | split
theorem powerOnCmd_outside (h : CmdHdr) (q : Params) (s : State) (msk : Nat) (hm : 64871322877952 &&& msk = 64871322877952) :
    (powerOnCmd h q s).outside msk = s.outside msk := by
  unfold powerOnCmd
  try dsimp only
  repeat' first
    | with_reducible rfl
    | with_reducible refine (paDone_outside _ _ _ _ _ msk (sub_trans hm rfl)).trans ?_
    | with_reducible refine (powerOnPort_outside _ _ msk (sub_trans hm rfl)).trans ?_
    | split
theorem doUnknownCommand_outside (c : Instr) (h : CmdHdr) (ty : BitVec 4) (op : BitVec 8) (q : Params) (s : State) (msk : Nat) (hm : 64871322877954 &&& msk = 64871322877954) :
    (doUnknownCommand c h ty op q s).outside msk = s.outside msk := by
  unfold doUnknownCommand
  try dsimp only
  repeat' first
    | with_reducible rfl
    | with_reducible refine ite_outside ?_ ?_
    | with_reducible refine (cmdDone_outside _ _ _ _ _ _ msk (sub_trans hm rfl)).trans ?_
    | with_reducible refine (command_outside _ _ _ _ _ msk (sub_trans hm rfl) ?_).trans ?_
    | with_reducible refine (powerOnCmd_outside _ _ _ msk (sub_trans hm rfl)).trans ?_
    | (intro _)
    | split

/-! ### GuestCmds -/

theorem guestRun_outside (h : CmdHdr) (q : Params) (named bad : Bool) (code : State → Option Nat) (ok : State → State) (s : State) (msk : Nat) (hm : 64871186038784 &&& msk = 64871186038784) (hg0 : ∀ y0, (ok y0).outside msk = y0.outside msk) :
    (guestRun h q named bad code ok s).outside msk = s.outside msk := by
  unfold guestRun
  try dsimp only
  repeat' first
    | with_reducible rfl
    | with_reducible refine (cmdDone_outside _ _ _ _ _ _ msk (sub_trans hm rfl)).trans ?_
    | with_reducible refine (hg0 _ ).trans ?_
    | split
theorem guestAction_outside (c : Instr) (h : CmdHdr) (q : Params) (rs : List Nat) (named bad : Bool) (code : State → Option Nat) (ok : State → State) (s : State) (msk : Nat) (hm : 64871186038786 &&& msk = 64871186038786) (hg0 : ∀ y0, (ok y0).outside msk = y0.outside msk) :
    (guestAction c h q rs named bad code ok s).outside msk = s.outside msk := by
  unfold guestAction
  try dsimp only
  repeat' first
    | with_reducible rfl
    | with_reducible refine (command_outside _ _ _ _ _ msk (sub_trans hm rfl) ?_).trans ?_
    | with_reducible refine (guestRun_outside _ _ _ _ _ _ _ msk (sub_trans hm rfl) ?_).trans ?_
    | with_reducible refine (hg0 _ ).trans ?_
    | (intro _)
theorem guestEnds_outside (c : Instr) (h : CmdHdr) (q : Params) (named bad : Bool) (code : State → Option Nat) (ok : State → State) (s : State) (msk : Nat) (hm : 64871186038786 &&& msk = 64871186038786) (hg0 : ∀ y0, (ok y0).outside msk = y0.outside msk) :
    (guestEnds c h q named bad code ok s).outside msk = s.outside msk := by
  unfold guestEnds
  try dsimp only
  repeat' first
    | with_reducible rfl
    | with_reducible refine (commandOver_outside _ _ _ _ _ msk (sub_trans hm rfl) ?_).trans ?_
    | with_reducible refine (guestRun_outside _ _ _ _ _ _ _ msk (sub_trans hm rfl) ?_).trans ?_
    | with_reducible refine (hg0 _ ).trans ?_
    | (intro _)
theorem gaDone_outside (h : CmdHdr) (q : Params) (result : Nat) (s : State) (msk : Nat) (hm : 64871186038784 &&& msk = 64871186038784) :
    (gaDone h q result s).outside msk = s.outside msk := by
  unfold gaDone
  try dsimp only
  repeat' first
    | with_reducible rfl
    | with_reducible refine (cmdDone_outside _ _ _ _ _ _ msk (sub_trans hm rfl)).trans ?_
theorem doGuestOpen_outside (c : Instr) (h : CmdHdr) (q : Params) (s : State) (msk : Nat) (hm : 69269232824322 &&& msk = 69269232824322) :
    (doGuestOpen c h q s).outside msk = s.outside msk := by
  unfold doGuestOpen
  try dsimp only
  repeat' first
    | with_reducible rfl
    | with_reducible refine (State.epPut_outside _ _ _ msk (sub_trans hm rfl)).trans ?_
    | with_reducible refine (State.guestPut_outside _ _ _ msk (sub_trans hm rfl)).trans ?_
    | with_reducible refine (epCmdDone_outside _ _ _ _ _ _ _ msk (sub_trans hm rfl)).trans ?_
    | with_reducible refine (fixRuns_outside _ msk (sub_trans hm rfl)).trans ?_
    | with_reducible refine (guestAction_outside _ _ _ _ _ _ _ _ _ msk (sub_trans hm rfl) ?_).trans ?_
    | simp only [set_free_outside _ _ msk (sub_trans hm rfl)]
    | (intro _)
theorem closeGuest_outside (p : Nat) (s : State) (msk : Nat) (hm : 466944 &&& msk = 466944) :
    (closeGuest p s).outside msk = s.outside msk := by
  unfold closeGuest
  try dsimp only
  repeat' first
    | with_reducible rfl
    | with_reducible refine ite_outside ?_ ?_
    | with_reducible refine (State.guestPut_outside _ _ _ msk (sub_trans hm rfl)).trans ?_
    | with_reducible refine (State.linkOn_outside _ _ _ msk (sub_trans hm rfl)).trans ?_
    | with_reducible refine (epClose_outside _ _ msk (sub_trans hm rfl)).trans ?_
    | with_reducible refine (forEach_outside _ _ _ msk ?_).trans ?_
    | (intro _)
    | split
theorem doGuestClose_outside (c : Instr) (h : CmdHdr) (q : Params) (s : State) (msk : Nat) (hm : 64871186505738 &&& msk = 64871186505738) :
    (doGuestClose c h q s).outside msk = s.outside msk := by
  unfold doGuestClose
  try dsimp only
  repeat' first
    | with_reducible rfl
    | with_reducible refine (closeGuest_outside _ _ msk (sub_trans hm rfl)).trans ?_
    | with_reducible refine (gaDone_outside _ _ _ _ msk (sub_trans hm rfl)).trans ?_
    | with_reducible refine (guestAbort_outside _ _ msk (sub_trans hm rfl)).trans ?_
    | with_reducible refine (guestEnds_outside _ _ _ _ _ _ _ _ msk (sub_trans hm rfl) ?_).trans ?_
    | (intro _)
theorem doGuestConnect_outside (c : Instr) (h : CmdHdr) (q : Params) (s : State) (msk : Nat) (hm : 64871186300930 &&& msk = 64871186300930) :
    (doGuestConnect c h q s).outside msk = s.outside msk := by
  unfold doGuestConnect
  try dsimp only
  repeat' first
    | with_reducible rfl
    | with_reducible refine ite_outside ?_ ?_
    | with_reducible refine (State.guestOn_outside _ _ _ msk (sub_trans hm rfl)).trans ?_
    | with_reducible refine (gaDone_outside _ _ _ _ msk (sub_trans hm rfl)).trans ?_
    | with_reducible refine (guestAction_outside _ _ _ _ _ _ _ _ _ msk (sub_trans hm rfl) ?_).trans ?_
    | with_reducible refine (guestBump_outside _ _ msk (sub_trans hm rfl)).trans ?_
    | (intro _)
    | split
theorem doGuestDisconnect_outside (c : Instr) (h : CmdHdr) (q : Params) (s : State) (msk : Nat) (hm : 64871186374666 &&& msk = 64871186374666) :
    (doGuestDisconnect c h q s).outside msk = s.outside msk := by
  unfold doGuestDisconnect
  try dsimp only
  repeat' first
    | with_reducible rfl
    | with_reducible refine ite_outside ?_ ?_
    | with_reducible refine (State.guestOn_outside _ _ _ msk (sub_trans hm rfl)).trans ?_
    | with_reducible refine (gaDone_outside _ _ _ _ msk (sub_trans hm rfl)).trans ?_
    | with_reducible refine (guestBump_outside _ _ msk (sub_trans hm rfl)).trans ?_
    | with_reducible refine (guestEnds_outside _ _ _ _ _ _ _ _ msk (sub_trans hm rfl) ?_).trans ?_
    | with_reducible refine (guestGone_outside _ _ _ msk (sub_trans hm rfl)).trans ?_
    | (intro _)
    | split
theorem doGuestEndpoints_outside (c : Instr) (h : CmdHdr) (q : Params) (blk : List Byte) (s : State) (msk : Nat) (hm : 69269232955394 &&& msk = 69269232955394) :
    (doGuestEndpoints c h q blk s).outside msk = s.outside msk := by
  unfold doGuestEndpoints
  try dsimp only
  repeat' first
    | with_reducible rfl
    | with_reducible refine ite_outside ?_ ?_
    | with_reducible refine (State.guestOn_outside _ _ _ msk (sub_trans hm rfl)).trans ?_
    | with_reducible refine (applyEndpoints_outside _ _ _ _ _ _ msk (sub_trans hm rfl)).trans ?_
    | with_reducible refine (cmdDone_outside _ _ _ _ _ _ msk (sub_trans hm rfl)).trans ?_
    | with_reducible refine (epCmdDone_outside _ _ _ _ _ _ _ msk (sub_trans hm rfl)).trans ?_
    | with_reducible refine (fixRuns_outside _ msk (sub_trans hm rfl)).trans ?_
    | with_reducible refine (guestAction_outside _ _ _ _ _ _ _ _ _ msk (sub_trans hm rfl) ?_).trans ?_
    | with_reducible refine (guestBump_outside _ _ msk (sub_trans hm rfl)).trans ?_
    | (intro _)
    | split
theorem doGuestWake_outside (c : Instr) (h : CmdHdr) (q : Params) (s : State) (msk : Nat) (hm : 64871186366474 &&& msk = 64871186366474) :
    (doGuestWake c h q s).outside msk = s.outside msk := by
  unfold doGuestWake
  try dsimp only
  repeat' first
    | with_reducible rfl
    | with_reducible refine ite_outside ?_ ?_
    | with_reducible refine (State.emit_outside _ _ msk (sub_trans hm rfl)).trans ?_
    | with_reducible refine (State.guestOn_outside _ _ _ msk (sub_trans hm rfl)).trans ?_
    | with_reducible refine (State.sideOn_outside _ _ _ _ msk (sub_trans hm rfl)).trans ?_
    | with_reducible refine (guestAction_outside _ _ _ _ _ _ _ _ _ msk (sub_trans hm rfl) ?_).trans ?_
    | with_reducible refine (opStart_outside _ _ msk (sub_trans hm rfl)).trans ?_
    | (intro _)
    | split
theorem doGuestWakeKStart_outside (p : Port) (s : State) (msk : Nat) (hm : 1099511955456 &&& msk = 1099511955456) :
    (doGuestWakeKStart p s).outside msk = s.outside msk := by
  unfold doGuestWakeKStart
  try dsimp only
  repeat' first
    | with_reducible rfl
    | with_reducible refine ite_outside ?_ ?_
    | with_reducible refine (State.emit_outside _ _ msk (sub_trans hm rfl)).trans ?_
    | with_reducible refine (State.guestOn_outside _ _ _ msk (sub_trans hm rfl)).trans ?_
    | with_reducible refine (State.sideOn_outside _ _ _ _ msk (sub_trans hm rfl)).trans ?_
    | split
theorem doGuestWakeKEnd_outside (p : Port) (s : State) (msk : Nat) (hm : 262144 &&& msk = 262144) :
    (doGuestWakeKEnd p s).outside msk = s.outside msk := by
  unfold doGuestWakeKEnd
  try dsimp only
  repeat' first
    | with_reducible rfl
    | with_reducible refine ite_outside ?_ ?_
    | with_reducible refine (State.guestOn_outside _ _ _ msk (sub_trans hm rfl)).trans ?_
    | split
theorem guestEp_outside (c : Instr) (h : CmdHdr) (q : Params) (bad : Bool) (permitted : EpSt → Bool) (ok : Nat → State → State) (s : State) (msk : Nat) (hm : 64871186038786 &&& msk = 64871186038786) (hg0 : ∀ y0 y1, (ok y0 y1).outside msk = y1.outside msk) :
    (guestEp c h q bad permitted ok s).outside msk = s.outside msk := by
  unfold guestEp
  try dsimp only
  repeat' first
    | with_reducible rfl
    | with_reducible refine (guestAction_outside _ _ _ _ _ _ _ _ _ msk (sub_trans hm rfl) ?_).trans ?_
    | with_reducible refine (hg0 _ _ ).trans ?_
    | (intro _)
theorem doGuestEpPause_outside (c : Instr) (h : CmdHdr) (q : Params) (s : State) (msk : Nat) (hm : 64871186178058 &&& msk = 64871186178058) :
    (doGuestEpPause c h q s).outside msk = s.outside msk := by
  unfold doGuestEpPause
  try dsimp only
  repeat' first
    | with_reducible rfl
    | with_reducible refine (guestEp_outside _ _ _ _ _ _ _ msk (sub_trans hm rfl) ?_).trans ?_
    | with_reducible refine (pauseStart_outside _ _ _ _ _ msk (sub_trans hm rfl)).trans ?_
    | (intro _)
theorem doGuestEpMove_outside (c : Instr) (h : CmdHdr) (q : Params) (s : State) (msk : Nat) (hm : 64871186046978 &&& msk = 64871186046978) :
    (doGuestEpMove c h q s).outside msk = s.outside msk := by
  unfold doGuestEpMove
  try dsimp only
  repeat' first
    | with_reducible rfl
    | with_reducible refine (epCmdDone_outside _ _ _ _ _ _ _ msk (sub_trans hm rfl)).trans ?_
    | with_reducible refine (guestEp_outside _ _ _ _ _ _ _ msk (sub_trans hm rfl) ?_).trans ?_
    | with_reducible refine (moveCursor_outside _ _ _ _ _ msk (sub_trans hm rfl)).trans ?_
    | (intro _)
theorem guestHalt_outside (r : Nat) (s : State) (msk : Nat) (hm : 64871186178048 &&& msk = 64871186178048) :
    (guestHalt r s).outside msk = s.outside msk := by
  unfold guestHalt
  try dsimp only
  repeat' first
    | with_reducible rfl
    | with_reducible refine ite_outside ?_ ?_
    | with_reducible refine (epHaltState_outside _ _ msk (sub_trans hm rfl)).trans ?_
    | with_reducible refine (retireXfer_outside _ _ msk (sub_trans hm rfl)).trans ?_
    | with_reducible refine (stopPost_outside _ _ _ msk (sub_trans hm rfl)).trans ?_
    | split
theorem doGuestEpHalt_outside (c : Instr) (h : CmdHdr) (q : Params) (s : State) (msk : Nat) (hm : 64871186178050 &&& msk = 64871186178050) :
    (doGuestEpHalt c h q s).outside msk = s.outside msk := by
  unfold doGuestEpHalt
  try dsimp only
  repeat' first
    | with_reducible rfl
    | with_reducible refine (epCmdDone_outside _ _ _ _ _ _ _ msk (sub_trans hm rfl)).trans ?_
    | with_reducible refine (guestEp_outside _ _ _ _ _ _ _ msk (sub_trans hm rfl) ?_).trans ?_
    | with_reducible refine (guestHalt_outside _ _ msk (sub_trans hm rfl)).trans ?_
    | (intro _)
theorem doGuestEpUnhalt_outside (c : Instr) (h : CmdHdr) (q : Params) (s : State) (msk : Nat) (hm : 64871186178050 &&& msk = 64871186178050) :
    (doGuestEpUnhalt c h q s).outside msk = s.outside msk := by
  unfold doGuestEpUnhalt
  try dsimp only
  repeat' first
    | with_reducible rfl
    | with_reducible refine (clearHalt_outside _ _ _ msk (sub_trans hm rfl)).trans ?_
    | with_reducible refine (epCmdDone_outside _ _ _ _ _ _ _ msk (sub_trans hm rfl)).trans ?_
    | with_reducible refine (guestEp_outside _ _ _ _ _ _ _ msk (sub_trans hm rfl) ?_).trans ?_
    | (intro _)
theorem doRoleSet_outside (c : Instr) (h : CmdHdr) (q : Params) (s : State) (msk : Nat) (hm : 64871186509834 &&& msk = 64871186509834) :
    (doRoleSet c h q s).outside msk = s.outside msk := by
  unfold doRoleSet
  try dsimp only
  repeat' first
    | with_reducible rfl
    | with_reducible refine ite_outside ?_ ?_
    | with_reducible refine (State.linkOn_outside _ _ _ msk (sub_trans hm rfl)).trans ?_
    | with_reducible refine (gaDone_outside _ _ _ _ msk (sub_trans hm rfl)).trans ?_
    | with_reducible refine (guestEnds_outside _ _ _ _ _ _ _ _ msk (sub_trans hm rfl) ?_).trans ?_
    | with_reducible refine (refreshRole_outside _ _ _ _ msk (sub_trans hm rfl)).trans ?_
    | (intro _)
    | split
theorem doGuestSnapshot_outside (c : Instr) (h : CmdHdr) (q : Params) (s : State) (msk : Nat) (hm : 64871186038786 &&& msk = 64871186038786) :
    (doGuestSnapshot c h q s).outside msk = s.outside msk := by
  unfold doGuestSnapshot
  try dsimp only
  repeat' first
    | with_reducible rfl
    | with_reducible refine (State.emit_outside _ _ msk (sub_trans hm rfl)).trans ?_
    | with_reducible refine (gaDone_outside _ _ _ _ msk (sub_trans hm rfl)).trans ?_
    | with_reducible refine (guestAction_outside _ _ _ _ _ _ _ _ _ msk (sub_trans hm rfl) ?_).trans ?_
    | (intro _)

/-! ### Pd -/

theorem doPdMessageReceived_outside (p : Nat) (m : PdRx) (s : State) (msk : Nat) (hm : 64972834943002 &&& msk = 64972834943002) :
    (doPdMessageReceived p m s).outside msk = s.outside msk := by
  unfold doPdMessageReceived
  try dsimp only
  repeat' first
    | with_reducible rfl
    | with_reducible refine ite_outside ?_ ?_
    | with_reducible refine (State.emit_outside _ _ msk (sub_trans hm rfl)).trans ?_
    | with_reducible refine (State.pdOn_outside _ _ _ msk (sub_trans hm rfl)).trans ?_
    | with_reducible refine (State.rsAdd_outside _ _ _ _ _ msk (sub_trans hm rfl)).trans ?_
    | with_reducible refine (floodItem_outside _ _ msk (sub_trans hm rfl)).trans ?_
    | split
theorem consume_outside (p : Nat) (x : Sop) (s : State) (msk : Nat) (hm : 1048576 &&& msk = 1048576) :
    (consume p x s).outside msk = s.outside msk := by
  unfold consume
  try dsimp only
  repeat' first
    | with_reducible rfl
    | with_reducible refine (State.pdOn_outside _ _ _ msk (sub_trans hm rfl)).trans ?_
theorem pdEmit_outside (p : Nat) (m : PdTx) (s : State) (msk : Nat) (hm : 1099512676352 &&& msk = 1099512676352) :
    (pdEmit p m s).outside msk = s.outside msk := by
  unfold pdEmit
  try dsimp only
  repeat' first
    | with_reducible rfl
    | with_reducible refine ite_outside ?_ ?_
    | with_reducible refine (State.emit_outside _ _ msk (sub_trans hm rfl)).trans ?_
    | with_reducible refine (State.pdOn_outside _ _ _ msk (sub_trans hm rfl)).trans ?_
    | split
theorem hardEmit_outside (p : Nat) (s : State) (msk : Nat) (hm : 1099512676352 &&& msk = 1099512676352) :
    (hardEmit p s).outside msk = s.outside msk := by
  unfold hardEmit
  try dsimp only
  repeat' first
    | with_reducible rfl
    | with_reducible refine (State.emit_outside _ _ msk (sub_trans hm rfl)).trans ?_
    | with_reducible refine (State.pdOn_outside _ _ _ msk (sub_trans hm rfl)).trans ?_
theorem doCcLineIdle_outside (p : Nat) (s : State) (msk : Nat) (hm : 1099512676352 &&& msk = 1099512676352) :
    (doCcLineIdle p s).outside msk = s.outside msk := by
  unfold doCcLineIdle
  try dsimp only
  repeat' first
    | with_reducible rfl
    | with_reducible refine ite_outside ?_ ?_
    | with_reducible refine (hardEmit_outside _ _ msk (sub_trans hm rfl)).trans ?_
    | with_reducible refine (pdEmit_outside _ _ _ msk (sub_trans hm rfl)).trans ?_
    | split
theorem trellisFail_outside (p : Nat) (s : State) (msk : Nat) (hm : 1048576 &&& msk = 1048576) :
    (trellisFail p s).outside msk = s.outside msk := by
  unfold trellisFail
  try dsimp only
  repeat' first
    | with_reducible rfl
    | with_reducible refine ite_outside ?_ ?_
    | with_reducible refine (State.pdOn_outside _ _ _ msk (sub_trans hm rfl)).trans ?_
    | split
theorem pdFailed_outside (p : Nat) (m : PdTx) (s : State) (msk : Nat) (hm : 64871324397594 &&& msk = 64871324397594) :
    (pdFailed p m s).outside msk = s.outside msk := by
  unfold pdFailed
  try dsimp only
  repeat' first
    | with_reducible rfl
    | with_reducible refine ite_outside ?_ ?_
    | with_reducible refine (State.pdOn_outside _ _ _ msk (sub_trans hm rfl)).trans ?_
    | with_reducible refine (hardSend_outside _ _ _ msk (sub_trans hm rfl)).trans ?_
    | with_reducible refine (pdOpDone_outside _ _ _ _ _ msk (sub_trans hm rfl)).trans ?_
    | with_reducible refine (softReset_outside _ _ _ _ msk (sub_trans hm rfl)).trans ?_
    | with_reducible refine (trellisFail_outside _ _ msk (sub_trans hm rfl)).trans ?_
    | split
theorem txFail_outside (p : Nat) (s : State) (msk : Nat) (hm : 64871324397594 &&& msk = 64871324397594) :
    (txFail p s).outside msk = s.outside msk := by
  unfold txFail
  try dsimp only
  repeat' first
    | with_reducible rfl
    | with_reducible refine ite_outside ?_ ?_
    | with_reducible refine (State.pdOn_outside _ _ _ msk (sub_trans hm rfl)).trans ?_
    | with_reducible refine (pdFailed_outside _ _ _ msk (sub_trans hm rfl)).trans ?_
    | with_reducible refine (seqEnd_outside _ _ msk (sub_trans hm rfl)).trans ?_
    | split
theorem doCcIdleTimeout_outside (p : Nat) (s : State) (msk : Nat) (hm : 64871324397594 &&& msk = 64871324397594) :
    (doCcIdleTimeout p s).outside msk = s.outside msk := by
  unfold doCcIdleTimeout
  try dsimp only
  repeat' first
    | with_reducible rfl
    | with_reducible refine ite_outside ?_ ?_
    | with_reducible refine (State.rsAdd_outside _ _ _ _ _ msk (sub_trans hm rfl)).trans ?_
    | with_reducible refine (hardEmit_outside _ _ msk (sub_trans hm rfl)).trans ?_
    | with_reducible refine (txFail_outside _ _ msk (sub_trans hm rfl)).trans ?_
    | split
theorem doCcCollision_outside (p : Nat) (s : State) (msk : Nat) (hm : 64871324397594 &&& msk = 64871324397594) :
    (doCcCollision p s).outside msk = s.outside msk := by
  unfold doCcCollision
  try dsimp only
  repeat' first
    | with_reducible rfl
    | with_reducible refine ite_outside ?_ ?_
    | with_reducible refine (State.pdOn_outside _ _ _ msk (sub_trans hm rfl)).trans ?_
    | with_reducible refine (State.rsAdd_outside _ _ _ _ _ msk (sub_trans hm rfl)).trans ?_
    | with_reducible refine (txFail_outside _ _ msk (sub_trans hm rfl)).trans ?_
    | split
theorem doTreceiveExpire_outside (p : Nat) (s : State) (msk : Nat) (hm : 64871324397594 &&& msk = 64871324397594) :
    (doTreceiveExpire p s).outside msk = s.outside msk := by
  unfold doTreceiveExpire
  try dsimp only
  repeat' first
    | with_reducible rfl
    | with_reducible refine ite_outside ?_ ?_
    | with_reducible refine (txFail_outside _ _ msk (sub_trans hm rfl)).trans ?_
    | split
theorem doSinktxWaitExpire_outside (p : Nat) (s : State) (msk : Nat) (hm : 1048576 &&& msk = 1048576) :
    (doSinktxWaitExpire p s).outside msk = s.outside msk := by
  unfold doSinktxWaitExpire
  try dsimp only
  repeat' first
    | with_reducible rfl
    | with_reducible refine ite_outside ?_ ?_
    | with_reducible refine (State.pdOn_outside _ _ _ msk (sub_trans hm rfl)).trans ?_
    | split
theorem swapEnd_outside (p : Nat) (k : SwapKind) (byMe : Bool) (s : State) (msk : Nat) (hm : 69269234122776 &&& msk = 69269234122776) :
    (swapEnd p k byMe s).outside msk = s.outside msk := by
  unfold swapEnd
  try dsimp only
  repeat' first
    | with_reducible rfl
    | with_reducible refine ite_outside ?_ ?_
    | with_reducible refine (State.pdOn_outside _ _ _ msk (sub_trans hm rfl)).trans ?_
    | with_reducible refine (capsCheck_outside _ _ msk (sub_trans hm rfl)).trans ?_
    | with_reducible refine (pdEvent_outside _ _ _ _ _ _ _ msk (sub_trans hm rfl)).trans ?_
    | with_reducible refine (pdOpDone_outside _ _ _ _ _ msk (sub_trans hm rfl)).trans ?_
    | with_reducible refine (seqEnd_outside _ _ msk (sub_trans hm rfl)).trans ?_
    | split
theorem dataSwap_outside (p : Nat) (byMe : Bool) (s : State) (msk : Nat) (hm : 69269234593818 &&& msk = 69269234593818) :
    (dataSwap p byMe s).outside msk = s.outside msk := by
  unfold dataSwap
  try dsimp only
  repeat' first
    | with_reducible rfl
    | with_reducible refine (State.tcOn_outside _ _ _ msk (sub_trans hm rfl)).trans ?_
    | with_reducible refine (refreshBridge_outside _ _ msk (sub_trans hm rfl)).trans ?_
    | with_reducible refine (refreshRole_outside _ _ _ _ msk (sub_trans hm rfl)).trans ?_
    | with_reducible refine (swapEnd_outside _ _ _ _ msk (sub_trans hm rfl)).trans ?_
    | with_reducible refine (trellisStart_outside _ _ msk (sub_trans hm rfl)).trans ?_
theorem swapStart_outside (p : Nat) (k : SwapKind) (byMe : Bool) (s : State) (msk : Nat) (hm : 69273531658266 &&& msk = 69273531658266) :
    (swapStart p k byMe s).outside msk = s.outside msk := by
  unfold swapStart
  try dsimp only
  repeat' first
    | with_reducible rfl
    | with_reducible refine ite_outside ?_ ?_
    | with_reducible refine (State.pdOn_outside _ _ _ msk (sub_trans hm rfl)).trans ?_
    | with_reducible refine (State.tcOn_outside _ _ _ msk (sub_trans hm rfl)).trans ?_
    | with_reducible refine (dataSwap_outside _ _ _ msk (sub_trans hm rfl)).trans ?_
    | with_reducible refine (eprLeave_outside _ _ msk (sub_trans hm rfl)).trans ?_
    | with_reducible refine (pathOff_outside _ _ _ msk (sub_trans hm rfl)).trans ?_
    | with_reducible refine (pdReply_outside _ _ _ msk (sub_trans hm rfl)).trans ?_
    | with_reducible refine (setVconn_outside _ _ _ msk (sub_trans hm rfl)).trans ?_
    | split
theorem doDrSwapAcceptAcked_outside (p : Nat) (s : State) (msk : Nat) (hm : 69269234593818 &&& msk = 69269234593818) :
    (doDrSwapAcceptAcked p s).outside msk = s.outside msk := by
  unfold doDrSwapAcceptAcked
  try dsimp only
  repeat' first
    | with_reducible rfl
    | with_reducible refine ite_outside ?_ ?_
    | with_reducible refine (State.pdOn_outside _ _ _ msk (sub_trans hm rfl)).trans ?_
    | with_reducible refine (dataSwap_outside _ _ _ msk (sub_trans hm rfl)).trans ?_
    | split
theorem eprEnter_outside (p : Nat) (s : State) (msk : Nat) (hm : 64871187087360 &&& msk = 64871187087360) :
    (eprEnter p s).outside msk = s.outside msk := by
  unfold eprEnter
  try dsimp only
  repeat' first
    | with_reducible rfl
    | with_reducible refine (State.pdOn_outside _ _ _ msk (sub_trans hm rfl)).trans ?_
    | with_reducible refine (pdEvent_outside _ _ _ _ _ _ _ msk (sub_trans hm rfl)).trans ?_
theorem await_outside (p : Nat) (m : PdTx) (s : State) (msk : Nat) (hm : 1048576 &&& msk = 1048576) :
    (await p m s).outside msk = s.outside msk := by
  unfold await
  try dsimp only
  repeat' first
    | with_reducible rfl
    | with_reducible refine (State.pdOn_outside _ _ _ msk (sub_trans hm rfl)).trans ?_
theorem pdSent_outside (p : Nat) (m : PdTx) (s : State) (msk : Nat) (hm : 69273665875994 &&& msk = 69273665875994) :
    (pdSent p m s).outside msk = s.outside msk := by
  unfold pdSent
  try dsimp only
  repeat' first
    | with_reducible rfl
    | with_reducible refine ite_outside ?_ ?_
    | with_reducible refine (State.pdOn_outside _ _ _ msk (sub_trans hm rfl)).trans ?_
    | with_reducible refine (await_outside _ _ _ msk (sub_trans hm rfl)).trans ?_
    | with_reducible refine (contractDone_outside _ _ msk (sub_trans hm rfl)).trans ?_
    | with_reducible refine (contractEffect_outside _ _ msk (sub_trans hm rfl)).trans ?_
    | with_reducible refine (eprEnter_outside _ _ msk (sub_trans hm rfl)).trans ?_
    | with_reducible refine (eprLeave_outside _ _ msk (sub_trans hm rfl)).trans ?_
    | with_reducible refine (pdEvent_outside _ _ _ _ _ _ _ msk (sub_trans hm rfl)).trans ?_
    | with_reducible refine (pdOpDone_outside _ _ _ _ _ msk (sub_trans hm rfl)).trans ?_
    | with_reducible refine (pdReply_outside _ _ _ msk (sub_trans hm rfl)).trans ?_
    | with_reducible refine (sendCaps_outside _ _ msk (sub_trans hm rfl)).trans ?_
    | with_reducible refine (swapEnd_outside _ _ _ _ msk (sub_trans hm rfl)).trans ?_
    | with_reducible refine (swapStart_outside _ _ _ _ msk (sub_trans hm rfl)).trans ?_
    | with_reducible refine (trellisHello_outside _ _ msk (sub_trans hm rfl)).trans ?_
    | with_reducible refine (trellisLeave_outside _ _ msk (sub_trans hm rfl)).trans ?_
    | split
theorem yieldEnd_outside (p : Nat) (u : MsgUse) (s : State) (msk : Nat) (hm : 1048576 &&& msk = 1048576) :
    (yieldEnd p u s).outside msk = s.outside msk := by
  unfold yieldEnd
  try dsimp only
  repeat' first
    | with_reducible rfl
    | with_reducible refine (State.pdOn_outside _ _ _ msk (sub_trans hm rfl)).trans ?_
theorem doGoodcrcReceived_outside (p : Nat) (x : Sop) (id : Nat) (s : State) (msk : Nat) (hm : 69273665875994 &&& msk = 69273665875994) :
    (doGoodcrcReceived p x id s).outside msk = s.outside msk := by
  unfold doGoodcrcReceived
  try dsimp only
  repeat' first
    | with_reducible rfl
    | with_reducible refine ite_outside ?_ ?_
    | with_reducible refine (State.pdOn_outside _ _ _ msk (sub_trans hm rfl)).trans ?_
    | with_reducible refine (capsCheck_outside _ _ msk (sub_trans hm rfl)).trans ?_
    | with_reducible refine (pdSent_outside _ _ _ msk (sub_trans hm rfl)).trans ?_
    | with_reducible refine (seqEnd_outside _ _ msk (sub_trans hm rfl)).trans ?_
    | with_reducible refine (yieldEnd_outside _ _ _ msk (sub_trans hm rfl)).trans ?_
    | split
theorem acceptRequest_outside (p : Nat) (c : Contract) (s : State) (msk : Nat) (hm : 1048576 &&& msk = 1048576) :
    (acceptRequest p c s).outside msk = s.outside msk := by
  unfold acceptRequest
  try dsimp only
  repeat' first
    | with_reducible rfl
    | with_reducible refine (State.pdOn_outside _ _ _ msk (sub_trans hm rfl)).trans ?_
    | with_reducible refine (pdReply_outside _ _ _ msk (sub_trans hm rfl)).trans ?_
theorem doRequestReceived_outside (p rdo : Nat) (s : State) (msk : Nat) (hm : 69269370908698 &&& msk = 69269370908698) :
    (doRequestReceived p rdo s).outside msk = s.outside msk := by
  unfold doRequestReceived
  try dsimp only
  repeat' first
    | with_reducible rfl
    | with_reducible refine ite_outside ?_ ?_
    | with_reducible refine (State.pdOn_outside _ _ _ msk (sub_trans hm rfl)).trans ?_
    | with_reducible refine (State.rsAdd_outside _ _ _ _ _ msk (sub_trans hm rfl)).trans ?_
    | with_reducible refine (acceptRequest_outside _ _ _ msk (sub_trans hm rfl)).trans ?_
    | with_reducible refine (consume_outside _ _ _ msk (sub_trans hm rfl)).trans ?_
    | with_reducible refine (snd_outside (graftNarrow_outside _ _ _ _ msk (sub_trans hm rfl)) ‹_›).trans ?_
    | with_reducible refine (graftNarrow_outside _ _ _ _ msk (sub_trans hm rfl)).trans ?_
    | with_reducible refine (hardSend_outside _ _ _ msk (sub_trans hm rfl)).trans ?_
    | with_reducible refine (pdEvent_outside _ _ _ _ _ _ _ msk (sub_trans hm rfl)).trans ?_
    | with_reducible refine (pdReply_outside _ _ _ msk (sub_trans hm rfl)).trans ?_
    | with_reducible refine (softReset_outside _ _ _ _ msk (sub_trans hm rfl)).trans ?_
    | split
theorem doSrcTransitionExpire_outside (p : Nat) (s : State) (msk : Nat) (hm : 39582422269968 &&& msk = 39582422269968) :
    (doSrcTransitionExpire p s).outside msk = s.outside msk := by
  unfold doSrcTransitionExpire
  try dsimp only
  repeat' first
    | with_reducible rfl
    | with_reducible refine ite_outside ?_ ?_
    | with_reducible refine (State.pathOn_outside _ _ _ msk (sub_trans hm rfl)).trans ?_
    | with_reducible refine (pathSettle_outside _ _ msk (sub_trans hm rfl)).trans ?_
    | with_reducible refine (pathTarget_outside _ _ _ _ msk (sub_trans hm rfl)).trans ?_
    | with_reducible refine (pgServe_outside _ _ msk (sub_trans hm rfl)).trans ?_
    | split
theorem doWaitHoldExpire_outside (p : Nat) (s : State) (msk : Nat) (hm : 39582420172816 &&& msk = 39582420172816) :
    (doWaitHoldExpire p s).outside msk = s.outside msk := by
  unfold doWaitHoldExpire
  try dsimp only
  repeat' first
    | with_reducible rfl
    | with_reducible refine ite_outside ?_ ?_
    | with_reducible refine (sendCaps_outside _ _ msk (sub_trans hm rfl)).trans ?_
    | split
theorem keepaliveLost_outside (p kind : Nat) (s : State) (msk : Nat) (hm : 64871324397594 &&& msk = 64871324397594) :
    (keepaliveLost p kind s).outside msk = s.outside msk := by
  unfold keepaliveLost
  try dsimp only
  repeat' first
    | with_reducible rfl
    | with_reducible refine (State.rsAdd_outside _ _ _ _ _ msk (sub_trans hm rfl)).trans ?_
    | with_reducible refine (hardSend_outside _ _ _ msk (sub_trans hm rfl)).trans ?_
    | with_reducible refine (pdEvent_outside _ _ _ _ _ _ _ msk (sub_trans hm rfl)).trans ?_
theorem doPpsTimeout_outside (p : Nat) (s : State) (msk : Nat) (hm : 64871324397594 &&& msk = 64871324397594) :
    (doPpsTimeout p s).outside msk = s.outside msk := by
  unfold doPpsTimeout
  try dsimp only
  repeat' first
    | with_reducible rfl
    | with_reducible refine ite_outside ?_ ?_
    | with_reducible refine (keepaliveLost_outside _ _ _ msk (sub_trans hm rfl)).trans ?_
    | split
theorem doEprKeepaliveTimeout_outside (p : Nat) (s : State) (msk : Nat) (hm : 64871324397594 &&& msk = 64871324397594) :
    (doEprKeepaliveTimeout p s).outside msk = s.outside msk := by
  unfold doEprKeepaliveTimeout
  try dsimp only
  repeat' first
    | with_reducible rfl
    | with_reducible refine ite_outside ?_ ?_
    | with_reducible refine (keepaliveLost_outside _ _ _ msk (sub_trans hm rfl)).trans ?_
    | split
theorem doEprKeepaliveReceived_outside (p : Nat) (s : State) (msk : Nat) (hm : 1048576 &&& msk = 1048576) :
    (doEprKeepaliveReceived p s).outside msk = s.outside msk := by
  unfold doEprKeepaliveReceived
  try dsimp only
  repeat' first
    | with_reducible rfl
    | with_reducible refine ite_outside ?_ ?_
    | with_reducible refine (consume_outside _ _ _ msk (sub_trans hm rfl)).trans ?_
    | with_reducible refine (pdReply_outside _ _ _ msk (sub_trans hm rfl)).trans ?_
    | split
theorem doOfferChange_outside (p : Nat) (s : State) (msk : Nat) (hm : 39582420172816 &&& msk = 39582420172816) :
    (doOfferChange p s).outside msk = s.outside msk := by
  unfold doOfferChange
  try dsimp only
  repeat' first
    | with_reducible rfl
    | with_reducible refine ite_outside ?_ ?_
    | with_reducible refine (pdOwn_outside _ _ _ msk (sub_trans hm rfl)).trans ?_
    | with_reducible refine (sendAlert_outside _ _ _ msk (sub_trans hm rfl)).trans ?_
    | with_reducible refine (sendCaps_outside _ _ msk (sub_trans hm rfl)).trans ?_
    | split
theorem doCableDiscoveryTimer_outside (p : Nat) (s : State) (msk : Nat) (hm : 69269234122768 &&& msk = 69269234122768) :
    (doCableDiscoveryTimer p s).outside msk = s.outside msk := by
  unfold doCableDiscoveryTimer
  try dsimp only
  repeat' first
    | with_reducible rfl
    | with_reducible refine ite_outside ?_ ?_
    | with_reducible refine (State.pdOn_outside _ _ _ msk (sub_trans hm rfl)).trans ?_
    | with_reducible refine (cableLost_outside _ _ msk (sub_trans hm rfl)).trans ?_
    | with_reducible refine (pdOwn_outside _ _ _ msk (sub_trans hm rfl)).trans ?_
    | split
theorem doSendSourceCapTimer_outside (p : Nat) (s : State) (msk : Nat) (hm : 69269234122768 &&& msk = 69269234122768) :
    (doSendSourceCapTimer p s).outside msk = s.outside msk := by
  unfold doSendSourceCapTimer
  try dsimp only
  repeat' first
    | with_reducible rfl
    | with_reducible refine ite_outside ?_ ?_
    | with_reducible refine (cableLost_outside _ _ msk (sub_trans hm rfl)).trans ?_
    | with_reducible refine (capsCheck_outside _ _ msk (sub_trans hm rfl)).trans ?_
    | split
theorem graftSinkChoose_outside (p dflt : Nat) (s : State) (msk : Nat) (hm : 39582418599952 &&& msk = 39582418599952) :
    (graftSinkChoose p dflt s).2.outside msk = s.outside msk := by
  unfold graftSinkChoose
  try dsimp only
  repeat' first
    | with_reducible rfl
    | with_reducible refine ite_outside ?_ ?_
    | with_reducible refine (graftClip_outside _ _ msk (sub_trans hm rfl)).trans ?_
    | simp only [set_free_outside _ _ msk (sub_trans hm rfl)]
    | split
theorem sendRequest_outside (p rdo : Nat) (own : Bool) (s : State) (msk : Nat) (hm : 1572864 &&& msk = 1572864) :
    (sendRequest p rdo own s).outside msk = s.outside msk := by
  unfold sendRequest
  try dsimp only
  repeat' first
    | with_reducible rfl
    | with_reducible refine ite_outside ?_ ?_
    | with_reducible refine (State.pdOn_outside _ _ _ msk (sub_trans hm rfl)).trans ?_
    | with_reducible refine (pdOwn_outside _ _ _ msk (sub_trans hm rfl)).trans ?_
    | with_reducible refine (pdReply_outside _ _ _ msk (sub_trans hm rfl)).trans ?_
    | split
theorem chooseRequest_outside (p : Nat) (s : State) (msk : Nat) (hm : 39582420172816 &&& msk = 39582420172816) :
    (chooseRequest p s).outside msk = s.outside msk := by
  unfold chooseRequest
  try dsimp only
  repeat' first
    | with_reducible rfl
    | with_reducible refine (State.pdOn_outside _ _ _ msk (sub_trans hm rfl)).trans ?_
    | with_reducible refine (snd_outside (graftSinkChoose_outside _ _ _ msk (sub_trans hm rfl)) ‹_›).trans ?_
    | with_reducible refine (graftSinkChoose_outside _ _ _ msk (sub_trans hm rfl)).trans ?_
    | with_reducible refine (sendRequest_outside _ _ _ _ msk (sub_trans hm rfl)).trans ?_
    | split
theorem doSourceCapsReceived_outside (p : Nat) (epr : Bool) (objs : List Nat) (s : State) (msk : Nat) (hm : 69269234122768 &&& msk = 69269234122768) :
    (doSourceCapsReceived p epr objs s).outside msk = s.outside msk := by
  unfold doSourceCapsReceived
  try dsimp only
  repeat' first
    | with_reducible rfl
    | with_reducible refine ite_outside ?_ ?_
    | with_reducible refine (State.pdOn_outside _ _ _ msk (sub_trans hm rfl)).trans ?_
    | with_reducible refine (chooseRequest_outside _ _ msk (sub_trans hm rfl)).trans ?_
    | with_reducible refine (consume_outside _ _ _ msk (sub_trans hm rfl)).trans ?_
    | with_reducible refine (pdEvent_outside _ _ _ _ _ _ _ msk (sub_trans hm rfl)).trans ?_
    | split
theorem doWaitReceived_outside (p : Nat) (s : State) (msk : Nat) (hm : 64871187611656 &&& msk = 64871187611656) :
    (doWaitReceived p s).outside msk = s.outside msk := by
  unfold doWaitReceived
  try dsimp only
  repeat' first
    | with_reducible rfl
    | with_reducible refine (State.pdOn_outside _ _ _ msk (sub_trans hm rfl)).trans ?_
    | with_reducible refine (consume_outside _ _ _ msk (sub_trans hm rfl)).trans ?_
    | with_reducible refine (pdOpDone_outside _ _ _ _ _ msk (sub_trans hm rfl)).trans ?_
    | with_reducible refine (seqEnd_outside _ _ msk (sub_trans hm rfl)).trans ?_
    | split
theorem doSnkWaitExpire_outside (p : Nat) (s : State) (msk : Nat) (hm : 1572864 &&& msk = 1572864) :
    (doSnkWaitExpire p s).outside msk = s.outside msk := by
  unfold doSnkWaitExpire
  try dsimp only
  repeat' first
    | with_reducible rfl
    | with_reducible refine ite_outside ?_ ?_
    | with_reducible refine (sendRequest_outside _ _ _ _ msk (sub_trans hm rfl)).trans ?_
    | split
theorem doSinkRefreshTimer_outside (p : Nat) (s : State) (msk : Nat) (hm : 1572864 &&& msk = 1572864) :
    (doSinkRefreshTimer p s).outside msk = s.outside msk := by
  unfold doSinkRefreshTimer
  try dsimp only
  repeat' first
    | with_reducible rfl
    | with_reducible refine ite_outside ?_ ?_
    | with_reducible refine (pdOwn_outside _ _ _ msk (sub_trans hm rfl)).trans ?_
    | with_reducible refine (sendRequest_outside _ _ _ _ msk (sub_trans hm rfl)).trans ?_
    | split
theorem sinkContract_outside (p : Nat) (c : Contract) (s : State) (msk : Nat) (hm : 64871189708808 &&& msk = 64871189708808) :
    (sinkContract p c s).outside msk = s.outside msk := by
  unfold sinkContract
  try dsimp only
  repeat' first
    | with_reducible rfl
    | with_reducible refine ite_outside ?_ ?_
    | with_reducible refine (State.pdOn_outside _ _ _ msk (sub_trans hm rfl)).trans ?_
    | with_reducible refine (pathTarget_outside _ _ _ _ msk (sub_trans hm rfl)).trans ?_
    | with_reducible refine (pdEvent_outside _ _ _ _ _ _ _ msk (sub_trans hm rfl)).trans ?_
    | with_reducible refine (pdOpDone_outside _ _ _ _ _ msk (sub_trans hm rfl)).trans ?_
    | with_reducible refine (pdOwn_outside _ _ _ msk (sub_trans hm rfl)).trans ?_
    | with_reducible refine (trellisStart_outside _ _ msk (sub_trans hm rfl)).trans ?_
    | split
theorem doPsRdyReceived_outside (p : Nat) (s : State) (msk : Nat) (hm : 69269370437656 &&& msk = 69269370437656) :
    (doPsRdyReceived p s).outside msk = s.outside msk := by
  unfold doPsRdyReceived
  try dsimp only
  repeat' first
    | with_reducible rfl
    | with_reducible refine ite_outside ?_ ?_
    | with_reducible refine (State.pdOn_outside _ _ _ msk (sub_trans hm rfl)).trans ?_
    | with_reducible refine (consume_outside _ _ _ msk (sub_trans hm rfl)).trans ?_
    | with_reducible refine (pathSeek_outside _ _ msk (sub_trans hm rfl)).trans ?_
    | with_reducible refine (setPowerRole_outside _ _ _ msk (sub_trans hm rfl)).trans ?_
    | with_reducible refine (setVconn_outside _ _ _ msk (sub_trans hm rfl)).trans ?_
    | with_reducible refine (sinkContract_outside _ _ _ msk (sub_trans hm rfl)).trans ?_
    | with_reducible refine (swapEnd_outside _ _ _ _ msk (sub_trans hm rfl)).trans ?_
    | split
theorem swapReserve_outside (p : Nat) (k : SwapKind) (s : State) (msk : Nat) (hm : 1572864 &&& msk = 1572864) :
    (swapReserve p k s).outside msk = s.outside msk := by
  unfold swapReserve
  try dsimp only
  repeat' first
    | with_reducible rfl
    | with_reducible refine ite_outside ?_ ?_
    | with_reducible refine (State.pdOn_outside _ _ _ msk (sub_trans hm rfl)).trans ?_
    | with_reducible refine (State.tcOn_outside _ _ _ msk (sub_trans hm rfl)).trans ?_
    | split
theorem dropOwnSwap_outside (p : Nat) (k : SwapKind) (s : State) (msk : Nat) (hm : 64871187087368 &&& msk = 64871187087368) :
    (dropOwnSwap p k s).outside msk = s.outside msk := by
  unfold dropOwnSwap
  try dsimp only
  repeat' first
    | with_reducible rfl
    | with_reducible refine ite_outside ?_ ?_
    | with_reducible refine (State.pdOn_outside _ _ _ msk (sub_trans hm rfl)).trans ?_
    | with_reducible refine (pdOpDone_outside _ _ _ _ _ msk (sub_trans hm rfl)).trans ?_
    | split
theorem doSwapRequestReceived_outside (p : Nat) (k : SwapKind) (s : State) (msk : Nat) (hm : 69269370908698 &&& msk = 69269370908698) :
    (doSwapRequestReceived p k s).outside msk = s.outside msk := by
  unfold doSwapRequestReceived
  try dsimp only
  repeat' first
    | with_reducible rfl
    | with_reducible refine ite_outside ?_ ?_
    | with_reducible refine (State.pdOn_outside _ _ _ msk (sub_trans hm rfl)).trans ?_
    | with_reducible refine (consume_outside _ _ _ msk (sub_trans hm rfl)).trans ?_
    | with_reducible refine (dropOwnSwap_outside _ _ _ msk (sub_trans hm rfl)).trans ?_
    | with_reducible refine (snd_outside (graftNarrow_outside _ _ _ _ msk (sub_trans hm rfl)) ‹_›).trans ?_
    | with_reducible refine (graftNarrow_outside _ _ _ _ msk (sub_trans hm rfl)).trans ?_
    | with_reducible refine (hardSend_outside _ _ _ msk (sub_trans hm rfl)).trans ?_
    | with_reducible refine (pdReply_outside _ _ _ msk (sub_trans hm rfl)).trans ?_
    | with_reducible refine (swapReserve_outside _ _ _ msk (sub_trans hm rfl)).trans ?_
    | split
theorem doSwapRetryTimer_outside (p : Nat) (s : State) (msk : Nat) (hm : 64871187611656 &&& msk = 64871187611656) :
    (doSwapRetryTimer p s).outside msk = s.outside msk := by
  unfold doSwapRetryTimer
  try dsimp only
  repeat' first
    | with_reducible rfl
    | with_reducible refine ite_outside ?_ ?_
    | with_reducible refine (State.pdOn_outside _ _ _ msk (sub_trans hm rfl)).trans ?_
    | with_reducible refine (pdOpDone_outside _ _ _ _ _ msk (sub_trans hm rfl)).trans ?_
    | with_reducible refine (pdOwn_outside _ _ _ msk (sub_trans hm rfl)).trans ?_
    | split
theorem doEprModeReceived_outside (p : Nat) (k : EprMode) (s : State) (msk : Nat) (hm : 69269234122776 &&& msk = 69269234122776) :
    (doEprModeReceived p k s).outside msk = s.outside msk := by
  unfold doEprModeReceived
  try dsimp only
  repeat' first
    | with_reducible rfl
    | with_reducible refine ite_outside ?_ ?_
    | with_reducible refine (State.pdOn_outside _ _ _ msk (sub_trans hm rfl)).trans ?_
    | with_reducible refine (consume_outside _ _ _ msk (sub_trans hm rfl)).trans ?_
    | with_reducible refine (eprEnter_outside _ _ msk (sub_trans hm rfl)).trans ?_
    | with_reducible refine (eprLeave_outside _ _ msk (sub_trans hm rfl)).trans ?_
    | with_reducible refine (pdOpDone_outside _ _ _ _ _ msk (sub_trans hm rfl)).trans ?_
    | with_reducible refine (pdReply_outside _ _ _ msk (sub_trans hm rfl)).trans ?_
    | with_reducible refine (sendCaps_outside _ _ msk (sub_trans hm rfl)).trans ?_
    | with_reducible refine (seqEnd_outside _ _ msk (sub_trans hm rfl)).trans ?_
    | split
theorem doSoftResetReceived_outside (p : Nat) (x : Sop) (s : State) (msk : Nat) (hm : 64871187087384 &&& msk = 64871187087384) :
    (doSoftResetReceived p x s).outside msk = s.outside msk := by
  unfold doSoftResetReceived
  try dsimp only
  repeat' first
    | with_reducible rfl
    | with_reducible refine ite_outside ?_ ?_
    | with_reducible refine (State.pdOn_outside _ _ _ msk (sub_trans hm rfl)).trans ?_
    | with_reducible refine (State.rsAdd_outside _ _ _ _ _ msk (sub_trans hm rfl)).trans ?_
    | with_reducible refine (pdEvent_outside _ _ _ _ _ _ _ msk (sub_trans hm rfl)).trans ?_
    | with_reducible refine (pdOpsEnd_outside _ _ _ msk (sub_trans hm rfl)).trans ?_
    | with_reducible refine (pdReply_outside _ _ _ msk (sub_trans hm rfl)).trans ?_
    | with_reducible refine (softEnds_outside _ _ _ _ msk (sub_trans hm rfl)).trans ?_
    | split
theorem doHardResetReceived_outside (p : Nat) (s : State) (msk : Nat) (hm : 64972834943770 &&& msk = 64972834943770) :
    (doHardResetReceived p s).outside msk = s.outside msk := by
  unfold doHardResetReceived
  try dsimp only
  repeat' first
    | with_reducible rfl
    | with_reducible refine ite_outside ?_ ?_
    | with_reducible refine (floodItem_outside _ _ msk (sub_trans hm rfl)).trans ?_
    | with_reducible refine (hardReset_outside _ _ _ _ msk (sub_trans hm rfl)).trans ?_
    | with_reducible refine (persistEnd_outside _ _ _ msk (sub_trans hm rfl)).trans ?_
    | split
theorem doHardResetSourceOff_outside (p : Nat) (s : State) (msk : Nat) (hm : 64875483312138 &&& msk = 64875483312138) :
    (doHardResetSourceOff p s).outside msk = s.outside msk := by
  unfold doHardResetSourceOff
  try dsimp only
  repeat' first
    | with_reducible rfl
    | with_reducible refine ite_outside ?_ ?_
    | with_reducible refine (State.pathOn_outside _ _ _ msk (sub_trans hm rfl)).trans ?_
    | with_reducible refine (pathOff_outside _ _ _ msk (sub_trans hm rfl)).trans ?_
    | split
theorem doSrcRecoverExpire_outside (p : Nat) (s : State) (msk : Nat) (hm : 64871323926528 &&& msk = 64871323926528) :
    (doSrcRecoverExpire p s).outside msk = s.outside msk := by
  unfold doSrcRecoverExpire
  try dsimp only
  repeat' first
    | with_reducible rfl
    | with_reducible refine ite_outside ?_ ?_
    | with_reducible refine (State.pathOn_outside _ _ _ msk (sub_trans hm rfl)).trans ?_
    | with_reducible refine (State.pdOn_outside _ _ _ msk (sub_trans hm rfl)).trans ?_
    | with_reducible refine (pathSeek_outside _ _ msk (sub_trans hm rfl)).trans ?_
    | split
theorem doHardResetCountExhausted_outside (p : Nat) (s : State) (msk : Nat) (hm : 64875619364874 &&& msk = 64875619364874) :
    (doHardResetCountExhausted p s).outside msk = s.outside msk := by
  unfold doHardResetCountExhausted
  try dsimp only
  repeat' first
    | with_reducible rfl
    | with_reducible refine ite_outside ?_ ?_
    | with_reducible refine (errorRecovery_outside _ _ _ msk (sub_trans hm rfl)).trans ?_
    | with_reducible refine (pdEvent_outside _ _ _ _ _ _ _ msk (sub_trans hm rfl)).trans ?_
    | split
theorem doAlertReceived_outside (p ado : Nat) (s : State) (msk : Nat) (hm : 64871187087360 &&& msk = 64871187087360) :
    (doAlertReceived p ado s).outside msk = s.outside msk := by
  unfold doAlertReceived
  try dsimp only
  repeat' first
    | with_reducible rfl
    | with_reducible refine ite_outside ?_ ?_
    | with_reducible refine (consume_outside _ _ _ msk (sub_trans hm rfl)).trans ?_
    | with_reducible refine (pdEvent_outside _ _ _ _ _ _ _ msk (sub_trans hm rfl)).trans ?_
    | split
theorem doGetStatusReceived_outside (p : Nat) (s : State) (msk : Nat) (hm : 1048576 &&& msk = 1048576) :
    (doGetStatusReceived p s).outside msk = s.outside msk := by
  unfold doGetStatusReceived
  try dsimp only
  repeat' first
    | with_reducible rfl
    | with_reducible refine ite_outside ?_ ?_
    | with_reducible refine (consume_outside _ _ _ msk (sub_trans hm rfl)).trans ?_
    | with_reducible refine (pdReply_outside _ _ _ msk (sub_trans hm rfl)).trans ?_
    | split
theorem doNotSupportedReceived_outside (p : Nat) (x : Sop) (ty : Nat) (s : State) (msk : Nat) (hm : 1048576 &&& msk = 1048576) :
    (doNotSupportedReceived p x ty s).outside msk = s.outside msk := by
  unfold doNotSupportedReceived
  try dsimp only
  repeat' first
    | with_reducible rfl
    | with_reducible refine ite_outside ?_ ?_
    | with_reducible refine (consume_outside _ _ _ msk (sub_trans hm rfl)).trans ?_
    | with_reducible refine (pdReply_outside _ _ _ msk (sub_trans hm rfl)).trans ?_
    | split
theorem vdmReply_outside (p hdr ctype : Nat) (objs : List Nat) (use : MsgUse) (s : State) (msk : Nat) (hm : 1048576 &&& msk = 1048576) :
    (vdmReply p hdr ctype objs use s).outside msk = s.outside msk := by
  unfold vdmReply
  try dsimp only
  repeat' first
    | with_reducible rfl
    | with_reducible refine (pdReply_outside _ _ _ msk (sub_trans hm rfl)).trans ?_
theorem helloIn_outside (p v1 v2 : Nat) (s : State) (msk : Nat) (hm : 64871187611648 &&& msk = 64871187611648) :
    (helloIn p v1 v2 s).outside msk = s.outside msk := by
  unfold helloIn
  try dsimp only
  repeat' first
    | with_reducible rfl
    | with_reducible refine ite_outside ?_ ?_
    | with_reducible refine (State.pdOn_outside _ _ _ msk (sub_trans hm rfl)).trans ?_
    | with_reducible refine (trellisCheck_outside _ _ msk (sub_trans hm rfl)).trans ?_
    | with_reducible refine (vdmReply_outside _ _ _ _ _ _ msk (sub_trans hm rfl)).trans ?_
    | split
theorem doTrellisHelloReceived_outside (p v1 v2 : Nat) (s : State) (msk : Nat) (hm : 64871187611648 &&& msk = 64871187611648) :
    (doTrellisHelloReceived p v1 v2 s).outside msk = s.outside msk := by
  unfold doTrellisHelloReceived
  try dsimp only
  repeat' first
    | with_reducible rfl
    | with_reducible refine ite_outside ?_ ?_
    | with_reducible refine (consume_outside _ _ _ msk (sub_trans hm rfl)).trans ?_
    | with_reducible refine (helloIn_outside _ _ _ _ msk (sub_trans hm rfl)).trans ?_
    | split
theorem trellisExit_outside (p : Nat) (s : State) (msk : Nat) (hm : 64871187611648 &&& msk = 64871187611648) :
    (trellisExit p s).outside msk = s.outside msk := by
  unfold trellisExit
  try dsimp only
  repeat' first
    | with_reducible rfl
    | with_reducible refine (pdOwn_outside _ _ _ msk (sub_trans hm rfl)).trans ?_
    | with_reducible refine (trellisLeave_outside _ _ msk (sub_trans hm rfl)).trans ?_
theorem doTrellisTimeout_outside (p : Nat) (s : State) (msk : Nat) (hm : 64871187611648 &&& msk = 64871187611648) :
    (doTrellisTimeout p s).outside msk = s.outside msk := by
  unfold doTrellisTimeout
  try dsimp only
  repeat' first
    | with_reducible rfl
    | with_reducible refine ite_outside ?_ ?_
    | with_reducible refine (trellisExit_outside _ _ msk (sub_trans hm rfl)).trans ?_
    | split
theorem trellisIn_outside (p hdr : Nat) (vdos : List Nat) (s : State) (msk : Nat) (hm : 64871187611648 &&& msk = 64871187611648) :
    (trellisIn p hdr vdos s).outside msk = s.outside msk := by
  unfold trellisIn
  try dsimp only
  repeat' first
    | with_reducible rfl
    | with_reducible refine ite_outside ?_ ?_
    | with_reducible refine (helloIn_outside _ _ _ _ msk (sub_trans hm rfl)).trans ?_
    | with_reducible refine (vdmReply_outside _ _ _ _ _ _ msk (sub_trans hm rfl)).trans ?_
    | split
theorem vdmIn_outside (p hdr : Nat) (s : State) (msk : Nat) (hm : 1048576 &&& msk = 1048576) :
    (vdmIn p hdr s).outside msk = s.outside msk := by
  unfold vdmIn
  try dsimp only
  repeat' first
    | with_reducible rfl
    | with_reducible refine ite_outside ?_ ?_
    | with_reducible refine (vdmReply_outside _ _ _ _ _ _ msk (sub_trans hm rfl)).trans ?_
    | split
theorem doVdmReceived_outside (p : Nat) (x : Sop) (hdr : Nat) (vdos : List Nat) (s : State) (msk : Nat) (hm : 69269234122752 &&& msk = 69269234122752) :
    (doVdmReceived p x hdr vdos s).outside msk = s.outside msk := by
  unfold doVdmReceived
  try dsimp only
  repeat' first
    | with_reducible rfl
    | with_reducible refine ite_outside ?_ ?_
    | with_reducible refine (consume_outside _ _ _ msk (sub_trans hm rfl)).trans ?_
    | with_reducible refine (pdEvent_outside _ _ _ _ _ _ _ msk (sub_trans hm rfl)).trans ?_
    | with_reducible refine (trellisIn_outside _ _ _ _ msk (sub_trans hm rfl)).trans ?_
    | with_reducible refine (vdmIn_outside _ _ _ msk (sub_trans hm rfl)).trans ?_
    | with_reducible refine (vdmReply_outside _ _ _ _ _ _ msk (sub_trans hm rfl)).trans ?_
    | simp only [set_free_outside _ _ msk (sub_trans hm rfl)]
    | split
theorem cableFound_outside (p vdo : Nat) (s : State) (msk : Nat) (hm : 69269234122768 &&& msk = 69269234122768) :
    (cableFound p vdo s).outside msk = s.outside msk := by
  unfold cableFound
  try dsimp only
  repeat' first
    | with_reducible rfl
    | with_reducible refine ite_outside ?_ ?_
    | with_reducible refine (State.pdOn_outside _ _ _ msk (sub_trans hm rfl)).trans ?_
    | with_reducible refine (capsCheck_outside _ _ msk (sub_trans hm rfl)).trans ?_
    | with_reducible refine (pdEvent_outside _ _ _ _ _ _ _ msk (sub_trans hm rfl)).trans ?_
    | split
theorem trellisNext_outside (p : Nat) (data : List Nat) (s : State) (msk : Nat) (hm : 1572864 &&& msk = 1572864) :
    (trellisNext p data s).outside msk = s.outside msk := by
  unfold trellisNext
  try dsimp only
  repeat' first
    | with_reducible rfl
    | with_reducible refine ite_outside ?_ ?_
    | with_reducible refine (State.pdOn_outside _ _ _ msk (sub_trans hm rfl)).trans ?_
    | with_reducible refine (trellisFail_outside _ _ msk (sub_trans hm rfl)).trans ?_
    | with_reducible refine (trellisHello_outside _ _ msk (sub_trans hm rfl)).trans ?_
    | with_reducible refine (trellisSend_outside _ _ _ _ _ _ msk (sub_trans hm rfl)).trans ?_
    | split
theorem doPdResponseReceived_outside (p : Nat) (r : PdResp) (s : State) (msk : Nat) (hm : 69273531658266 &&& msk = 69273531658266) :
    (doPdResponseReceived p r s).outside msk = s.outside msk := by
  unfold doPdResponseReceived
  try dsimp only
  repeat' first
    | with_reducible rfl
    | with_reducible refine ite_outside ?_ ?_
    | with_reducible refine (State.pdOn_outside _ _ _ msk (sub_trans hm rfl)).trans ?_
    | with_reducible refine (cableFound_outside _ _ _ msk (sub_trans hm rfl)).trans ?_
    | with_reducible refine (cableLost_outside _ _ msk (sub_trans hm rfl)).trans ?_
    | with_reducible refine (capsCheck_outside _ _ msk (sub_trans hm rfl)).trans ?_
    | with_reducible refine (consume_outside _ _ _ msk (sub_trans hm rfl)).trans ?_
    | with_reducible refine (pdOpDone_outside _ _ _ _ _ msk (sub_trans hm rfl)).trans ?_
    | with_reducible refine (seqEnd_outside _ _ msk (sub_trans hm rfl)).trans ?_
    | with_reducible refine (swapStart_outside _ _ _ _ msk (sub_trans hm rfl)).trans ?_
    | with_reducible refine (trellisCheck_outside _ _ msk (sub_trans hm rfl)).trans ?_
    | with_reducible refine (trellisFail_outside _ _ msk (sub_trans hm rfl)).trans ?_
    | with_reducible refine (trellisNext_outside _ _ _ msk (sub_trans hm rfl)).trans ?_
    | split
theorem doSenderResponseTimeout_outside (p : Nat) (s : State) (msk : Nat) (hm : 64871324397594 &&& msk = 64871324397594) :
    (doSenderResponseTimeout p s).outside msk = s.outside msk := by
  unfold doSenderResponseTimeout
  try dsimp only
  repeat' first
    | with_reducible rfl
    | with_reducible refine (State.pdOn_outside _ _ _ msk (sub_trans hm rfl)).trans ?_
    | with_reducible refine (hardSend_outside _ _ _ msk (sub_trans hm rfl)).trans ?_
    | with_reducible refine (pdOpDone_outside _ _ _ _ _ msk (sub_trans hm rfl)).trans ?_
    | with_reducible refine (seqEnd_outside _ _ msk (sub_trans hm rfl)).trans ?_
    | with_reducible refine (trellisFail_outside _ _ msk (sub_trans hm rfl)).trans ?_
    | split
theorem doPsTransitionTimeout_outside (p : Nat) (k : PdTimer) (s : State) (msk : Nat) (hm : 64875619364890 &&& msk = 64875619364890) :
    (doPsTransitionTimeout p k s).outside msk = s.outside msk := by
  unfold doPsTransitionTimeout
  try dsimp only
  repeat' first
    | with_reducible rfl
    | with_reducible refine ite_outside ?_ ?_
    | with_reducible refine (State.pdOn_outside _ _ _ msk (sub_trans hm rfl)).trans ?_
    | with_reducible refine (errorRecovery_outside _ _ _ msk (sub_trans hm rfl)).trans ?_
    | with_reducible refine (hardSend_outside _ _ _ msk (sub_trans hm rfl)).trans ?_
    | with_reducible refine (pdEvent_outside _ _ _ _ _ _ _ msk (sub_trans hm rfl)).trans ?_
    | with_reducible refine (pdOpDone_outside _ _ _ _ _ msk (sub_trans hm rfl)).trans ?_
    | with_reducible refine (pdOpsEnd_outside _ _ _ msk (sub_trans hm rfl)).trans ?_
    | with_reducible refine (softReset_outside _ _ _ _ msk (sub_trans hm rfl)).trans ?_
    | split

/-! ### PdCmds -/

theorem pdCmd_outside (c : Instr) (h : CmdHdr) (q : Params) (bad : Bool) (ok : State → Bool) (act : State → State) (s : State) (msk : Nat) (hm : 64871186038786 &&& msk = 64871186038786) (hg0 : ∀ y0, (act y0).outside msk = y0.outside msk) :
    (pdCmd c h q bad ok act s).outside msk = s.outside msk := by
  unfold pdCmd
  try dsimp only
  repeat' first
    | with_reducible rfl
    | with_reducible refine (cmdDone_outside _ _ _ _ _ _ msk (sub_trans hm rfl)).trans ?_
    | with_reducible refine (command_outside _ _ _ _ _ msk (sub_trans hm rfl) ?_).trans ?_
    | with_reducible refine (hg0 _ ).trans ?_
    | (intro _)
    | split
theorem doSendCaps_outside (c : Instr) (h : CmdHdr) (q : Params) (s : State) (msk : Nat) (hm : 69269234122778 &&& msk = 69269234122778) :
    (doSendCaps c h q s).outside msk = s.outside msk := by
  unfold doSendCaps
  try dsimp only
  repeat' first
    | with_reducible rfl
    | with_reducible refine (opStart_outside _ _ msk (sub_trans hm rfl)).trans ?_
    | with_reducible refine (pdCmd_outside _ _ _ _ _ _ _ msk (sub_trans hm rfl) ?_).trans ?_
    | with_reducible refine (sendCaps_outside _ _ msk (sub_trans hm rfl)).trans ?_
    | (intro _)
theorem doPdRequestRdo_outside (c : Instr) (h : CmdHdr) (q : Params) (s : State) (msk : Nat) (hm : 64871187611658 &&& msk = 64871187611658) :
    (doPdRequestRdo c h q s).outside msk = s.outside msk := by
  unfold doPdRequestRdo
  try dsimp only
  repeat' first
    | with_reducible rfl
    | with_reducible refine ite_outside ?_ ?_
    | with_reducible refine (State.pdOn_outside _ _ _ msk (sub_trans hm rfl)).trans ?_
    | with_reducible refine (opStart_outside _ _ msk (sub_trans hm rfl)).trans ?_
    | with_reducible refine (pdCmd_outside _ _ _ _ _ _ _ msk (sub_trans hm rfl) ?_).trans ?_
    | with_reducible refine (sendRequest_outside _ _ _ _ msk (sub_trans hm rfl)).trans ?_
    | (intro _)
    | split
theorem ownSwap_outside (p : Nat) (k : SwapKind) (s : State) (msk : Nat) (hm : 64871187611648 &&& msk = 64871187611648) :
    (ownSwap p k s).outside msk = s.outside msk := by
  unfold ownSwap
  try dsimp only
  repeat' first
    | with_reducible rfl
    | with_reducible refine ite_outside ?_ ?_
    | with_reducible refine (State.pdOn_outside _ _ _ msk (sub_trans hm rfl)).trans ?_
    | with_reducible refine (pdOwn_outside _ _ _ msk (sub_trans hm rfl)).trans ?_
    | with_reducible refine (trellisExit_outside _ _ msk (sub_trans hm rfl)).trans ?_
    | split
theorem doDrSwap_outside (c : Instr) (h : CmdHdr) (q : Params) (s : State) (msk : Nat) (hm : 64871187611658 &&& msk = 64871187611658) :
    (doDrSwap c h q s).outside msk = s.outside msk := by
  unfold doDrSwap
  try dsimp only
  repeat' first
    | with_reducible rfl
    | with_reducible refine (opStart_outside _ _ msk (sub_trans hm rfl)).trans ?_
    | with_reducible refine (ownSwap_outside _ _ _ msk (sub_trans hm rfl)).trans ?_
    | with_reducible refine (pdCmd_outside _ _ _ _ _ _ _ msk (sub_trans hm rfl) ?_).trans ?_
    | (intro _)
theorem doPrSwap_outside (c : Instr) (h : CmdHdr) (q : Params) (s : State) (msk : Nat) (hm : 64871187611658 &&& msk = 64871187611658) :
    (doPrSwap c h q s).outside msk = s.outside msk := by
  unfold doPrSwap
  try dsimp only
  repeat' first
    | with_reducible rfl
    | with_reducible refine (opStart_outside _ _ msk (sub_trans hm rfl)).trans ?_
    | with_reducible refine (ownSwap_outside _ _ _ msk (sub_trans hm rfl)).trans ?_
    | with_reducible refine (pdCmd_outside _ _ _ _ _ _ _ msk (sub_trans hm rfl) ?_).trans ?_
    | (intro _)
theorem doVconnSwap_outside (c : Instr) (h : CmdHdr) (q : Params) (s : State) (msk : Nat) (hm : 64871187611658 &&& msk = 64871187611658) :
    (doVconnSwap c h q s).outside msk = s.outside msk := by
  unfold doVconnSwap
  try dsimp only
  repeat' first
    | with_reducible rfl
    | with_reducible refine (opStart_outside _ _ msk (sub_trans hm rfl)).trans ?_
    | with_reducible refine (ownSwap_outside _ _ _ msk (sub_trans hm rfl)).trans ?_
    | with_reducible refine (pdCmd_outside _ _ _ _ _ _ _ msk (sub_trans hm rfl) ?_).trans ?_
    | (intro _)
theorem doSoftReset_outside (c : Instr) (h : CmdHdr) (q : Params) (s : State) (msk : Nat) (hm : 64871187611674 &&& msk = 64871187611674) :
    (doSoftReset c h q s).outside msk = s.outside msk := by
  unfold doSoftReset
  try dsimp only
  repeat' first
    | with_reducible rfl
    | with_reducible refine (opStart_outside _ _ msk (sub_trans hm rfl)).trans ?_
    | with_reducible refine (pdCmd_outside _ _ _ _ _ _ _ msk (sub_trans hm rfl) ?_).trans ?_
    | with_reducible refine (softReset_outside _ _ _ _ msk (sub_trans hm rfl)).trans ?_
    | (intro _)
theorem doHardReset_outside (c : Instr) (h : CmdHdr) (q : Params) (s : State) (msk : Nat) (hm : 64871324397594 &&& msk = 64871324397594) :
    (doHardReset c h q s).outside msk = s.outside msk := by
  unfold doHardReset
  try dsimp only
  repeat' first
    | with_reducible rfl
    | with_reducible refine (cmdDone_outside _ _ _ _ _ _ msk (sub_trans hm rfl)).trans ?_
    | with_reducible refine (hardSend_outside _ _ _ msk (sub_trans hm rfl)).trans ?_
    | with_reducible refine (pdCmd_outside _ _ _ _ _ _ _ msk (sub_trans hm rfl) ?_).trans ?_
    | (intro _)
theorem doGetSourceCaps_outside (c : Instr) (h : CmdHdr) (q : Params) (s : State) (msk : Nat) (hm : 64871187611658 &&& msk = 64871187611658) :
    (doGetSourceCaps c h q s).outside msk = s.outside msk := by
  unfold doGetSourceCaps
  try dsimp only
  repeat' first
    | with_reducible rfl
    | with_reducible refine (opStart_outside _ _ msk (sub_trans hm rfl)).trans ?_
    | with_reducible refine (pdCmd_outside _ _ _ _ _ _ _ msk (sub_trans hm rfl) ?_).trans ?_
    | with_reducible refine (pdOwn_outside _ _ _ msk (sub_trans hm rfl)).trans ?_
    | (intro _)
theorem doGetSinkCaps_outside (c : Instr) (h : CmdHdr) (q : Params) (s : State) (msk : Nat) (hm : 64871187611658 &&& msk = 64871187611658) :
    (doGetSinkCaps c h q s).outside msk = s.outside msk := by
  unfold doGetSinkCaps
  try dsimp only
  repeat' first
    | with_reducible rfl
    | with_reducible refine (opStart_outside _ _ msk (sub_trans hm rfl)).trans ?_
    | with_reducible refine (pdCmd_outside _ _ _ _ _ _ _ msk (sub_trans hm rfl) ?_).trans ?_
    | with_reducible refine (pdOwn_outside _ _ _ msk (sub_trans hm rfl)).trans ?_
    | (intro _)
theorem doDiscover_outside (c : Instr) (h : CmdHdr) (q : Params) (s : State) (msk : Nat) (hm : 64871187611658 &&& msk = 64871187611658) :
    (doDiscover c h q s).outside msk = s.outside msk := by
  unfold doDiscover
  try dsimp only
  repeat' first
    | with_reducible rfl
    | with_reducible refine (opStart_outside _ _ msk (sub_trans hm rfl)).trans ?_
    | with_reducible refine (pdCmd_outside _ _ _ _ _ _ _ msk (sub_trans hm rfl) ?_).trans ?_
    | with_reducible refine (pdOwn_outside _ _ _ msk (sub_trans hm rfl)).trans ?_
    | (intro _)
theorem doEprEnter_outside (c : Instr) (h : CmdHdr) (q : Params) (s : State) (msk : Nat) (hm : 64871187611658 &&& msk = 64871187611658) :
    (doEprEnter c h q s).outside msk = s.outside msk := by
  unfold doEprEnter
  try dsimp only
  repeat' first
    | with_reducible rfl
    | with_reducible refine (opStart_outside _ _ msk (sub_trans hm rfl)).trans ?_
    | with_reducible refine (pdCmd_outside _ _ _ _ _ _ _ msk (sub_trans hm rfl) ?_).trans ?_
    | with_reducible refine (pdOwn_outside _ _ _ msk (sub_trans hm rfl)).trans ?_
    | (intro _)
    | split
theorem doEprExit_outside (c : Instr) (h : CmdHdr) (q : Params) (s : State) (msk : Nat) (hm : 64871187611658 &&& msk = 64871187611658) :
    (doEprExit c h q s).outside msk = s.outside msk := by
  unfold doEprExit
  try dsimp only
  repeat' first
    | with_reducible rfl
    | with_reducible refine (opStart_outside _ _ msk (sub_trans hm rfl)).trans ?_
    | with_reducible refine (pdCmd_outside _ _ _ _ _ _ _ msk (sub_trans hm rfl) ?_).trans ?_
    | with_reducible refine (pdOwn_outside _ _ _ msk (sub_trans hm rfl)).trans ?_
    | (intro _)
theorem doGetStatus_outside (c : Instr) (h : CmdHdr) (q : Params) (s : State) (msk : Nat) (hm : 64871187611658 &&& msk = 64871187611658) :
    (doGetStatus c h q s).outside msk = s.outside msk := by
  unfold doGetStatus
  try dsimp only
  repeat' first
    | with_reducible rfl
    | with_reducible refine (opStart_outside _ _ msk (sub_trans hm rfl)).trans ?_
    | with_reducible refine (pdCmd_outside _ _ _ _ _ _ _ msk (sub_trans hm rfl) ?_).trans ?_
    | with_reducible refine (pdOwn_outside _ _ _ msk (sub_trans hm rfl)).trans ?_
    | (intro _)
theorem doSendVdm_outside (c : Instr) (h : CmdHdr) (q : Params) (blk : List Byte) (s : State) (msk : Nat) (hm : 64871187611658 &&& msk = 64871187611658) :
    (doSendVdm c h q blk s).outside msk = s.outside msk := by
  unfold doSendVdm
  try dsimp only
  repeat' first
    | with_reducible rfl
    | with_reducible refine (cmdDone_outside _ _ _ _ _ _ msk (sub_trans hm rfl)).trans ?_
    | with_reducible refine (command_outside _ _ _ _ _ msk (sub_trans hm rfl) ?_).trans ?_
    | with_reducible refine (opStart_outside _ _ msk (sub_trans hm rfl)).trans ?_
    | with_reducible refine (pdOwn_outside _ _ _ msk (sub_trans hm rfl)).trans ?_
    | (intro _)
    | split

/-! ### PowerCmds -/

theorem ppDone_outside (h : CmdHdr) (q : Params) (code result : Nat) (s : State) (msk : Nat) (hm : 64871186038784 &&& msk = 64871186038784) :
    (ppDone h q code result s).outside msk = s.outside msk := by
  unfold ppDone
  try dsimp only
  repeat' first
    | with_reducible rfl
    | with_reducible refine (cmdDone_outside _ _ _ _ _ _ msk (sub_trans hm rfl)).trans ?_
theorem powerCmd_outside (c : Instr) (h : CmdHdr) (q : Params) (keys : List WaitKey) (bad : Bool) (refused : State → Bool) (old : State → Nat) (act : State → State) (s : State) (msk : Nat) (hm : 64871186038786 &&& msk = 64871186038786) (hg0 : ∀ y0, (act y0).outside msk = y0.outside msk) :
    (powerCmd c h q keys bad refused old act s).outside msk = s.outside msk := by
  unfold powerCmd
  try dsimp only
  repeat' first
    | with_reducible rfl
    | with_reducible refine (command_outside _ _ _ _ _ msk (sub_trans hm rfl) ?_).trans ?_
    | with_reducible refine (ppDone_outside _ _ _ _ _ msk (sub_trans hm rfl)).trans ?_
    | with_reducible refine (hg0 _ ).trans ?_
    | (intro _)
    | split
theorem setLimit_outside (p w : Nat) (force : Bool) (s : State) (msk : Nat) (hm : 64871324397594 &&& msk = 64871324397594) :
    (setLimit p w force s).outside msk = s.outside msk := by
  unfold setLimit
  try dsimp only
  repeat' first
    | with_reducible rfl
    | with_reducible refine ite_outside ?_ ?_
    | with_reducible refine (State.pathOn_outside _ _ _ msk (sub_trans hm rfl)).trans ?_
    | with_reducible refine (hardSend_outside _ _ _ msk (sub_trans hm rfl)).trans ?_
    | with_reducible refine (serveWaiting_outside _ msk (sub_trans hm rfl)).trans ?_
    | split
theorem doPortLimit_outside (c : Instr) (h : CmdHdr) (q : Params) (s : State) (msk : Nat) (hm : 64871324397594 &&& msk = 64871324397594) :
    (doPortLimit c h q s).outside msk = s.outside msk := by
  unfold doPortLimit
  try dsimp only
  repeat' first
    | with_reducible rfl
    | with_reducible refine (powerCmd_outside _ _ _ _ _ _ _ _ _ msk (sub_trans hm rfl) ?_).trans ?_
    | with_reducible refine (setLimit_outside _ _ _ _ msk (sub_trans hm rfl)).trans ?_
    | (intro _)
theorem doShedClass_outside (c : Instr) (h : CmdHdr) (q : Params) (s : State) (msk : Nat) (hm : 64871188135938 &&& msk = 64871188135938) :
    (doShedClass c h q s).outside msk = s.outside msk := by
  unfold doShedClass
  try dsimp only
  repeat' first
    | with_reducible rfl
    | with_reducible refine (State.pathOn_outside _ _ _ msk (sub_trans hm rfl)).trans ?_
    | with_reducible refine (powerCmd_outside _ _ _ _ _ _ _ _ _ msk (sub_trans hm rfl) ?_).trans ?_
    | (intro _)
theorem doBedBudget_outside (c : Instr) (h : CmdHdr) (q : Params) (s : State) (msk : Nat) (hm : 64871356432386 &&& msk = 64871356432386) :
    (doBedBudget c h q s).outside msk = s.outside msk := by
  unfold doBedBudget
  try dsimp only
  repeat' first
    | with_reducible rfl
    | with_reducible refine (State.bedOn_outside _ _ _ msk (sub_trans hm rfl)).trans ?_
    | with_reducible refine (powerCmd_outside _ _ _ _ _ _ _ _ _ msk (sub_trans hm rfl) ?_).trans ?_
    | with_reducible refine (serveWaiting_outside _ msk (sub_trans hm rfl)).trans ?_
    | (intro _)
theorem doDevBudget_outside (c : Instr) (h : CmdHdr) (q : Params) (s : State) (msk : Nat) (hm : 64871322877954 &&& msk = 64871322877954) :
    (doDevBudget c h q s).outside msk = s.outside msk := by
  unfold doDevBudget
  try dsimp only
  repeat' first
    | with_reducible rfl
    | with_reducible refine (powerCmd_outside _ _ _ _ _ _ _ _ _ msk (sub_trans hm rfl) ?_).trans ?_
    | with_reducible refine (serveWaiting_outside _ msk (sub_trans hm rfl)).trans ?_
    | simp only [set_budget_outside _ _ msk (sub_trans hm rfl)]
    | (intro _)
theorem doIndLevel_outside (c : Instr) (h : CmdHdr) (q : Params) (s : State) (msk : Nat) (hm : 64871188135938 &&& msk = 64871188135938) :
    (doIndLevel c h q s).outside msk = s.outside msk := by
  unfold doIndLevel
  try dsimp only
  repeat' first
    | with_reducible rfl
    | with_reducible refine (State.pathOn_outside _ _ _ msk (sub_trans hm rfl)).trans ?_
    | with_reducible refine (command_outside _ _ _ _ _ msk (sub_trans hm rfl) ?_).trans ?_
    | with_reducible refine (ppDone_outside _ _ _ _ _ msk (sub_trans hm rfl)).trans ?_
    | (intro _)
    | split

end Sys2Proof.Machine
end

