-- ==== Sys2Proof/Laws/OutsidePlatform.lean ====
section
/-! SUPPORT. What each operation leaves as it was, by Machine file: Engines, SowOps, Faults, Supply, Almanac, Pcie, Sched, XferOps, Rings, AccOps, Views, Access, Capture, Sowing, Lifecycle. -/

namespace Sys2Proof.Machine

open Sys2Proof

/-! ### Engines -/

theorem doRotateNext_outside (c : Instr) (h : CmdHdr) (q : Params) (s : State) (msk : Nat) (hm : 64871722909698 &&& msk = 64871722909698) :
    (doRotateNext c h q s).outside msk = s.outside msk := by
  unfold doRotateNext
  try dsimp only
  repeat' first
    | with_reducible rfl
    | with_reducible refine (cmdDone_outside _ _ _ _ _ _ msk (sub_trans hm rfl)).trans ?_
    | with_reducible refine (pfCmd_outside _ _ _ _ _ _ _ _ msk (sub_trans hm rfl) ?_).trans ?_
    | with_reducible refine (rotOrder_outside _ _ _ msk (sub_trans hm rfl)).trans ?_
    | with_reducible refine (rotServe_outside _ msk (sub_trans hm rfl)).trans ?_
    | (intro _)
    | split
theorem doRotateEngine_outside (c : Instr) (h : CmdHdr) (q : Params) (s : State) (msk : Nat) (hm : 64871722909698 &&& msk = 64871722909698) :
    (doRotateEngine c h q s).outside msk = s.outside msk := by
  unfold doRotateEngine
  try dsimp only
  repeat' first
    | with_reducible rfl
    | with_reducible refine (pfCmd_outside _ _ _ _ _ _ _ _ msk (sub_trans hm rfl) ?_).trans ?_
    | with_reducible refine (rotOrder_outside _ _ _ msk (sub_trans hm rfl)).trans ?_
    | with_reducible refine (rotServe_outside _ msk (sub_trans hm rfl)).trans ?_
    | (intro _)
theorem doRotateUpdate_outside (c : Instr) (h : CmdHdr) (q : Params) (s : State) (msk : Nat) (hm : 64871722909698 &&& msk = 64871722909698) :
    (doRotateUpdate c h q s).outside msk = s.outside msk := by
  unfold doRotateUpdate
  try dsimp only
  repeat' first
    | with_reducible rfl
    | with_reducible refine (engOn_outside _ _ msk (sub_trans hm rfl)).trans ?_
    | with_reducible refine (pfCmd_outside _ _ _ _ _ _ _ _ msk (sub_trans hm rfl) ?_).trans ?_
    | (intro _)
theorem doUpdateCancel_outside (c : Instr) (h : CmdHdr) (q : Params) (s : State) (msk : Nat) (hm : 64871722909698 &&& msk = 64871722909698) :
    (doUpdateCancel c h q s).outside msk = s.outside msk := by
  unfold doUpdateCancel
  try dsimp only
  repeat' first
    | with_reducible rfl
    | with_reducible refine (engOn_outside _ _ msk (sub_trans hm rfl)).trans ?_
    | with_reducible refine (pfCmd_outside _ _ _ _ _ _ _ _ msk (sub_trans hm rfl) ?_).trans ?_
    | with_reducible refine (rotServe_outside _ msk (sub_trans hm rfl)).trans ?_
    | with_reducible refine (updAbandon_outside _ msk (sub_trans hm rfl)).trans ?_
    | (intro _)
theorem doRotationTimer_outside (s : State) (msk : Nat) (hm : 64871722909696 &&& msk = 64871722909696) :
    (doRotationTimer s).outside msk = s.outside msk := by
  unfold doRotationTimer
  try dsimp only
  repeat' first
    | with_reducible rfl
    | with_reducible refine ite_outside ?_ ?_
    | with_reducible refine (engOn_outside _ _ msk (sub_trans hm rfl)).trans ?_
    | with_reducible refine (rotServe_outside _ msk (sub_trans hm rfl)).trans ?_
    | split
theorem doRotationCopyDone_outside (pauseUs : Nat) (s : State) (msk : Nat) (hm : 2684354560 &&& msk = 2684354560) :
    (doRotationCopyDone pauseUs s).outside msk = s.outside msk := by
  unfold doRotationCopyDone
  try dsimp only
  repeat' first
    | with_reducible rfl
    | with_reducible refine ite_outside ?_ ?_
    | with_reducible refine (engMove_outside _ _ msk (sub_trans hm rfl)).trans ?_
    | with_reducible refine (engOn_outside _ _ msk (sub_trans hm rfl)).trans ?_
    | split
theorem rotTested_outside (r : Rot) (pass : Bool) (s : State) (msk : Nat) (hm : 64973103378458 &&& msk = 64973103378458) :
    (rotTested r pass s).outside msk = s.outside msk := by
  unfold rotTested
  try dsimp only
  repeat' first
    | with_reducible rfl
    | with_reducible refine ite_outside ?_ ?_
    | with_reducible refine (engFailed_outside _ _ _ msk (sub_trans hm rfl)).trans ?_
    | with_reducible refine (engOn_outside _ _ msk (sub_trans hm rfl)).trans ?_
    | with_reducible refine (engPassed_outside _ _ msk (sub_trans hm rfl)).trans ?_
    | with_reducible refine (modeServe_outside _ msk (sub_trans hm rfl)).trans ?_
    | with_reducible refine (rotServe_outside _ msk (sub_trans hm rfl)).trans ?_
    | split
theorem updTested_outside (u : Upd) (again pass : Bool) (s : State) (msk : Nat) (hm : 64972834943002 &&& msk = 64972834943002) :
    (updTested u again pass s).outside msk = s.outside msk := by
  unfold updTested
  try dsimp only
  repeat' first
    | with_reducible rfl
    | with_reducible refine ite_outside ?_ ?_
    | with_reducible refine (engFailed_outside _ _ _ msk (sub_trans hm rfl)).trans ?_
    | with_reducible refine (engOn_outside _ _ msk (sub_trans hm rfl)).trans ?_
    | with_reducible refine (engPassed_outside _ _ msk (sub_trans hm rfl)).trans ?_
    | with_reducible refine (rotServe_outside _ msk (sub_trans hm rfl)).trans ?_
    | split
theorem doEngineSelfTestDone_outside (pass : Bool) (s : State) (msk : Nat) (hm : 64973103378458 &&& msk = 64973103378458) :
    (doEngineSelfTestDone pass s).outside msk = s.outside msk := by
  unfold doEngineSelfTestDone
  try dsimp only
  repeat' first
    | with_reducible rfl
    | with_reducible refine (rotTested_outside _ _ _ msk (sub_trans hm rfl)).trans ?_
    | with_reducible refine (updTested_outside _ _ _ _ msk (sub_trans hm rfl)).trans ?_
    | split
theorem doSpareRefillDone_outside (s : State) (msk : Nat) (hm : 64871999942682 &&& msk = 64871999942682) :
    (doSpareRefillDone s).outside msk = s.outside msk := by
  unfold doSpareRefillDone
  try dsimp only
  repeat' first
    | with_reducible rfl
    | with_reducible refine (modeServe_outside _ msk (sub_trans hm rfl)).trans ?_
    | with_reducible refine (rotFinish_outside _ _ msk (sub_trans hm rfl)).trans ?_
    | with_reducible refine (rotServe_outside _ msk (sub_trans hm rfl)).trans ?_
    | split
theorem doUpdateImageChecked_outside (image : List Byte) (fmtSame : Bool) (s : State) (msk : Nat) (hm : 64871722909696 &&& msk = 64871722909696) :
    (doUpdateImageChecked image fmtSame s).outside msk = s.outside msk := by
  unfold doUpdateImageChecked
  try dsimp only
  repeat' first
    | with_reducible rfl
    | with_reducible refine (cmdDone_outside _ _ _ _ _ _ msk (sub_trans hm rfl)).trans ?_
    | with_reducible refine (engOn_outside _ _ msk (sub_trans hm rfl)).trans ?_
    | split
theorem doKeeperSwap_outside (s : State) (msk : Nat) (hm : 536870912 &&& msk = 536870912) :
    (doKeeperSwap s).outside msk = s.outside msk := by
  unfold doKeeperSwap
  try dsimp only
  repeat' first
    | with_reducible rfl
    | with_reducible refine ite_outside ?_ ?_
    | with_reducible refine (engOn_outside _ _ msk (sub_trans hm rfl)).trans ?_
    | split
theorem keeperSwapEnd_outside (c : Instr) (g : State → State) (s : State) (msk : Nat) (hm : 64972834943002 &&& msk = 64972834943002) (hg0 : ∀ y0, (g y0).outside msk = y0.outside msk) :
    (keeperSwapEnd c g s).outside msk = s.outside msk := by
  unfold keeperSwapEnd
  try dsimp only
  repeat' first
    | with_reducible rfl
    | with_reducible refine ite_outside ?_ ?_
    | with_reducible refine (bundle_outside _ _ _ msk (sub_trans hm rfl) ?_).trans ?_
    | with_reducible refine (engOn_outside _ _ msk (sub_trans hm rfl)).trans ?_
    | with_reducible refine (forEach_outside _ _ _ msk ?_).trans ?_
    | with_reducible refine (happen_outside _ _ msk (sub_trans hm rfl) ?_).trans ?_
    | with_reducible refine (pathResume_outside _ _ msk (sub_trans hm rfl)).trans ?_
    | with_reducible refine (rotServe_outside _ msk (sub_trans hm rfl)).trans ?_
    | with_reducible refine (hg0 _ ).trans ?_
    | simp only [set_blocked_outside _ _ msk (sub_trans hm rfl)]
    | (intro _)
    | split
theorem updServe_outside (s : State) (msk : Nat) (hm : 64888902779408 &&& msk = 64888902779408) :
    (updServe s).outside msk = s.outside msk := by
  unfold updServe
  try dsimp only
  repeat' first
    | with_reducible rfl
    | with_reducible refine (State.rsAdd_outside _ _ _ _ _ msk (sub_trans hm rfl)).trans ?_
    | with_reducible refine (almEvent_outside _ _ _ _ _ msk (sub_trans hm rfl)).trans ?_
    | with_reducible refine (cmdDone_outside _ _ _ _ _ _ msk (sub_trans hm rfl)).trans ?_
    | with_reducible refine (engOn_outside _ _ msk (sub_trans hm rfl)).trans ?_
    | simp only [set_boot_outside _ _ msk (sub_trans hm rfl)]
    | split
theorem doUpdateAbandonDone_outside (s : State) (msk : Nat) (hm : 64871722909696 &&& msk = 64871722909696) :
    (doUpdateAbandonDone s).outside msk = s.outside msk := by
  unfold doUpdateAbandonDone
  try dsimp only
  repeat' first
    | with_reducible rfl
    | with_reducible refine ite_outside ?_ ?_
    | with_reducible refine (cmdDone_outside _ _ _ _ _ _ msk (sub_trans hm rfl)).trans ?_
    | with_reducible refine (engOn_outside _ _ msk (sub_trans hm rfl)).trans ?_
    | with_reducible refine (forEach_outside _ _ _ msk ?_).trans ?_
    | with_reducible refine (rotServe_outside _ msk (sub_trans hm rfl)).trans ?_
    | (intro _)
    | split
theorem testBegin_outside (h : CmdHdr) (op : TestOp) (unit : Nat) (runs : Bool) (s : State) (msk : Nat) (hm : 536870912 &&& msk = 536870912) :
    (testBegin h op unit runs s).outside msk = s.outside msk := by
  unfold testBegin
  try dsimp only
  repeat' first
    | with_reducible rfl
    | with_reducible refine (engOn_outside _ _ msk (sub_trans hm rfl)).trans ?_
theorem doSelfTestTender_outside (c : Instr) (h : CmdHdr) (q : Params) (s : State) (msk : Nat) (hm : 64871722909698 &&& msk = 64871722909698) :
    (doSelfTestTender c h q s).outside msk = s.outside msk := by
  unfold doSelfTestTender
  try dsimp only
  repeat' first
    | with_reducible rfl
    | with_reducible refine ite_outside ?_ ?_
    | with_reducible refine (pfCmd_outside _ _ _ _ _ _ _ _ msk (sub_trans hm rfl) ?_).trans ?_
    | with_reducible refine (rotServe_outside _ msk (sub_trans hm rfl)).trans ?_
    | with_reducible refine (testBegin_outside _ _ _ _ _ msk (sub_trans hm rfl)).trans ?_
    | (intro _)
    | split
theorem doSelfTestBank_outside (c : Instr) (h : CmdHdr) (q : Params) (s : State) (msk : Nat) (hm : 65421478723586 &&& msk = 65421478723586) :
    (doSelfTestBank c h q s).outside msk = s.outside msk := by
  unfold doSelfTestBank
  try dsimp only
  repeat' first
    | with_reducible rfl
    | with_reducible refine (pfCmd_outside _ _ _ _ _ _ _ _ msk (sub_trans hm rfl) ?_).trans ?_
    | with_reducible refine (testBegin_outside _ _ _ _ _ msk (sub_trans hm rfl)).trans ?_
    | with_reducible refine (unitsOn_outside _ _ msk (sub_trans hm rfl)).trans ?_
    | (intro _)
theorem doSelfTestAdc_outside (c : Instr) (h : CmdHdr) (q : Params) (s : State) (msk : Nat) (hm : 64871722909698 &&& msk = 64871722909698) :
    (doSelfTestAdc c h q s).outside msk = s.outside msk := by
  unfold doSelfTestAdc
  try dsimp only
  repeat' first
    | with_reducible rfl
    | with_reducible refine (pfCmd_outside _ _ _ _ _ _ _ _ msk (sub_trans hm rfl) ?_).trans ?_
    | with_reducible refine (testBegin_outside _ _ _ _ _ msk (sub_trans hm rfl)).trans ?_
    | (intro _)
theorem doSelfTestBed_outside (c : Instr) (h : CmdHdr) (q : Params) (s : State) (msk : Nat) (hm : 64871722909698 &&& msk = 64871722909698) :
    (doSelfTestBed c h q s).outside msk = s.outside msk := by
  unfold doSelfTestBed
  try dsimp only
  repeat' first
    | with_reducible rfl
    | with_reducible refine (pfCmd_outside _ _ _ _ _ _ _ _ msk (sub_trans hm rfl) ?_).trans ?_
    | with_reducible refine (testBegin_outside _ _ _ _ _ msk (sub_trans hm rfl)).trans ?_
    | (intro _)
theorem doSelfTestKeeper_outside (c : Instr) (h : CmdHdr) (q : Params) (s : State) (msk : Nat) (hm : 64871722909698 &&& msk = 64871722909698) :
    (doSelfTestKeeper c h q s).outside msk = s.outside msk := by
  unfold doSelfTestKeeper
  try dsimp only
  repeat' first
    | with_reducible rfl
    | with_reducible refine (pfCmd_outside _ _ _ _ _ _ _ _ msk (sub_trans hm rfl) ?_).trans ?_
    | with_reducible refine (testBegin_outside _ _ _ _ _ msk (sub_trans hm rfl)).trans ?_
    | (intro _)
theorem doBedTestIdle_outside (b : Nat) (s : State) (msk : Nat) (hm : 570425344 &&& msk = 570425344) :
    (doBedTestIdle b s).outside msk = s.outside msk := by
  unfold doBedTestIdle
  try dsimp only
  repeat' first
    | with_reducible rfl
    | with_reducible refine ite_outside ?_ ?_
    | with_reducible refine (State.bedOn_outside _ _ _ msk (sub_trans hm rfl)).trans ?_
    | with_reducible refine (engOn_outside _ _ msk (sub_trans hm rfl)).trans ?_
    | split
theorem doBedTestDeadline_outside (s : State) (msk : Nat) (hm : 64871722909696 &&& msk = 64871722909696) :
    (doBedTestDeadline s).outside msk = s.outside msk := by
  unfold doBedTestDeadline
  try dsimp only
  repeat' first
    | with_reducible rfl
    | with_reducible refine (cmdDone_outside _ _ _ _ _ _ msk (sub_trans hm rfl)).trans ?_
    | with_reducible refine (engOn_outside _ _ msk (sub_trans hm rfl)).trans ?_
    | split
theorem testEnd_outside (t : SelfTest) (pass : Bool) (ms : Nat) (s : State) (msk : Nat) (hm : 64871722909696 &&& msk = 64871722909696) :
    (testEnd t pass ms s).outside msk = s.outside msk := by
  unfold testEnd
  try dsimp only
  repeat' first
    | with_reducible rfl
    | with_reducible refine (cmdDone_outside _ _ _ _ _ _ msk (sub_trans hm rfl)).trans ?_
    | with_reducible refine (engOn_outside _ _ msk (sub_trans hm rfl)).trans ?_
theorem tenderTested_outside (t : SelfTest) (pass : Bool) (ms : Nat) (s : State) (msk : Nat) (hm : 64972834943002 &&& msk = 64972834943002) :
    (tenderTested t pass ms s).outside msk = s.outside msk := by
  unfold tenderTested
  try dsimp only
  repeat' first
    | with_reducible rfl
    | with_reducible refine ite_outside ?_ ?_
    | with_reducible refine (engFailed_outside _ _ _ msk (sub_trans hm rfl)).trans ?_
    | with_reducible refine (engOn_outside _ _ msk (sub_trans hm rfl)).trans ?_
    | with_reducible refine (engPassed_outside _ _ msk (sub_trans hm rfl)).trans ?_
    | with_reducible refine (testEnd_outside _ _ _ _ msk (sub_trans hm rfl)).trans ?_
    | split
theorem bedTested_outside (b : Nat) (s : State) (msk : Nat) (hm : 64871357952010 &&& msk = 64871357952010) :
    (bedTested b s).outside msk = s.outside msk := by
  unfold bedTested
  try dsimp only
  repeat' first
    | with_reducible rfl
    | with_reducible refine ite_outside ?_ ?_
    | with_reducible refine (State.bedOn_outside _ _ _ msk (sub_trans hm rfl)).trans ?_
    | with_reducible refine (State.tcOn_outside _ _ _ msk (sub_trans hm rfl)).trans ?_
    | with_reducible refine (ccAdvance_outside _ _ msk (sub_trans hm rfl)).trans ?_
    | with_reducible refine (forEach_outside _ _ _ msk ?_).trans ?_
    | (intro _)
    | split
theorem doSelfTestDone_outside (op : TestOp) (pass : Bool) (ms : Nat) (s : State) (msk : Nat) (hm : 65522859193370 &&& msk = 65522859193370) :
    (doSelfTestDone op pass ms s).outside msk = s.outside msk := by
  unfold doSelfTestDone
  try dsimp only
  repeat' first
    | with_reducible rfl
    | with_reducible refine ite_outside ?_ ?_
    | with_reducible refine (bankRetire_outside _ _ _ msk (sub_trans hm rfl)).trans ?_
    | with_reducible refine (bedTested_outside _ _ msk (sub_trans hm rfl)).trans ?_
    | with_reducible refine (rotServe_outside _ msk (sub_trans hm rfl)).trans ?_
    | with_reducible refine (tenderTested_outside _ _ _ _ msk (sub_trans hm rfl)).trans ?_
    | with_reducible refine (testEnd_outside _ _ _ _ msk (sub_trans hm rfl)).trans ?_
    | with_reducible refine (unitOnce_outside _ _ _ _ _ msk (sub_trans hm rfl)).trans ?_
    | with_reducible refine (unitsOn_outside _ _ msk (sub_trans hm rfl)).trans ?_
    | split
theorem graftFault_outside (g cause : Nat) (s : State) (msk : Nat) (hm : 65523932935194 &&& msk = 65523932935194) :
    (graftFault g cause s).outside msk = s.outside msk := by
  unfold graftFault
  try dsimp only
  repeat' first
    | with_reducible rfl
    | with_reducible refine ite_outside ?_ ?_
    | with_reducible refine (State.graftOn_outside _ _ _ msk (sub_trans hm rfl)).trans ?_
    | with_reducible refine (State.rsAdd_outside _ _ _ _ _ msk (sub_trans hm rfl)).trans ?_
    | with_reducible refine (unitOnce_outside _ _ _ _ _ msk (sub_trans hm rfl)).trans ?_
    | split
theorem graftVdm_outside (p : Nat) (sop : Sop) (hdr : Nat) (vdos : List Nat) (s : State) (msk : Nat) (hm : 1572864 &&& msk = 1572864) :
    (graftVdm p sop hdr vdos s).outside msk = s.outside msk := by
  unfold graftVdm
  try dsimp only
  repeat' first
    | with_reducible rfl
    | with_reducible refine ite_outside ?_ ?_
    | with_reducible refine (pdOwn_outside _ _ _ msk (sub_trans hm rfl)).trans ?_
    | split
theorem doGraftServiceCall_outside (g : Nat) (c : GraftCall) (s : State) (msk : Nat) (hm : 65523932935194 &&& msk = 65523932935194) :
    (doGraftServiceCall g c s).outside msk = s.outside msk := by
  unfold doGraftServiceCall
  try dsimp only
  repeat' first
    | with_reducible rfl
    | with_reducible refine ite_outside ?_ ?_
    | with_reducible refine (State.graftOn_outside _ _ _ msk (sub_trans hm rfl)).trans ?_
    | with_reducible refine (graftFault_outside _ _ _ msk (sub_trans hm rfl)).trans ?_
    | with_reducible refine (graftVdm_outside _ _ _ _ _ msk (sub_trans hm rfl)).trans ?_
    | split

/-! ### SowOps -/

theorem supOn_outside (g : Supply → Supply) (s : State) (msk : Nat) (hm : 256 &&& msk = 256) :
    (supOn g s).outside msk = s.outside msk := by
  unfold supOn
  try dsimp only
  repeat' first
    | with_reducible rfl
    | simp only [set_sup_outside _ _ msk (sub_trans hm rfl)]
theorem bootOn_outside (g : Boot → Boot) (s : State) (msk : Nat) (hm : 512 &&& msk = 512) :
    (bootOn g s).outside msk = s.outside msk := by
  unfold bootOn
  try dsimp only
  repeat' first
    | with_reducible rfl
    | simp only [set_boot_outside _ _ msk (sub_trans hm rfl)]
theorem wipe_outside (cold off : Bool) (pcie : Pcie) (s : State) (msk : Nat) (hm : 64871186038398 &&& msk = 64871186038398) :
    (wipe cold off pcie s).outside msk = s.outside msk := by
  simp only [State.outside, wipe, if_true, ite_self, Bool.or_true, Bool.true_or, sub_bit hm 1 rfl, sub_bit hm 2 rfl, sub_bit hm 3 rfl, sub_bit hm 4 rfl, sub_bit hm 5 rfl, sub_bit hm 6 rfl, sub_bit hm 9 rfl, sub_bit hm 10 rfl, sub_bit hm 11 rfl, sub_bit hm 12 rfl, sub_bit hm 13 rfl, sub_bit hm 14 rfl, sub_bit hm 15 rfl, sub_bit hm 16 rfl, sub_bit hm 17 rfl, sub_bit hm 18 rfl, sub_bit hm 19 rfl, sub_bit hm 20 rfl, sub_bit hm 21 rfl, sub_bit hm 22 rfl, sub_bit hm 23 rfl, sub_bit hm 24 rfl, sub_bit hm 25 rfl, sub_bit hm 26 rfl, sub_bit hm 27 rfl, sub_bit hm 28 rfl, sub_bit hm 29 rfl, sub_bit hm 30 rfl, sub_bit hm 31 rfl, sub_bit hm 32 rfl, sub_bit hm 33 rfl, sub_bit hm 34 rfl, sub_bit hm 35 rfl, sub_bit hm 36 rfl, sub_bit hm 37 rfl, sub_bit hm 38 rfl, sub_bit hm 39 rfl, sub_bit hm 41 rfl, sub_bit hm 43 rfl, sub_bit hm 44 rfl, sub_bit hm 45 rfl]
theorem persistOver_outside (before after : State) (msk : Nat) (hm : 70779392 &&& msk = 70779392) :
    (persistOver before after).outside msk = after.outside msk := by
  unfold persistOver
  try dsimp only
  repeat' first
    | with_reducible rfl
    | with_reducible refine (State.hookPut_outside _ _ _ msk (sub_trans hm rfl)).trans ?_
    | with_reducible refine (State.pathPut_outside _ _ _ msk (sub_trans hm rfl)).trans ?_
    | with_reducible refine (State.pdPut_outside _ _ _ msk (sub_trans hm rfl)).trans ?_
    | with_reducible refine (State.tcPut_outside _ _ _ msk (sub_trans hm rfl)).trans ?_
    | with_reducible refine (bootOn_outside _ _ msk (sub_trans hm rfl)).trans ?_
    | with_reducible refine (forEach_outside _ _ _ msk ?_).trans ?_
    | (intro _)
theorem resetAs_outside (pcie : Pcie) (s : State) (msk : Nat) (hm : 64871186038398 &&& msk = 64871186038398) :
    (resetAs pcie s).outside msk = s.outside msk := by
  unfold resetAs
  try dsimp only
  repeat' first
    | with_reducible rfl
    | with_reducible refine (persistOver_outside _ _ msk (sub_trans hm rfl)).trans ?_
    | with_reducible refine (wipe_outside _ _ _ _ msk (sub_trans hm rfl)).trans ?_
theorem lcCommit_outside (s : State) (msk : Nat) (hm : 64871186038526 &&& msk = 64871186038526) :
    (lcCommit s).outside msk = s.outside msk := by
  unfold lcCommit
  try dsimp only
  repeat' first
    | with_reducible rfl
    | with_reducible refine ite_outside ?_ ?_
    | with_reducible refine (almEvent_outside _ _ _ _ _ msk (sub_trans hm rfl)).trans ?_
    | with_reducible refine (wipe_outside _ _ _ _ msk (sub_trans hm rfl)).trans ?_
    | simp only [set_otp_outside _ _ msk (sub_trans hm rfl)]
    | split
theorem bootStart_outside (s : State) (msk : Nat) (hm : 64871186038782 &&& msk = 64871186038782) :
    (bootStart s).outside msk = s.outside msk := by
  unfold bootStart
  try dsimp only
  repeat' first
    | with_reducible rfl
    | with_reducible refine (almJournal_outside _ msk (sub_trans hm rfl)).trans ?_
    | with_reducible refine (lcCommit_outside _ msk (sub_trans hm rfl)).trans ?_
    | with_reducible refine (supOn_outside _ _ msk (sub_trans hm rfl)).trans ?_
theorem refuse_outside (cause : Nat) (s : State) (msk : Nat) (hm : 85899346432 &&& msk = 85899346432) :
    (refuse cause s).outside msk = s.outside msk := by
  unfold refuse
  try dsimp only
  repeat' first
    | with_reducible rfl
    | with_reducible refine (almEvent_outside _ _ _ _ _ msk (sub_trans hm rfl)).trans ?_
    | with_reducible refine (bootOn_outside _ _ msk (sub_trans hm rfl)).trans ?_
    | with_reducible refine (smbAlert_outside _ msk (sub_trans hm rfl)).trans ?_
theorem loaderGo_outside (s : State) (msk : Nat) (hm : 512 &&& msk = 512) :
    (loaderGo s).outside msk = s.outside msk := by
  unfold loaderGo
  try dsimp only
  repeat' first
    | with_reducible rfl
    | with_reducible refine ite_outside ?_ ?_
    | with_reducible refine (bootOn_outside _ _ msk (sub_trans hm rfl)).trans ?_
    | split
theorem portStop_outside (p : Nat) (s : State) (msk : Nat) (hm : 64871190179850 &&& msk = 64871190179850) :
    (portStop p s).outside msk = s.outside msk := by
  unfold portStop
  try dsimp only
  repeat' first
    | with_reducible rfl
    | with_reducible refine (dropSide_outside _ _ _ _ msk (sub_trans hm rfl)).trans ?_
    | with_reducible refine (guestGone_outside _ _ _ msk (sub_trans hm rfl)).trans ?_
    | with_reducible refine (portSafe_outside _ _ msk (sub_trans hm rfl)).trans ?_
theorem loaderRestart_outside (s : State) (msk : Nat) (hm : 64871190180362 &&& msk = 64871190180362) :
    (loaderRestart s).outside msk = s.outside msk := by
  unfold loaderRestart
  try dsimp only
  repeat' first
    | with_reducible rfl
    | with_reducible refine ite_outside ?_ ?_
    | with_reducible refine (bootOn_outside _ _ msk (sub_trans hm rfl)).trans ?_
    | with_reducible refine (forEach_outside _ _ _ msk ?_).trans ?_
    | with_reducible refine (portStop_outside _ _ msk (sub_trans hm rfl)).trans ?_
    | (intro _)
    | split
theorem portServe_outside (p : Nat) (s : State) (msk : Nat) (hm : 64871322877952 &&& msk = 64871322877952) :
    (portServe p s).outside msk = s.outside msk := by
  unfold portServe
  try dsimp only
  repeat' first
    | with_reducible rfl
    | with_reducible refine ite_outside ?_ ?_
    | with_reducible refine (enterUnattached_outside _ _ msk (sub_trans hm rfl)).trans ?_
    | with_reducible refine (pathSeek_outside _ _ msk (sub_trans hm rfl)).trans ?_
    | split
theorem adoptPort_outside (p : Nat) (h : Held) (s : State) (msk : Nat) (hm : 69269370646554 &&& msk = 69269370646554) :
    (adoptPort p h s).outside msk = s.outside msk := by
  unfold adoptPort
  try dsimp only
  repeat' first
    | with_reducible rfl
    | with_reducible refine ite_outside ?_ ?_
    | with_reducible refine (State.pdOn_outside _ _ _ msk (sub_trans hm rfl)).trans ?_
    | with_reducible refine (capsCheck_outside _ _ msk (sub_trans hm rfl)).trans ?_
    | with_reducible refine (portSafe_outside _ _ msk (sub_trans hm rfl)).trans ?_
    | with_reducible refine (portServe_outside _ _ msk (sub_trans hm rfl)).trans ?_
    | with_reducible refine (refreshSides_outside _ _ msk (sub_trans hm rfl)).trans ?_
    | split
theorem startMode_outside (s : State) (msk : Nat) (hm : 268435456 &&& msk = 268435456) :
    (startMode s).outside msk = s.outside msk := by
  unfold startMode
  try dsimp only
  repeat' first
    | with_reducible rfl
    | with_reducible refine (modeTake_outside _ _ msk (sub_trans hm rfl)).trans ?_
theorem serve_outside (i : ImageInfo) (s : State) (msk : Nat) (hm : 69289503306266 &&& msk = 69289503306266) :
    (serve i s).outside msk = s.outside msk := by
  unfold serve
  try dsimp only
  repeat' first
    | with_reducible rfl
    | with_reducible refine (adoptPort_outside _ _ _ msk (sub_trans hm rfl)).trans ?_
    | with_reducible refine (almEvent_outside _ _ _ _ _ msk (sub_trans hm rfl)).trans ?_
    | with_reducible refine (bootOn_outside _ _ msk (sub_trans hm rfl)).trans ?_
    | with_reducible refine (forEach_outside _ _ _ msk ?_).trans ?_
    | with_reducible refine (portServe_outside _ _ msk (sub_trans hm rfl)).trans ?_
    | with_reducible refine (startMode_outside _ msk (sub_trans hm rfl)).trans ?_
    | simp only [set_eng_dsp_outside _ _ _ msk (sub_trans hm rfl)]
    | (intro _)

/-! ### XferOps -/

theorem tallyAdd_outside (p : Nat) (rx : Bool) (n : Nat) (s : State) (msk : Nat) (hm : 274877906944 &&& msk = 274877906944) :
    (tallyAdd p rx n s).outside msk = s.outside msk := by
  unfold tallyAdd
  try dsimp only
  repeat' first
    | with_reducible rfl
    | with_reducible refine (State.tallyOn_outside _ _ _ msk (sub_trans hm rfl)).trans ?_
theorem commitPacket_outside (k : Nat) (bytes : List Byte) (s : State) (msk : Nat) (hm : 65146064084992 &&& msk = 65146064084992) :
    (commitPacket k bytes s).outside msk = s.outside msk := by
  unfold commitPacket
  try dsimp only
  repeat' first
    | with_reducible rfl
    | with_reducible refine ite_outside ?_ ?_
    | with_reducible refine (State.epOn_outside _ _ _ msk (sub_trans hm rfl)).trans ?_
    | with_reducible refine (advanceTog_outside _ _ msk (sub_trans hm rfl)).trans ?_
    | with_reducible refine (epBump_outside _ _ msk (sub_trans hm rfl)).trans ?_
    | with_reducible refine (tallyAdd_outside _ _ _ _ msk (sub_trans hm rfl)).trans ?_
    | split
theorem isoDone_outside (k moved : Nat) (s : State) (msk : Nat) (hm : 64871186046976 &&& msk = 64871186046976) :
    (isoDone k moved s).outside msk = s.outside msk := by
  unfold isoDone
  try dsimp only
  repeat' first
    | with_reducible rfl
    | with_reducible refine (State.epOn_outside _ _ _ msk (sub_trans hm rfl)).trans ?_
    | with_reducible refine (completeHead_outside _ _ _ msk (sub_trans hm rfl)).trans ?_
    | with_reducible refine (epBump_outside _ _ msk (sub_trans hm rfl)).trans ?_
    | split
theorem claimIso_outside (k : Nat) (s : State) (msk : Nat) (hm : 64871186178058 &&& msk = 64871186178058) :
    (claimIso k s).outside msk = s.outside msk := by
  unfold claimIso
  try dsimp only
  repeat' first
    | with_reducible rfl
    | with_reducible refine ite_outside ?_ ?_
    | with_reducible refine (State.emit_outside _ _ msk (sub_trans hm rfl)).trans ?_
    | with_reducible refine (State.epOn_outside _ _ _ msk (sub_trans hm rfl)).trans ?_
    | with_reducible refine (afterXact_outside _ _ msk (sub_trans hm rfl)).trans ?_
    | with_reducible refine (babbleEnd_outside _ _ msk (sub_trans hm rfl)).trans ?_
    | with_reducible refine (isoDone_outside _ _ _ msk (sub_trans hm rfl)).trans ?_
    | split
theorem claimHead_outside (k : Nat) (s : State) (msk : Nat) (hm : 64871186178058 &&& msk = 64871186178058) :
    (claimHead k s).outside msk = s.outside msk := by
  unfold claimHead
  try dsimp only
  repeat' first
    | with_reducible rfl
    | with_reducible refine ite_outside ?_ ?_
    | with_reducible refine (State.emit_outside _ _ msk (sub_trans hm rfl)).trans ?_
    | with_reducible refine (State.epOn_outside _ _ _ msk (sub_trans hm rfl)).trans ?_
    | with_reducible refine (afterXact_outside _ _ msk (sub_trans hm rfl)).trans ?_
    | with_reducible refine (babbleEnd_outside _ _ msk (sub_trans hm rfl)).trans ?_
    | with_reducible refine (epBump_outside _ _ msk (sub_trans hm rfl)).trans ?_
    | with_reducible refine (epSettle_outside _ _ msk (sub_trans hm rfl)).trans ?_
    | with_reducible refine (forEach_outside _ _ _ msk ?_).trans ?_
    | with_reducible refine (moveBytes_outside _ _ _ _ msk (sub_trans hm rfl)).trans ?_
    | with_reducible refine (shortEnd_outside _ _ _ _ msk (sub_trans hm rfl)).trans ?_
    | (intro _)
    | split
theorem raceAck_outside (k : Nat) (s : State) (msk : Nat) (hm : 39582418599952 &&& msk = 39582418599952) :
    (raceAck k s).2.outside msk = s.outside msk := by
  unfold raceAck
  try dsimp only
  repeat' first
    | with_reducible rfl
    | with_reducible refine ite_outside ?_ ?_
    | with_reducible refine (State.rsAdd_outside _ _ _ _ _ msk (sub_trans hm rfl)).trans ?_
    | simp only [set_free_outside _ _ msk (sub_trans hm rfl)]
    | split
theorem xactCount_outside (k : Nat) (s : State) (msk : Nat) (hm : 8192 &&& msk = 8192) :
    (xactCount k s).outside msk = s.outside msk := by
  unfold xactCount
  try dsimp only
  repeat' first
    | with_reducible rfl
    | with_reducible refine (State.epOn_outside _ _ _ msk (sub_trans hm rfl)).trans ?_
    | with_reducible refine (epBump_outside _ _ msk (sub_trans hm rfl)).trans ?_
theorem isoLost_outside (k : Nat) (s : State) (msk : Nat) (hm : 64871186046976 &&& msk = 64871186046976) :
    (isoLost k s).outside msk = s.outside msk := by
  unfold isoLost
  try dsimp only
  repeat' first
    | with_reducible rfl
    | with_reducible refine (State.epOn_outside _ _ _ msk (sub_trans hm rfl)).trans ?_
    | with_reducible refine (isoDone_outside _ _ _ msk (sub_trans hm rfl)).trans ?_
theorem failRun_outside (k code : Nat) (s : State) (msk : Nat) (hm : 64871186178048 &&& msk = 64871186178048) :
    (failRun k code s).outside msk = s.outside msk := by
  unfold failRun
  try dsimp only
  repeat' first
    | with_reducible rfl
    | with_reducible refine ite_outside ?_ ?_
    | with_reducible refine (State.epOn_outside _ _ _ msk (sub_trans hm rfl)).trans ?_
    | with_reducible refine (epError_outside _ _ _ msk (sub_trans hm rfl)).trans ?_
    | with_reducible refine (isoLost_outside _ _ msk (sub_trans hm rfl)).trans ?_
    | split
theorem xactFailed_outside (k : Nat) (s : State) (msk : Nat) (hm : 64871186178058 &&& msk = 64871186178058) :
    (xactFailed k s).outside msk = s.outside msk := by
  unfold xactFailed
  try dsimp only
  repeat' first
    | with_reducible rfl
    | with_reducible refine (State.epOn_outside _ _ _ msk (sub_trans hm rfl)).trans ?_
    | with_reducible refine (afterXact_outside _ _ msk (sub_trans hm rfl)).trans ?_
    | with_reducible refine (failRun_outside _ _ _ msk (sub_trans hm rfl)).trans ?_
    | with_reducible refine (xactCount_outside _ _ msk (sub_trans hm rfl)).trans ?_
theorem setupDone_outside (k : Nat) (s : State) (msk : Nat) (hm : 64871186178048 &&& msk = 64871186178048) :
    (setupDone k s).outside msk = s.outside msk := by
  unfold setupDone
  try dsimp only
  repeat' first
    | with_reducible rfl
    | with_reducible refine ite_outside ?_ ?_
    | with_reducible refine (State.epOn_outside _ _ _ msk (sub_trans hm rfl)).trans ?_
    | with_reducible refine (completeHead_outside _ _ _ msk (sub_trans hm rfl)).trans ?_
    | with_reducible refine (epBump_outside _ _ msk (sub_trans hm rfl)).trans ?_
    | with_reducible refine (epSettle_outside _ _ msk (sub_trans hm rfl)).trans ?_
    | with_reducible refine (failRun_outside _ _ _ msk (sub_trans hm rfl)).trans ?_
    | split
theorem statusCommit_outside (k : Nat) (s : State) (msk : Nat) (hm : 64871186182144 &&& msk = 64871186182144) :
    (statusCommit k s).outside msk = s.outside msk := by
  unfold statusCommit
  try dsimp only
  repeat' first
    | with_reducible rfl
    | with_reducible refine ite_outside ?_ ?_
    | with_reducible refine (State.epOn_outside _ _ _ msk (sub_trans hm rfl)).trans ?_
    | with_reducible refine (State.slotOn_outside _ _ _ msk (sub_trans hm rfl)).trans ?_
    | with_reducible refine (completeHead_outside _ _ _ msk (sub_trans hm rfl)).trans ?_
    | with_reducible refine (epBump_outside _ _ msk (sub_trans hm rfl)).trans ?_
    | with_reducible refine (epSettle_outside _ _ msk (sub_trans hm rfl)).trans ?_
    | with_reducible refine (failRun_outside _ _ _ msk (sub_trans hm rfl)).trans ?_
    | with_reducible refine (forEach_outside _ _ _ msk ?_).trans ?_
    | with_reducible refine (slotBump_outside _ _ msk (sub_trans hm rfl)).trans ?_
    | (intro _)
    | split
theorem statusDone_outside (k : Nat) (s : State) (msk : Nat) (hm : 64871186182144 &&& msk = 64871186182144) :
    (statusDone k s).outside msk = s.outside msk := by
  unfold statusDone
  try dsimp only
  repeat' first
    | with_reducible rfl
    | with_reducible refine ite_outside ?_ ?_
    | with_reducible refine (State.epOn_outside _ _ _ msk (sub_trans hm rfl)).trans ?_
    | with_reducible refine (forEach_outside _ _ _ msk ?_).trans ?_
    | with_reducible refine (statusCommit_outside _ _ msk (sub_trans hm rfl)).trans ?_
    | (intro _)
    | split
theorem txAccepted_outside (k : Nat) (s : State) (msk : Nat) (hm : 65146064089088 &&& msk = 65146064089088) :
    (txAccepted k s).outside msk = s.outside msk := by
  unfold txAccepted
  try dsimp only
  repeat' first
    | with_reducible rfl
    | with_reducible refine ite_outside ?_ ?_
    | with_reducible refine (State.epOn_outside _ _ _ msk (sub_trans hm rfl)).trans ?_
    | with_reducible refine (advanceTog_outside _ _ msk (sub_trans hm rfl)).trans ?_
    | with_reducible refine (epBump_outside _ _ msk (sub_trans hm rfl)).trans ?_
    | with_reducible refine (epSettle_outside _ _ msk (sub_trans hm rfl)).trans ?_
    | with_reducible refine (failRun_outside _ _ _ msk (sub_trans hm rfl)).trans ?_
    | with_reducible refine (moveBytes_outside _ _ _ _ msk (sub_trans hm rfl)).trans ?_
    | with_reducible refine (setupDone_outside _ _ msk (sub_trans hm rfl)).trans ?_
    | with_reducible refine (statusDone_outside _ _ msk (sub_trans hm rfl)).trans ?_
    | with_reducible refine (tallyAdd_outside _ _ _ _ msk (sub_trans hm rfl)).trans ?_
    | split
theorem txHeld_outside (k : Nat) (nak : Bool) (s : State) (msk : Nat) (hm : 64871186178048 &&& msk = 64871186178048) :
    (txHeld k nak s).outside msk = s.outside msk := by
  unfold txHeld
  try dsimp only
  repeat' first
    | with_reducible rfl
    | with_reducible refine ite_outside ?_ ?_
    | with_reducible refine (State.epOn_outside _ _ _ msk (sub_trans hm rfl)).trans ?_
    | with_reducible refine (failRun_outside _ _ _ msk (sub_trans hm rfl)).trans ?_
    | split

/-! ### Sched -/

theorem isoLate_outside (k u : Nat) (s : State) (msk : Nat) (hm : 64871186178048 &&& msk = 64871186178048) :
    (isoLate k u s).outside msk = s.outside msk := by
  unfold isoLate
  try dsimp only
  repeat' first
    | with_reducible rfl
    | with_reducible refine ite_outside ?_ ?_
    | with_reducible refine (epBump_outside _ _ msk (sub_trans hm rfl)).trans ?_
    | with_reducible refine (epSettle_outside _ _ msk (sub_trans hm rfl)).trans ?_
    | with_reducible refine (forEach_outside _ _ _ msk ?_).trans ?_
    | with_reducible refine (retireHead_outside _ _ msk (sub_trans hm rfl)).trans ?_
    | with_reducible refine (xferPost_outside _ _ _ _ _ _ _ _ msk (sub_trans hm rfl)).trans ?_
    | (intro _)
    | split
theorem isoMiss_outside (k : Nat) (s : State) (msk : Nat) (hm : 64871186178048 &&& msk = 64871186178048) :
    (isoMiss k s).outside msk = s.outside msk := by
  unfold isoMiss
  try dsimp only
  repeat' first
    | with_reducible rfl
    | with_reducible refine (State.epOn_outside _ _ _ msk (sub_trans hm rfl)).trans ?_
    | with_reducible refine (epBump_outside _ _ msk (sub_trans hm rfl)).trans ?_
    | with_reducible refine (epSettle_outside _ _ msk (sub_trans hm rfl)).trans ?_
    | with_reducible refine (retireHead_outside _ _ msk (sub_trans hm rfl)).trans ?_
theorem entryLost_outside (x : WinEntry) (s : State) (msk : Nat) (hm : 64871186178048 &&& msk = 64871186178048) :
    (entryLost x s).outside msk = s.outside msk := by
  unfold entryLost
  try dsimp only
  repeat' first
    | with_reducible rfl
    | with_reducible refine ite_outside ?_ ?_
    | with_reducible refine (State.epOn_outside _ _ _ msk (sub_trans hm rfl)).trans ?_
    | with_reducible refine (isoDone_outside _ _ _ msk (sub_trans hm rfl)).trans ?_
    | with_reducible refine (isoLate_outside _ _ _ msk (sub_trans hm rfl)).trans ?_
    | with_reducible refine (isoMiss_outside _ _ msk (sub_trans hm rfl)).trans ?_
    | split
theorem doWindowBuild_outside (p : Port) (s : State) (msk : Nat) (hm : 131072 &&& msk = 131072) :
    (doWindowBuild p s).outside msk = s.outside msk := by
  unfold doWindowBuild
  try dsimp only
  repeat' first
    | with_reducible rfl
    | with_reducible refine ite_outside ?_ ?_
    | with_reducible refine (State.busOn_outside _ _ _ msk (sub_trans hm rfl)).trans ?_
    | split
theorem doWindowLoadPoint_outside (p : Port) (s : State) (msk : Nat) (hm : 64972834943002 &&& msk = 64972834943002) :
    (doWindowLoadPoint p s).outside msk = s.outside msk := by
  unfold doWindowLoadPoint
  try dsimp only
  repeat' first
    | with_reducible rfl
    | with_reducible refine ite_outside ?_ ?_
    | with_reducible refine (State.busOn_outside _ _ _ msk (sub_trans hm rfl)).trans ?_
    | with_reducible refine (entryLost_outside _ _ msk (sub_trans hm rfl)).trans ?_
    | with_reducible refine (forEach_outside _ _ _ msk ?_).trans ?_
    | with_reducible refine (raiseFault_outside _ _ _ _ _ _ _ msk (sub_trans hm rfl)).trans ?_
    | (intro _)
    | split
theorem isoClose_outside (k : Nat) (s : State) (msk : Nat) (hm : 64871186178058 &&& msk = 64871186178058) :
    (isoClose k s).outside msk = s.outside msk := by
  unfold isoClose
  try dsimp only
  repeat' first
    | with_reducible rfl
    | with_reducible refine ite_outside ?_ ?_
    | with_reducible refine (State.epOn_outside _ _ _ msk (sub_trans hm rfl)).trans ?_
    | with_reducible refine (afterXact_outside _ _ msk (sub_trans hm rfl)).trans ?_
    | with_reducible refine (claimIso_outside _ _ msk (sub_trans hm rfl)).trans ?_
    | with_reducible refine (epSettle_outside _ _ msk (sub_trans hm rfl)).trans ?_
    | with_reducible refine (isoDone_outside _ _ _ msk (sub_trans hm rfl)).trans ?_
    | split
theorem isoSend_outside (k : Nat) (v0 : Nat) (s : State) (msk : Nat) (hm : 65146064084992 &&& msk = 65146064084992) :
    (isoSend k v0 s).outside msk = s.outside msk := by
  induction v0 generalizing s with
  | zero => rfl
  | succ n ih =>
    unfold isoSend
    try dsimp only
    repeat' first
      | with_reducible rfl
      | with_reducible refine (ih _ ).trans ?_
      | with_reducible refine ite_outside ?_ ?_
      | with_reducible refine (State.epOn_outside _ _ _ msk (sub_trans hm rfl)).trans ?_
      | with_reducible refine (State.send_outside _ _ _ msk (sub_trans hm rfl)).trans ?_
      | with_reducible refine (epSettle_outside _ _ msk (sub_trans hm rfl)).trans ?_
      | with_reducible refine (isoDone_outside _ _ _ msk (sub_trans hm rfl)).trans ?_
      | with_reducible refine (tallyAdd_outside _ _ _ _ msk (sub_trans hm rfl)).trans ?_
      | split
theorem isoOut_outside (k : Nat) (s : State) (msk : Nat) (hm : 65146064084992 &&& msk = 65146064084992) :
    (isoOut k s).outside msk = s.outside msk := by
  unfold isoOut
  try dsimp only
  repeat' first
    | with_reducible rfl
    | with_reducible refine ite_outside ?_ ?_
    | with_reducible refine (State.send_outside _ _ _ msk (sub_trans hm rfl)).trans ?_
    | with_reducible refine (isoSend_outside _ _ _ msk (sub_trans hm rfl)).trans ?_
    | split
theorem isoPiece_outside (k i : Nat) (s : State) (msk : Nat) (hm : 65146064084992 &&& msk = 65146064084992) :
    (isoPiece k i s).outside msk = s.outside msk := by
  unfold isoPiece
  try dsimp only
  repeat' first
    | with_reducible rfl
    | with_reducible refine ite_outside ?_ ?_
    | with_reducible refine (State.epOn_outside _ _ _ msk (sub_trans hm rfl)).trans ?_
    | with_reducible refine (State.send_outside _ _ _ msk (sub_trans hm rfl)).trans ?_
    | with_reducible refine (epSettle_outside _ _ msk (sub_trans hm rfl)).trans ?_
    | with_reducible refine (isoDone_outside _ _ _ msk (sub_trans hm rfl)).trans ?_
    | with_reducible refine (tallyAdd_outside _ _ _ _ msk (sub_trans hm rfl)).trans ?_
    | split
theorem isoBegin_outside (k iv : Nat) (s : State) (msk : Nat) (hm : 65146064085002 &&& msk = 65146064085002) :
    (isoBegin k iv s).outside msk = s.outside msk := by
  unfold isoBegin
  try dsimp only
  repeat' first
    | with_reducible rfl
    | with_reducible refine ite_outside ?_ ?_
    | with_reducible refine (State.epOn_outside _ _ _ msk (sub_trans hm rfl)).trans ?_
    | with_reducible refine (isoClose_outside _ _ msk (sub_trans hm rfl)).trans ?_
    | with_reducible refine (isoEmptyPost_outside _ _ msk (sub_trans hm rfl)).trans ?_
    | with_reducible refine (isoLate_outside _ _ _ msk (sub_trans hm rfl)).trans ?_
    | with_reducible refine (isoMiss_outside _ _ msk (sub_trans hm rfl)).trans ?_
    | with_reducible refine (isoOut_outside _ _ msk (sub_trans hm rfl)).trans ?_
    | with_reducible refine (isoPiece_outside _ _ _ msk (sub_trans hm rfl)).trans ?_
    | with_reducible refine (missedPost_outside _ _ msk (sub_trans hm rfl)).trans ?_
    | with_reducible refine (startIn_outside _ _ msk (sub_trans hm rfl)).trans ?_
    | with_reducible refine (startSplit_outside _ _ _ msk (sub_trans hm rfl)).trans ?_
    | split
theorem isoNext_outside (k : Nat) (s : State) (msk : Nat) (hm : 65146064084992 &&& msk = 65146064084992) :
    (isoNext k s).outside msk = s.outside msk := by
  unfold isoNext
  try dsimp only
  repeat' first
    | with_reducible rfl
    | with_reducible refine ite_outside ?_ ?_
    | with_reducible refine (State.epOn_outside _ _ _ msk (sub_trans hm rfl)).trans ?_
    | with_reducible refine (isoDone_outside _ _ _ msk (sub_trans hm rfl)).trans ?_
    | with_reducible refine (isoOut_outside _ _ msk (sub_trans hm rfl)).trans ?_
    | with_reducible refine (startIn_outside _ _ msk (sub_trans hm rfl)).trans ?_
    | split
theorem serveIso_outside (x : WinEntry) (s : State) (msk : Nat) (hm : 65146064085002 &&& msk = 65146064085002) :
    (serveIso x s).outside msk = s.outside msk := by
  unfold serveIso
  try dsimp only
  repeat' first
    | with_reducible rfl
    | with_reducible refine ite_outside ?_ ?_
    | with_reducible refine (completeSplit_outside _ _ msk (sub_trans hm rfl)).trans ?_
    | with_reducible refine (isoBegin_outside _ _ _ msk (sub_trans hm rfl)).trans ?_
    | with_reducible refine (isoNext_outside _ _ msk (sub_trans hm rfl)).trans ?_
    | with_reducible refine (isoPiece_outside _ _ _ msk (sub_trans hm rfl)).trans ?_
    | split
theorem serveInt_outside (x : WinEntry) (s : State) (msk : Nat) (hm : 64871186046986 &&& msk = 64871186046986) :
    (serveInt x s).outside msk = s.outside msk := by
  unfold serveInt
  try dsimp only
  repeat' first
    | with_reducible rfl
    | with_reducible refine ite_outside ?_ ?_
    | with_reducible refine (State.epOn_outside _ _ _ msk (sub_trans hm rfl)).trans ?_
    | with_reducible refine (afterXact_outside _ _ msk (sub_trans hm rfl)).trans ?_
    | with_reducible refine (completeSplit_outside _ _ msk (sub_trans hm rfl)).trans ?_
    | with_reducible refine (missedPost_outside _ _ msk (sub_trans hm rfl)).trans ?_
    | with_reducible refine (startXact_outside _ _ msk (sub_trans hm rfl)).trans ?_
    | split
theorem timingPackets_outside (p : Nat) (s : State) (msk : Nat) (hm : 1099511627776 &&& msk = 1099511627776) :
    (timingPackets p s).outside msk = s.outside msk := by
  unfold timingPackets
  try dsimp only
  repeat' first
    | with_reducible rfl
    | with_reducible refine ite_outside ?_ ?_
    | with_reducible refine (State.emit_outside _ _ msk (sub_trans hm rfl)).trans ?_
    | split
theorem wakeLink_outside (k : Nat) (s : State) (msk : Nat) (hm : 1099511693312 &&& msk = 1099511693312) :
    (wakeLink k s).outside msk = s.outside msk := by
  unfold wakeLink
  try dsimp only
  repeat' first
    | with_reducible rfl
    | with_reducible refine ite_outside ?_ ?_
    | with_reducible refine (State.emit_outside _ _ msk (sub_trans hm rfl)).trans ?_
    | with_reducible refine (State.send_outside _ _ _ msk (sub_trans hm rfl)).trans ?_
    | with_reducible refine (State.sideOn_outside _ _ _ _ msk (sub_trans hm rfl)).trans ?_
    | split
theorem serveEntry_outside (x : WinEntry) (s : State) (msk : Nat) (hm : 65146064150538 &&& msk = 65146064150538) :
    (serveEntry x s).outside msk = s.outside msk := by
  unfold serveEntry
  try dsimp only
  repeat' first
    | with_reducible rfl
    | with_reducible refine ite_outside ?_ ?_
    | with_reducible refine (serveInt_outside _ _ msk (sub_trans hm rfl)).trans ?_
    | with_reducible refine (serveIso_outside _ _ msk (sub_trans hm rfl)).trans ?_
    | with_reducible refine (wakeLink_outside _ _ msk (sub_trans hm rfl)).trans ?_
    | split
theorem runAsync_outside (p : Nat) (sd : Side) (v0 : Nat) (s : State) (msk : Nat) (hm : 1099511832576 &&& msk = 1099511832576) :
    (runAsync p sd v0 s).outside msk = s.outside msk := by
  induction v0 generalizing s with
  | zero => rfl
  | succ n ih =>
    unfold runAsync
    try dsimp only
    repeat' first
      | with_reducible rfl
      | with_reducible refine (ih _ ).trans ?_
      | with_reducible refine ite_outside ?_ ?_
      | with_reducible refine (State.busOn_outside _ _ _ msk (sub_trans hm rfl)).trans ?_
      | with_reducible refine (completeSplit_outside _ _ msk (sub_trans hm rfl)).trans ?_
      | with_reducible refine (startXact_outside _ _ msk (sub_trans hm rfl)).trans ?_
      | with_reducible refine (wakeLink_outside _ _ msk (sub_trans hm rfl)).trans ?_
      | split
theorem runEntries_outside (p : Nat) (sd : Side) (v0 : Nat) (s : State) (msk : Nat) (hm : 65146064150538 &&& msk = 65146064150538) :
    (runEntries p sd v0 s).outside msk = s.outside msk := by
  induction v0 generalizing s with
  | zero => rfl
  | succ n ih =>
    unfold runEntries
    try dsimp only
    repeat' first
      | with_reducible rfl
      | with_reducible refine (ih _ ).trans ?_
      | with_reducible refine ite_outside ?_ ?_
      | with_reducible refine (State.busOn_outside _ _ _ msk (sub_trans hm rfl)).trans ?_
      | with_reducible refine (runAsync_outside _ _ _ _ msk (sub_trans hm rfl)).trans ?_
      | with_reducible refine (serveEntry_outside _ _ msk (sub_trans hm rfl)).trans ?_
      | split
theorem busRun_outside (p : Nat) (sd : Side) (s : State) (msk : Nat) (hm : 65146064150538 &&& msk = 65146064150538) :
    (busRun p sd s).outside msk = s.outside msk := by
  unfold busRun
  try dsimp only
  repeat' first
    | with_reducible rfl
    | with_reducible refine ite_outside ?_ ?_
    | with_reducible refine (runEntries_outside _ _ _ _ msk (sub_trans hm rfl)).trans ?_
    | split
theorem onward_outside (k : Nat) (s : State) (msk : Nat) (hm : 65146064150538 &&& msk = 65146064150538) :
    (onward k s).outside msk = s.outside msk := by
  unfold onward
  try dsimp only
  repeat' first
    | with_reducible rfl
    | with_reducible refine ite_outside ?_ ?_
    | with_reducible refine (busRun_outside _ _ _ msk (sub_trans hm rfl)).trans ?_
    | split
theorem pingAhead_outside (p : Nat) (s : State) (msk : Nat) (hm : 1099511693312 &&& msk = 1099511693312) :
    (pingAhead p s).outside msk = s.outside msk := by
  unfold pingAhead
  try dsimp only
  repeat' first
    | with_reducible rfl
    | with_reducible refine ite_outside ?_ ?_
    | with_reducible refine (forEach_outside _ _ _ msk ?_).trans ?_
    | with_reducible refine (wakeLink_outside _ _ msk (sub_trans hm rfl)).trans ?_
    | (intro _)
    | split
theorem takeWindow_outside (p : Nat) (s : State) (msk : Nat) (hm : 131072 &&& msk = 131072) :
    (takeWindow p s).outside msk = s.outside msk := by
  unfold takeWindow
  try dsimp only
  repeat' first
    | with_reducible rfl
    | with_reducible refine (State.busOn_outside _ _ _ msk (sub_trans hm rfl)).trans ?_
    | split
theorem doMicroframeStart_outside (p : Port) (s : State) (msk : Nat) (hm : 65146064150538 &&& msk = 65146064150538) :
    (doMicroframeStart p s).outside msk = s.outside msk := by
  unfold doMicroframeStart
  try dsimp only
  repeat' first
    | with_reducible rfl
    | with_reducible refine ite_outside ?_ ?_
    | with_reducible refine (State.busOn_outside _ _ _ msk (sub_trans hm rfl)).trans ?_
    | with_reducible refine (State.epOn_outside _ _ _ msk (sub_trans hm rfl)).trans ?_
    | with_reducible refine (busRun_outside _ _ _ msk (sub_trans hm rfl)).trans ?_
    | with_reducible refine (entryLost_outside _ _ msk (sub_trans hm rfl)).trans ?_
    | with_reducible refine (forEach_outside _ _ _ msk ?_).trans ?_
    | with_reducible refine (pingAhead_outside _ _ msk (sub_trans hm rfl)).trans ?_
    | with_reducible refine (takeWindow_outside _ _ msk (sub_trans hm rfl)).trans ?_
    | with_reducible refine (timingPackets_outside _ _ msk (sub_trans hm rfl)).trans ?_
    | (intro _)
    | split

/-! ### Faults -/

theorem doFaultLineRaised_outside (r : FaultRep) (s : State) (msk : Nat) (hm : 65522859193370 &&& msk = 65522859193370) :
    (doFaultLineRaised r s).outside msk = s.outside msk := by
  unfold doFaultLineRaised
  try dsimp only
  repeat' first
    | with_reducible rfl
    | with_reducible refine (unitFault_outside _ _ _ msk (sub_trans hm rfl)).trans ?_
theorem doFaultLineBroken_outside (n : Src) (v : Bool) (s : State) (msk : Nat) (hm : 64972834943002 &&& msk = 64972834943002) :
    (doFaultLineBroken n v s).outside msk = s.outside msk := by
  unfold doFaultLineBroken
  try dsimp only
  repeat' first
    | with_reducible rfl
    | with_reducible refine ite_outside ?_ ?_
    | with_reducible refine (State.fltSrcOn_outside _ _ _ msk (sub_trans hm rfl)).trans ?_
    | with_reducible refine (fltCause_outside _ _ _ msk (sub_trans hm rfl)).trans ?_
    | split
theorem thermalEnd_outside (die : Nat) (s : State) (msk : Nat) (hm : 64875652919306 &&& msk = 64875652919306) :
    (thermalEnd die s).outside msk = s.outside msk := by
  unfold thermalEnd
  try dsimp only
  repeat' first
    | with_reducible rfl
    | with_reducible refine ite_outside ?_ ?_
    | with_reducible refine (State.bedOn_outside _ _ _ msk (sub_trans hm rfl)).trans ?_
    | with_reducible refine (forEach_outside _ _ _ msk ?_).trans ?_
    | with_reducible refine (hvUp_outside _ _ _ msk (sub_trans hm rfl)).trans ?_
    | with_reducible refine (lineQuiet_outside _ _ msk (sub_trans hm rfl)).trans ?_
    | (intro _)
    | split
theorem doFaultLineQuiet_outside (n : Src) (s : State) (msk : Nat) (hm : 64875652919306 &&& msk = 64875652919306) :
    (doFaultLineQuiet n s).outside msk = s.outside msk := by
  unfold doFaultLineQuiet
  try dsimp only
  repeat' first
    | with_reducible rfl
    | with_reducible refine ite_outside ?_ ?_
    | with_reducible refine (State.fltSrcOn_outside _ _ _ msk (sub_trans hm rfl)).trans ?_
    | with_reducible refine (thermalEnd_outside _ _ msk (sub_trans hm rfl)).trans ?_
    | split
theorem rebuildWindows_outside (p : Nat) (s : State) (msk : Nat) (hm : 64871186178048 &&& msk = 64871186178048) :
    (rebuildWindows p s).outside msk = s.outside msk := by
  unfold rebuildWindows
  try dsimp only
  repeat' first
    | with_reducible rfl
    | with_reducible refine ite_outside ?_ ?_
    | with_reducible refine (State.busOn_outside _ _ _ msk (sub_trans hm rfl)).trans ?_
    | with_reducible refine (entryLost_outside _ _ msk (sub_trans hm rfl)).trans ?_
    | with_reducible refine (forEach_outside _ _ _ msk ?_).trans ?_
    | (intro _)
    | split
theorem kickPort_outside (p : Nat) (s : State) (msk : Nat) (hm : 64871186178058 &&& msk = 64871186178058) :
    (kickPort p s).outside msk = s.outside msk := by
  unfold kickPort
  try dsimp only
  repeat' first
    | with_reducible rfl
    | with_reducible refine (afterXact_outside _ _ msk (sub_trans hm rfl)).trans ?_
    | with_reducible refine (forEach_outside _ _ _ msk ?_).trans ?_
    | with_reducible refine (rebuildWindows_outside _ _ msk (sub_trans hm rfl)).trans ?_
    | (intro _)
theorem doPortHoldDone_outside (p : Port) (s : State) (msk : Nat) (hm : 64875481210890 &&& msk = 64875481210890) :
    (doPortHoldDone p s).outside msk = s.outside msk := by
  unfold doPortHoldDone
  try dsimp only
  repeat' first
    | with_reducible rfl
    | with_reducible refine (faultEvent_outside _ _ _ _ msk (sub_trans hm rfl)).trans ?_
    | with_reducible refine (kickPort_outside _ _ msk (sub_trans hm rfl)).trans ?_
    | with_reducible refine (portHoldEnd_outside _ _ msk (sub_trans hm rfl)).trans ?_
    | split
theorem restartSide_outside (p : Nat) (sd : Side) (s : State) (msk : Nat) (hm : 64871186243594 &&& msk = 64871186243594) :
    (restartSide p sd s).outside msk = s.outside msk := by
  unfold restartSide
  try dsimp only
  repeat' first
    | with_reducible rfl
    | with_reducible refine ite_outside ?_ ?_
    | with_reducible refine (errorSide_outside _ _ _ _ _ msk (sub_trans hm rfl)).trans ?_
    | with_reducible refine (startResume_outside _ _ _ _ msk (sub_trans hm rfl)).trans ?_
    | split
theorem doBedRestartDone_outside (b : Bed) (s : State) (msk : Nat) (hm : 64871187816474 &&& msk = 64871187816474) :
    (doBedRestartDone b s).outside msk = s.outside msk := by
  unfold doBedRestartDone
  try dsimp only
  repeat' first
    | with_reducible rfl
    | with_reducible refine ite_outside ?_ ?_
    | with_reducible refine (State.epOn_outside _ _ _ msk (sub_trans hm rfl)).trans ?_
    | with_reducible refine (forEach_outside _ _ _ msk ?_).trans ?_
    | with_reducible refine (restartSide_outside _ _ _ msk (sub_trans hm rfl)).trans ?_
    | with_reducible refine (softReset_outside _ _ _ _ msk (sub_trans hm rfl)).trans ?_
    | (intro _)
    | split
theorem endBedResume_outside (p : Nat) (sd : Side) (s : State) (msk : Nat) (hm : 64871186235400 &&& msk = 64871186235400) :
    (endBedResume p sd s).outside msk = s.outside msk := by
  unfold endBedResume
  try dsimp only
  repeat' first
    | with_reducible rfl
    | with_reducible refine ite_outside ?_ ?_
    | with_reducible refine (endResume_outside _ _ _ msk (sub_trans hm rfl)).trans ?_
    | split
theorem doBedIsolateDone_outside (b : Bed) (s : State) (msk : Nat) (hm : 64972834943002 &&& msk = 64972834943002) :
    (doBedIsolateDone b s).outside msk = s.outside msk := by
  unfold doBedIsolateDone
  try dsimp only
  repeat' first
    | with_reducible rfl
    | with_reducible refine ite_outside ?_ ?_
    | with_reducible refine (State.bedOn_outside _ _ _ msk (sub_trans hm rfl)).trans ?_
    | with_reducible refine (ccLook_outside _ _ msk (sub_trans hm rfl)).trans ?_
    | with_reducible refine (endBedResume_outside _ _ _ msk (sub_trans hm rfl)).trans ?_
    | with_reducible refine (faultEvent_outside _ _ _ _ msk (sub_trans hm rfl)).trans ?_
    | with_reducible refine (forEach_outside _ _ _ msk ?_).trans ?_
    | with_reducible refine (kickPort_outside _ _ msk (sub_trans hm rfl)).trans ?_
    | with_reducible refine (pathResume_outside _ _ msk (sub_trans hm rfl)).trans ?_
    | with_reducible refine (rotServe_outside _ msk (sub_trans hm rfl)).trans ?_
    | simp only [set_flt_outside _ _ msk (sub_trans hm rfl)]
    | (intro _)
    | split
theorem doCollectorMismatch_outside (s : State) (msk : Nat) (hm : 65522859193370 &&& msk = 65522859193370) :
    (doCollectorMismatch s).outside msk = s.outside msk := by
  unfold doCollectorMismatch
  try dsimp only
  repeat' first
    | with_reducible rfl
    | with_reducible refine (unitOnce_outside _ _ _ _ _ msk (sub_trans hm rfl)).trans ?_
    | simp only [set_flt_outside _ _ msk (sub_trans hm rfl)]
theorem doCollectorRebuildDone_outside (s : State) (msk : Nat) (hm : 64972834943002 &&& msk = 64972834943002) :
    (doCollectorRebuildDone s).outside msk = s.outside msk := by
  unfold doCollectorRebuildDone
  try dsimp only
  repeat' first
    | with_reducible rfl
    | with_reducible refine ite_outside ?_ ?_
    | with_reducible refine (fltDeferred_outside _ msk (sub_trans hm rfl)).trans ?_
    | simp only [set_flt_outside _ _ msk (sub_trans hm rfl)]
    | split
theorem doContextRebuildDone_outside (e : EpRef) (s : State) (msk : Nat) (hm : 64871186243594 &&& msk = 64871186243594) :
    (doContextRebuildDone e s).outside msk = s.outside msk := by
  unfold doContextRebuildDone
  try dsimp only
  repeat' first
    | with_reducible rfl
    | with_reducible refine ite_outside ?_ ?_
    | with_reducible refine (State.emit_outside _ _ msk (sub_trans hm rfl)).trans ?_
    | with_reducible refine (State.epOn_outside _ _ _ msk (sub_trans hm rfl)).trans ?_
    | with_reducible refine (afterXact_outside _ _ msk (sub_trans hm rfl)).trans ?_
    | with_reducible refine (forEach_outside _ _ _ msk ?_).trans ?_
    | with_reducible refine (handOver_outside _ _ _ msk (sub_trans hm rfl)).trans ?_
    | with_reducible refine (pauseNow_outside _ _ _ msk (sub_trans hm rfl)).trans ?_
    | (intro _)
    | split

/-! ### Supply -/

theorem holdReset_outside (s : State) (msk : Nat) (hm : 256 &&& msk = 256) :
    (holdReset s).outside msk = s.outside msk := by
  unfold holdReset
  try dsimp only
  repeat' first
    | with_reducible rfl
    | with_reducible refine (supOn_outside _ _ msk (sub_trans hm rfl)).trans ?_
theorem doPowerOn_outside (vddIoHigh : Bool) (vm : VoutMode) (s : State) (msk : Nat) (hm : 65970697666430 &&& msk = 65970697666430) :
    (doPowerOn vddIoHigh vm s).outside msk = s.outside msk := by
  unfold doPowerOn
  try dsimp only
  repeat' first
    | with_reducible rfl
    | with_reducible refine ite_outside ?_ ?_
    | with_reducible refine (almEvent_outside _ _ _ _ _ msk (sub_trans hm rfl)).trans ?_
    | with_reducible refine (bootOn_outside _ _ msk (sub_trans hm rfl)).trans ?_
    | with_reducible refine (holdReset_outside _ msk (sub_trans hm rfl)).trans ?_
    | with_reducible refine (supOn_outside _ _ msk (sub_trans hm rfl)).trans ?_
    | with_reducible refine (unitOnce_outside _ _ _ _ _ msk (sub_trans hm rfl)).trans ?_
    | with_reducible refine (wipe_outside _ _ _ _ msk (sub_trans hm rfl)).trans ?_
    | split
theorem enterReset_outside (s : State) (msk : Nat) (hm : 64871186038654 &&& msk = 64871186038654) :
    (enterReset s).outside msk = s.outside msk := by
  unfold enterReset
  try dsimp only
  repeat' first
    | with_reducible rfl
    | with_reducible refine ite_outside ?_ ?_
    | with_reducible refine (holdReset_outside _ msk (sub_trans hm rfl)).trans ?_
    | with_reducible refine (resetAs_outside _ _ msk (sub_trans hm rfl)).trans ?_
    | split
theorem doSupplyMainLow_outside (r : MainRail) (s : State) (msk : Nat) (hm : 64871186038654 &&& msk = 64871186038654) :
    (doSupplyMainLow r s).outside msk = s.outside msk := by
  unfold doSupplyMainLow
  try dsimp only
  repeat' first
    | with_reducible rfl
    | with_reducible refine ite_outside ?_ ?_
    | with_reducible refine (enterReset_outside _ msk (sub_trans hm rfl)).trans ?_
    | with_reducible refine (supOn_outside _ _ msk (sub_trans hm rfl)).trans ?_
    | split
theorem bootRelease_outside (s : State) (msk : Nat) (hm : 64871186038782 &&& msk = 64871186038782) :
    (bootRelease s).outside msk = s.outside msk := by
  unfold bootRelease
  try dsimp only
  repeat' first
    | with_reducible rfl
    | with_reducible refine (almEvent_outside _ _ _ _ _ msk (sub_trans hm rfl)).trans ?_
    | with_reducible refine (almJournal_outside _ msk (sub_trans hm rfl)).trans ?_
    | with_reducible refine (lcCommit_outside _ msk (sub_trans hm rfl)).trans ?_
    | with_reducible refine (supOn_outside _ _ msk (sub_trans hm rfl)).trans ?_
theorem doSupplyMainRecovered_outside (s : State) (msk : Nat) (hm : 64871186038782 &&& msk = 64871186038782) :
    (doSupplyMainRecovered s).outside msk = s.outside msk := by
  unfold doSupplyMainRecovered
  try dsimp only
  repeat' first
    | with_reducible rfl
    | with_reducible refine ite_outside ?_ ?_
    | with_reducible refine (bootRelease_outside _ msk (sub_trans hm rfl)).trans ?_
    | with_reducible refine (supOn_outside _ _ msk (sub_trans hm rfl)).trans ?_
    | split
theorem doPerstAssert_outside (s : State) (msk : Nat) (hm : 64871186038654 &&& msk = 64871186038654) :
    (doPerstAssert s).outside msk = s.outside msk := by
  unfold doPerstAssert
  try dsimp only
  repeat' first
    | with_reducible rfl
    | with_reducible refine (enterReset_outside _ msk (sub_trans hm rfl)).trans ?_
    | with_reducible refine (supOn_outside _ _ msk (sub_trans hm rfl)).trans ?_
theorem doPerstRelease_outside (s : State) (msk : Nat) (hm : 64871186038782 &&& msk = 64871186038782) :
    (doPerstRelease s).outside msk = s.outside msk := by
  unfold doPerstRelease
  try dsimp only
  repeat' first
    | with_reducible rfl
    | with_reducible refine ite_outside ?_ ?_
    | with_reducible refine (bootRelease_outside _ msk (sub_trans hm rfl)).trans ?_
    | with_reducible refine (supOn_outside _ _ msk (sub_trans hm rfl)).trans ?_
    | split
theorem doConventionalReset_outside (_k : LinkResetKind) (s : State) (msk : Nat) (hm : 64871186038782 &&& msk = 64871186038782) :
    (doConventionalReset _k s).outside msk = s.outside msk := by
  unfold doConventionalReset
  try dsimp only
  repeat' first
    | with_reducible rfl
    | with_reducible refine ite_outside ?_ ?_
    | with_reducible refine (bootStart_outside _ msk (sub_trans hm rfl)).trans ?_
    | with_reducible refine (holdReset_outside _ msk (sub_trans hm rfl)).trans ?_
    | with_reducible refine (resetAs_outside _ _ msk (sub_trans hm rfl)).trans ?_
    | split
theorem doFlrPf_outside (s : State) (msk : Nat) (hm : 64871186038782 &&& msk = 64871186038782) :
    (doFlrPf s).outside msk = s.outside msk := by
  unfold doFlrPf
  try dsimp only
  repeat' first
    | with_reducible rfl
    | with_reducible refine ite_outside ?_ ?_
    | with_reducible refine (bootStart_outside _ msk (sub_trans hm rfl)).trans ?_
    | with_reducible refine (resetAs_outside _ _ msk (sub_trans hm rfl)).trans ?_
    | with_reducible refine (supOn_outside _ _ msk (sub_trans hm rfl)).trans ?_
    | split
theorem hvLost_outside (p : Nat) (s : State) (msk : Nat) (hm : 65522859193882 &&& msk = 65522859193882) :
    (hvLost p s).outside msk = s.outside msk := by
  unfold hvLost
  try dsimp only
  repeat' first
    | with_reducible rfl
    | with_reducible refine ite_outside ?_ ?_
    | with_reducible refine (hvDown_outside _ _ _ msk (sub_trans hm rfl)).trans ?_
    | with_reducible refine (portSafe_outside _ _ msk (sub_trans hm rfl)).trans ?_
    | with_reducible refine (unitFault_outside _ _ _ msk (sub_trans hm rfl)).trans ?_
    | simp only [set_boot_outside _ _ msk (sub_trans hm rfl)]
    | split
theorem doVddHvLow_outside (s : State) (msk : Nat) (hm : 65522859194138 &&& msk = 65522859194138) :
    (doVddHvLow s).outside msk = s.outside msk := by
  unfold doVddHvLow
  try dsimp only
  repeat' first
    | with_reducible rfl
    | with_reducible refine ite_outside ?_ ?_
    | with_reducible refine (forEach_outside _ _ _ msk ?_).trans ?_
    | with_reducible refine (hvLost_outside _ _ msk (sub_trans hm rfl)).trans ?_
    | with_reducible refine (supOn_outside _ _ msk (sub_trans hm rfl)).trans ?_
    | (intro _)
    | split
theorem hvBack_outside (p : Nat) (s : State) (msk : Nat) (hm : 64875619364874 &&& msk = 64875619364874) :
    (hvBack p s).outside msk = s.outside msk := by
  unfold hvBack
  try dsimp only
  repeat' first
    | with_reducible rfl
    | with_reducible refine ite_outside ?_ ?_
    | with_reducible refine (hvUp_outside _ _ _ msk (sub_trans hm rfl)).trans ?_
    | with_reducible refine (lineQuiet_outside _ _ msk (sub_trans hm rfl)).trans ?_
    | split
theorem doVddHvReturn_outside (s : State) (msk : Nat) (hm : 64875619365130 &&& msk = 64875619365130) :
    (doVddHvReturn s).outside msk = s.outside msk := by
  unfold doVddHvReturn
  try dsimp only
  repeat' first
    | with_reducible rfl
    | with_reducible refine ite_outside ?_ ?_
    | with_reducible refine (forEach_outside _ _ _ msk ?_).trans ?_
    | with_reducible refine (hvBack_outside _ _ msk (sub_trans hm rfl)).trans ?_
    | with_reducible refine (supOn_outside _ _ msk (sub_trans hm rfl)).trans ?_
    | (intro _)
    | split
theorem doVconnInLow_outside (s : State) (msk : Nat) (hm : 69370881454106 &&& msk = 69370881454106) :
    (doVconnInLow s).outside msk = s.outside msk := by
  unfold doVconnInLow
  try dsimp only
  repeat' first
    | with_reducible rfl
    | with_reducible refine (forEach_outside _ _ _ msk ?_).trans ?_
    | with_reducible refine (vconnTrip_outside _ _ _ msk (sub_trans hm rfl)).trans ?_
    | (intro _)
theorem doRetentionLost_outside (s : State) (msk : Nat) (hm : 64888642941466 &&& msk = 64888642941466) :
    (doRetentionLost s).outside msk = s.outside msk := by
  unfold doRetentionLost
  try dsimp only
  repeat' first
    | with_reducible rfl
    | with_reducible refine (State.fldPut_outside _ _ _ _ _ msk (sub_trans hm rfl)).trans ?_
    | with_reducible refine (almEvent_outside _ _ _ _ _ msk (sub_trans hm rfl)).trans ?_
    | with_reducible refine (bootOn_outside _ _ msk (sub_trans hm rfl)).trans ?_
    | with_reducible refine (modeOn_outside _ _ msk (sub_trans hm rfl)).trans ?_
    | with_reducible refine (wake_outside _ _ msk (sub_trans hm rfl)).trans ?_
theorem doRefclk25Lost_outside (s : State) (msk : Nat) (hm : 65522859193626 &&& msk = 65522859193626) :
    (doRefclk25Lost s).outside msk = s.outside msk := by
  unfold doRefclk25Lost
  try dsimp only
  repeat' first
    | with_reducible rfl
    | with_reducible refine ite_outside ?_ ?_
    | with_reducible refine (supOn_outside _ _ msk (sub_trans hm rfl)).trans ?_
    | with_reducible refine (unitFault_outside _ _ _ msk (sub_trans hm rfl)).trans ?_
    | split
theorem doRefclk25Restored_outside (s : State) (msk : Nat) (hm : 4294967552 &&& msk = 4294967552) :
    (doRefclk25Restored s).outside msk = s.outside msk := by
  unfold doRefclk25Restored
  try dsimp only
  repeat' first
    | with_reducible rfl
    | with_reducible refine ite_outside ?_ ?_
    | with_reducible refine (lineQuiet_outside _ _ msk (sub_trans hm rfl)).trans ?_
    | with_reducible refine (supOn_outside _ _ msk (sub_trans hm rfl)).trans ?_
    | split

/-! ### Almanac -/

theorem doReadAlmanacSlots_outside (c : Instr) (h : CmdHdr) (q : Params) (s : State) (msk : Nat) (hm : 64871186038786 &&& msk = 64871186038786) :
    (doReadAlmanacSlots c h q s).outside msk = s.outside msk := by
  unfold doReadAlmanacSlots
  try dsimp only
  repeat' first
    | with_reducible rfl
    | with_reducible refine (State.emit_outside _ _ msk (sub_trans hm rfl)).trans ?_
    | with_reducible refine (cmdDone_outside _ _ _ _ _ _ msk (sub_trans hm rfl)).trans ?_
    | with_reducible refine (pfCmd_outside _ _ _ _ _ _ _ _ msk (sub_trans hm rfl) ?_).trans ?_
    | (intro _)
theorem doReadAlmanacInfo_outside (c : Instr) (h : CmdHdr) (q : Params) (s : State) (msk : Nat) (hm : 64871186038786 &&& msk = 64871186038786) :
    (doReadAlmanacInfo c h q s).outside msk = s.outside msk := by
  unfold doReadAlmanacInfo
  try dsimp only
  repeat' first
    | with_reducible rfl
    | with_reducible refine (State.emit_outside _ _ msk (sub_trans hm rfl)).trans ?_
    | with_reducible refine (cmdDone_outside _ _ _ _ _ _ msk (sub_trans hm rfl)).trans ?_
    | with_reducible refine (pfCmd_outside _ _ _ _ _ _ _ _ msk (sub_trans hm rfl) ?_).trans ?_
    | (intro _)
theorem smbReply_outside (bs : List Byte) (s : State) (msk : Nat) (hm : 1099511627776 &&& msk = 1099511627776) :
    (smbReply bs s).outside msk = s.outside msk := by
  unfold smbReply
  try dsimp only
  repeat' first
    | with_reducible rfl
    | with_reducible refine ite_outside ?_ ?_
    | with_reducible refine (State.emit_outside _ _ msk (sub_trans hm rfl)).trans ?_
    | split
theorem doSmbusAlmanacSelect_outside (n : Nat) (s : State) (msk : Nat) (hm : 68719476736 &&& msk = 68719476736) :
    (doSmbusAlmanacSelect n s).outside msk = s.outside msk := by
  unfold doSmbusAlmanacSelect
  try dsimp only
  repeat' first
    | with_reducible rfl
    | with_reducible refine ite_outside ?_ ?_
    | simp only [set_smb_outside _ _ msk (sub_trans hm rfl)]
    | split
theorem doSmbusAlmanacRead_outside (s : State) (msk : Nat) (hm : 1168231104512 &&& msk = 1168231104512) :
    (doSmbusAlmanacRead s).outside msk = s.outside msk := by
  unfold doSmbusAlmanacRead
  try dsimp only
  repeat' first
    | with_reducible rfl
    | with_reducible refine ite_outside ?_ ?_
    | with_reducible refine (smbReply_outside _ _ msk (sub_trans hm rfl)).trans ?_
    | simp only [set_smb_outside _ _ msk (sub_trans hm rfl)]
    | split
theorem doSmbusTelemetrySelect_outside (n : Nat) (s : State) (msk : Nat) (hm : 68719476736 &&& msk = 68719476736) :
    (doSmbusTelemetrySelect n s).outside msk = s.outside msk := by
  unfold doSmbusTelemetrySelect
  try dsimp only
  repeat' first
    | with_reducible rfl
    | with_reducible refine ite_outside ?_ ?_
    | simp only [set_smb_outside _ _ msk (sub_trans hm rfl)]
    | split
theorem timeOn_outside (g : Time → Time) (s : State) (msk : Nat) (hm : 34359738368 &&& msk = 34359738368) :
    (timeOn g s).outside msk = s.outside msk := by
  unfold timeOn
  try dsimp only
  repeat' first
    | with_reducible rfl
    | simp only [set_time_outside _ _ msk (sub_trans hm rfl)]
theorem tbStep_outside (host : Nat) (s : State) (msk : Nat) (hm : 34359738368 &&& msk = 34359738368) :
    (tbStep host s).outside msk = s.outside msk := by
  unfold tbStep
  try dsimp only
  repeat' first
    | with_reducible rfl
    | with_reducible refine (timeOn_outside _ _ msk (sub_trans hm rfl)).trans ?_
theorem doPtmResponse_outside (host : Nat) (s : State) (msk : Nat) (hm : 65557218931738 &&& msk = 65557218931738) :
    (doPtmResponse host s).outside msk = s.outside msk := by
  unfold doPtmResponse
  try dsimp only
  repeat' first
    | with_reducible rfl
    | with_reducible refine ite_outside ?_ ?_
    | with_reducible refine (tbStep_outside _ _ msk (sub_trans hm rfl)).trans ?_
    | with_reducible refine (timeOn_outside _ _ msk (sub_trans hm rfl)).trans ?_
    | with_reducible refine (unitOnce_outside _ _ _ _ _ msk (sub_trans hm rfl)).trans ?_
    | split
theorem bedCalm_outside (i v : Nat) (s : State) (msk : Nat) (hm : 33554432 &&& msk = 33554432) :
    (bedCalm i v s).outside msk = s.outside msk := by
  unfold bedCalm
  try dsimp only
  repeat' first
    | with_reducible rfl
    | with_reducible refine ite_outside ?_ ?_
    | with_reducible refine (State.bedOn_outside _ _ _ msk (sub_trans hm rfl)).trans ?_
    | split
theorem doTelemetryRefresh_outside (t : TeleSample) (s : State) (msk : Nat) (hm : 137474605056 &&& msk = 137474605056) :
    (doTelemetryRefresh t s).outside msk = s.outside msk := by
  unfold doTelemetryRefresh
  try dsimp only
  repeat' first
    | with_reducible rfl
    | with_reducible refine ite_outside ?_ ?_
    | with_reducible refine (State.pathOn_outside _ _ _ msk (sub_trans hm rfl)).trans ?_
    | with_reducible refine (bedCalm_outside _ _ _ msk (sub_trans hm rfl)).trans ?_
    | simp only [set_tele_outside _ _ msk (sub_trans hm rfl)]
    | split

/-! ### Pcie -/

theorem pcieOn_outside (g : Pcie → Pcie) (s : State) (msk : Nat) (hm : 8796093023232 &&& msk = 8796093023232) :
    (pcieOn g s).outside msk = s.outside msk := by
  unfold pcieOn
  try dsimp only
  repeat' first
    | with_reducible rfl
    | simp only [set_pcie_outside _ _ msk (sub_trans hm rfl)]
theorem pbaServe_outside (f v : Nat) (s : State) (msk : Nat) (hm : 9895604649984 &&& msk = 9895604649984) :
    (pbaServe f v s).outside msk = s.outside msk := by
  unfold pbaServe
  try dsimp only
  repeat' first
    | with_reducible rfl
    | with_reducible refine ite_outside ?_ ?_
    | with_reducible refine (State.emit_outside _ _ msk (sub_trans hm rfl)).trans ?_
    | with_reducible refine (State.vecOn_outside _ _ _ _ msk (sub_trans hm rfl)).trans ?_
    | split
theorem pbaAll_outside (f : Nat) (s : State) (msk : Nat) (hm : 9895604649984 &&& msk = 9895604649984) :
    (pbaAll f s).outside msk = s.outside msk := by
  unfold pbaAll
  try dsimp only
  repeat' first
    | with_reducible rfl
    | with_reducible refine (forEach_outside _ _ _ msk ?_).trans ?_
    | with_reducible refine (pbaServe_outside _ _ _ msk (sub_trans hm rfl)).trans ?_
    | (intro _)
theorem State.withoutFn_outside (s : State) (f : Nat) (msk : Nat) (hm : 8796093035534 &&& msk = 8796093035534) :
    (State.withoutFn s f).outside msk = s.outside msk := by
  unfold State.withoutFn
  try dsimp only
  repeat' first
    | with_reducible rfl
    | simp only [set_waiting_aside_ops_pcie_slots_eps_outside _ _ _ _ _ _ _ msk (sub_trans hm rfl)]
theorem flrSide_outside (p : Nat) (sd : Side) (s : State) (msk : Nat) (hm : 64871186116608 &&& msk = 64871186116608) :
    (flrSide p sd s).outside msk = s.outside msk := by
  unfold flrSide
  try dsimp only
  repeat' first
    | with_reducible rfl
    | with_reducible refine (State.sideOn_outside _ _ _ _ msk (sub_trans hm rfl)).trans ?_
    | with_reducible refine (driveReset_outside _ _ _ msk (sub_trans hm rfl)).trans ?_
    | split
theorem flrWipe_outside (f : Nat) (s : State) (msk : Nat) (hm : 64871199095838 &&& msk = 64871199095838) :
    (flrWipe f s).outside msk = s.outside msk := by
  unfold flrWipe
  try dsimp only
  repeat' first
    | with_reducible rfl
    | with_reducible refine (State.brgPut_outside _ _ _ msk (sub_trans hm rfl)).trans ?_
    | with_reducible refine (State.fldPut_outside _ _ _ _ _ msk (sub_trans hm rfl)).trans ?_
    | with_reducible refine (State.fnPut_outside _ _ _ msk (sub_trans hm rfl)).trans ?_
    | with_reducible refine (State.rput_outside _ _ _ msk (sub_trans hm rfl)).trans ?_
    | with_reducible refine (State.withoutFn_outside _ _ msk (sub_trans hm rfl)).trans ?_
    | with_reducible refine (capDrop_outside _ _ msk (sub_trans hm rfl)).trans ?_
    | with_reducible refine (closeGuest_outside _ _ msk (sub_trans hm rfl)).trans ?_
    | with_reducible refine (flrSide_outside _ _ _ msk (sub_trans hm rfl)).trans ?_
    | with_reducible refine (forEach_outside _ _ _ msk ?_).trans ?_
    | with_reducible refine (pruneWin_outside _ _ _ msk (sub_trans hm rfl)).trans ?_
    | (intro _)
theorem doFlrVf_outside (v : Vf) (s : State) (msk : Nat) (hm : 64871199095838 &&& msk = 64871199095838) :
    (doFlrVf v s).outside msk = s.outside msk := by
  unfold doFlrVf
  try dsimp only
  repeat' first
    | with_reducible rfl
    | with_reducible refine ite_outside ?_ ?_
    | with_reducible refine (flrWipe_outside _ _ msk (sub_trans hm rfl)).trans ?_
    | split
theorem doVfEnableSet_outside (s : State) (msk : Nat) (hm : 64871186248714 &&& msk = 64871186248714) :
    (doVfEnableSet s).outside msk = s.outside msk := by
  unfold doVfEnableSet
  try dsimp only
  repeat' first
    | with_reducible rfl
    | with_reducible refine ite_outside ?_ ?_
    | with_reducible refine (forEach_outside _ _ _ msk ?_).trans ?_
    | with_reducible refine (pcieOn_outside _ _ msk (sub_trans hm rfl)).trans ?_
    | with_reducible refine (refreshSides_outside _ _ msk (sub_trans hm rfl)).trans ?_
    | (intro _)
    | split
theorem doVfEnableClear_outside (s : State) (msk : Nat) (hm : 64871199095838 &&& msk = 64871199095838) :
    (doVfEnableClear s).outside msk = s.outside msk := by
  unfold doVfEnableClear
  try dsimp only
  repeat' first
    | with_reducible rfl
    | with_reducible refine ite_outside ?_ ?_
    | with_reducible refine (flrWipe_outside _ _ msk (sub_trans hm rfl)).trans ?_
    | with_reducible refine (forEach_outside _ _ _ msk ?_).trans ?_
    | with_reducible refine (pcieOn_outside _ _ msk (sub_trans hm rfl)).trans ?_
    | with_reducible refine (refreshSides_outside _ _ msk (sub_trans hm rfl)).trans ?_
    | (intro _)
    | split
theorem doLinkRetrain_outside (rate : Fin 8) (width : Fin 32) (s : State) (msk : Nat) (hm : 65522859193370 &&& msk = 65522859193370) :
    (doLinkRetrain rate width s).outside msk = s.outside msk := by
  unfold doLinkRetrain
  try dsimp only
  repeat' first
    | with_reducible rfl
    | with_reducible refine ite_outside ?_ ?_
    | with_reducible refine (pcieOn_outside _ _ msk (sub_trans hm rfl)).trans ?_
    | with_reducible refine (unitOnce_outside _ _ _ _ _ msk (sub_trans hm rfl)).trans ?_
    | split
theorem doMaxPayload_outside (code : Nat) (s : State) (msk : Nat) (hm : 8796093023232 &&& msk = 8796093023232) :
    (doMaxPayload code s).outside msk = s.outside msk := by
  unfold doMaxPayload
  try dsimp only
  repeat' first
    | with_reducible rfl
    | with_reducible refine ite_outside ?_ ?_
    | with_reducible refine (pcieOn_outside _ _ msk (sub_trans hm rfl)).trans ?_
    | split
theorem doFunctionD0_outside (f : Nat) (s : State) (msk : Nat) (hm : 64871463072794 &&& msk = 64871463072794) :
    (doFunctionD0 f s).outside msk = s.outside msk := by
  unfold doFunctionD0
  try dsimp only
  repeat' first
    | with_reducible rfl
    | with_reducible refine ite_outside ?_ ?_
    | with_reducible refine (State.cfgFnOn_outside _ _ _ msk (sub_trans hm rfl)).trans ?_
    | with_reducible refine (flushRing_outside _ _ _ msk (sub_trans hm rfl)).trans ?_
    | with_reducible refine (forEach_outside _ _ _ msk ?_).trans ?_
    | with_reducible refine (wake_outside _ _ msk (sub_trans hm rfl)).trans ?_
    | (intro _)
    | split
theorem doConfigSpaceReady_outside (s : State) (msk : Nat) (hm : 256 &&& msk = 256) :
    (doConfigSpaceReady s).outside msk = s.outside msk := by
  unfold doConfigSpaceReady
  try dsimp only
  repeat' first
    | with_reducible rfl
    | with_reducible refine ite_outside ?_ ?_
    | with_reducible refine (supOn_outside _ _ msk (sub_trans hm rfl)).trans ?_
    | split
theorem cfgWrite_outside (f : Nat) (x : CfgField) (w : Nat) (s : State) (msk : Nat) (hm : 65970697666558 &&& msk = 65970697666558) :
    (cfgWrite f x w s).outside msk = s.outside msk := by
  unfold cfgWrite
  try dsimp only
  repeat' first
    | with_reducible rfl
    | with_reducible refine ite_outside ?_ ?_
    | with_reducible refine (State.cfgFnOn_outside _ _ _ msk (sub_trans hm rfl)).trans ?_
    | with_reducible refine (doFlrPf_outside _ msk (sub_trans hm rfl)).trans ?_
    | with_reducible refine (doFunctionD0_outside _ _ msk (sub_trans hm rfl)).trans ?_
    | with_reducible refine (doMaxPayload_outside _ _ msk (sub_trans hm rfl)).trans ?_
    | with_reducible refine (doVfEnableClear_outside _ msk (sub_trans hm rfl)).trans ?_
    | with_reducible refine (doVfEnableSet_outside _ msk (sub_trans hm rfl)).trans ?_
    | with_reducible refine (flrWipe_outside _ _ msk (sub_trans hm rfl)).trans ?_
    | with_reducible refine (pbaAll_outside _ _ msk (sub_trans hm rfl)).trans ?_
    | with_reducible refine (pcieOn_outside _ _ msk (sub_trans hm rfl)).trans ?_
    | with_reducible refine (timeOn_outside _ _ msk (sub_trans hm rfl)).trans ?_
    | split
theorem doConfigRequest_outside (f : Fnc) (q : CfgReq) (s : State) (msk : Nat) (hm : 70368744177662 &&& msk = 70368744177662) :
    (doConfigRequest f q s).outside msk = s.outside msk := by
  unfold doConfigRequest
  try dsimp only
  repeat' first
    | with_reducible rfl
    | with_reducible refine ite_outside ?_ ?_
    | with_reducible refine (State.emit_outside _ _ msk (sub_trans hm rfl)).trans ?_
    | with_reducible refine (cfgWrite_outside _ _ _ _ msk (sub_trans hm rfl)).trans ?_
    | simp only [set_free_outside _ _ msk (sub_trans hm rfl)]
    | split

/-! ### Rings -/

theorem handEntry_outside (f b e v : Nat) (s : State) (msk : Nat) (hm : 64871186245634 &&& msk = 64871186245634) :
    (handEntry f b e v s).outside msk = s.outside msk := by
  unfold handEntry
  try dsimp only
  repeat' first
    | with_reducible rfl
    | with_reducible refine ite_outside ?_ ?_
    | with_reducible refine (State.fnOn_outside _ _ _ msk (sub_trans hm rfl)).trans ?_
    | with_reducible refine (handOver_outside _ _ _ msk (sub_trans hm rfl)).trans ?_
    | simp only [set_waiting_outside _ _ msk (sub_trans hm rfl)]
    | split
theorem sweepBlock_outside (f b : Nat) (l : List Word) (s : State) (msk : Nat) (hm : 64871186245634 &&& msk = 64871186245634) :
    (sweepBlock f b l s).outside msk = s.outside msk := by
  unfold sweepBlock
  try dsimp only
  repeat' first
    | with_reducible rfl
    | with_reducible refine ite_outside ?_ ?_
    | with_reducible refine (State.fnOn_outside _ _ _ msk (sub_trans hm rfl)).trans ?_
    | with_reducible refine (forEach_outside _ _ _ msk ?_).trans ?_
    | with_reducible refine (handEntry_outside _ _ _ _ _ msk (sub_trans hm rfl)).trans ?_
    | (intro _)
    | split
theorem sweepGroup_outside (f k : Nat) (l : List Word) (pr : List (Nat × List Word)) (s : State) (msk : Nat) (hm : 64871186245634 &&& msk = 64871186245634) :
    (sweepGroup f k l pr s).outside msk = s.outside msk := by
  unfold sweepGroup
  try dsimp only
  repeat' first
    | with_reducible rfl
    | with_reducible refine ite_outside ?_ ?_
    | with_reducible refine (State.fnOn_outside _ _ _ msk (sub_trans hm rfl)).trans ?_
    | with_reducible refine (forEach_outside _ _ _ msk ?_).trans ?_
    | with_reducible refine (sweepBlock_outside _ _ _ _ msk (sub_trans hm rfl)).trans ?_
    | (intro _)
    | split
theorem sweepBelow_outside (f : Nat) (rd : SweepReads) (s : State) (msk : Nat) (hm : 64871186245634 &&& msk = 64871186245634) :
    (sweepBelow f rd s).outside msk = s.outside msk := by
  unfold sweepBelow
  try dsimp only
  repeat' first
    | with_reducible rfl
    | with_reducible refine ite_outside ?_ ?_
    | with_reducible refine (State.fnOn_outside _ _ _ msk (sub_trans hm rfl)).trans ?_
    | with_reducible refine (forEach_outside _ _ _ msk ?_).trans ?_
    | with_reducible refine (sweepGroup_outside _ _ _ _ _ msk (sub_trans hm rfl)).trans ?_
    | (intro _)
    | split
theorem doRakeSweep_outside (f : Fnc) (rd : SweepReads) (s : State) (msk : Nat) (hm : 64871186245634 &&& msk = 64871186245634) :
    (doRakeSweep f rd s).outside msk = s.outside msk := by
  unfold doRakeSweep
  try dsimp only
  repeat' first
    | with_reducible rfl
    | with_reducible refine ite_outside ?_ ?_
    | with_reducible refine (State.fnOn_outside _ _ _ msk (sub_trans hm rfl)).trans ?_
    | with_reducible refine (sweepBelow_outside _ _ _ msk (sub_trans hm rfl)).trans ?_
    | split
theorem writeDoze_outside (f v : Nat) (s : State) (msk : Nat) (hm : 1099511627776 &&& msk = 1099511627776) :
    (writeDoze f v s).outside msk = s.outside msk := by
  unfold writeDoze
  try dsimp only
  repeat' first
    | with_reducible rfl
    | with_reducible refine (State.emit_outside _ _ msk (sub_trans hm rfl)).trans ?_
theorem doRakeDozeEnter_outside (f : Fnc) (rd : SweepReads) (failed : Bool) (s : State) (msk : Nat) (hm : 64871186245634 &&& msk = 64871186245634) :
    (doRakeDozeEnter f rd failed s).outside msk = s.outside msk := by
  unfold doRakeDozeEnter
  try dsimp only
  repeat' first
    | with_reducible rfl
    | with_reducible refine ite_outside ?_ ?_
    | with_reducible refine (State.fnOn_outside _ _ _ msk (sub_trans hm rfl)).trans ?_
    | with_reducible refine (sweepBelow_outside _ _ _ msk (sub_trans hm rfl)).trans ?_
    | with_reducible refine (writeDoze_outside _ _ _ msk (sub_trans hm rfl)).trans ?_
    | split
theorem aerLog_outside (f : Nat) (e : ReadErr) (s : State) (msk : Nat) (hm : 8796093023232 &&& msk = 8796093023232) :
    (aerLog f e s).outside msk = s.outside msk := by
  unfold aerLog
  try dsimp only
  repeat' first
    | with_reducible rfl
    | with_reducible refine (State.cfgFnOn_outside _ _ _ msk (sub_trans hm rfl)).trans ?_
theorem readFailed_outside (f info : Nat) (e : ReadErr) (s : State) (msk : Nat) (hm : 64972834944026 &&& msk = 64972834944026) :
    (readFailed f info e s).outside msk = s.outside msk := by
  unfold readFailed
  try dsimp only
  repeat' first
    | with_reducible rfl
    | with_reducible refine (aerLog_outside _ _ _ msk (sub_trans hm rfl)).trans ?_
    | with_reducible refine (raiseFault_outside _ _ _ _ _ _ _ msk (sub_trans hm rfl)).trans ?_
theorem doBellReadError_outside (f : Fnc) (e : ReadErr) (s : State) (msk : Nat) (hm : 64972834946074 &&& msk = 64972834946074) :
    (doBellReadError f e s).outside msk = s.outside msk := by
  unfold doBellReadError
  try dsimp only
  repeat' first
    | with_reducible rfl
    | with_reducible refine ite_outside ?_ ?_
    | with_reducible refine (State.fnOn_outside _ _ _ msk (sub_trans hm rfl)).trans ?_
    | with_reducible refine (readFailed_outside _ _ _ _ msk (sub_trans hm rfl)).trans ?_
    | split
theorem ringReadFailed_outside (k : Nat) (s : State) (msk : Nat) (hm : 64871186178048 &&& msk = 64871186178048) :
    (ringReadFailed k s).outside msk = s.outside msk := by
  unfold ringReadFailed
  try dsimp only
  repeat' first
    | with_reducible rfl
    | with_reducible refine ite_outside ?_ ?_
    | with_reducible refine (epSettle_outside _ _ msk (sub_trans hm rfl)).trans ?_
    | with_reducible refine (posBad_outside _ _ _ _ _ msk (sub_trans hm rfl)).trans ?_
    | split
theorem doHostReadError_outside (what : ReadFor) (e : ReadErr) (s : State) (msk : Nat) (hm : 64972834946074 &&& msk = 64972834946074) :
    (doHostReadError what e s).outside msk = s.outside msk := by
  unfold doHostReadError
  try dsimp only
  repeat' first
    | with_reducible rfl
    | with_reducible refine ite_outside ?_ ?_
    | with_reducible refine (State.fnOn_outside _ _ _ msk (sub_trans hm rfl)).trans ?_
    | with_reducible refine (aerLog_outside _ _ _ msk (sub_trans hm rfl)).trans ?_
    | with_reducible refine (cmdDone_outside _ _ _ _ _ _ msk (sub_trans hm rfl)).trans ?_
    | with_reducible refine (epBad_outside _ _ _ msk (sub_trans hm rfl)).trans ?_
    | with_reducible refine (haltXfer_outside _ _ _ msk (sub_trans hm rfl)).trans ?_
    | with_reducible refine (readFailed_outside _ _ _ _ msk (sub_trans hm rfl)).trans ?_
    | with_reducible refine (ringReadFailed_outside _ _ msk (sub_trans hm rfl)).trans ?_
    | with_reducible refine (updAbandon_outside _ msk (sub_trans hm rfl)).trans ?_
    | simp only [set_eng_outside _ _ msk (sub_trans hm rfl)]
    | split
theorem cmdRingBad_outside (f : Nat) (s : State) (msk : Nat) (hm : 64972834945050 &&& msk = 64972834945050) :
    (cmdRingBad f s).outside msk = s.outside msk := by
  unfold cmdRingBad
  try dsimp only
  repeat' first
    | with_reducible rfl
    | with_reducible refine (State.fnOn_outside _ _ _ msk (sub_trans hm rfl)).trans ?_
    | with_reducible refine (raiseFault_outside _ _ _ _ _ _ _ msk (sub_trans hm rfl)).trans ?_
theorem cmdFetched_outside (f : Fnc) (addr : BitVec 64) (d : Desc) (s : State) (msk : Nat) (hm : 64972834945050 &&& msk = 64972834945050) :
    (cmdFetched f addr d s).outside msk = s.outside msk := by
  unfold cmdFetched
  try dsimp only
  repeat' first
    | with_reducible rfl
    | with_reducible refine ite_outside ?_ ?_
    | with_reducible refine (State.fnOn_outside _ _ _ msk (sub_trans hm rfl)).trans ?_
    | with_reducible refine (cmdDone_outside _ _ _ _ _ _ msk (sub_trans hm rfl)).trans ?_
    | with_reducible refine (cmdRingBad_outside _ _ msk (sub_trans hm rfl)).trans ?_
    | split
theorem epFetched_outside (k addr : Nat) (d : Desc) (s : State) (msk : Nat) (hm : 64871186178048 &&& msk = 64871186178048) :
    (epFetched k addr d s).outside msk = s.outside msk := by
  unfold epFetched
  try dsimp only
  repeat' first
    | with_reducible rfl
    | with_reducible refine ite_outside ?_ ?_
    | with_reducible refine (State.epOn_outside _ _ _ msk (sub_trans hm rfl)).trans ?_
    | with_reducible refine (epSettle_outside _ _ msk (sub_trans hm rfl)).trans ?_
    | with_reducible refine (isoLate_outside _ _ _ msk (sub_trans hm rfl)).trans ?_
    | with_reducible refine (posAccept_outside _ _ _ _ msk (sub_trans hm rfl)).trans ?_
    | with_reducible refine (posBad_outside _ _ _ _ _ msk (sub_trans hm rfl)).trans ?_
    | split
theorem doDescriptorFetched_outside (rg : RingRef) (addr : BitVec 64) (d : Desc) (s : State) (msk : Nat) (hm : 64972834945050 &&& msk = 64972834945050) :
    (doDescriptorFetched rg addr d s).outside msk = s.outside msk := by
  unfold doDescriptorFetched
  try dsimp only
  repeat' first
    | with_reducible rfl
    | with_reducible refine (cmdFetched_outside _ _ _ _ msk (sub_trans hm rfl)).trans ?_
    | with_reducible refine (epFetched_outside _ _ _ _ msk (sub_trans hm rfl)).trans ?_
    | split
theorem streamEntry_outside (r i : Nat) (x : StreamEntry) (s : State) (msk : Nat) (hm : 64871186243584 &&& msk = 64871186243584) :
    (streamEntry r i x s).outside msk = s.outside msk := by
  unfold streamEntry
  try dsimp only
  repeat' first
    | with_reducible rfl
    | with_reducible refine ite_outside ?_ ?_
    | with_reducible refine (State.emit_outside _ _ msk (sub_trans hm rfl)).trans ?_
    | with_reducible refine (State.epOn_outside _ _ _ msk (sub_trans hm rfl)).trans ?_
    | with_reducible refine (epBump_outside _ _ msk (sub_trans hm rfl)).trans ?_
    | with_reducible refine (handOver_outside _ _ _ msk (sub_trans hm rfl)).trans ?_
    | split
theorem streamTable_outside (r : Nat) (v0 : Nat) (v1 : List StreamEntry) (s : State) (msk : Nat) (hm : 64871186243584 &&& msk = 64871186243584) :
    (streamTable r v0 v1 s).outside msk = s.outside msk := by
  induction v1 generalizing v0 s with
  | nil => rfl
  | cons a l ih =>
    unfold streamTable
    try dsimp only
    repeat' first
      | with_reducible rfl
      | with_reducible refine (ih _ _ ).trans ?_
      | with_reducible refine ite_outside ?_ ?_
      | with_reducible refine (streamEntry_outside _ _ _ _ msk (sub_trans hm rfl)).trans ?_
      | split
theorem doStreamTableRead_outside (e : EpRef) (tbl : List StreamEntry) (s : State) (msk : Nat) (hm : 64871186243584 &&& msk = 64871186243584) :
    (doStreamTableRead e tbl s).outside msk = s.outside msk := by
  unfold doStreamTableRead
  try dsimp only
  repeat' first
    | with_reducible rfl
    | with_reducible refine ite_outside ?_ ?_
    | with_reducible refine (streamTable_outside _ _ _ _ msk (sub_trans hm rfl)).trans ?_
    | split
theorem doEvrConsRead_outside (f : Fnc) (r : Evr) (v : Word) (s : State) (msk : Nat) (hm : 27487790694400 &&& msk = 27487790694400) :
    (doEvrConsRead f r v s).outside msk = s.outside msk := by
  unfold doEvrConsRead
  try dsimp only
  repeat' first
    | with_reducible rfl
    | with_reducible refine ite_outside ?_ ?_
    | with_reducible refine (State.evrOn_outside _ _ _ _ msk (sub_trans hm rfl)).trans ?_
    | with_reducible refine (flushRing_outside _ _ _ msk (sub_trans hm rfl)).trans ?_
    | split
theorem doEventRingRoomReturns_outside (f : Fnc) (r : Evr) (s : State) (msk : Nat) (hm : 27487790694400 &&& msk = 27487790694400) :
    (doEventRingRoomReturns f r s).outside msk = s.outside msk := by
  unfold doEventRingRoomReturns
  try dsimp only
  repeat' first
    | with_reducible rfl
    | with_reducible refine ite_outside ?_ ?_
    | with_reducible refine (flushRing_outside _ _ _ msk (sub_trans hm rfl)).trans ?_
    | split
theorem doPendClear_outside (e : EpRef) (s : State) (msk : Nat) (hm : 8192 &&& msk = 8192) :
    (doPendClear e s).outside msk = s.outside msk := by
  unfold doPendClear
  try dsimp only
  repeat' first
    | with_reducible rfl
    | with_reducible refine ite_outside ?_ ?_
    | with_reducible refine (State.epOn_outside _ _ _ msk (sub_trans hm rfl)).trans ?_
    | with_reducible refine (epBump_outside _ _ msk (sub_trans hm rfl)).trans ?_
    | split
theorem doMsixHoldoffExpire_outside (f : Fnc) (r : Evr) (s : State) (msk : Nat) (hm : 27487790694400 &&& msk = 27487790694400) :
    (doMsixHoldoffExpire f r s).outside msk = s.outside msk := by
  unfold doMsixHoldoffExpire
  try dsimp only
  repeat' first
    | with_reducible rfl
    | with_reducible refine ite_outside ?_ ?_
    | with_reducible refine (State.evrOn_outside _ _ _ _ msk (sub_trans hm rfl)).trans ?_
    | with_reducible refine (msixSend_outside _ _ _ msk (sub_trans hm rfl)).trans ?_
    | split

/-! ### AccOps -/

theorem lockPart_outside (s : State) (msk : Nat) (hm : 268485152 &&& msk = 268485152) :
    (lockPart s).outside msk = s.outside msk := by
  unfold lockPart
  try dsimp only
  repeat' first
    | with_reducible rfl
    | with_reducible refine (coldCopies_outside _ msk (sub_trans hm rfl)).trans ?_
    | simp only [set_lock_short_grants_outside _ _ _ _ msk (sub_trans hm rfl)]
theorem lockWrite_outside (w : Nat) (s : State) (msk : Nat) (hm : 35184640574064 &&& msk = 35184640574064) :
    (lockWrite w s).outside msk = s.outside msk := by
  unfold lockWrite
  try dsimp only
  repeat' first
    | with_reducible rfl
    | with_reducible refine ite_outside ?_ ?_
    | with_reducible refine (State.countBlocked_outside _ _ _ msk (sub_trans hm rfl)).trans ?_
    | with_reducible refine (State.fldPut_outside _ _ _ _ _ msk (sub_trans hm rfl)).trans ?_
    | with_reducible refine (lockPart_outside _ msk (sub_trans hm rfl)).trans ?_
    | split
theorem fltStatusClear_outside (n : Nat) (s : State) (msk : Nat) (hm : 4294967296 &&& msk = 4294967296) :
    (fltStatusClear n s).outside msk = s.outside msk := by
  unfold fltStatusClear
  try dsimp only
  repeat' first
    | with_reducible rfl
    | with_reducible refine ite_outside ?_ ?_
    | with_reducible refine (State.fltSrcOn_outside _ _ _ msk (sub_trans hm rfl)).trans ?_
    | split
theorem fltWireClear_outside (n : Nat) (s : State) (msk : Nat) (hm : 4294967296 &&& msk = 4294967296) :
    (fltWireClear n s).outside msk = s.outside msk := by
  unfold fltWireClear
  try dsimp only
  repeat' first
    | with_reducible rfl
    | with_reducible refine (State.fltSrcOn_outside _ _ _ msk (sub_trans hm rfl)).trans ?_
    | split
theorem fltCntClear_outside (n w : Nat) (s : State) (msk : Nat) (hm : 35188667056144 &&& msk = 35188667056144) :
    (fltCntClear n w s).outside msk = s.outside msk := by
  unfold fltCntClear
  try dsimp only
  repeat' first
    | with_reducible rfl
    | with_reducible refine ite_outside ?_ ?_
    | with_reducible refine (State.fltSrcOn_outside _ _ _ msk (sub_trans hm rfl)).trans ?_
    | with_reducible refine (State.rput_outside _ _ _ msk (sub_trans hm rfl)).trans ?_
    | split
theorem safeHoldEnd_outside (s : State) (msk : Nat) (hm : 64973103378458 &&& msk = 64973103378458) :
    (safeHoldEnd s).outside msk = s.outside msk := by
  unfold safeHoldEnd
  try dsimp only
  repeat' first
    | with_reducible rfl
    | with_reducible refine (faultEvent_outside _ _ _ _ msk (sub_trans hm rfl)).trans ?_
    | with_reducible refine (forEach_outside _ _ _ msk ?_).trans ?_
    | with_reducible refine (modeServe_outside _ msk (sub_trans hm rfl)).trans ?_
    | with_reducible refine (pathResume_outside _ _ msk (sub_trans hm rfl)).trans ?_
    | with_reducible refine (rotServe_outside _ msk (sub_trans hm rfl)).trans ?_
    | with_reducible refine (warnCut_outside _ _ msk (sub_trans hm rfl)).trans ?_
    | simp only [set_flt_outside _ _ msk (sub_trans hm rfl)]
    | (intro _)
theorem safeHoldClear_outside (w : Nat) (s : State) (msk : Nat) (hm : 64973103378458 &&& msk = 64973103378458) :
    (safeHoldClear w s).outside msk = s.outside msk := by
  unfold safeHoldClear
  try dsimp only
  repeat' first
    | with_reducible rfl
    | with_reducible refine ite_outside ?_ ?_
    | with_reducible refine (safeHoldEnd_outside _ msk (sub_trans hm rfl)).trans ?_
    | simp only [set_flt_outside _ _ msk (sub_trans hm rfl)]
    | split
theorem injFire_outside (w : Nat) (s : State) (msk : Nat) (hm : 8589934592 &&& msk = 8589934592) :
    (injFire w s).outside msk = s.outside msk := by
  unfold injFire
  try dsimp only
  repeat' first
    | with_reducible rfl
    | with_reducible refine ite_outside ?_ ?_
    | simp only [set_inj_outside _ _ msk (sub_trans hm rfl)]
    | split
theorem nudge_outside (f : Nat) (s : State) (msk : Nat) (hm : 18691697674240 &&& msk = 18691697674240) :
    (nudge f s).outside msk = s.outside msk := by
  unfold nudge
  try dsimp only
  repeat' first
    | with_reducible rfl
    | with_reducible refine ite_outside ?_ ?_
    | with_reducible refine (State.fnOn_outside _ _ _ msk (sub_trans hm rfl)).trans ?_
    | with_reducible refine (writeDoze_outside _ _ _ msk (sub_trans hm rfl)).trans ?_
    | split
theorem doNudge_outside (f : Nat) (s : State) (msk : Nat) (hm : 64871463073818 &&& msk = 64871463073818) :
    (doNudge f s).outside msk = s.outside msk := by
  unfold doNudge
  try dsimp only
  repeat' first
    | with_reducible rfl
    | with_reducible refine ite_outside ?_ ?_
    | with_reducible refine (State.sleepHit_outside _ _ msk (sub_trans hm rfl)).trans ?_
    | with_reducible refine (nudge_outside _ _ msk (sub_trans hm rfl)).trans ?_
    | with_reducible refine (wake_outside _ _ msk (sub_trans hm rfl)).trans ?_
    | split
theorem setupAfter_outside (off w : Nat) (before s : State) (msk : Nat) (hm : 64905546774554 &&& msk = 64905546774554) :
    (setupAfter off w before s).outside msk = s.outside msk := by
  unfold setupAfter
  try dsimp only
  repeat' first
    | with_reducible rfl
    | with_reducible refine ite_outside ?_ ?_
    | with_reducible refine (State.fldPut_outside _ _ _ _ _ msk (sub_trans hm rfl)).trans ?_
    | with_reducible refine (nudge_outside _ _ msk (sub_trans hm rfl)).trans ?_
    | with_reducible refine (refreshBridge_outside _ _ msk (sub_trans hm rfl)).trans ?_
    | with_reducible refine (refreshPort_outside _ _ msk (sub_trans hm rfl)).trans ?_
    | with_reducible refine (timeOn_outside _ _ msk (sub_trans hm rfl)).trans ?_
    | split
theorem setupWrite_outside (off w : Nat) (s : State) (msk : Nat) (hm : 64905546774618 &&& msk = 64905546774618) :
    (setupWrite off w s).outside msk = s.outside msk := by
  unfold setupWrite
  try dsimp only
  repeat' first
    | with_reducible rfl
    | with_reducible refine ite_outside ?_ ?_
    | with_reducible refine (State.plainWrite_outside _ _ _ msk (sub_trans hm rfl)).trans ?_
    | with_reducible refine (setupAfter_outside _ _ _ _ msk (sub_trans hm rfl)).trans ?_
    | split
theorem loaderWrite_outside (off w : Nat) (s : State) (msk : Nat) (hm : 64871190180442 &&& msk = 64871190180442) :
    (loaderWrite off w s).outside msk = s.outside msk := by
  unfold loaderWrite
  try dsimp only
  repeat' first
    | with_reducible rfl
    | with_reducible refine ite_outside ?_ ?_
    | with_reducible refine (State.plainWrite_outside _ _ _ msk (sub_trans hm rfl)).trans ?_
    | with_reducible refine (loaderGo_outside _ msk (sub_trans hm rfl)).trans ?_
    | with_reducible refine (loaderRestart_outside _ msk (sub_trans hm rfl)).trans ?_
    | split
theorem regAct_outside (off w : Nat) (s : State) (msk : Nat) (hm : 65007463168634 &&& msk = 65007463168634) :
    (regAct off w s).outside msk = s.outside msk := by
  unfold regAct
  try dsimp only
  repeat' first
    | with_reducible rfl
    | with_reducible refine ite_outside ?_ ?_
    | with_reducible refine (State.capOn_outside _ _ _ msk (sub_trans hm rfl)).trans ?_
    | with_reducible refine (State.plainWrite_outside _ _ _ msk (sub_trans hm rfl)).trans ?_
    | with_reducible refine (fltCntClear_outside _ _ _ msk (sub_trans hm rfl)).trans ?_
    | with_reducible refine (fltStatusClear_outside _ _ msk (sub_trans hm rfl)).trans ?_
    | with_reducible refine (fltWireClear_outside _ _ msk (sub_trans hm rfl)).trans ?_
    | with_reducible refine (forEach_outside _ _ _ msk ?_).trans ?_
    | with_reducible refine (injFire_outside _ _ msk (sub_trans hm rfl)).trans ?_
    | with_reducible refine (loaderWrite_outside _ _ _ msk (sub_trans hm rfl)).trans ?_
    | with_reducible refine (lockWrite_outside _ _ msk (sub_trans hm rfl)).trans ?_
    | with_reducible refine (safeHoldClear_outside _ _ msk (sub_trans hm rfl)).trans ?_
    | with_reducible refine (setupWrite_outside _ _ _ msk (sub_trans hm rfl)).trans ?_
    | (intro _)
    | split
theorem regWrite_outside (off w : Nat) (s : State) (msk : Nat) (hm : 65007463168634 &&& msk = 65007463168634) :
    (regWrite off w s).outside msk = s.outside msk := by
  unfold regWrite
  try dsimp only
  repeat' first
    | with_reducible rfl
    | with_reducible refine ite_outside ?_ ?_
    | with_reducible refine (State.sleepHit_outside _ _ msk (sub_trans hm rfl)).trans ?_
    | with_reducible refine (regAct_outside _ _ _ msk (sub_trans hm rfl)).trans ?_
    | split
theorem regRead_outside (off : Nat) (g : State → State) (s : State) (msk : Nat) (hm : 36283883716624 &&& msk = 36283883716624) (hg0 : ∀ y0, (g y0).outside msk = y0.outside msk) :
    (regRead off g s).outside msk = s.outside msk := by
  unfold regRead
  try dsimp only
  repeat' first
    | with_reducible rfl
    | with_reducible refine ite_outside ?_ ?_
    | with_reducible refine (State.emit_outside _ _ msk (sub_trans hm rfl)).trans ?_
    | with_reducible refine (State.sleepHit_outside _ _ msk (sub_trans hm rfl)).trans ?_
    | with_reducible refine (hg0 _ ).trans ?_
    | split

/-! ### Access -/

theorem doVfBar0Write_outside (v : Vf) (off : Nat) (s : State) (msk : Nat) (hm : 35184372088912 &&& msk = 35184372088912) :
    (doVfBar0Write v off s).outside msk = s.outside msk := by
  unfold doVfBar0Write
  try dsimp only
  repeat' first
    | with_reducible rfl
    | with_reducible refine ite_outside ?_ ?_
    | with_reducible refine (State.countBlocked_outside _ _ _ msk (sub_trans hm rfl)).trans ?_
    | with_reducible refine (State.sleepHit_outside _ _ msk (sub_trans hm rfl)).trans ?_
    | split
theorem doMsixUnmask_outside (f v : Nat) (s : State) (msk : Nat) (hm : 45079976738832 &&& msk = 45079976738832) :
    (doMsixUnmask f v s).outside msk = s.outside msk := by
  unfold doMsixUnmask
  try dsimp only
  repeat' first
    | with_reducible rfl
    | with_reducible refine ite_outside ?_ ?_
    | with_reducible refine (State.sleepHit_outside _ _ msk (sub_trans hm rfl)).trans ?_
    | with_reducible refine (State.vecOn_outside _ _ _ _ msk (sub_trans hm rfl)).trans ?_
    | with_reducible refine (pbaServe_outside _ _ _ msk (sub_trans hm rfl)).trans ?_
    | split
theorem msixPut_outside (f off w : Nat) (s : State) (msk : Nat) (hm : 9895604649984 &&& msk = 9895604649984) :
    (msixPut f off w s).outside msk = s.outside msk := by
  unfold msixPut
  try dsimp only
  repeat' first
    | with_reducible rfl
    | with_reducible refine ite_outside ?_ ?_
    | with_reducible refine (State.vecOn_outside _ _ _ _ msk (sub_trans hm rfl)).trans ?_
    | with_reducible refine (pbaServe_outside _ _ _ msk (sub_trans hm rfl)).trans ?_
    | split
theorem msixAccess_outside (f : Nat) (a : RawAccess) (s : State) (msk : Nat) (hm : 45079976738832 &&& msk = 45079976738832) :
    (msixAccess f a s).outside msk = s.outside msk := by
  unfold msixAccess
  try dsimp only
  repeat' first
    | with_reducible rfl
    | with_reducible refine ite_outside ?_ ?_
    | with_reducible refine (State.emit_outside _ _ msk (sub_trans hm rfl)).trans ?_
    | with_reducible refine (State.sleepHit_outside _ _ msk (sub_trans hm rfl)).trans ?_
    | with_reducible refine (msixPut_outside _ _ _ _ msk (sub_trans hm rfl)).trans ?_
    | split
theorem doMisalignedAccess_outside (a : RawAccess) (s : State) (msk : Nat) (hm : 45079976738832 &&& msk = 45079976738832) :
    (doMisalignedAccess a s).outside msk = s.outside msk := by
  unfold doMisalignedAccess
  try dsimp only
  repeat' first
    | with_reducible rfl
    | with_reducible refine ite_outside ?_ ?_
    | with_reducible refine (State.emit_outside _ _ msk (sub_trans hm rfl)).trans ?_
    | with_reducible refine (msixAccess_outside _ _ _ msk (sub_trans hm rfl)).trans ?_
    | split
theorem doSleepWordAccess_outside (bar : Bar) (off : Nat) (isWrite : Bool) (s : State) (msk : Nat) (hm : 36283883716624 &&& msk = 36283883716624) :
    (doSleepWordAccess bar off isWrite s).outside msk = s.outside msk := by
  unfold doSleepWordAccess
  try dsimp only
  repeat' first
    | with_reducible rfl
    | with_reducible refine ite_outside ?_ ?_
    | with_reducible refine (State.emit_outside _ _ msk (sub_trans hm rfl)).trans ?_
    | with_reducible refine (State.sleepHit_outside _ _ msk (sub_trans hm rfl)).trans ?_
    | split
theorem readReg_outside (off : Nat) (g : State → State) (s : State) (msk : Nat) (hm : 36283883716624 &&& msk = 36283883716624) (hg0 : ∀ y0, (g y0).outside msk = y0.outside msk) :
    (readReg off g s).outside msk = s.outside msk := by
  unfold readReg
  try dsimp only
  repeat' first
    | with_reducible rfl
    | with_reducible refine (State.emit_outside _ _ msk (sub_trans hm rfl)).trans ?_
    | with_reducible refine (regRead_outside _ _ _ msk (sub_trans hm rfl) ?_).trans ?_
    | with_reducible refine (hg0 _ ).trans ?_
    | (intro _)
theorem clearPeak_outside (i : Nat) (s : State) (msk : Nat) (hm : 137438953472 &&& msk = 137438953472) :
    (clearPeak i s).outside msk = s.outside msk := by
  unfold clearPeak
  try dsimp only
  repeat' first
    | with_reducible rfl
    | simp only [set_tele_outside _ _ msk (sub_trans hm rfl)]
theorem tallyLatch_outside (t : Tally) (s : State) (msk : Nat) (hm : 309237645312 &&& msk = 309237645312) :
    (tallyLatch t s).outside msk = s.outside msk := by
  unfold tallyLatch
  try dsimp only
  repeat' first
    | with_reducible rfl
    | with_reducible refine (State.tallyOn_outside _ _ _ msk (sub_trans hm rfl)).trans ?_
    | with_reducible refine (timeOn_outside _ _ msk (sub_trans hm rfl)).trans ?_
    | split
theorem almAdvance_outside (k : Nat) (s : State) (msk : Nat) (hm : 35184372088848 &&& msk = 35184372088848) :
    (almAdvance k s).outside msk = s.outside msk := by
  unfold almAdvance
  try dsimp only
  repeat' first
    | with_reducible rfl
    | with_reducible refine ite_outside ?_ ?_
    | with_reducible refine (State.fldPut_outside _ _ _ _ _ msk (sub_trans hm rfl)).trans ?_
    | split

/-! ### Capture -/

theorem capStartAt_outside (p base : Nat) (q : Params) (f : Nat) (s : State) (msk : Nat) (hm : 35184397254672 &&& msk = 35184397254672) :
    (capStartAt p base q f s).outside msk = s.outside msk := by
  unfold capStartAt
  try dsimp only
  repeat' first
    | with_reducible rfl
    | with_reducible refine (State.capPut_outside _ _ _ msk (sub_trans hm rfl)).trans ?_
    | with_reducible refine (State.rput_outside _ _ _ msk (sub_trans hm rfl)).trans ?_
    | simp only [set_capStarts_outside _ _ msk (sub_trans hm rfl)]
theorem doCaptureStart_outside (c : Instr) (h : CmdHdr) (q : Params) (s : State) (msk : Nat) (hm : 64871211204626 &&& msk = 64871211204626) :
    (doCaptureStart c h q s).outside msk = s.outside msk := by
  unfold doCaptureStart
  try dsimp only
  repeat' first
    | with_reducible rfl
    | with_reducible refine ite_outside ?_ ?_
    | with_reducible refine (capStartAt_outside _ _ _ _ _ msk (sub_trans hm rfl)).trans ?_
    | with_reducible refine (cmdDone_outside _ _ _ _ _ _ msk (sub_trans hm rfl)).trans ?_
    | with_reducible refine (command_outside _ _ _ _ _ msk (sub_trans hm rfl) ?_).trans ?_
    | (intro _)
    | split
theorem stopNow_outside (p : Nat) (h : CmdHdr) (s : State) (msk : Nat) (hm : 64871194427408 &&& msk = 64871194427408) :
    (stopNow p h s).outside msk = s.outside msk := by
  unfold stopNow
  try dsimp only
  repeat' first
    | with_reducible rfl
    | with_reducible refine (snd_outside (capStop_outside _ _ _ msk (sub_trans hm rfl)) ‹_›).trans ?_
    | with_reducible refine (capStop_outside _ _ _ msk (sub_trans hm rfl)).trans ?_
    | with_reducible refine (cmdDone_outside _ _ _ _ _ _ msk (sub_trans hm rfl)).trans ?_
    | split
theorem flushNow_outside (p : Nat) (h : CmdHdr) (s : State) (msk : Nat) (hm : 64871194427392 &&& msk = 64871194427392) :
    (flushNow p h s).outside msk = s.outside msk := by
  unfold flushNow
  try dsimp only
  repeat' first
    | with_reducible rfl
    | with_reducible refine (State.capOn_outside _ _ _ msk (sub_trans hm rfl)).trans ?_
    | with_reducible refine (cmdDone_outside _ _ _ _ _ _ msk (sub_trans hm rfl)).trans ?_
theorem capEndCmd_outside (c : Instr) (h : CmdHdr) (q : Params) (now : Nat → CmdHdr → State → State) (later : CmdHdr → Capture → Capture) (s : State) (msk : Nat) (hm : 64871194427394 &&& msk = 64871194427394) (hg0 : ∀ y0 y1 y2, (now y0 y1 y2).outside msk = y2.outside msk) :
    (capEndCmd c h q now later s).outside msk = s.outside msk := by
  unfold capEndCmd
  try dsimp only
  repeat' first
    | with_reducible rfl
    | with_reducible refine ite_outside ?_ ?_
    | with_reducible refine (State.capOn_outside _ _ _ msk (sub_trans hm rfl)).trans ?_
    | with_reducible refine (cmdDone_outside _ _ _ _ _ _ msk (sub_trans hm rfl)).trans ?_
    | with_reducible refine (command_outside _ _ _ _ _ msk (sub_trans hm rfl) ?_).trans ?_
    | with_reducible refine (hg0 _ _ _ ).trans ?_
    | (intro _)
    | split
theorem doCaptureStop_outside (c : Instr) (h : CmdHdr) (q : Params) (s : State) (msk : Nat) (hm : 64871194427410 &&& msk = 64871194427410) :
    (doCaptureStop c h q s).outside msk = s.outside msk := by
  unfold doCaptureStop
  try dsimp only
  repeat' first
    | with_reducible rfl
    | with_reducible refine (capEndCmd_outside _ _ _ _ _ _ msk (sub_trans hm rfl) ?_).trans ?_
    | with_reducible refine (stopNow_outside _ _ _ msk (sub_trans hm rfl)).trans ?_
    | (intro _)
theorem doCaptureFlush_outside (c : Instr) (h : CmdHdr) (q : Params) (s : State) (msk : Nat) (hm : 64871194427394 &&& msk = 64871194427394) :
    (doCaptureFlush c h q s).outside msk = s.outside msk := by
  unfold doCaptureFlush
  try dsimp only
  repeat' first
    | with_reducible rfl
    | with_reducible refine (capEndCmd_outside _ _ _ _ _ _ msk (sub_trans hm rfl) ?_).trans ?_
    | with_reducible refine (flushNow_outside _ _ _ msk (sub_trans hm rfl)).trans ?_
    | (intro _)
theorem packetBegin_outside (p : Nat) (s : State) (msk : Nat) (hm : 64871194427408 &&& msk = 64871194427408) :
    (packetBegin p s).outside msk = s.outside msk := by
  unfold packetBegin
  try dsimp only
  repeat' first
    | with_reducible rfl
    | with_reducible refine ite_outside ?_ ?_
    | with_reducible refine (State.capOn_outside _ _ _ msk (sub_trans hm rfl)).trans ?_
    | with_reducible refine (makeRoom_outside _ _ _ _ msk (sub_trans hm rfl)).trans ?_
    | split
theorem packetBoundary_outside (p : Nat) (s : State) (msk : Nat) (hm : 64871194427408 &&& msk = 64871194427408) :
    (packetBoundary p s).outside msk = s.outside msk := by
  unfold packetBoundary
  try dsimp only
  repeat' first
    | with_reducible rfl
    | with_reducible refine (flushNow_outside _ _ _ msk (sub_trans hm rfl)).trans ?_
    | with_reducible refine (stopNow_outside _ _ _ msk (sub_trans hm rfl)).trans ?_
    | split
theorem doSievePacketEnd_outside (p : Nat) (r : CapPacket) (s : State) (msk : Nat) (hm : 64873341911056 &&& msk = 64873341911056) :
    (doSievePacketEnd p r s).outside msk = s.outside msk := by
  unfold doSievePacketEnd
  try dsimp only
  repeat' first
    | with_reducible rfl
    | with_reducible refine ite_outside ?_ ?_
    | with_reducible refine (State.capOn_outside _ _ _ msk (sub_trans hm rfl)).trans ?_
    | with_reducible refine (levelCheck_outside _ _ _ msk (sub_trans hm rfl)).trans ?_
    | with_reducible refine (packetBegin_outside _ _ msk (sub_trans hm rfl)).trans ?_
    | with_reducible refine (packetBoundary_outside _ _ msk (sub_trans hm rfl)).trans ?_
    | split
theorem doSievePointerMismatch_outside (p : Nat) (s : State) (msk : Nat) (hm : 65522859193370 &&& msk = 65522859193370) :
    (doSievePointerMismatch p s).outside msk = s.outside msk := by
  unfold doSievePointerMismatch
  try dsimp only
  repeat' first
    | with_reducible rfl
    | with_reducible refine ite_outside ?_ ?_
    | with_reducible refine (State.rsAdd_outside _ _ _ _ _ msk (sub_trans hm rfl)).trans ?_
    | with_reducible refine (dspAssert_outside _ _ msk (sub_trans hm rfl)).trans ?_
    | with_reducible refine (sieveReset_outside _ _ msk (sub_trans hm rfl)).trans ?_
    | with_reducible refine (unitOnce_outside _ _ _ _ _ msk (sub_trans hm rfl)).trans ?_
    | split
theorem pollEvents_outside (p before : Nat) (heard : Bool) (s : State) (msk : Nat) (hm : 64871194427392 &&& msk = 64871194427392) :
    (pollEvents p before heard s).outside msk = s.outside msk := by
  unfold pollEvents
  try dsimp only
  repeat' first
    | with_reducible rfl
    | with_reducible refine ite_outside ?_ ?_
    | with_reducible refine (State.capOn_outside _ _ _ msk (sub_trans hm rfl)).trans ?_
    | with_reducible refine (capEvent_outside _ _ _ _ _ msk (sub_trans hm rfl)).trans ?_
    | split
theorem levelRelease_outside (p : Nat) (s : State) (msk : Nat) (hm : 8388608 &&& msk = 8388608) :
    (levelRelease p s).outside msk = s.outside msk := by
  unfold levelRelease
  try dsimp only
  repeat' first
    | with_reducible rfl
    | with_reducible refine ite_outside ?_ ?_
    | with_reducible refine (State.capOn_outside _ _ _ msk (sub_trans hm rfl)).trans ?_
    | split
theorem doExporterPoll_outside (p cons : Nat) (s : State) (msk : Nat) (hm : 64871194427408 &&& msk = 64871194427408) :
    (doExporterPoll p cons s).outside msk = s.outside msk := by
  unfold doExporterPoll
  try dsimp only
  repeat' first
    | with_reducible rfl
    | with_reducible refine ite_outside ?_ ?_
    | with_reducible refine (State.capOn_outside _ _ _ msk (sub_trans hm rfl)).trans ?_
    | with_reducible refine (State.fldPut_outside _ _ _ _ _ msk (sub_trans hm rfl)).trans ?_
    | with_reducible refine (capProd_outside _ _ _ msk (sub_trans hm rfl)).trans ?_
    | with_reducible refine (exportRecs_outside _ _ _ msk (sub_trans hm rfl)).trans ?_
    | with_reducible refine (levelRelease_outside _ _ msk (sub_trans hm rfl)).trans ?_
    | with_reducible refine (pollEvents_outside _ _ _ _ msk (sub_trans hm rfl)).trans ?_
    | split

/-! ### Sowing -/

theorem doLoaderDescriptorFetched_outside (addr len tag : Nat) (s : State) (msk : Nat) (hm : 85899346432 &&& msk = 85899346432) :
    (doLoaderDescriptorFetched addr len tag s).outside msk = s.outside msk := by
  unfold doLoaderDescriptorFetched
  try dsimp only
  repeat' first
    | with_reducible rfl
    | with_reducible refine ite_outside ?_ ?_
    | with_reducible refine (bootOn_outside _ _ msk (sub_trans hm rfl)).trans ?_
    | with_reducible refine (loaderGo_outside _ msk (sub_trans hm rfl)).trans ?_
    | with_reducible refine (refuse_outside _ _ msk (sub_trans hm rfl)).trans ?_
    | split
theorem doImagePieceReceived_outside (bytes : List Byte) (s : State) (msk : Nat) (hm : 512 &&& msk = 512) :
    (doImagePieceReceived bytes s).outside msk = s.outside msk := by
  unfold doImagePieceReceived
  try dsimp only
  repeat' first
    | with_reducible rfl
    | with_reducible refine ite_outside ?_ ?_
    | with_reducible refine (bootOn_outside _ _ msk (sub_trans hm rfl)).trans ?_
    | split
theorem doLoaderReadError_outside (e : ReadErr) (s : State) (msk : Nat) (hm : 8881992369664 &&& msk = 8881992369664) :
    (doLoaderReadError e s).outside msk = s.outside msk := by
  unfold doLoaderReadError
  try dsimp only
  repeat' first
    | with_reducible rfl
    | with_reducible refine ite_outside ?_ ?_
    | with_reducible refine (aerLog_outside _ _ _ msk (sub_trans hm rfl)).trans ?_
    | with_reducible refine (refuse_outside _ _ msk (sub_trans hm rfl)).trans ?_
    | split
theorem doImageCheckDone_outside (s : State) (msk : Nat) (hm : 85899346432 &&& msk = 85899346432) :
    (doImageCheckDone s).outside msk = s.outside msk := by
  unfold doImageCheckDone
  try dsimp only
  repeat' first
    | with_reducible rfl
    | with_reducible refine ite_outside ?_ ?_
    | with_reducible refine (bootOn_outside _ _ msk (sub_trans hm rfl)).trans ?_
    | with_reducible refine (refuse_outside _ _ msk (sub_trans hm rfl)).trans ?_
    | split
theorem doKeeperConfigCheck_outside (s : State) (msk : Nat) (hm : 1185679409664 &&& msk = 1185679409664) :
    (doKeeperConfigCheck s).outside msk = s.outside msk := by
  unfold doKeeperConfigCheck
  try dsimp only
  repeat' first
    | with_reducible rfl
    | with_reducible refine ite_outside ?_ ?_
    | with_reducible refine (bootOn_outside _ _ msk (sub_trans hm rfl)).trans ?_
    | with_reducible refine (refuse_outside _ _ msk (sub_trans hm rfl)).trans ?_
    | with_reducible refine (voutTo_outside _ _ msk (sub_trans hm rfl)).trans ?_
    | split
theorem doTenderStartupDone_outside (s : State) (msk : Nat) (hm : 35185682809360 &&& msk = 35185682809360) :
    (doTenderStartupDone s).outside msk = s.outside msk := by
  unfold doTenderStartupDone
  try dsimp only
  repeat' first
    | with_reducible rfl
    | with_reducible refine (applyConfig_outside _ _ msk (sub_trans hm rfl)).trans ?_
    | with_reducible refine (bootOn_outside _ _ msk (sub_trans hm rfl)).trans ?_
    | split
theorem doSowingComplete_outside (s : State) (msk : Nat) (hm : 69289503306266 &&& msk = 69289503306266) :
    (doSowingComplete s).outside msk = s.outside msk := by
  unfold doSowingComplete
  try dsimp only
  repeat' first
    | with_reducible rfl
    | with_reducible refine ite_outside ?_ ?_
    | with_reducible refine (serve_outside _ _ msk (sub_trans hm rfl)).trans ?_
    | split
theorem doPersistHoldExpire_outside (p : Nat) (s : State) (msk : Nat) (hm : 3736320 &&& msk = 3736320) :
    (doPersistHoldExpire p s).outside msk = s.outside msk := by
  unfold doPersistHoldExpire
  try dsimp only
  repeat' first
    | with_reducible rfl
    | with_reducible refine ite_outside ?_ ?_
    | with_reducible refine (persistEnd_outside _ _ _ msk (sub_trans hm rfl)).trans ?_
    | split

/-! ### Lifecycle -/

theorem lifecycleAccept_outside (h : CmdHdr) (k : LcKind) (t : List Byte) (s : State) (msk : Nat) (hm : 64888369643648 &&& msk = 64888369643648) :
    (lifecycleAccept h k t s).outside msk = s.outside msk := by
  unfold lifecycleAccept
  try dsimp only
  repeat' first
    | with_reducible rfl
    | with_reducible refine ite_outside ?_ ?_
    | with_reducible refine (almEvent_outside _ _ _ _ _ msk (sub_trans hm rfl)).trans ?_
    | with_reducible refine (cmdDone_outside _ _ _ _ _ _ msk (sub_trans hm rfl)).trans ?_
    | with_reducible refine (forEach_outside _ _ _ msk ?_).trans ?_
    | with_reducible refine (portSafe_outside _ _ msk (sub_trans hm rfl)).trans ?_
    | simp only [set_otp_outside _ _ msk (sub_trans hm rfl)]
    | (intro _)
    | split
theorem lifecycle_outside (c : Instr) (h : CmdHdr) (q : Params) (k : LcKind) (t : List Byte) (s : State) (msk : Nat) (hm : 64888369644162 &&& msk = 64888369644162) :
    (lifecycle c h q k t s).outside msk = s.outside msk := by
  unfold lifecycle
  try dsimp only
  repeat' first
    | with_reducible rfl
    | with_reducible refine ite_outside ?_ ?_
    | with_reducible refine (bootOn_outside _ _ msk (sub_trans hm rfl)).trans ?_
    | with_reducible refine (cmdDone_outside _ _ _ _ _ _ msk (sub_trans hm rfl)).trans ?_
    | with_reducible refine (command_outside _ _ _ _ _ msk (sub_trans hm rfl) ?_).trans ?_
    | with_reducible refine (lifecycleAccept_outside _ _ _ _ msk (sub_trans hm rfl)).trans ?_
    | (intro _)
    | split
theorem doLifecyclePlant_outside (c : Instr) (h : CmdHdr) (q : Params) (tok : List Byte) (s : State) (msk : Nat) (hm : 64888369644162 &&& msk = 64888369644162) :
    (doLifecyclePlant c h q tok s).outside msk = s.outside msk := by
  unfold doLifecyclePlant
  try dsimp only
  repeat' first
    | with_reducible rfl
    | with_reducible refine (lifecycle_outside _ _ _ _ _ _ msk (sub_trans hm rfl)).trans ?_
theorem doLifecycleUproot_outside (c : Instr) (h : CmdHdr) (q : Params) (tok : List Byte) (s : State) (msk : Nat) (hm : 64888369644162 &&& msk = 64888369644162) :
    (doLifecycleUproot c h q tok s).outside msk = s.outside msk := by
  unfold doLifecycleUproot
  try dsimp only
  repeat' first
    | with_reducible rfl
    | with_reducible refine (lifecycle_outside _ _ _ _ _ _ msk (sub_trans hm rfl)).trans ?_
theorem doLifecycleReturn_outside (c : Instr) (h : CmdHdr) (q : Params) (tok : List Byte) (s : State) (msk : Nat) (hm : 64888369644162 &&& msk = 64888369644162) :
    (doLifecycleReturn c h q tok s).outside msk = s.outside msk := by
  unfold doLifecycleReturn
  try dsimp only
  repeat' first
    | with_reducible rfl
    | with_reducible refine (lifecycle_outside _ _ _ _ _ _ msk (sub_trans hm rfl)).trans ?_
theorem doLifecycleRevoke_outside (c : Instr) (h : CmdHdr) (q : Params) (tok : List Byte) (s : State) (msk : Nat) (hm : 64888369644162 &&& msk = 64888369644162) :
    (doLifecycleRevoke c h q tok s).outside msk = s.outside msk := by
  unfold doLifecycleRevoke
  try dsimp only
  repeat' first
    | with_reducible rfl
    | with_reducible refine (lifecycle_outside _ _ _ _ _ _ msk (sub_trans hm rfl)).trans ?_
theorem doLifecycleRaiseFloor_outside (c : Instr) (h : CmdHdr) (q : Params) (tok : List Byte) (s : State) (msk : Nat) (hm : 64888369644162 &&& msk = 64888369644162) :
    (doLifecycleRaiseFloor c h q tok s).outside msk = s.outside msk := by
  unfold doLifecycleRaiseFloor
  try dsimp only
  repeat' first
    | with_reducible rfl
    | with_reducible refine (lifecycle_outside _ _ _ _ _ _ msk (sub_trans hm rfl)).trans ?_
theorem doLifecycleCommitDone_outside (s : State) (msk : Nat) (hm : 64871186038526 &&& msk = 64871186038526) :
    (doLifecycleCommitDone s).outside msk = s.outside msk := by
  unfold doLifecycleCommitDone
  try dsimp only
  repeat' first
    | with_reducible rfl
    | with_reducible refine ite_outside ?_ ?_
    | with_reducible refine (lcCommit_outside _ msk (sub_trans hm rfl)).trans ?_
    | split

end Sys2Proof.Machine
end

