-- ==== Sys2Proof/Laws/OutsideTraffic.lean ====
section
/-! SUPPORT. What each operation leaves as it was, by Machine file: Xfer, Links, Guests, Dispatcher, CoreUnits. -/

namespace Sys2Proof.Machine

open Sys2Proof

/-! ### Xfer -/

theorem stagePacket_outside (k : Nat) (bytes : List Byte) (s : State) (msk : Nat) (hm : 1099511635968 &&& msk = 1099511635968) :
    (stagePacket k bytes s).outside msk = s.outside msk := by
  unfold stagePacket
  try dsimp only
  repeat' first
    | with_reducible rfl
    | with_reducible refine ite_outside ?_ ?_
    | with_reducible refine (State.emit_outside _ _ msk (sub_trans hm rfl)).trans ?_
    | with_reducible refine (State.epOn_outside _ _ _ msk (sub_trans hm rfl)).trans ?_
    | split
theorem doOutDataFetched_outside (e : EpRef) (bytes : List Byte) (s : State) (msk : Nat) (hm : 65146064150538 &&& msk = 65146064150538) :
    (doOutDataFetched e bytes s).outside msk = s.outside msk := by
  unfold doOutDataFetched
  try dsimp only
  repeat' first
    | with_reducible rfl
    | with_reducible refine ite_outside ?_ ?_
    | with_reducible refine (onward_outside _ _ msk (sub_trans hm rfl)).trans ?_
    | with_reducible refine (stagePacket_outside _ _ _ msk (sub_trans hm rfl)).trans ?_
    | split
theorem grantCredit_outside (k : Nat) (s : State) (msk : Nat) (hm : 1099511635968 &&& msk = 1099511635968) :
    (grantCredit k s).outside msk = s.outside msk := by
  unfold grantCredit
  try dsimp only
  repeat' first
    | with_reducible rfl
    | with_reducible refine ite_outside ?_ ?_
    | with_reducible refine (State.emit_outside _ _ msk (sub_trans hm rfl)).trans ?_
    | with_reducible refine (State.epOn_outside _ _ _ msk (sub_trans hm rfl)).trans ?_
    | with_reducible refine (epBump_outside _ _ msk (sub_trans hm rfl)).trans ?_
    | split
theorem doCreditGrant_outside (e : EpRef) (s : State) (msk : Nat) (hm : 65146064150538 &&& msk = 65146064150538) :
    (doCreditGrant e s).outside msk = s.outside msk := by
  unfold doCreditGrant
  try dsimp only
  repeat' first
    | with_reducible rfl
    | with_reducible refine ite_outside ?_ ?_
    | with_reducible refine (grantCredit_outside _ _ msk (sub_trans hm rfl)).trans ?_
    | with_reducible refine (onward_outside _ _ msk (sub_trans hm rfl)).trans ?_
    | split
theorem doCreditRevocationSettled_outside (e : EpRef) (revoked consumed : Nat) (s : State) (msk : Nat) (hm : 64871186046986 &&& msk = 64871186046986) :
    (doCreditRevocationSettled e revoked consumed s).outside msk = s.outside msk := by
  unfold doCreditRevocationSettled
  try dsimp only
  repeat' first
    | with_reducible rfl
    | with_reducible refine ite_outside ?_ ?_
    | with_reducible refine (State.epOn_outside _ _ _ msk (sub_trans hm rfl)).trans ?_
    | with_reducible refine (afterXact_outside _ _ msk (sub_trans hm rfl)).trans ?_
    | split
theorem doPacketClaim_outside (e : EpRef) (s : State) (msk : Nat) (hm : 64871186178058 &&& msk = 64871186178058) :
    (doPacketClaim e s).outside msk = s.outside msk := by
  unfold doPacketClaim
  try dsimp only
  repeat' first
    | with_reducible rfl
    | with_reducible refine ite_outside ?_ ?_
    | with_reducible refine (claimHead_outside _ _ msk (sub_trans hm rfl)).trans ?_
    | with_reducible refine (claimIso_outside _ _ msk (sub_trans hm rfl)).trans ?_
    | with_reducible refine (epSettle_outside _ _ msk (sub_trans hm rfl)).trans ?_
    | split
theorem sendAck_outside (k n : Nat) (s : State) (msk : Nat) (hm : 1099511627776 &&& msk = 1099511627776) :
    (sendAck k n s).outside msk = s.outside msk := by
  unfold sendAck
  try dsimp only
  repeat' first
    | with_reducible rfl
    | with_reducible refine ite_outside ?_ ?_
    | with_reducible refine (State.send_outside _ _ _ msk (sub_trans hm rfl)).trans ?_
    | split
theorem inSettle_outside (k : Nat) (full : Bool) (s : State) (msk : Nat) (hm : 8192 &&& msk = 8192) :
    (inSettle k full s).outside msk = s.outside msk := by
  unfold inSettle
  try dsimp only
  repeat' first
    | with_reducible rfl
    | with_reducible refine ite_outside ?_ ?_
    | with_reducible refine (State.epOn_outside _ _ _ msk (sub_trans hm rfl)).trans ?_
    | split
theorem takeIn_outside (k : Nat) (bytes : List Byte) (pid : Nat) (split : Bool) (s : State) (msk : Nat) (hm : 65146064089088 &&& msk = 65146064089088) :
    (takeIn k bytes pid split s).outside msk = s.outside msk := by
  unfold takeIn
  try dsimp only
  repeat' first
    | with_reducible rfl
    | with_reducible refine ite_outside ?_ ?_
    | with_reducible refine (State.epOn_outside _ _ _ msk (sub_trans hm rfl)).trans ?_
    | with_reducible refine (babbleEnd_outside _ _ msk (sub_trans hm rfl)).trans ?_
    | with_reducible refine (commitPacket_outside _ _ _ msk (sub_trans hm rfl)).trans ?_
    | with_reducible refine (inSettle_outside _ _ _ msk (sub_trans hm rfl)).trans ?_
    | with_reducible refine (sendAck_outside _ _ _ msk (sub_trans hm rfl)).trans ?_
    | with_reducible refine (statusDone_outside _ _ msk (sub_trans hm rfl)).trans ?_
    | split
theorem refuseIn_outside (k : Nat) (s : State) (msk : Nat) (hm : 1099511635968 &&& msk = 1099511635968) :
    (refuseIn k s).outside msk = s.outside msk := by
  unfold refuseIn
  try dsimp only
  repeat' first
    | with_reducible rfl
    | with_reducible refine ite_outside ?_ ?_
    | with_reducible refine (State.epOn_outside _ _ _ msk (sub_trans hm rfl)).trans ?_
    | with_reducible refine (State.send_outside _ _ _ msk (sub_trans hm rfl)).trans ?_
    | split
theorem repeatIn_outside (k : Nat) (s : State) (msk : Nat) (hm : 64871186178048 &&& msk = 64871186178048) :
    (repeatIn k s).outside msk = s.outside msk := by
  unfold repeatIn
  try dsimp only
  repeat' first
    | with_reducible rfl
    | with_reducible refine (State.epOn_outside _ _ _ msk (sub_trans hm rfl)).trans ?_
    | with_reducible refine (failRun_outside _ _ _ msk (sub_trans hm rfl)).trans ?_
    | with_reducible refine (sendAck_outside _ _ _ msk (sub_trans hm rfl)).trans ?_
theorem doInPacketReceived_outside (e : EpRef) (tog : BitVec 5) (bytes : List Byte) (s : State) (msk : Nat) (hm : 69544110600218 &&& msk = 69544110600218) :
    (doInPacketReceived e tog bytes s).outside msk = s.outside msk := by
  unfold doInPacketReceived
  try dsimp only
  repeat' first
    | with_reducible rfl
    | with_reducible refine ite_outside ?_ ?_
    | with_reducible refine (State.epOn_outside _ _ _ msk (sub_trans hm rfl)).trans ?_
    | with_reducible refine (afterXact_outside _ _ msk (sub_trans hm rfl)).trans ?_
    | with_reducible refine (babbleEnd_outside _ _ msk (sub_trans hm rfl)).trans ?_
    | with_reducible refine (snd_outside (raceAck_outside _ _ msk (sub_trans hm rfl)) ‹_›).trans ?_
    | with_reducible refine (raceAck_outside _ _ msk (sub_trans hm rfl)).trans ?_
    | with_reducible refine (refuseIn_outside _ _ msk (sub_trans hm rfl)).trans ?_
    | with_reducible refine (repeatIn_outside _ _ msk (sub_trans hm rfl)).trans ?_
    | with_reducible refine (takeIn_outside _ _ _ _ _ msk (sub_trans hm rfl)).trans ?_
    | with_reducible refine (xactFailed_outside _ _ msk (sub_trans hm rfl)).trans ?_
    | split
theorem dropIn_outside (e : EpRef) (s : State) (msk : Nat) (hm : 64871186046986 &&& msk = 64871186046986) :
    (dropIn e s).outside msk = s.outside msk := by
  unfold dropIn
  try dsimp only
  repeat' first
    | with_reducible rfl
    | with_reducible refine ite_outside ?_ ?_
    | with_reducible refine (afterXact_outside _ _ msk (sub_trans hm rfl)).trans ?_
    | with_reducible refine (refuseIn_outside _ _ msk (sub_trans hm rfl)).trans ?_
    | split
theorem nakCount_outside (k : Nat) (s : State) (msk : Nat) (hm : 8192 &&& msk = 8192) :
    (nakCount k s).outside msk = s.outside msk := by
  unfold nakCount
  try dsimp only
  repeat' first
    | with_reducible rfl
    | with_reducible refine (State.epOn_outside _ _ _ msk (sub_trans hm rfl)).trans ?_
theorem doOutHandshake_outside (e : EpRef) (hs : Handshake) (s : State) (msk : Nat) (hm : 65146064089098 &&& msk = 65146064089098) :
    (doOutHandshake e hs s).outside msk = s.outside msk := by
  unfold doOutHandshake
  try dsimp only
  repeat' first
    | with_reducible rfl
    | with_reducible refine ite_outside ?_ ?_
    | with_reducible refine (State.epOn_outside _ _ _ msk (sub_trans hm rfl)).trans ?_
    | with_reducible refine (afterXact_outside _ _ msk (sub_trans hm rfl)).trans ?_
    | with_reducible refine (failRun_outside _ _ _ msk (sub_trans hm rfl)).trans ?_
    | with_reducible refine (nakCount_outside _ _ msk (sub_trans hm rfl)).trans ?_
    | with_reducible refine (startXact_outside _ _ msk (sub_trans hm rfl)).trans ?_
    | with_reducible refine (txAccepted_outside _ _ msk (sub_trans hm rfl)).trans ?_
    | with_reducible refine (txHeld_outside _ _ _ msk (sub_trans hm rfl)).trans ?_
    | with_reducible refine (xactFailed_outside _ _ msk (sub_trans hm rfl)).trans ?_
    | split
theorem doNakLimitReached_outside (e : EpRef) (s : State) (msk : Nat) (hm : 64871186178058 &&& msk = 64871186178058) :
    (doNakLimitReached e s).outside msk = s.outside msk := by
  unfold doNakLimitReached
  try dsimp only
  repeat' first
    | with_reducible rfl
    | with_reducible refine ite_outside ?_ ?_
    | with_reducible refine (State.epOn_outside _ _ _ msk (sub_trans hm rfl)).trans ?_
    | with_reducible refine (afterXact_outside _ _ msk (sub_trans hm rfl)).trans ?_
    | with_reducible refine (failRun_outside _ _ _ msk (sub_trans hm rfl)).trans ?_
    | split
theorem doTransactionTimeout_outside (e : EpRef) (s : State) (msk : Nat) (hm : 64871186178058 &&& msk = 64871186178058) :
    (doTransactionTimeout e s).outside msk = s.outside msk := by
  unfold doTransactionTimeout
  try dsimp only
  repeat' first
    | with_reducible rfl
    | with_reducible refine ite_outside ?_ ?_
    | with_reducible refine (xactFailed_outside _ _ msk (sub_trans hm rfl)).trans ?_
    | split
theorem doTransactionErrorReceived_outside (e : EpRef) (x : XactErr) (s : State) (msk : Nat) (hm : 64871186178058 &&& msk = 64871186178058) :
    (doTransactionErrorReceived e x s).outside msk = s.outside msk := by
  unfold doTransactionErrorReceived
  try dsimp only
  repeat' first
    | with_reducible rfl
    | with_reducible refine ite_outside ?_ ?_
    | with_reducible refine (State.epOn_outside _ _ _ msk (sub_trans hm rfl)).trans ?_
    | with_reducible refine (State.send_outside _ _ _ msk (sub_trans hm rfl)).trans ?_
    | with_reducible refine (xactFailed_outside _ _ msk (sub_trans hm rfl)).trans ?_
    | split
theorem doStallReceived_outside (e : EpRef) (s : State) (msk : Nat) (hm : 64871186178058 &&& msk = 64871186178058) :
    (doStallReceived e s).outside msk = s.outside msk := by
  unfold doStallReceived
  try dsimp only
  repeat' first
    | with_reducible rfl
    | with_reducible refine ite_outside ?_ ?_
    | with_reducible refine (haltXfer_outside _ _ _ msk (sub_trans hm rfl)).trans ?_
    | split
theorem doBabbleDetected_outside (e : EpRef) (s : State) (msk : Nat) (hm : 64871186178058 &&& msk = 64871186178058) :
    (doBabbleDetected e s).outside msk = s.outside msk := by
  unfold doBabbleDetected
  try dsimp only
  repeat' first
    | with_reducible rfl
    | with_reducible refine ite_outside ?_ ?_
    | with_reducible refine (afterXact_outside _ _ msk (sub_trans hm rfl)).trans ?_
    | with_reducible refine (babbleEnd_outside _ _ msk (sub_trans hm rfl)).trans ?_
    | split
theorem doNrdyReceived_outside (e : EpRef) (s : State) (msk : Nat) (hm : 64871186178058 &&& msk = 64871186178058) :
    (doNrdyReceived e s).outside msk = s.outside msk := by
  unfold doNrdyReceived
  try dsimp only
  repeat' first
    | with_reducible rfl
    | with_reducible refine ite_outside ?_ ?_
    | with_reducible refine (State.epOn_outside _ _ _ msk (sub_trans hm rfl)).trans ?_
    | with_reducible refine (afterXact_outside _ _ msk (sub_trans hm rfl)).trans ?_
    | with_reducible refine (failRun_outside _ _ _ msk (sub_trans hm rfl)).trans ?_
    | split
theorem doErdyReceived_outside (e : EpRef) (s : State) (msk : Nat) (hm : 1099511635968 &&& msk = 1099511635968) :
    (doErdyReceived e s).outside msk = s.outside msk := by
  unfold doErdyReceived
  try dsimp only
  repeat' first
    | with_reducible rfl
    | with_reducible refine ite_outside ?_ ?_
    | with_reducible refine (State.emit_outside _ _ msk (sub_trans hm rfl)).trans ?_
    | with_reducible refine (State.epOn_outside _ _ _ msk (sub_trans hm rfl)).trans ?_
    | split
theorem splitFailed_outside (k : Nat) (cs ended : Bool) (s : State) (msk : Nat) (hm : 64871186178058 &&& msk = 64871186178058) :
    (splitFailed k cs ended s).outside msk = s.outside msk := by
  unfold splitFailed
  try dsimp only
  repeat' first
    | with_reducible rfl
    | with_reducible refine ite_outside ?_ ?_
    | with_reducible refine (State.epOn_outside _ _ _ msk (sub_trans hm rfl)).trans ?_
    | with_reducible refine (afterXact_outside _ _ msk (sub_trans hm rfl)).trans ?_
    | with_reducible refine (epBump_outside _ _ msk (sub_trans hm rfl)).trans ?_
    | with_reducible refine (epError_outside _ _ _ msk (sub_trans hm rfl)).trans ?_
    | with_reducible refine (failRun_outside _ _ _ msk (sub_trans hm rfl)).trans ?_
    | with_reducible refine (isoLost_outside _ _ msk (sub_trans hm rfl)).trans ?_
    | with_reducible refine (xactCount_outside _ _ msk (sub_trans hm rfl)).trans ?_
    | split
theorem doSplitResult_outside (e : EpRef) (x : SplitRes) (s : State) (msk : Nat) (hm : 65146064089098 &&& msk = 65146064089098) :
    (doSplitResult e x s).outside msk = s.outside msk := by
  unfold doSplitResult
  try dsimp only
  repeat' first
    | with_reducible rfl
    | with_reducible refine ite_outside ?_ ?_
    | with_reducible refine (State.epOn_outside _ _ _ msk (sub_trans hm rfl)).trans ?_
    | with_reducible refine (afterXact_outside _ _ msk (sub_trans hm rfl)).trans ?_
    | with_reducible refine (babbleEnd_outside _ _ msk (sub_trans hm rfl)).trans ?_
    | with_reducible refine (failRun_outside _ _ _ msk (sub_trans hm rfl)).trans ?_
    | with_reducible refine (nakCount_outside _ _ msk (sub_trans hm rfl)).trans ?_
    | with_reducible refine (splitFailed_outside _ _ _ _ msk (sub_trans hm rfl)).trans ?_
    | with_reducible refine (takeIn_outside _ _ _ _ _ msk (sub_trans hm rfl)).trans ?_
    | with_reducible refine (txAccepted_outside _ _ msk (sub_trans hm rfl)).trans ?_
    | with_reducible refine (txHeld_outside _ _ _ msk (sub_trans hm rfl)).trans ?_
    | with_reducible refine (xactFailed_outside _ _ msk (sub_trans hm rfl)).trans ?_
    | split
theorem doSetupStageComplete_outside (e : EpRef) (s : State) (msk : Nat) (hm : 64871186178058 &&& msk = 64871186178058) :
    (doSetupStageComplete e s).outside msk = s.outside msk := by
  unfold doSetupStageComplete
  try dsimp only
  repeat' first
    | with_reducible rfl
    | with_reducible refine ite_outside ?_ ?_
    | with_reducible refine (afterXact_outside _ _ msk (sub_trans hm rfl)).trans ?_
    | with_reducible refine (setupDone_outside _ _ msk (sub_trans hm rfl)).trans ?_
    | split
theorem doSetAddressRecoveryEnd_outside (sl : SlotRef) (s : State) (msk : Nat) (hm : 65146064154634 &&& msk = 65146064154634) :
    (doSetAddressRecoveryEnd sl s).outside msk = s.outside msk := by
  unfold doSetAddressRecoveryEnd
  try dsimp only
  repeat' first
    | with_reducible rfl
    | with_reducible refine (State.slotOn_outside _ _ _ msk (sub_trans hm rfl)).trans ?_
    | with_reducible refine (onward_outside _ _ msk (sub_trans hm rfl)).trans ?_
theorem doToggleSnoopReset_outside (sl : SlotRef) (s : State) (msk : Nat) (hm : 64871186182144 &&& msk = 64871186182144) :
    (doToggleSnoopReset sl s).outside msk = s.outside msk := by
  unfold doToggleSnoopReset
  try dsimp only
  repeat' first
    | with_reducible rfl
    | with_reducible refine ite_outside ?_ ?_
    | with_reducible refine (statusCommit_outside _ _ msk (sub_trans hm rfl)).trans ?_
    | split
theorem doIsoStreamEnd_outside (e : EpRef) (s : State) (msk : Nat) (hm : 8192 &&& msk = 8192) :
    (doIsoStreamEnd e s).outside msk = s.outside msk := by
  unfold doIsoStreamEnd
  try dsimp only
  repeat' first
    | with_reducible rfl
    | with_reducible refine ite_outside ?_ ?_
    | with_reducible refine (State.epOn_outside _ _ _ msk (sub_trans hm rfl)).trans ?_
    | split
theorem doIsoCommitDeadline_outside (e : EpRef) (s : State) (msk : Nat) (hm : 64871186178048 &&& msk = 64871186178048) :
    (doIsoCommitDeadline e s).outside msk = s.outside msk := by
  unfold doIsoCommitDeadline
  try dsimp only
  repeat' first
    | with_reducible rfl
    | with_reducible refine ite_outside ?_ ?_
    | with_reducible refine (State.epOn_outside _ _ _ msk (sub_trans hm rfl)).trans ?_
    | with_reducible refine (isoMiss_outside _ _ msk (sub_trans hm rfl)).trans ?_
    | split

/-! ### Links -/

theorem doUsb2ConnectDebounce_outside (p : Port) (low : Bool) (s : State) (msk : Nat) (hm : 64871186116608 &&& msk = 64871186116608) :
    (doUsb2ConnectDebounce p low s).outside msk = s.outside msk := by
  unfold doUsb2ConnectDebounce
  try dsimp only
  repeat' first
    | with_reducible rfl
    | with_reducible refine ite_outside ?_ ?_
    | with_reducible refine (State.sideOn_outside _ _ _ _ msk (sub_trans hm rfl)).trans ?_
    | with_reducible refine (driveReset_outside _ _ _ msk (sub_trans hm rfl)).trans ?_
    | with_reducible refine (portEvent_outside _ _ _ _ _ _ msk (sub_trans hm rfl)).trans ?_
    | split
theorem doSsTrainingU0_outside (p : Port) (gen2 : Bool) (s : State) (msk : Nat) (hm : 64871186235392 &&& msk = 64871186235392) :
    (doSsTrainingU0 p gen2 s).outside msk = s.outside msk := by
  unfold doSsTrainingU0
  try dsimp only
  repeat' first
    | with_reducible rfl
    | with_reducible refine ite_outside ?_ ?_
    | with_reducible refine (State.sideOn_outside _ _ _ _ msk (sub_trans hm rfl)).trans ?_
    | with_reducible refine (busStart_outside _ _ msk (sub_trans hm rfl)).trans ?_
    | with_reducible refine (portEvent_outside _ _ _ _ _ _ msk (sub_trans hm rfl)).trans ?_
    | split
theorem doSsTrainingTimeout_outside (p : Port) (s : State) (msk : Nat) (hm : 64871186104336 &&& msk = 64871186104336) :
    (doSsTrainingTimeout p s).outside msk = s.outside msk := by
  unfold doSsTrainingTimeout
  try dsimp only
  repeat' first
    | with_reducible rfl
    | with_reducible refine ite_outside ?_ ?_
    | with_reducible refine (State.rsAdd_outside _ _ _ _ _ msk (sub_trans hm rfl)).trans ?_
    | with_reducible refine (State.sideOn_outside _ _ _ _ msk (sub_trans hm rfl)).trans ?_
    | with_reducible refine (portEvent_outside _ _ _ _ _ _ msk (sub_trans hm rfl)).trans ?_
    | split
theorem sideDetach_outside (p : Nat) (sd : Side) (s : State) (msk : Nat) (hm : 64871186247690 &&& msk = 64871186247690) :
    (sideDetach p sd s).outside msk = s.outside msk := by
  unfold sideDetach
  try dsimp only
  repeat' first
    | with_reducible rfl
    | with_reducible refine ite_outside ?_ ?_
    | with_reducible refine (dropSide_outside _ _ _ _ msk (sub_trans hm rfl)).trans ?_
    | split
theorem doUsb2Detach_outside (p : Port) (s : State) (msk : Nat) (hm : 64871186247690 &&& msk = 64871186247690) :
    (doUsb2Detach p s).outside msk = s.outside msk := by
  unfold doUsb2Detach
  try dsimp only
  repeat' first
    | with_reducible rfl
    | with_reducible refine (sideDetach_outside _ _ _ msk (sub_trans hm rfl)).trans ?_
theorem doSsDetach_outside (p : Port) (s : State) (msk : Nat) (hm : 64871186247690 &&& msk = 64871186247690) :
    (doSsDetach p s).outside msk = s.outside msk := by
  unfold doSsDetach
  try dsimp only
  repeat' first
    | with_reducible rfl
    | with_reducible refine ite_outside ?_ ?_
    | with_reducible refine (sideDetach_outside _ _ _ msk (sub_trans hm rfl)).trans ?_
    | split
theorem doRemoteWakeDetected_outside (p : Port) (sd : Side) (s : State) (msk : Nat) (hm : 1099511693312 &&& msk = 1099511693312) :
    (doRemoteWakeDetected p sd s).outside msk = s.outside msk := by
  unfold doRemoteWakeDetected
  try dsimp only
  repeat' first
    | with_reducible rfl
    | with_reducible refine ite_outside ?_ ?_
    | with_reducible refine (State.sideOn_outside _ _ _ _ msk (sub_trans hm rfl)).trans ?_
    | with_reducible refine (startResume_outside _ _ _ _ msk (sub_trans hm rfl)).trans ?_
    | split
theorem doL1IdleExpire_outside (p : Port) (s : State) (msk : Nat) (hm : 1099511693312 &&& msk = 1099511693312) :
    (doL1IdleExpire p s).outside msk = s.outside msk := by
  unfold doL1IdleExpire
  try dsimp only
  repeat' first
    | with_reducible rfl
    | with_reducible refine ite_outside ?_ ?_
    | with_reducible refine (State.emit_outside _ _ msk (sub_trans hm rfl)).trans ?_
    | with_reducible refine (State.sideOn_outside _ _ _ _ msk (sub_trans hm rfl)).trans ?_
    | split
theorem doLpmAnswer_outside (p : Port) (a : LpmAns) (s : State) (msk : Nat) (hm : 65536 &&& msk = 65536) :
    (doLpmAnswer p a s).outside msk = s.outside msk := by
  unfold doLpmAnswer
  try dsimp only
  repeat' first
    | with_reducible rfl
    | with_reducible refine ite_outside ?_ ?_
    | with_reducible refine (State.sideOn_outside _ _ _ _ msk (sub_trans hm rfl)).trans ?_
    | split
theorem doL1Exit_outside (p : Port) (byDevice : Bool) (s : State) (msk : Nat) (hm : 65536 &&& msk = 65536) :
    (doL1Exit p byDevice s).outside msk = s.outside msk := by
  unfold doL1Exit
  try dsimp only
  repeat' first
    | with_reducible rfl
    | with_reducible refine ite_outside ?_ ?_
    | with_reducible refine (State.sideOn_outside _ _ _ _ msk (sub_trans hm rfl)).trans ?_
    | split
theorem doUStateTimerExpire_outside (p : Port) (u2 : Bool) (s : State) (msk : Nat) (hm : 1099511693312 &&& msk = 1099511693312) :
    (doUStateTimerExpire p u2 s).outside msk = s.outside msk := by
  unfold doUStateTimerExpire
  try dsimp only
  repeat' first
    | with_reducible rfl
    | with_reducible refine ite_outside ?_ ?_
    | with_reducible refine (State.emit_outside _ _ msk (sub_trans hm rfl)).trans ?_
    | with_reducible refine (State.sideOn_outside _ _ _ _ msk (sub_trans hm rfl)).trans ?_
    | split
theorem doU1U2EntryRequest_outside (p : Port) (u2 : Bool) (s : State) (msk : Nat) (hm : 1099511693312 &&& msk = 1099511693312) :
    (doU1U2EntryRequest p u2 s).outside msk = s.outside msk := by
  unfold doU1U2EntryRequest
  try dsimp only
  repeat' first
    | with_reducible rfl
    | with_reducible refine ite_outside ?_ ?_
    | with_reducible refine (State.emit_outside _ _ msk (sub_trans hm rfl)).trans ?_
    | with_reducible refine (State.sideOn_outside _ _ _ _ msk (sub_trans hm rfl)).trans ?_
    | split
theorem doSsInactive_outside (p : Port) (s : State) (msk : Nat) (hm : 64871186243610 &&& msk = 64871186243610) :
    (doSsInactive p s).outside msk = s.outside msk := by
  unfold doSsInactive
  try dsimp only
  repeat' first
    | with_reducible rfl
    | with_reducible refine ite_outside ?_ ?_
    | with_reducible refine (State.rsAdd_outside _ _ _ _ _ msk (sub_trans hm rfl)).trans ?_
    | with_reducible refine (errorSide_outside _ _ _ _ _ msk (sub_trans hm rfl)).trans ?_
    | split
theorem doPortBabble_outside (p : Port) (loss : Bool) (s : State) (msk : Nat) (hm : 64871186243610 &&& msk = 64871186243610) :
    (doPortBabble p loss s).outside msk = s.outside msk := by
  unfold doPortBabble
  try dsimp only
  repeat' first
    | with_reducible rfl
    | with_reducible refine ite_outside ?_ ?_
    | with_reducible refine (State.rsAdd_outside _ _ _ _ _ msk (sub_trans hm rfl)).trans ?_
    | with_reducible refine (errorSide_outside _ _ _ _ _ msk (sub_trans hm rfl)).trans ?_
    | split
theorem doSsRecoveryEntry_outside (p : Port) (s : State) (msk : Nat) (hm : 35184372088848 &&& msk = 35184372088848) :
    (doSsRecoveryEntry p s).outside msk = s.outside msk := by
  unfold doSsRecoveryEntry
  try dsimp only
  repeat' first
    | with_reducible rfl
    | with_reducible refine (State.rsAdd_outside _ _ _ _ _ msk (sub_trans hm rfl)).trans ?_
theorem doDeviceNotificationReceived_outside (p : Port) (k : DevNotif) (s : State) (msk : Nat) (hm : 65536 &&& msk = 65536) :
    (doDeviceNotificationReceived p k s).outside msk = s.outside msk := by
  unfold doDeviceNotificationReceived
  try dsimp only
  repeat' first
    | with_reducible rfl
    | with_reducible refine ite_outside ?_ ?_
    | with_reducible refine (State.sideOn_outside _ _ _ _ msk (sub_trans hm rfl)).trans ?_
    | split

/-! ### Guests -/

theorem State.guestOut_outside (s : State) (p : Nat) (b : BusOut) (msk : Nat) (hm : 1099511627776 &&& msk = 1099511627776) :
    (State.guestOut s p b).outside msk = s.outside msk := by
  unfold State.guestOut
  try dsimp only
  repeat' first
    | with_reducible rfl
    | with_reducible refine (State.emit_outside _ _ msk (sub_trans hm rfl)).trans ?_
theorem doGuestPresent_outside (p : Port) (s : State) (msk : Nat) (hm : 262144 &&& msk = 262144) :
    (doGuestPresent p s).outside msk = s.outside msk := by
  unfold doGuestPresent
  try dsimp only
  repeat' first
    | with_reducible rfl
    | with_reducible refine ite_outside ?_ ?_
    | with_reducible refine (State.guestOn_outside _ _ _ msk (sub_trans hm rfl)).trans ?_
    | with_reducible refine (guestBump_outside _ _ msk (sub_trans hm rfl)).trans ?_
    | split
theorem resetGuestEp0_outside (k : Nat) (s : State) (msk : Nat) (hm : 64871186046976 &&& msk = 64871186046976) :
    (resetGuestEp0 k s).outside msk = s.outside msk := by
  unfold resetGuestEp0
  try dsimp only
  repeat' first
    | with_reducible rfl
    | with_reducible refine ite_outside ?_ ?_
    | with_reducible refine (State.epOn_outside _ _ _ msk (sub_trans hm rfl)).trans ?_
    | with_reducible refine (epBump_outside _ _ msk (sub_trans hm rfl)).trans ?_
    | with_reducible refine (retireXfer_outside _ _ msk (sub_trans hm rfl)).trans ?_
    | with_reducible refine (stopPost_outside _ _ _ msk (sub_trans hm rfl)).trans ?_
    | with_reducible refine (xferPost_outside _ _ _ _ _ _ _ _ msk (sub_trans hm rfl)).trans ?_
    | split
theorem doGuestBusReset_outside (p : Port) (s : State) (msk : Nat) (hm : 64871186505736 &&& msk = 64871186505736) :
    (doGuestBusReset p s).outside msk = s.outside msk := by
  unfold doGuestBusReset
  try dsimp only
  repeat' first
    | with_reducible rfl
    | with_reducible refine ite_outside ?_ ?_
    | with_reducible refine (State.epOn_outside _ _ _ msk (sub_trans hm rfl)).trans ?_
    | with_reducible refine (State.guestOn_outside _ _ _ msk (sub_trans hm rfl)).trans ?_
    | with_reducible refine (State.sideOn_outside _ _ _ _ msk (sub_trans hm rfl)).trans ?_
    | with_reducible refine (epSettle_outside _ _ msk (sub_trans hm rfl)).trans ?_
    | with_reducible refine (forEach_outside _ _ _ msk ?_).trans ?_
    | with_reducible refine (guestAbort_outside _ _ msk (sub_trans hm rfl)).trans ?_
    | with_reducible refine (guestBump_outside _ _ msk (sub_trans hm rfl)).trans ?_
    | with_reducible refine (guestPause_outside _ _ _ msk (sub_trans hm rfl)).trans ?_
    | with_reducible refine (resetGuestEp0_outside _ _ msk (sub_trans hm rfl)).trans ?_
    | (intro _)
    | split
theorem doGuestResetEnd_outside (p : Port) (sp : Speed) (s : State) (msk : Nat) (hm : 64871186505728 &&& msk = 64871186505728) :
    (doGuestResetEnd p sp s).outside msk = s.outside msk := by
  unfold doGuestResetEnd
  try dsimp only
  repeat' first
    | with_reducible rfl
    | with_reducible refine ite_outside ?_ ?_
    | with_reducible refine (State.epOn_outside _ _ _ msk (sub_trans hm rfl)).trans ?_
    | with_reducible refine (State.guestOn_outside _ _ _ msk (sub_trans hm rfl)).trans ?_
    | with_reducible refine (State.sideOn_outside _ _ _ _ msk (sub_trans hm rfl)).trans ?_
    | with_reducible refine (epClose_outside _ _ msk (sub_trans hm rfl)).trans ?_
    | with_reducible refine (forEach_outside _ _ _ msk ?_).trans ?_
    | with_reducible refine (guestBump_outside _ _ msk (sub_trans hm rfl)).trans ?_
    | with_reducible refine (portEvent_outside _ _ _ _ _ _ msk (sub_trans hm rfl)).trans ?_
    | (intro _)
    | split
theorem takeAddress_outside (p a : Nat) (s : State) (msk : Nat) (hm : 64871186300928 &&& msk = 64871186300928) :
    (takeAddress p a s).outside msk = s.outside msk := by
  unfold takeAddress
  try dsimp only
  repeat' first
    | with_reducible rfl
    | with_reducible refine ite_outside ?_ ?_
    | with_reducible refine (State.guestOn_outside _ _ _ msk (sub_trans hm rfl)).trans ?_
    | with_reducible refine (guestBump_outside _ _ msk (sub_trans hm rfl)).trans ?_
    | with_reducible refine (portEvent_outside _ _ _ _ _ _ msk (sub_trans hm rfl)).trans ?_
    | split
theorem settleAddress_outside (p : Nat) (s : State) (msk : Nat) (hm : 69269232812032 &&& msk = 69269232812032) :
    (settleAddress p s).outside msk = s.outside msk := by
  unfold settleAddress
  try dsimp only
  repeat' first
    | with_reducible rfl
    | with_reducible refine ite_outside ?_ ?_
    | with_reducible refine (takeAddress_outside _ _ _ msk (sub_trans hm rfl)).trans ?_
    | simp only [set_free_outside _ _ msk (sub_trans hm rfl)]
    | split
theorem supersede_outside (p : Nat) (s : State) (msk : Nat) (hm : 270336 &&& msk = 270336) :
    (supersede p s).outside msk = s.outside msk := by
  unfold supersede
  try dsimp only
  repeat' first
    | with_reducible rfl
    | with_reducible refine ite_outside ?_ ?_
    | with_reducible refine (State.epOn_outside _ _ _ msk (sub_trans hm rfl)).trans ?_
    | with_reducible refine (State.guestOn_outside _ _ _ msk (sub_trans hm rfl)).trans ?_
    | with_reducible refine (epBump_outside _ _ msk (sub_trans hm rfl)).trans ?_
    | split
theorem doGuestSetupReceived_outside (p : Port) (pkt : BitVec 64) (s : State) (msk : Nat) (hm : 69544110858240 &&& msk = 69544110858240) :
    (doGuestSetupReceived p pkt s).outside msk = s.outside msk := by
  unfold doGuestSetupReceived
  try dsimp only
  repeat' first
    | with_reducible rfl
    | with_reducible refine ite_outside ?_ ?_
    | with_reducible refine (State.guestOn_outside _ _ _ msk (sub_trans hm rfl)).trans ?_
    | with_reducible refine (State.guestOut_outside _ _ _ msk (sub_trans hm rfl)).trans ?_
    | with_reducible refine (epSettle_outside _ _ msk (sub_trans hm rfl)).trans ?_
    | with_reducible refine (guestBump_outside _ _ msk (sub_trans hm rfl)).trans ?_
    | with_reducible refine (settleAddress_outside _ _ msk (sub_trans hm rfl)).trans ?_
    | with_reducible refine (supersede_outside _ _ msk (sub_trans hm rfl)).trans ?_
    | with_reducible refine (tallyAdd_outside _ _ _ _ msk (sub_trans hm rfl)).trans ?_
    | split
theorem doGuestSetupDeliver_outside (p : Port) (s : State) (msk : Nat) (hm : 64871186440192 &&& msk = 64871186440192) :
    (doGuestSetupDeliver p s).outside msk = s.outside msk := by
  unfold doGuestSetupDeliver
  try dsimp only
  repeat' first
    | with_reducible rfl
    | with_reducible refine ite_outside ?_ ?_
    | with_reducible refine (State.emit_outside _ _ msk (sub_trans hm rfl)).trans ?_
    | with_reducible refine (State.epOn_outside _ _ _ msk (sub_trans hm rfl)).trans ?_
    | with_reducible refine (State.guestOn_outside _ _ _ msk (sub_trans hm rfl)).trans ?_
    | with_reducible refine (completeHead_outside _ _ _ msk (sub_trans hm rfl)).trans ?_
    | with_reducible refine (epBump_outside _ _ msk (sub_trans hm rfl)).trans ?_
    | with_reducible refine (epSettle_outside _ _ msk (sub_trans hm rfl)).trans ?_
    | with_reducible refine (guestBump_outside _ _ msk (sub_trans hm rfl)).trans ?_
    | split
theorem guestWait_outside (p k : Nat) (s : State) (msk : Nat) (hm : 1099511635968 &&& msk = 1099511635968) :
    (guestWait p k s).outside msk = s.outside msk := by
  unfold guestWait
  try dsimp only
  repeat' first
    | with_reducible rfl
    | with_reducible refine ite_outside ?_ ?_
    | with_reducible refine (State.epOn_outside _ _ _ msk (sub_trans hm rfl)).trans ?_
    | with_reducible refine (State.guestOut_outside _ _ _ msk (sub_trans hm rfl)).trans ?_
    | split
theorem guestSend_outside (p k : Nat) (bytes : List Byte) (tog : Nat) (s : State) (msk : Nat) (hm : 1099511635968 &&& msk = 1099511635968) :
    (guestSend p k bytes tog s).outside msk = s.outside msk := by
  unfold guestSend
  try dsimp only
  repeat' first
    | with_reducible rfl
    | with_reducible refine (State.epOn_outside _ _ _ msk (sub_trans hm rfl)).trans ?_
    | with_reducible refine (State.guestOut_outside _ _ _ msk (sub_trans hm rfl)).trans ?_
theorem guestTokenIn_outside (p k : Nat) (s : State) (msk : Nat) (hm : 65146064351232 &&& msk = 65146064351232) :
    (guestTokenIn p k s).outside msk = s.outside msk := by
  unfold guestTokenIn
  try dsimp only
  repeat' first
    | with_reducible rfl
    | with_reducible refine ite_outside ?_ ?_
    | with_reducible refine (State.epOn_outside _ _ _ msk (sub_trans hm rfl)).trans ?_
    | with_reducible refine (State.guestOn_outside _ _ _ msk (sub_trans hm rfl)).trans ?_
    | with_reducible refine (State.guestOut_outside _ _ _ msk (sub_trans hm rfl)).trans ?_
    | with_reducible refine (guestSend_outside _ _ _ _ _ msk (sub_trans hm rfl)).trans ?_
    | with_reducible refine (guestWait_outside _ _ _ msk (sub_trans hm rfl)).trans ?_
    | with_reducible refine (isoEmptyPost_outside _ _ msk (sub_trans hm rfl)).trans ?_
    | with_reducible refine (txAccepted_outside _ _ msk (sub_trans hm rfl)).trans ?_
    | split
theorem doGuestToken_outside (p : Port) (ep : Fin 31) (t : TokenKind) (s : State) (msk : Nat) (hm : 69544110927872 &&& msk = 69544110927872) :
    (doGuestToken p ep t s).outside msk = s.outside msk := by
  unfold doGuestToken
  try dsimp only
  repeat' first
    | with_reducible rfl
    | with_reducible refine ite_outside ?_ ?_
    | with_reducible refine (State.emit_outside _ _ msk (sub_trans hm rfl)).trans ?_
    | with_reducible refine (State.guestOut_outside _ _ _ msk (sub_trans hm rfl)).trans ?_
    | with_reducible refine (State.sideOn_outside _ _ _ _ msk (sub_trans hm rfl)).trans ?_
    | with_reducible refine (guestTokenIn_outside _ _ _ msk (sub_trans hm rfl)).trans ?_
    | with_reducible refine (settleAddress_outside _ _ msk (sub_trans hm rfl)).trans ?_
    | split
theorem guestHold_outside (p : Port) (ep : Fin 31) (sends : Bool) (s : State) (msk : Nat) (hm : 1099511635968 &&& msk = 1099511635968) :
    (guestHold p ep sends s).outside msk = s.outside msk := by
  unfold guestHold
  try dsimp only
  repeat' first
    | with_reducible rfl
    | with_reducible refine ite_outside ?_ ?_
    | with_reducible refine (State.epOn_outside _ _ _ msk (sub_trans hm rfl)).trans ?_
    | with_reducible refine (State.guestOut_outside _ _ _ msk (sub_trans hm rfl)).trans ?_
    | with_reducible refine (guestWait_outside _ _ _ msk (sub_trans hm rfl)).trans ?_
    | split
theorem guestTake_outside (p k : Nat) (bytes : List Byte) (s : State) (msk : Nat) (hm : 65146064084992 &&& msk = 65146064084992) :
    (guestTake p k bytes s).outside msk = s.outside msk := by
  unfold guestTake
  try dsimp only
  repeat' first
    | with_reducible rfl
    | with_reducible refine ite_outside ?_ ?_
    | with_reducible refine (State.epOn_outside _ _ _ msk (sub_trans hm rfl)).trans ?_
    | with_reducible refine (State.guestOut_outside _ _ _ msk (sub_trans hm rfl)).trans ?_
    | with_reducible refine (commitPacket_outside _ _ _ msk (sub_trans hm rfl)).trans ?_
    | split
theorem guestTakeIso_outside (p k : Nat) (bytes : List Byte) (s : State) (msk : Nat) (hm : 65146064084992 &&& msk = 65146064084992) :
    (guestTakeIso p k bytes s).outside msk = s.outside msk := by
  unfold guestTakeIso
  try dsimp only
  repeat' first
    | with_reducible rfl
    | with_reducible refine ite_outside ?_ ?_
    | with_reducible refine (State.epOn_outside _ _ _ msk (sub_trans hm rfl)).trans ?_
    | with_reducible refine (commitPacket_outside _ _ _ msk (sub_trans hm rfl)).trans ?_
    | with_reducible refine (isoEmptyPost_outside _ _ msk (sub_trans hm rfl)).trans ?_
    | split
theorem doGuestOutPacket_outside (p : Port) (ep : Fin 31) (tog : BitVec 5) (bytes : List Byte) (s : State) (msk : Nat) (hm : 69544110862362 &&& msk = 69544110862362) :
    (doGuestOutPacket p ep tog bytes s).outside msk = s.outside msk := by
  unfold doGuestOutPacket
  try dsimp only
  repeat' first
    | with_reducible rfl
    | with_reducible refine ite_outside ?_ ?_
    | with_reducible refine (State.epOn_outside _ _ _ msk (sub_trans hm rfl)).trans ?_
    | with_reducible refine (State.guestOut_outside _ _ _ msk (sub_trans hm rfl)).trans ?_
    | with_reducible refine (afterXact_outside _ _ msk (sub_trans hm rfl)).trans ?_
    | with_reducible refine (epError_outside _ _ _ msk (sub_trans hm rfl)).trans ?_
    | with_reducible refine (guestTake_outside _ _ _ _ msk (sub_trans hm rfl)).trans ?_
    | with_reducible refine (guestTakeIso_outside _ _ _ _ msk (sub_trans hm rfl)).trans ?_
    | with_reducible refine (guestWait_outside _ _ _ msk (sub_trans hm rfl)).trans ?_
    | with_reducible refine (snd_outside (raceAck_outside _ _ msk (sub_trans hm rfl)) ‹_›).trans ?_
    | with_reducible refine (raceAck_outside _ _ msk (sub_trans hm rfl)).trans ?_
    | with_reducible refine (settleAddress_outside _ _ msk (sub_trans hm rfl)).trans ?_
    | with_reducible refine (statusDone_outside _ _ msk (sub_trans hm rfl)).trans ?_
    | split
theorem doGuestInHandshake_outside (p : Port) (ep : Fin 31) (acked : Bool) (s : State) (msk : Nat) (hm : 65146064351242 &&& msk = 65146064351242) :
    (doGuestInHandshake p ep acked s).outside msk = s.outside msk := by
  unfold doGuestInHandshake
  try dsimp only
  repeat' first
    | with_reducible rfl
    | with_reducible refine ite_outside ?_ ?_
    | with_reducible refine (State.epOn_outside _ _ _ msk (sub_trans hm rfl)).trans ?_
    | with_reducible refine (afterXact_outside _ _ msk (sub_trans hm rfl)).trans ?_
    | with_reducible refine (takeAddress_outside _ _ _ msk (sub_trans hm rfl)).trans ?_
    | with_reducible refine (txAccepted_outside _ _ msk (sub_trans hm rfl)).trans ?_
    | split
theorem doGuestSuspendDetect_outside (p : Port) (s : State) (msk : Nat) (hm : 64871186366464 &&& msk = 64871186366464) :
    (doGuestSuspendDetect p s).outside msk = s.outside msk := by
  unfold doGuestSuspendDetect
  try dsimp only
  repeat' first
    | with_reducible rfl
    | with_reducible refine ite_outside ?_ ?_
    | with_reducible refine (State.guestOn_outside _ _ _ msk (sub_trans hm rfl)).trans ?_
    | with_reducible refine (State.sideOn_outside _ _ _ _ msk (sub_trans hm rfl)).trans ?_
    | with_reducible refine (guestBump_outside _ _ msk (sub_trans hm rfl)).trans ?_
    | with_reducible refine (portEvent_outside _ _ _ _ _ _ msk (sub_trans hm rfl)).trans ?_
    | split
theorem doGuestResumeDetect_outside (p : Port) (s : State) (msk : Nat) (hm : 64871186366472 &&& msk = 64871186366472) :
    (doGuestResumeDetect p s).outside msk = s.outside msk := by
  unfold doGuestResumeDetect
  try dsimp only
  repeat' first
    | with_reducible rfl
    | with_reducible refine ite_outside ?_ ?_
    | with_reducible refine (State.emit_outside _ _ msk (sub_trans hm rfl)).trans ?_
    | with_reducible refine (State.guestOn_outside _ _ _ msk (sub_trans hm rfl)).trans ?_
    | with_reducible refine (State.sideOn_outside _ _ _ _ msk (sub_trans hm rfl)).trans ?_
    | with_reducible refine (cmdDone_outside _ _ _ _ _ _ msk (sub_trans hm rfl)).trans ?_
    | with_reducible refine (guestBump_outside _ _ msk (sub_trans hm rfl)).trans ?_
    | with_reducible refine (opDrop_outside _ _ msk (sub_trans hm rfl)).trans ?_
    | with_reducible refine (portEvent_outside _ _ _ _ _ _ msk (sub_trans hm rfl)).trans ?_
    | split
theorem doGuestHostGone_outside (p : Port) (cause : GoneCause) (s : State) (msk : Nat) (hm : 64871186374664 &&& msk = 64871186374664) :
    (doGuestHostGone p cause s).outside msk = s.outside msk := by
  unfold doGuestHostGone
  try dsimp only
  repeat' first
    | with_reducible rfl
    | with_reducible refine (guestGone_outside _ _ _ msk (sub_trans hm rfl)).trans ?_
theorem doGuestSsLinkTimeout_outside (p : Port) (s : State) (msk : Nat) (hm : 64871186374664 &&& msk = 64871186374664) :
    (doGuestSsLinkTimeout p s).outside msk = s.outside msk := by
  unfold doGuestSsLinkTimeout
  try dsimp only
  repeat' first
    | with_reducible rfl
    | with_reducible refine ite_outside ?_ ?_
    | with_reducible refine (guestGone_outside _ _ _ msk (sub_trans hm rfl)).trans ?_
    | split

/-! ### Dispatcher -/

theorem doDispatcherSourceAssert_outside (n : Nat) (entering : Option Proc) (s : State) (msk : Nat) (hm : 35186519572496 &&& msk = 35186519572496) :
    (doDispatcherSourceAssert n entering s).outside msk = s.outside msk := by
  unfold doDispatcherSourceAssert
  try dsimp only
  repeat' first
    | with_reducible rfl
    | with_reducible refine (dspAssert_outside _ _ msk (sub_trans hm rfl)).trans ?_
    | with_reducible refine (dspRetarget_outside _ _ _ msk (sub_trans hm rfl)).trans ?_
    | split
theorem eoiTop_outside (pr n : Nat) (stillHigh seenHigh : Bool) (s : State) (msk : Nat) (hm : 35186519572496 &&& msk = 35186519572496) :
    (eoiTop pr n stillHigh seenHigh s).outside msk = s.outside msk := by
  unfold eoiTop
  try dsimp only
  repeat' first
    | with_reducible rfl
    | with_reducible refine ite_outside ?_ ?_
    | with_reducible refine (State.dspSrcOn_outside _ _ _ msk (sub_trans hm rfl)).trans ?_
    | with_reducible refine (State.procOn_outside _ _ _ msk (sub_trans hm rfl)).trans ?_
    | with_reducible refine (State.rsAdd_outside _ _ _ _ _ msk (sub_trans hm rfl)).trans ?_
    | with_reducible refine (snd_outside (dspClaim_outside _ _ msk (sub_trans hm rfl)) ‹_›).trans ?_
    | with_reducible refine (dspClaim_outside _ _ msk (sub_trans hm rfl)).trans ?_
    | with_reducible refine (dspPend_outside _ _ msk (sub_trans hm rfl)).trans ?_
    | split
theorem doDispatcherEoi_outside (pr n : Nat) (stillHigh seenHigh : Bool) (s : State) (msk : Nat) (hm : 65522859193370 &&& msk = 65522859193370) :
    (doDispatcherEoi pr n stillHigh seenHigh s).outside msk = s.outside msk := by
  unfold doDispatcherEoi
  try dsimp only
  repeat' first
    | with_reducible rfl
    | with_reducible refine ite_outside ?_ ?_
    | with_reducible refine (State.rsAdd_outside _ _ _ _ _ msk (sub_trans hm rfl)).trans ?_
    | with_reducible refine (eoiTop_outside _ _ _ _ _ msk (sub_trans hm rfl)).trans ?_
    | with_reducible refine (unitOnce_outside _ _ _ _ _ msk (sub_trans hm rfl)).trans ?_
    | split
theorem doHoldoffTimerExpire_outside (g : Nat) (s : State) (msk : Nat) (hm : 2147483648 &&& msk = 2147483648) :
    (doHoldoffTimerExpire g s).outside msk = s.outside msk := by
  unfold doHoldoffTimerExpire
  try dsimp only
  repeat' first
    | with_reducible rfl
    | with_reducible refine ite_outside ?_ ?_
    | with_reducible refine (State.dspSrcOn_outside _ _ _ msk (sub_trans hm rfl)).trans ?_
    | with_reducible refine (State.holdoffOn_outside _ _ _ msk (sub_trans hm rfl)).trans ?_
    | with_reducible refine (forEach_outside _ _ _ msk ?_).trans ?_
    | (intro _)
    | split

/-! ### CoreUnits -/

theorem doSramEccError_outside (a : Array2) (unit : Nat) (double : Bool) (s : State) (msk : Nat) (hm : 65522859193370 &&& msk = 65522859193370) :
    (doSramEccError a unit double s).outside msk = s.outside msk := by
  unfold doSramEccError
  try dsimp only
  repeat' first
    | with_reducible rfl
    | with_reducible refine ite_outside ?_ ?_
    | with_reducible refine (State.rsAdd_outside _ _ _ _ _ msk (sub_trans hm rfl)).trans ?_
    | with_reducible refine (epFault_outside _ _ msk (sub_trans hm rfl)).trans ?_
    | with_reducible refine (raiseFault_outside _ _ _ _ _ _ _ msk (sub_trans hm rfl)).trans ?_
    | with_reducible refine (unitOnce_outside _ _ _ _ _ msk (sub_trans hm rfl)).trans ?_
    | split
theorem doScrubTick_outside (s : State) (msk : Nat) (hm : 549755813888 &&& msk = 549755813888) :
    (doScrubTick s).outside msk = s.outside msk := by
  unfold doScrubTick
  try dsimp only
  repeat' first
    | with_reducible rfl
    | with_reducible refine ite_outside ?_ ?_
    | with_reducible refine (unitsOn_outside _ _ msk (sub_trans hm rfl)).trans ?_
    | split
theorem doMarchTimer_outside (s : State) (msk : Nat) (hm : 549755813888 &&& msk = 549755813888) :
    (doMarchTimer s).outside msk = s.outside msk := by
  unfold doMarchTimer
  try dsimp only
  repeat' first
    | with_reducible rfl
    | with_reducible refine ite_outside ?_ ?_
    | with_reducible refine (unitsOn_outside _ _ msk (sub_trans hm rfl)).trans ?_
    | split
theorem doMarchDone_outside (pass : Bool) (s : State) (msk : Nat) (hm : 65522590756890 &&& msk = 65522590756890) :
    (doMarchDone pass s).outside msk = s.outside msk := by
  unfold doMarchDone
  try dsimp only
  repeat' first
    | with_reducible rfl
    | with_reducible refine ite_outside ?_ ?_
    | with_reducible refine (bankRetire_outside _ _ _ msk (sub_trans hm rfl)).trans ?_
    | with_reducible refine (unitsOn_outside _ _ msk (sub_trans hm rfl)).trans ?_
    | split
theorem doEfuseTestPulse_outside (p : Port) (agree : Bool) (s : State) (msk : Nat) (hm : 65522859193370 &&& msk = 65522859193370) :
    (doEfuseTestPulse p agree s).outside msk = s.outside msk := by
  unfold doEfuseTestPulse
  try dsimp only
  repeat' first
    | with_reducible rfl
    | with_reducible refine ite_outside ?_ ?_
    | with_reducible refine (unitOnce_outside _ _ _ _ _ msk (sub_trans hm rfl)).trans ?_
    | split
theorem doColdFrameWatchTest_outside (seen : Bool) (s : State) (msk : Nat) (hm : 65522859193882 &&& msk = 65522859193882) :
    (doColdFrameWatchTest seen s).outside msk = s.outside msk := by
  unfold doColdFrameWatchTest
  try dsimp only
  repeat' first
    | with_reducible rfl
    | with_reducible refine ite_outside ?_ ?_
    | with_reducible refine (coldCopies_outside _ msk (sub_trans hm rfl)).trans ?_
    | with_reducible refine (unitOnce_outside _ _ _ _ _ msk (sub_trans hm rfl)).trans ?_
    | split
theorem hopPut_outside (hop : Nat) (x : HopSt) (s : State) (msk : Nat) (hm : 549755813888 &&& msk = 549755813888) :
    (hopPut hop x s).outside msk = s.outside msk := by
  unfold hopPut
  try dsimp only
  repeat' first
    | with_reducible rfl
    | with_reducible refine (unitsOn_outside _ _ msk (sub_trans hm rfl)).trans ?_
theorem pathRetire_outside (hop : Nat) (s : State) (msk : Nat) (hm : 65522859193370 &&& msk = 65522859193370) :
    (pathRetire hop s).outside msk = s.outside msk := by
  unfold pathRetire
  try dsimp only
  repeat' first
    | with_reducible rfl
    | with_reducible refine (hopPut_outside _ _ _ msk (sub_trans hm rfl)).trans ?_
    | with_reducible refine (unitOnce_outside _ _ _ _ _ msk (sub_trans hm rfl)).trans ?_
theorem doFabricCheckFail_outside (w : HopWord) (s : State) (msk : Nat) (hm : 65522859193370 &&& msk = 65522859193370) :
    (doFabricCheckFail w s).outside msk = s.outside msk := by
  unfold doFabricCheckFail
  try dsimp only
  repeat' first
    | with_reducible rfl
    | with_reducible refine ite_outside ?_ ?_
    | with_reducible refine (hopPut_outside _ _ _ msk (sub_trans hm rfl)).trans ?_
    | with_reducible refine (pathRetire_outside _ _ msk (sub_trans hm rfl)).trans ?_
    | with_reducible refine (unitOnce_outside _ _ _ _ _ msk (sub_trans hm rfl)).trans ?_
    | split
theorem doFabricHandshakeTimeout_outside (hop : Nat) (s : State) (msk : Nat) (hm : 65522859193370 &&& msk = 65522859193370) :
    (doFabricHandshakeTimeout hop s).outside msk = s.outside msk := by
  unfold doFabricHandshakeTimeout
  try dsimp only
  repeat' first
    | with_reducible rfl
    | with_reducible refine ite_outside ?_ ?_
    | with_reducible refine (pathRetire_outside _ _ msk (sub_trans hm rfl)).trans ?_
    | split
theorem doLaneFail_outside (b : Bed) (lane : Nat) (s : State) (msk : Nat) (hm : 65522859193370 &&& msk = 65522859193370) :
    (doLaneFail b lane s).outside msk = s.outside msk := by
  unfold doLaneFail
  try dsimp only
  repeat' first
    | with_reducible rfl
    | with_reducible refine ite_outside ?_ ?_
    | with_reducible refine (State.bedOn_outside _ _ _ msk (sub_trans hm rfl)).trans ?_
    | with_reducible refine (unitOnce_outside _ _ _ _ _ msk (sub_trans hm rfl)).trans ?_
    | split
theorem doThermalWarning_outside (die : Fin 9) (s : State) (msk : Nat) (hm : 65522859193370 &&& msk = 65522859193370) :
    (doThermalWarning die s).outside msk = s.outside msk := by
  unfold doThermalWarning
  try dsimp only
  repeat' first
    | with_reducible rfl
    | with_reducible refine ite_outside ?_ ?_
    | with_reducible refine (State.bedOn_outside _ _ _ msk (sub_trans hm rfl)).trans ?_
    | with_reducible refine (forEach_outside _ _ _ msk ?_).trans ?_
    | with_reducible refine (sendAlert_outside _ _ _ msk (sub_trans hm rfl)).trans ?_
    | with_reducible refine (unitOnce_outside _ _ _ _ _ msk (sub_trans hm rfl)).trans ?_
    | (intro _)
    | split
theorem doThermalShutdown_outside (die : Fin 9) (s : State) (msk : Nat) (hm : 65522859193370 &&& msk = 65522859193370) :
    (doThermalShutdown die s).outside msk = s.outside msk := by
  unfold doThermalShutdown
  try dsimp only
  repeat' first
    | with_reducible rfl
    | with_reducible refine ite_outside ?_ ?_
    | with_reducible refine (unitFault_outside _ _ _ msk (sub_trans hm rfl)).trans ?_
    | split

end Sys2Proof.Machine
end

