-- ==== Sys2Proof/Laws/Faults.lean ====
section
/-! SUPPORT. What a cause on a fault source whose reaction is at most NOTIFY leaves as it was. -/

namespace Sys2Proof.Safety

open Sys2Proof Sys2Proof.Machine

/-- What a record of a light source may write: registers, the dispatcher, the collector, the almanac, SMB_ALERT_N and events. -/
abbrev lightMask : Nat := 2 ^ 4 + 2 ^ 31 + 2 ^ 32 + 2 ^ 33 + 2 ^ 34 + 2 ^ 36 + 2 ^ 40 + 2 ^ 41 + 2 ^ 43 + 2 ^ 44 + 2 ^ 45

theorem fltReact_light (r : FltRec) (s : State) (msk : Nat) (hm : lightMask &&& msk = lightMask) (h : r.taken ≤ 1) :
    (fltReact r s).outside msk = s.outside msk := by
  unfold fltReact
  dsimp only
  split
  · split
    · rfl
    · exact faultEvent_outside _ _ _ _ msk (sub_trans hm rfl)
  · have main : ∀ u : State, u.outside msk = s.outside msk →
        (match r.taken with
          | 2 => (match ({ r with react := r.taken } : FltRec).port with | some p => portHold p { r with react := r.taken } u | none => u)
          | 3 => (match ({ r with react := r.taken } : FltRec).isoBed with | some b => orderIsolate b { r with react := r.taken } u | none => u)
          | 4 => safeHoldEnter { r with react := r.taken } u
          | _ => u : State).outside msk = s.outside msk := by
      intro u hu
      split
      · omega
      · omega
      · omega
      · exact hu
    have hpre : ∀ b : Bool, (faultPin { r with react := r.taken } (dspAssert ({ r with react := r.taken } : FltRec).summary
        (faultEvent { r with react := r.taken } r.phase b s))).outside msk = s.outside msk := by
      intro b
      refine (faultPin_outside _ _ msk (sub_trans hm rfl)).trans ?_
      refine (dspAssert_outside _ _ msk (sub_trans hm rfl)).trans ?_
      exact faultEvent_outside _ _ _ _ msk (sub_trans hm rfl)
    split
    · exact hpre _
    · exact main _ (hpre _)

theorem taken_le (r : FltRec) (h : r.react ≤ 1) : r.taken ≤ 1 := by
  unfold FltRec.taken
  split
  · omega
  · omega
  · exact h

/-- A cause on a light source: every part but those of `lightMask` is as before. -/
theorem fltCause_light (r : FltRec) (line : Line) (s : State) (msk : Nat) (hm : lightMask &&& msk = lightMask) (hl : Light r.src s) (hr : r.real = true)
    (hi : r.injected = false) : (fltCause r line s).outside msk = s.outside msk := by
  obtain ⟨h1, h2, h3, h4⟩ := hl
  unfold fltCause
  dsimp only
  split
  · rfl
  rw [if_neg (by simp [h1]), if_neg (by simp [h2])]
  refine Eq.trans ?_ (State.fltSrcOn_outside s r.src (fun x => { x with line := line }) msk (sub_trans hm rfl))
  have hreact : (s.fltSrcOn r.src (fun x => { x with line := line })).reactOf r.src = s.reactOf r.src := rfl
  have hinj : (s.fltSrcOn r.src (fun x => { x with line := line })).inj = s.inj := rfl
  generalize s.fltSrcOn r.src (fun x => { x with line := line }) = u at *
  have hnil : s.inj.filter (fun x => x.src == r.src) = [] := by
    rw [List.filter_eq_nil_iff]
    intro x hx
    have := (List.any_eq_false.mp h4) x hx
    simpa using this
  unfold fltRecord
  dsimp only
  rw [hinj, hnil]
  have e1 : (({ u with inj := s.inj.filter (fun x => x.src != r.src) } : State).reactOf r.src) = s.reactOf r.src := hreact
  rw [e1]
  simp only [List.isEmpty_nil, Bool.not_true, Bool.or_false, List.any_nil, hr, hi, if_true, Bool.true_and, Bool.false_eq_true, if_false,
    Nat.max_zero, List.length_nil, Bool.and_false]
  set q : FltRec := { r with injected := r.injected || false, wire := r.wire || false, react := s.reactOf r.src } with hq
  split
  all_goals try refine (faultEvent_outside _ _ _ _ msk (sub_trans hm rfl)).trans ?_
  all_goals
    refine (fltReact_light _ _ msk hm (taken_le _ (by first | exact h3 | simpa using h3))).trans ?_
    refine (faultAlm_outside _ _ msk (sub_trans hm rfl)).trans ?_
    refine (State.fltSrcOn_outside _ _ _ msk (sub_trans hm rfl)).trans ?_
    refine (fltCount_outside _ _ msk (sub_trans hm rfl)).trans ?_
    exact set_inj_outside _ _ msk (sub_trans hm rfl)

end Sys2Proof.Safety
end

