-- ==== Sys2Proof/WellFormed.lean ====
section
/-! DEFINITION. Well-formed commands: the operands a sender must give for a command to be the one its row names. The meanings do not
depend on it; a statement may. -/

namespace Sys2Proof

/-! ### The operation a row names -/

/-- The field of PARAM0 that tells the commands of one opcode apart, as its lowest bit, its width and its value: ACTION (08 R306;
09 R317), with the endpoint operation of GUEST-EP (09 R323), OP of PD REQUEST (11 R409), SET POWER POLICY (12 R439), ROTATE (14 R480),
SELF-TEST (14 R485) and CAPTURE CONTROL (16 R536), and INFO of READ ALMANAC (16 R559). -/
def subOps : Instr → List (Nat × Nat × Nat)
  | .portEnable .. => [(8, 8, 0x01)]
  | .portDisable .. => [(8, 8, 0x02)]
  | .portReset .. => [(8, 8, 0x03)]
  | .portSuspend .. => [(8, 8, 0x04)]
  | .portResume .. => [(8, 8, 0x05)]
  | .treeSleep .. => [(8, 8, 0x06)]
  | .treeWake .. => [(8, 8, 0x07)]
  | .portTest .. => [(8, 8, 0x08)]
  | .ssRetry .. => [(8, 8, 0x09)]
  | .powerOff .. => [(8, 8, 0x10)]
  | .powerCycle .. => [(8, 8, 0x12)]
  | .guestOpen .. => [(8, 8, 0x20)]
  | .guestEndpoints .. => [(8, 8, 0x21)]
  | .guestClose .. => [(8, 8, 0x22)]
  | .guestConnect .. => [(8, 8, 0x23)]
  | .guestDisconnect .. => [(8, 8, 0x24)]
  | .guestWake .. => [(8, 8, 0x25)]
  | .guestEpPause .. => [(8, 8, 0x26), (56, 4, 1)]
  | .guestEpMove .. => [(8, 8, 0x26), (56, 4, 2)]
  | .guestEpHalt .. => [(8, 8, 0x26), (56, 4, 3)]
  | .guestEpUnhalt .. => [(8, 8, 0x26), (56, 4, 4)]
  | .roleSet .. => [(8, 8, 0x27)]
  | .guestSnapshot .. => [(8, 8, 0x28)]
  | .sendCaps .. => [(8, 8, 0x01)]
  | .pdRequestRdo .. => [(8, 8, 0x02)]
  | .drSwap .. => [(8, 8, 0x03)]
  | .prSwap .. => [(8, 8, 0x04)]
  | .vconnSwap .. => [(8, 8, 0x05)]
  | .softReset .. => [(8, 8, 0x06)]
  | .hardReset .. => [(8, 8, 0x07)]
  | .getSourceCaps .. => [(8, 8, 0x08)]
  | .getSinkCaps .. => [(8, 8, 0x09)]
  | .discover .. => [(8, 8, 0x0A)]
  | .eprEnter .. => [(8, 8, 0x0B)]
  | .eprExit .. => [(8, 8, 0x0C)]
  | .getStatus .. => [(8, 8, 0x0D)]
  | .portLimit .. => [(8, 8, 0x01)]
  | .shedClass .. => [(8, 8, 0x02)]
  | .bedBudget .. => [(8, 8, 0x03)]
  | .devBudget .. => [(8, 8, 0x04)]
  | .indLevel .. => [(8, 8, 0x05)]
  | .rotateNext .. => [(0, 8, 0x01)]
  | .rotateEngine .. => [(0, 8, 0x02)]
  | .rotateUpdate .. => [(0, 8, 0x03)]
  | .updateCancel .. => [(0, 8, 0x04)]
  | .selfTestTender .. => [(0, 8, 0x01)]
  | .selfTestBank .. => [(0, 8, 0x02)]
  | .selfTestAdc .. => [(0, 8, 0x03)]
  | .selfTestBed .. => [(0, 8, 0x04)]
  | .selfTestKeeper .. => [(0, 8, 0x05)]
  | .captureStart .. => [(8, 8, 0x01)]
  | .captureStop .. => [(8, 8, 0x02)]
  | .captureFlush .. => [(8, 8, 0x03)]
  | .readAlmanacSlots .. => [(24, 1, 0)]
  | .readAlmanacInfo .. => [(24, 1, 1)]
  | _ => []
/-- PARAM0 – PARAM2 of a command of the command ring (04 R136). -/
def paramsOf : Instr → Option Params
  | .noOp _ q _ | .unknownCommand _ _ _ q | .openSlot _ q | .assignAddress _ q | .setEndpoints _ q _ | .clearHalt _ q | .pauseEndpoint _ q
  | .moveCursor _ q | .closeSlot _ q | .snapshotContext _ q | .portEnable _ q | .portDisable _ q | .portReset _ q | .portSuspend _ q
  | .portResume _ q | .treeSleep _ q | .treeWake _ q | .portTest _ q | .ssRetry _ q | .powerOff _ q | .powerCycle _ q | .guestOpen _ q
  | .guestEndpoints _ q _ | .guestClose _ q | .guestConnect _ q | .guestDisconnect _ q | .guestWake _ q | .guestEpPause _ q | .guestEpMove _ q
  | .guestEpHalt _ q | .guestEpUnhalt _ q | .roleSet _ q | .guestSnapshot _ q | .portLimit _ q | .shedClass _ q | .bedBudget _ q
  | .devBudget _ q | .indLevel _ q | .sendCaps _ q | .pdRequestRdo _ q | .drSwap _ q | .prSwap _ q | .vconnSwap _ q | .softReset _ q
  | .hardReset _ q | .getSourceCaps _ q | .getSinkCaps _ q | .discover _ q | .eprEnter _ q | .eprExit _ q | .getStatus _ q | .sendVdm _ q _
  | .setMode _ q | .rotateNext _ q | .rotateEngine _ q | .rotateUpdate _ q | .updateCancel _ q | .selfTestTender _ q | .selfTestBank _ q
  | .selfTestAdc _ q | .selfTestBed _ q | .selfTestKeeper _ q | .captureStart _ q | .captureStop _ q | .captureFlush _ q
  | .readAlmanacSlots _ q | .readAlmanacInfo _ q | .lifecyclePlant _ q _ | .lifecycleUproot _ q _ | .lifecycleReturn _ q _
  | .lifecycleRevoke _ q _ | .lifecycleRaiseFloor _ q _ => some q
  | _ => none
/-- The operation in PARAM0 is the one the row names. -/
def opWf (c : Instr) : Bool :=
  match paramsOf c with
  | none => true
  | some q => (subOps c).all (fun f => q.p0.toNat / 2 ^ f.1 % 2 ^ f.2.1 == f.2.2)

/-! ### Blocks of host memory -/

/-- The block of host memory that a command reads, with the length its layout gives it: an input block (05 R183; 09 R322), the VDM of a
SEND VDM (11 R411), a token (02 R79). -/
def blockOfCmd : Instr → Option (List Byte × Nat)
  | .setEndpoints _ _ b | .guestEndpoints _ _ b => some (b, 1024)
  | .sendVdm _ _ b => some (b, 32)
  | .lifecyclePlant _ _ t | .lifecycleUproot _ _ t | .lifecycleReturn _ _ t | .lifecycleRevoke _ _ t | .lifecycleRaiseFloor _ _ t => some (t, 512)
  | _ => none
def blockWf (c : Instr) : Bool :=
  match blockOfCmd c with
  | none => true
  | some (b, n) => b.length == n
/-- The token KIND that a LIFECYCLE row names (02 R79). -/
def kindOfCmd : Instr → Option (List Byte × Byte)
  | .lifecyclePlant _ _ t => some (t, 1)
  | .lifecycleUproot _ _ t => some (t, 2)
  | .lifecycleReturn _ _ t => some (t, 3)
  | .lifecycleRevoke _ _ t => some (t, 4)
  | .lifecycleRaiseFloor _ _ t => some (t, 5)
  | _ => none
def kindWf (c : Instr) : Bool :=
  match kindOfCmd c with
  | none => true
  | some (t, k) => t[4]? == some k

/-! ### Other operands -/

/-- Data objects of a PD message: at most 7, and of an EPR capability message at most 14 (11 R410). -/
def objsWf : Instr → Bool
  | .pdMessageReceived _ m => decide (m.objs.length ≤ 7)
  | .sourceCapsReceived _ epr objs => decide (objs.length ≤ if epr then 14 else 7)
  | .vdmReceived _ _ _ vdos => decide (vdos.length ≤ 6)
  | _ => true
/-- A register is 4-byte aligned (00 R22). -/
def offsetWf : Instr → Bool
  | .registerWrite off _ => off.toNat % 4 == 0
  | .sleepWordAccess a _ => a.off.toNat % 4 == 0
  | .vfBar0Write _ off _ => off.toNat % 4 == 0
  | _ => true
/-- An Rp level is 1 – 3 (10, PRT_TC_STATUS). -/
def ccWf : Instr → Bool
  | .ccTerminationChange _ a b => [a, b].all (fun x => match x with | .rp l => l.val != 0 | _ => true)
  | _ => true
/-- Rates 1 – 6 and widths 1, 2, 4, 8, 16 (03 R93). -/
def linkWf : Instr → Bool
  | .linkRetrain r w => decide (1 ≤ r.val) && decide (r.val ≤ 6) && [1, 2, 4, 8, 16].contains w.val
  | _ => true
/-- The well-formedness of a command. -/
def Instr.wf (c : Instr) : Bool := opWf c && blockWf c && kindWf c && objsWf c && offsetWf c && ccWf c && linkWf c

end Sys2Proof
end

