-- ==== Sys2Proof/Laws/PerInstr.lean ====
section
/-! SUPPORT. One lemma per command, about its operands alone: what its well-formedness says of PARAM0 – PARAM2, of a block of host memory
and of a token. -/

namespace Sys2Proof

/-- A well-formed command names its row's operation in PARAM0 (04 R136), has a block of the length its layout gives (05 R183; 09 R322;
11 R411), and a token of its row's KIND (02 R79). -/
def Laws.WfCommand.Statement (c : Instr) : Prop :=
  c.wf = true →
    (∀ q, paramsOf c = some q → ∀ f ∈ subOps c, q.p0.toNat / 2 ^ f.1 % 2 ^ f.2.1 = f.2.2) ∧
    (∀ b, blockOfCmd c = some b → b.1.length = b.2) ∧ (∀ t, kindOfCmd c = some t → t.1[4]? = some t.2)

theorem Laws.wfCommand_of_wf (c : Instr) : Laws.WfCommand.Statement c := by
  intro h
  simp only [Instr.wf, Bool.and_eq_true] at h
  obtain ⟨⟨⟨⟨⟨⟨ho, hb⟩, hk⟩, -⟩, -⟩, -⟩, -⟩ := h
  refine ⟨fun q e f hf => ?_, fun b e => ?_, fun t e => ?_⟩
  · rw [opWf, e] at ho
    exact eq_of_beq (List.all_eq_true.1 ho f hf)
  · rw [blockWf, e] at hb
    exact eq_of_beq hb
  · rw [kindWf, e] at hk
    exact eq_of_beq hk

theorem Laws.WfCommand.powerOn (a : Bool) (b : VoutMode) : Laws.WfCommand.Statement (.powerOn a b) := Laws.wfCommand_of_wf _
theorem Laws.WfCommand.supplyMainLow (a : MainRail) : Laws.WfCommand.Statement (.supplyMainLow a) := Laws.wfCommand_of_wf _
theorem Laws.WfCommand.supplyMainRecovered : Laws.WfCommand.Statement (.supplyMainRecovered) := Laws.wfCommand_of_wf _
theorem Laws.WfCommand.vddHvLow : Laws.WfCommand.Statement (.vddHvLow) := Laws.wfCommand_of_wf _
theorem Laws.WfCommand.vddHvReturn : Laws.WfCommand.Statement (.vddHvReturn) := Laws.wfCommand_of_wf _
theorem Laws.WfCommand.vconnInLow : Laws.WfCommand.Statement (.vconnInLow) := Laws.wfCommand_of_wf _
theorem Laws.WfCommand.retentionLost : Laws.WfCommand.Statement (.retentionLost) := Laws.wfCommand_of_wf _
theorem Laws.WfCommand.perstAssert : Laws.WfCommand.Statement (.perstAssert) := Laws.wfCommand_of_wf _
theorem Laws.WfCommand.perstRelease : Laws.WfCommand.Statement (.perstRelease) := Laws.wfCommand_of_wf _
theorem Laws.WfCommand.sramWipeComplete : Laws.WfCommand.Statement (.sramWipeComplete) := Laws.wfCommand_of_wf _
theorem Laws.WfCommand.configSpaceReady : Laws.WfCommand.Statement (.configSpaceReady) := Laws.wfCommand_of_wf _
theorem Laws.WfCommand.configRequest (a : Fnc) (b : CfgReq) : Laws.WfCommand.Statement (.configRequest a b) := Laws.wfCommand_of_wf _
theorem Laws.WfCommand.conventionalReset (a : LinkResetKind) : Laws.WfCommand.Statement (.conventionalReset a) := Laws.wfCommand_of_wf _
theorem Laws.WfCommand.linkRetrain (a : Fin 8) (b : Fin 32) : Laws.WfCommand.Statement (.linkRetrain a b) := Laws.wfCommand_of_wf _
theorem Laws.WfCommand.linkRecovery : Laws.WfCommand.Statement (.linkRecovery) := Laws.wfCommand_of_wf _
theorem Laws.WfCommand.flrPf : Laws.WfCommand.Statement (.flrPf) := Laws.wfCommand_of_wf _
theorem Laws.WfCommand.flrVf (a : Vf) : Laws.WfCommand.Statement (.flrVf a) := Laws.wfCommand_of_wf _
theorem Laws.WfCommand.flrVfComplete (a : Vf) : Laws.WfCommand.Statement (.flrVfComplete a) := Laws.wfCommand_of_wf _
theorem Laws.WfCommand.vfEnableSet : Laws.WfCommand.Statement (.vfEnableSet) := Laws.wfCommand_of_wf _
theorem Laws.WfCommand.vfEnableClear : Laws.WfCommand.Statement (.vfEnableClear) := Laws.wfCommand_of_wf _
theorem Laws.WfCommand.maxPayloadSizeChange (a : Fin 4) : Laws.WfCommand.Statement (.maxPayloadSizeChange a) := Laws.wfCommand_of_wf _
theorem Laws.WfCommand.functionD0Entry (a : Fnc) : Laws.WfCommand.Statement (.functionD0Entry a) := Laws.wfCommand_of_wf _
theorem Laws.WfCommand.refclk25Lost : Laws.WfCommand.Statement (.refclk25Lost) := Laws.wfCommand_of_wf _
theorem Laws.WfCommand.jtagInstruction (a : JtagInstr) : Laws.WfCommand.Statement (.jtagInstruction a) := Laws.wfCommand_of_wf _
theorem Laws.WfCommand.ldrProdWrite (a : Word) : Laws.WfCommand.Statement (.ldrProdWrite a) := Laws.wfCommand_of_wf _
theorem Laws.WfCommand.ldrRestart (a : Word) : Laws.WfCommand.Statement (.ldrRestart a) := Laws.wfCommand_of_wf _
theorem Laws.WfCommand.loaderDescriptorFetched (a : BitVec 64) (b : Word) (c : Word) : Laws.WfCommand.Statement (.loaderDescriptorFetched a b c) := Laws.wfCommand_of_wf _
theorem Laws.WfCommand.imagePieceReceived (a : List Byte) : Laws.WfCommand.Statement (.imagePieceReceived a) := Laws.wfCommand_of_wf _
theorem Laws.WfCommand.loaderReadError (a : ReadErr) : Laws.WfCommand.Statement (.loaderReadError a) := Laws.wfCommand_of_wf _
theorem Laws.WfCommand.imageCheckDone : Laws.WfCommand.Statement (.imageCheckDone) := Laws.wfCommand_of_wf _
theorem Laws.WfCommand.keeperConfigCheck : Laws.WfCommand.Statement (.keeperConfigCheck) := Laws.wfCommand_of_wf _
theorem Laws.WfCommand.tenderStartupDone : Laws.WfCommand.Statement (.tenderStartupDone) := Laws.wfCommand_of_wf _
theorem Laws.WfCommand.sowingComplete : Laws.WfCommand.Statement (.sowingComplete) := Laws.wfCommand_of_wf _
theorem Laws.WfCommand.persistHoldExpire (a : Port) : Laws.WfCommand.Statement (.persistHoldExpire a) := Laws.wfCommand_of_wf _
theorem Laws.WfCommand.setupLockWrite (a : Word) : Laws.WfCommand.Statement (.setupLockWrite a) := Laws.wfCommand_of_wf _
theorem Laws.WfCommand.registerWrite (a : BitVec 26) (b : Word) : Laws.WfCommand.Statement (.registerWrite a b) := Laws.wfCommand_of_wf _
theorem Laws.WfCommand.vfBar0Write (a : Vf) (b : BitVec 16) (c : Word) : Laws.WfCommand.Statement (.vfBar0Write a b c) := Laws.wfCommand_of_wf _
theorem Laws.WfCommand.misalignedAccess (a : RawAccess) : Laws.WfCommand.Statement (.misalignedAccess a) := Laws.wfCommand_of_wf _
theorem Laws.WfCommand.sleepWordAccess (a : WinAddr) (b : Bool) : Laws.WfCommand.Statement (.sleepWordAccess a b) := Laws.wfCommand_of_wf _
theorem Laws.WfCommand.nudge (a : Fnc) : Laws.WfCommand.Statement (.nudge a) := Laws.wfCommand_of_wf _
theorem Laws.WfCommand.dozeEnClear (a : Fnc) (b : Word) : Laws.WfCommand.Statement (.dozeEnClear a b) := Laws.wfCommand_of_wf _
theorem Laws.WfCommand.evrEnableWrite (a : Fnc) (b : Evr) (c : Word) : Laws.WfCommand.Statement (.evrEnableWrite a b c) := Laws.wfCommand_of_wf _
theorem Laws.WfCommand.msixUnmask (a : Fnc) (b : Vec) : Laws.WfCommand.Statement (.msixUnmask a b) := Laws.wfCommand_of_wf _
theorem Laws.WfCommand.fltStatusClear (a : Fin 32) (b : Word) : Laws.WfCommand.Statement (.fltStatusClear a b) := Laws.wfCommand_of_wf _
theorem Laws.WfCommand.fltWireClear (a : Fin 32) (b : Word) : Laws.WfCommand.Statement (.fltWireClear a b) := Laws.wfCommand_of_wf _
theorem Laws.WfCommand.fltCntClear (a : Src) (b : Word) : Laws.WfCommand.Statement (.fltCntClear a b) := Laws.wfCommand_of_wf _
theorem Laws.WfCommand.safeHoldClear (a : Word) : Laws.WfCommand.Statement (.safeHoldClear a) := Laws.wfCommand_of_wf _
theorem Laws.WfCommand.fltPinHeldClear (a : Word) : Laws.WfCommand.Statement (.fltPinHeldClear a) := Laws.wfCommand_of_wf _
theorem Laws.WfCommand.fltPinForce (a : Word) : Laws.WfCommand.Statement (.fltPinForce a) := Laws.wfCommand_of_wf _
theorem Laws.WfCommand.injFireTagged (a : Word) : Laws.WfCommand.Statement (.injFireTagged a) := Laws.wfCommand_of_wf _
theorem Laws.WfCommand.injFireWire (a : Word) : Laws.WfCommand.Statement (.injFireWire a) := Laws.wfCommand_of_wf _
theorem Laws.WfCommand.prtSieveLostClear (a : Port) (b : Word) : Laws.WfCommand.Statement (.prtSieveLostClear a b) := Laws.wfCommand_of_wf _
theorem Laws.WfCommand.tempoStatusRead : Laws.WfCommand.Statement (.tempoStatusRead) := Laws.wfCommand_of_wf _
theorem Laws.WfCommand.teleTempRead (a : Fin 9) : Laws.WfCommand.Statement (.teleTempRead a) := Laws.wfCommand_of_wf _
theorem Laws.WfCommand.prtFrameRead (a : Port) : Laws.WfCommand.Statement (.prtFrameRead a) := Laws.wfCommand_of_wf _
theorem Laws.WfCommand.tallyLoRead (a : Tally) : Laws.WfCommand.Statement (.tallyLoRead a) := Laws.wfCommand_of_wf _
theorem Laws.WfCommand.almDataRead (a : Fin 16) : Laws.WfCommand.Statement (.almDataRead a) := Laws.wfCommand_of_wf _
theorem Laws.WfCommand.noOp (a : CmdHdr) (b : Params) (c : Word) : Laws.WfCommand.Statement (.noOp a b c) := Laws.wfCommand_of_wf _
theorem Laws.WfCommand.unknownCommand (a : CmdHdr) (b : BitVec 4) (c : BitVec 8) (d : Params) : Laws.WfCommand.Statement (.unknownCommand a b c d) := Laws.wfCommand_of_wf _
theorem Laws.WfCommand.openSlot (a : CmdHdr) (b : Params) : Laws.WfCommand.Statement (.openSlot a b) := Laws.wfCommand_of_wf _
theorem Laws.WfCommand.assignAddress (a : CmdHdr) (b : Params) : Laws.WfCommand.Statement (.assignAddress a b) := Laws.wfCommand_of_wf _
theorem Laws.WfCommand.setEndpoints (a : CmdHdr) (b : Params) (c : List Byte) : Laws.WfCommand.Statement (.setEndpoints a b c) := Laws.wfCommand_of_wf _
theorem Laws.WfCommand.clearHalt (a : CmdHdr) (b : Params) : Laws.WfCommand.Statement (.clearHalt a b) := Laws.wfCommand_of_wf _
theorem Laws.WfCommand.pauseEndpoint (a : CmdHdr) (b : Params) : Laws.WfCommand.Statement (.pauseEndpoint a b) := Laws.wfCommand_of_wf _
theorem Laws.WfCommand.moveCursor (a : CmdHdr) (b : Params) : Laws.WfCommand.Statement (.moveCursor a b) := Laws.wfCommand_of_wf _
theorem Laws.WfCommand.closeSlot (a : CmdHdr) (b : Params) : Laws.WfCommand.Statement (.closeSlot a b) := Laws.wfCommand_of_wf _
theorem Laws.WfCommand.snapshotContext (a : CmdHdr) (b : Params) : Laws.WfCommand.Statement (.snapshotContext a b) := Laws.wfCommand_of_wf _
theorem Laws.WfCommand.portEnable (a : CmdHdr) (b : Params) : Laws.WfCommand.Statement (.portEnable a b) := Laws.wfCommand_of_wf _
theorem Laws.WfCommand.portDisable (a : CmdHdr) (b : Params) : Laws.WfCommand.Statement (.portDisable a b) := Laws.wfCommand_of_wf _
theorem Laws.WfCommand.portReset (a : CmdHdr) (b : Params) : Laws.WfCommand.Statement (.portReset a b) := Laws.wfCommand_of_wf _
theorem Laws.WfCommand.portResetQuiesced (a : Port) : Laws.WfCommand.Statement (.portResetQuiesced a) := Laws.wfCommand_of_wf _
theorem Laws.WfCommand.hotResetTimeout (a : Port) : Laws.WfCommand.Statement (.hotResetTimeout a) := Laws.wfCommand_of_wf _
theorem Laws.WfCommand.portResetDone (a : Port) (b : Side) (c : Speed) : Laws.WfCommand.Statement (.portResetDone a b c) := Laws.wfCommand_of_wf _
theorem Laws.WfCommand.portSuspend (a : CmdHdr) (b : Params) : Laws.WfCommand.Statement (.portSuspend a b) := Laws.wfCommand_of_wf _
theorem Laws.WfCommand.suspendQuiesced (a : Port) : Laws.WfCommand.Statement (.suspendQuiesced a) := Laws.wfCommand_of_wf _
theorem Laws.WfCommand.ssU3Entered (a : Port) : Laws.WfCommand.Statement (.ssU3Entered a) := Laws.wfCommand_of_wf _
theorem Laws.WfCommand.suspendComplete (a : Port) : Laws.WfCommand.Statement (.suspendComplete a) := Laws.wfCommand_of_wf _
theorem Laws.WfCommand.portResume (a : CmdHdr) (b : Params) : Laws.WfCommand.Statement (.portResume a b) := Laws.wfCommand_of_wf _
theorem Laws.WfCommand.resumeKEnd (a : Port) : Laws.WfCommand.Statement (.resumeKEnd a) := Laws.wfCommand_of_wf _
theorem Laws.WfCommand.resumeRecoveryEnd (a : Port) (b : Side) : Laws.WfCommand.Statement (.resumeRecoveryEnd a b) := Laws.wfCommand_of_wf _
theorem Laws.WfCommand.ssResumeTimeout (a : Port) : Laws.WfCommand.Statement (.ssResumeTimeout a) := Laws.wfCommand_of_wf _
theorem Laws.WfCommand.treeSleep (a : CmdHdr) (b : Params) : Laws.WfCommand.Statement (.treeSleep a b) := Laws.wfCommand_of_wf _
theorem Laws.WfCommand.treeSleepQuiesced (a : Port) : Laws.WfCommand.Statement (.treeSleepQuiesced a) := Laws.wfCommand_of_wf _
theorem Laws.WfCommand.treeWake (a : CmdHdr) (b : Params) : Laws.WfCommand.Statement (.treeWake a b) := Laws.wfCommand_of_wf _
theorem Laws.WfCommand.portTest (a : CmdHdr) (b : Params) : Laws.WfCommand.Statement (.portTest a b) := Laws.wfCommand_of_wf _
theorem Laws.WfCommand.ssRetry (a : CmdHdr) (b : Params) : Laws.WfCommand.Statement (.ssRetry a b) := Laws.wfCommand_of_wf _
theorem Laws.WfCommand.powerOff (a : CmdHdr) (b : Params) : Laws.WfCommand.Statement (.powerOff a b) := Laws.wfCommand_of_wf _
theorem Laws.WfCommand.powerCycle (a : CmdHdr) (b : Params) : Laws.WfCommand.Statement (.powerCycle a b) := Laws.wfCommand_of_wf _
theorem Laws.WfCommand.powerCycleDelayExpire (a : Port) : Laws.WfCommand.Statement (.powerCycleDelayExpire a) := Laws.wfCommand_of_wf _
theorem Laws.WfCommand.guestOpen (a : CmdHdr) (b : Params) : Laws.WfCommand.Statement (.guestOpen a b) := Laws.wfCommand_of_wf _
theorem Laws.WfCommand.guestEndpoints (a : CmdHdr) (b : Params) (c : List Byte) : Laws.WfCommand.Statement (.guestEndpoints a b c) := Laws.wfCommand_of_wf _
theorem Laws.WfCommand.guestClose (a : CmdHdr) (b : Params) : Laws.WfCommand.Statement (.guestClose a b) := Laws.wfCommand_of_wf _
theorem Laws.WfCommand.guestConnect (a : CmdHdr) (b : Params) : Laws.WfCommand.Statement (.guestConnect a b) := Laws.wfCommand_of_wf _
theorem Laws.WfCommand.guestDisconnect (a : CmdHdr) (b : Params) : Laws.WfCommand.Statement (.guestDisconnect a b) := Laws.wfCommand_of_wf _
theorem Laws.WfCommand.guestWake (a : CmdHdr) (b : Params) : Laws.WfCommand.Statement (.guestWake a b) := Laws.wfCommand_of_wf _
theorem Laws.WfCommand.guestWakeKStart (a : Port) : Laws.WfCommand.Statement (.guestWakeKStart a) := Laws.wfCommand_of_wf _
theorem Laws.WfCommand.guestWakeKEnd (a : Port) : Laws.WfCommand.Statement (.guestWakeKEnd a) := Laws.wfCommand_of_wf _
theorem Laws.WfCommand.guestEpPause (a : CmdHdr) (b : Params) : Laws.WfCommand.Statement (.guestEpPause a b) := Laws.wfCommand_of_wf _
theorem Laws.WfCommand.guestEpMove (a : CmdHdr) (b : Params) : Laws.WfCommand.Statement (.guestEpMove a b) := Laws.wfCommand_of_wf _
theorem Laws.WfCommand.guestEpHalt (a : CmdHdr) (b : Params) : Laws.WfCommand.Statement (.guestEpHalt a b) := Laws.wfCommand_of_wf _
theorem Laws.WfCommand.guestEpUnhalt (a : CmdHdr) (b : Params) : Laws.WfCommand.Statement (.guestEpUnhalt a b) := Laws.wfCommand_of_wf _
theorem Laws.WfCommand.roleSet (a : CmdHdr) (b : Params) : Laws.WfCommand.Statement (.roleSet a b) := Laws.wfCommand_of_wf _
theorem Laws.WfCommand.guestSnapshot (a : CmdHdr) (b : Params) : Laws.WfCommand.Statement (.guestSnapshot a b) := Laws.wfCommand_of_wf _
theorem Laws.WfCommand.portLimit (a : CmdHdr) (b : Params) : Laws.WfCommand.Statement (.portLimit a b) := Laws.wfCommand_of_wf _
theorem Laws.WfCommand.shedClass (a : CmdHdr) (b : Params) : Laws.WfCommand.Statement (.shedClass a b) := Laws.wfCommand_of_wf _
theorem Laws.WfCommand.bedBudget (a : CmdHdr) (b : Params) : Laws.WfCommand.Statement (.bedBudget a b) := Laws.wfCommand_of_wf _
theorem Laws.WfCommand.devBudget (a : CmdHdr) (b : Params) : Laws.WfCommand.Statement (.devBudget a b) := Laws.wfCommand_of_wf _
theorem Laws.WfCommand.indLevel (a : CmdHdr) (b : Params) : Laws.WfCommand.Statement (.indLevel a b) := Laws.wfCommand_of_wf _
theorem Laws.WfCommand.sendCaps (a : CmdHdr) (b : Params) : Laws.WfCommand.Statement (.sendCaps a b) := Laws.wfCommand_of_wf _
theorem Laws.WfCommand.pdRequestRdo (a : CmdHdr) (b : Params) : Laws.WfCommand.Statement (.pdRequestRdo a b) := Laws.wfCommand_of_wf _
theorem Laws.WfCommand.drSwap (a : CmdHdr) (b : Params) : Laws.WfCommand.Statement (.drSwap a b) := Laws.wfCommand_of_wf _
theorem Laws.WfCommand.prSwap (a : CmdHdr) (b : Params) : Laws.WfCommand.Statement (.prSwap a b) := Laws.wfCommand_of_wf _
theorem Laws.WfCommand.vconnSwap (a : CmdHdr) (b : Params) : Laws.WfCommand.Statement (.vconnSwap a b) := Laws.wfCommand_of_wf _
theorem Laws.WfCommand.softReset (a : CmdHdr) (b : Params) : Laws.WfCommand.Statement (.softReset a b) := Laws.wfCommand_of_wf _
theorem Laws.WfCommand.hardReset (a : CmdHdr) (b : Params) : Laws.WfCommand.Statement (.hardReset a b) := Laws.wfCommand_of_wf _
theorem Laws.WfCommand.getSourceCaps (a : CmdHdr) (b : Params) : Laws.WfCommand.Statement (.getSourceCaps a b) := Laws.wfCommand_of_wf _
theorem Laws.WfCommand.getSinkCaps (a : CmdHdr) (b : Params) : Laws.WfCommand.Statement (.getSinkCaps a b) := Laws.wfCommand_of_wf _
theorem Laws.WfCommand.discover (a : CmdHdr) (b : Params) : Laws.WfCommand.Statement (.discover a b) := Laws.wfCommand_of_wf _
theorem Laws.WfCommand.eprEnter (a : CmdHdr) (b : Params) : Laws.WfCommand.Statement (.eprEnter a b) := Laws.wfCommand_of_wf _
theorem Laws.WfCommand.eprExit (a : CmdHdr) (b : Params) : Laws.WfCommand.Statement (.eprExit a b) := Laws.wfCommand_of_wf _
theorem Laws.WfCommand.getStatus (a : CmdHdr) (b : Params) : Laws.WfCommand.Statement (.getStatus a b) := Laws.wfCommand_of_wf _
theorem Laws.WfCommand.sendVdm (a : CmdHdr) (b : Params) (c : List Byte) : Laws.WfCommand.Statement (.sendVdm a b c) := Laws.wfCommand_of_wf _
theorem Laws.WfCommand.setMode (a : CmdHdr) (b : Params) : Laws.WfCommand.Statement (.setMode a b) := Laws.wfCommand_of_wf _
theorem Laws.WfCommand.rotateNext (a : CmdHdr) (b : Params) : Laws.WfCommand.Statement (.rotateNext a b) := Laws.wfCommand_of_wf _
theorem Laws.WfCommand.rotateEngine (a : CmdHdr) (b : Params) : Laws.WfCommand.Statement (.rotateEngine a b) := Laws.wfCommand_of_wf _
theorem Laws.WfCommand.rotateUpdate (a : CmdHdr) (b : Params) : Laws.WfCommand.Statement (.rotateUpdate a b) := Laws.wfCommand_of_wf _
theorem Laws.WfCommand.updateCancel (a : CmdHdr) (b : Params) : Laws.WfCommand.Statement (.updateCancel a b) := Laws.wfCommand_of_wf _
theorem Laws.WfCommand.selfTestTender (a : CmdHdr) (b : Params) : Laws.WfCommand.Statement (.selfTestTender a b) := Laws.wfCommand_of_wf _
theorem Laws.WfCommand.selfTestBank (a : CmdHdr) (b : Params) : Laws.WfCommand.Statement (.selfTestBank a b) := Laws.wfCommand_of_wf _
theorem Laws.WfCommand.selfTestAdc (a : CmdHdr) (b : Params) : Laws.WfCommand.Statement (.selfTestAdc a b) := Laws.wfCommand_of_wf _
theorem Laws.WfCommand.selfTestBed (a : CmdHdr) (b : Params) : Laws.WfCommand.Statement (.selfTestBed a b) := Laws.wfCommand_of_wf _
theorem Laws.WfCommand.selfTestKeeper (a : CmdHdr) (b : Params) : Laws.WfCommand.Statement (.selfTestKeeper a b) := Laws.wfCommand_of_wf _
theorem Laws.WfCommand.captureStart (a : CmdHdr) (b : Params) : Laws.WfCommand.Statement (.captureStart a b) := Laws.wfCommand_of_wf _
theorem Laws.WfCommand.captureStop (a : CmdHdr) (b : Params) : Laws.WfCommand.Statement (.captureStop a b) := Laws.wfCommand_of_wf _
theorem Laws.WfCommand.captureFlush (a : CmdHdr) (b : Params) : Laws.WfCommand.Statement (.captureFlush a b) := Laws.wfCommand_of_wf _
theorem Laws.WfCommand.readAlmanacSlots (a : CmdHdr) (b : Params) : Laws.WfCommand.Statement (.readAlmanacSlots a b) := Laws.wfCommand_of_wf _
theorem Laws.WfCommand.readAlmanacInfo (a : CmdHdr) (b : Params) : Laws.WfCommand.Statement (.readAlmanacInfo a b) := Laws.wfCommand_of_wf _
theorem Laws.WfCommand.lifecyclePlant (a : CmdHdr) (b : Params) (c : List Byte) : Laws.WfCommand.Statement (.lifecyclePlant a b c) := Laws.wfCommand_of_wf _
theorem Laws.WfCommand.lifecycleUproot (a : CmdHdr) (b : Params) (c : List Byte) : Laws.WfCommand.Statement (.lifecycleUproot a b c) := Laws.wfCommand_of_wf _
theorem Laws.WfCommand.lifecycleReturn (a : CmdHdr) (b : Params) (c : List Byte) : Laws.WfCommand.Statement (.lifecycleReturn a b c) := Laws.wfCommand_of_wf _
theorem Laws.WfCommand.lifecycleRevoke (a : CmdHdr) (b : Params) (c : List Byte) : Laws.WfCommand.Statement (.lifecycleRevoke a b c) := Laws.wfCommand_of_wf _
theorem Laws.WfCommand.lifecycleRaiseFloor (a : CmdHdr) (b : Params) (c : List Byte) : Laws.WfCommand.Statement (.lifecycleRaiseFloor a b c) := Laws.wfCommand_of_wf _
theorem Laws.WfCommand.lifecycleCommitDone : Laws.WfCommand.Statement (.lifecycleCommitDone) := Laws.wfCommand_of_wf _
theorem Laws.WfCommand.rakeSweep (a : Fnc) (b : SweepReads) : Laws.WfCommand.Statement (.rakeSweep a b) := Laws.wfCommand_of_wf _
theorem Laws.WfCommand.rakeDozeEnter (a : Fnc) (b : SweepReads) (c : Bool) : Laws.WfCommand.Statement (.rakeDozeEnter a b c) := Laws.wfCommand_of_wf _
theorem Laws.WfCommand.bellReadError (a : Fnc) (b : ReadErr) : Laws.WfCommand.Statement (.bellReadError a b) := Laws.wfCommand_of_wf _
theorem Laws.WfCommand.evrConsRead (a : Fnc) (b : Evr) (c : Word) : Laws.WfCommand.Statement (.evrConsRead a b c) := Laws.wfCommand_of_wf _
theorem Laws.WfCommand.eventRingRoomReturns (a : Fnc) (b : Evr) : Laws.WfCommand.Statement (.eventRingRoomReturns a b) := Laws.wfCommand_of_wf _
theorem Laws.WfCommand.descriptorFetched (a : RingRef) (b : BitVec 64) (c : Desc) : Laws.WfCommand.Statement (.descriptorFetched a b c) := Laws.wfCommand_of_wf _
theorem Laws.WfCommand.hostReadError (a : ReadFor) (b : ReadErr) : Laws.WfCommand.Statement (.hostReadError a b) := Laws.wfCommand_of_wf _
theorem Laws.WfCommand.streamTableRead (a : EpRef) (b : List StreamEntry) : Laws.WfCommand.Statement (.streamTableRead a b) := Laws.wfCommand_of_wf _
theorem Laws.WfCommand.outDataFetched (a : EpRef) (b : List Byte) : Laws.WfCommand.Statement (.outDataFetched a b) := Laws.wfCommand_of_wf _
theorem Laws.WfCommand.creditGrant (a : EpRef) : Laws.WfCommand.Statement (.creditGrant a) := Laws.wfCommand_of_wf _
theorem Laws.WfCommand.creditRevocationSettled (a : EpRef) (b : Nat) (c : Nat) : Laws.WfCommand.Statement (.creditRevocationSettled a b c) := Laws.wfCommand_of_wf _
theorem Laws.WfCommand.packetClaim (a : EpRef) : Laws.WfCommand.Statement (.packetClaim a) := Laws.wfCommand_of_wf _
theorem Laws.WfCommand.pendClear (a : EpRef) : Laws.WfCommand.Statement (.pendClear a) := Laws.wfCommand_of_wf _
theorem Laws.WfCommand.msixHoldoffExpire (a : Fnc) (b : Evr) : Laws.WfCommand.Statement (.msixHoldoffExpire a b) := Laws.wfCommand_of_wf _
theorem Laws.WfCommand.microframeStart (a : Port) : Laws.WfCommand.Statement (.microframeStart a) := Laws.wfCommand_of_wf _
theorem Laws.WfCommand.windowBuild (a : Port) : Laws.WfCommand.Statement (.windowBuild a) := Laws.wfCommand_of_wf _
theorem Laws.WfCommand.windowLoadPoint (a : Port) : Laws.WfCommand.Statement (.windowLoadPoint a) := Laws.wfCommand_of_wf _
theorem Laws.WfCommand.inPacketReceived (a : EpRef) (b : BitVec 5) (c : List Byte) : Laws.WfCommand.Statement (.inPacketReceived a b c) := Laws.wfCommand_of_wf _
theorem Laws.WfCommand.outHandshake (a : EpRef) (b : Handshake) : Laws.WfCommand.Statement (.outHandshake a b) := Laws.wfCommand_of_wf _
theorem Laws.WfCommand.nakLimitReached (a : EpRef) : Laws.WfCommand.Statement (.nakLimitReached a) := Laws.wfCommand_of_wf _
theorem Laws.WfCommand.transactionTimeout (a : EpRef) : Laws.WfCommand.Statement (.transactionTimeout a) := Laws.wfCommand_of_wf _
theorem Laws.WfCommand.transactionErrorReceived (a : EpRef) (b : XactErr) : Laws.WfCommand.Statement (.transactionErrorReceived a b) := Laws.wfCommand_of_wf _
theorem Laws.WfCommand.stallReceived (a : EpRef) : Laws.WfCommand.Statement (.stallReceived a) := Laws.wfCommand_of_wf _
theorem Laws.WfCommand.babbleDetected (a : EpRef) : Laws.WfCommand.Statement (.babbleDetected a) := Laws.wfCommand_of_wf _
theorem Laws.WfCommand.nrdyReceived (a : EpRef) : Laws.WfCommand.Statement (.nrdyReceived a) := Laws.wfCommand_of_wf _
theorem Laws.WfCommand.erdyReceived (a : EpRef) : Laws.WfCommand.Statement (.erdyReceived a) := Laws.wfCommand_of_wf _
theorem Laws.WfCommand.splitResult (a : EpRef) (b : SplitRes) : Laws.WfCommand.Statement (.splitResult a b) := Laws.wfCommand_of_wf _
theorem Laws.WfCommand.setupStageComplete (a : EpRef) : Laws.WfCommand.Statement (.setupStageComplete a) := Laws.wfCommand_of_wf _
theorem Laws.WfCommand.setAddressRecoveryEnd (a : SlotRef) : Laws.WfCommand.Statement (.setAddressRecoveryEnd a) := Laws.wfCommand_of_wf _
theorem Laws.WfCommand.toggleSnoopReset (a : SlotRef) : Laws.WfCommand.Statement (.toggleSnoopReset a) := Laws.wfCommand_of_wf _
theorem Laws.WfCommand.isoStreamEnd (a : EpRef) : Laws.WfCommand.Statement (.isoStreamEnd a) := Laws.wfCommand_of_wf _
theorem Laws.WfCommand.isoCommitDeadline (a : EpRef) : Laws.WfCommand.Statement (.isoCommitDeadline a) := Laws.wfCommand_of_wf _
theorem Laws.WfCommand.usb2ConnectDebounce (a : Port) (b : Bool) : Laws.WfCommand.Statement (.usb2ConnectDebounce a b) := Laws.wfCommand_of_wf _
theorem Laws.WfCommand.ssTrainingU0 (a : Port) (b : Bool) : Laws.WfCommand.Statement (.ssTrainingU0 a b) := Laws.wfCommand_of_wf _
theorem Laws.WfCommand.ssTrainingTimeout (a : Port) : Laws.WfCommand.Statement (.ssTrainingTimeout a) := Laws.wfCommand_of_wf _
theorem Laws.WfCommand.usb2Detach (a : Port) : Laws.WfCommand.Statement (.usb2Detach a) := Laws.wfCommand_of_wf _
theorem Laws.WfCommand.ssDetach (a : Port) : Laws.WfCommand.Statement (.ssDetach a) := Laws.wfCommand_of_wf _
theorem Laws.WfCommand.remoteWakeDetected (a : Port) (b : Side) : Laws.WfCommand.Statement (.remoteWakeDetected a b) := Laws.wfCommand_of_wf _
theorem Laws.WfCommand.l1IdleExpire (a : Port) : Laws.WfCommand.Statement (.l1IdleExpire a) := Laws.wfCommand_of_wf _
theorem Laws.WfCommand.lpmAnswer (a : Port) (b : LpmAns) : Laws.WfCommand.Statement (.lpmAnswer a b) := Laws.wfCommand_of_wf _
theorem Laws.WfCommand.l1Exit (a : Port) (b : Bool) : Laws.WfCommand.Statement (.l1Exit a b) := Laws.wfCommand_of_wf _
theorem Laws.WfCommand.uStateTimerExpire (a : Port) (b : Bool) : Laws.WfCommand.Statement (.uStateTimerExpire a b) := Laws.wfCommand_of_wf _
theorem Laws.WfCommand.ssInactive (a : Port) : Laws.WfCommand.Statement (.ssInactive a) := Laws.wfCommand_of_wf _
theorem Laws.WfCommand.portBabble (a : Port) (b : Bool) : Laws.WfCommand.Statement (.portBabble a b) := Laws.wfCommand_of_wf _
theorem Laws.WfCommand.ssRecoveryEntry (a : Port) : Laws.WfCommand.Statement (.ssRecoveryEntry a) := Laws.wfCommand_of_wf _
theorem Laws.WfCommand.guestPresent (a : Port) : Laws.WfCommand.Statement (.guestPresent a) := Laws.wfCommand_of_wf _
theorem Laws.WfCommand.guestBusReset (a : Port) : Laws.WfCommand.Statement (.guestBusReset a) := Laws.wfCommand_of_wf _
theorem Laws.WfCommand.guestResetEnd (a : Port) (b : Speed) : Laws.WfCommand.Statement (.guestResetEnd a b) := Laws.wfCommand_of_wf _
theorem Laws.WfCommand.guestSetupReceived (a : Port) (b : BitVec 64) : Laws.WfCommand.Statement (.guestSetupReceived a b) := Laws.wfCommand_of_wf _
theorem Laws.WfCommand.guestSetupDeliver (a : Port) : Laws.WfCommand.Statement (.guestSetupDeliver a) := Laws.wfCommand_of_wf _
theorem Laws.WfCommand.guestToken (a : Port) (b : Fin 31) (c : TokenKind) : Laws.WfCommand.Statement (.guestToken a b c) := Laws.wfCommand_of_wf _
theorem Laws.WfCommand.guestOutPacket (a : Port) (b : Fin 31) (c : BitVec 5) (d : List Byte) : Laws.WfCommand.Statement (.guestOutPacket a b c d) := Laws.wfCommand_of_wf _
theorem Laws.WfCommand.guestInHandshake (a : Port) (b : Fin 31) (c : Bool) : Laws.WfCommand.Statement (.guestInHandshake a b c) := Laws.wfCommand_of_wf _
theorem Laws.WfCommand.guestSuspendDetect (a : Port) : Laws.WfCommand.Statement (.guestSuspendDetect a) := Laws.wfCommand_of_wf _
theorem Laws.WfCommand.guestResumeDetect (a : Port) : Laws.WfCommand.Statement (.guestResumeDetect a) := Laws.wfCommand_of_wf _
theorem Laws.WfCommand.guestHostGone (a : Port) (b : GoneCause) : Laws.WfCommand.Statement (.guestHostGone a b) := Laws.wfCommand_of_wf _
theorem Laws.WfCommand.guestSsLinkTimeout (a : Port) : Laws.WfCommand.Statement (.guestSsLinkTimeout a) := Laws.wfCommand_of_wf _
theorem Laws.WfCommand.ccTerminationChange (a : Port) (b : CcSee) (c : CcSee) : Laws.WfCommand.Statement (.ccTerminationChange a b c) := Laws.wfCommand_of_wf _
theorem Laws.WfCommand.ccAttachDebounce (a : Port) : Laws.WfCommand.Statement (.ccAttachDebounce a) := Laws.wfCommand_of_wf _
theorem Laws.WfCommand.ccDetachDebounce (a : Port) : Laws.WfCommand.Statement (.ccDetachDebounce a) := Laws.wfCommand_of_wf _
theorem Laws.WfCommand.vbusSinkDisconnect (a : Port) : Laws.WfCommand.Statement (.vbusSinkDisconnect a) := Laws.wfCommand_of_wf _
theorem Laws.WfCommand.drpPeriodExpire (a : Port) : Laws.WfCommand.Statement (.drpPeriodExpire a) := Laws.wfCommand_of_wf _
theorem Laws.WfCommand.tryTimerExpire (a : Port) : Laws.WfCommand.Statement (.tryTimerExpire a) := Laws.wfCommand_of_wf _
theorem Laws.WfCommand.errorRecoveryExpire (a : Port) : Laws.WfCommand.Statement (.errorRecoveryExpire a) := Laws.wfCommand_of_wf _
theorem Laws.WfCommand.moistureReadingStart (a : Port) : Laws.WfCommand.Statement (.moistureReadingStart a) := Laws.wfCommand_of_wf _
theorem Laws.WfCommand.moistureReadingDone (a : Port) (b : MoistReading) : Laws.WfCommand.Statement (.moistureReadingDone a b) := Laws.wfCommand_of_wf _
theorem Laws.WfCommand.vconnOcTrip (a : Port) : Laws.WfCommand.Statement (.vconnOcTrip a) := Laws.wfCommand_of_wf _
theorem Laws.WfCommand.vconnShortTrip (a : Port) : Laws.WfCommand.Statement (.vconnShortTrip a) := Laws.wfCommand_of_wf _
theorem Laws.WfCommand.pdMessageReceived (a : Port) (b : PdRx) : Laws.WfCommand.Statement (.pdMessageReceived a b) := Laws.wfCommand_of_wf _
theorem Laws.WfCommand.floodBucketRoll (a : Port) : Laws.WfCommand.Statement (.floodBucketRoll a) := Laws.wfCommand_of_wf _
theorem Laws.WfCommand.quarantineReleaseExpire (a : Port) : Laws.WfCommand.Statement (.quarantineReleaseExpire a) := Laws.wfCommand_of_wf _
theorem Laws.WfCommand.ccLineIdle (a : Port) : Laws.WfCommand.Statement (.ccLineIdle a) := Laws.wfCommand_of_wf _
theorem Laws.WfCommand.ccIdleTimeout (a : Port) : Laws.WfCommand.Statement (.ccIdleTimeout a) := Laws.wfCommand_of_wf _
theorem Laws.WfCommand.ccCollision (a : Port) : Laws.WfCommand.Statement (.ccCollision a) := Laws.wfCommand_of_wf _
theorem Laws.WfCommand.sinktxWaitExpire (a : Port) : Laws.WfCommand.Statement (.sinktxWaitExpire a) := Laws.wfCommand_of_wf _
theorem Laws.WfCommand.goodcrcReceived (a : Port) (b : Sop) (c : BitVec 3) : Laws.WfCommand.Statement (.goodcrcReceived a b c) := Laws.wfCommand_of_wf _
theorem Laws.WfCommand.drSwapAcceptAcked (a : Port) : Laws.WfCommand.Statement (.drSwapAcceptAcked a) := Laws.wfCommand_of_wf _
theorem Laws.WfCommand.treceiveExpire (a : Port) : Laws.WfCommand.Statement (.treceiveExpire a) := Laws.wfCommand_of_wf _
theorem Laws.WfCommand.sourceCapsReceived (a : Port) (b : Bool) (c : List Word) : Laws.WfCommand.Statement (.sourceCapsReceived a b c) := Laws.wfCommand_of_wf _
theorem Laws.WfCommand.requestReceived (a : Port) (b : Word) : Laws.WfCommand.Statement (.requestReceived a b) := Laws.wfCommand_of_wf _
theorem Laws.WfCommand.waitReceived (a : Port) : Laws.WfCommand.Statement (.waitReceived a) := Laws.wfCommand_of_wf _
theorem Laws.WfCommand.psRdyReceived (a : Port) : Laws.WfCommand.Statement (.psRdyReceived a) := Laws.wfCommand_of_wf _
theorem Laws.WfCommand.swapRequestReceived (a : Port) (b : SwapKind) : Laws.WfCommand.Statement (.swapRequestReceived a b) := Laws.wfCommand_of_wf _
theorem Laws.WfCommand.eprModeReceived (a : Port) (b : EprMode) : Laws.WfCommand.Statement (.eprModeReceived a b) := Laws.wfCommand_of_wf _
theorem Laws.WfCommand.eprKeepaliveReceived (a : Port) : Laws.WfCommand.Statement (.eprKeepaliveReceived a) := Laws.wfCommand_of_wf _
theorem Laws.WfCommand.softResetReceived (a : Port) (b : Sop) : Laws.WfCommand.Statement (.softResetReceived a b) := Laws.wfCommand_of_wf _
theorem Laws.WfCommand.hardResetReceived (a : Port) : Laws.WfCommand.Statement (.hardResetReceived a) := Laws.wfCommand_of_wf _
theorem Laws.WfCommand.hardResetSourceOff (a : Port) : Laws.WfCommand.Statement (.hardResetSourceOff a) := Laws.wfCommand_of_wf _
theorem Laws.WfCommand.srcRecoverExpire (a : Port) : Laws.WfCommand.Statement (.srcRecoverExpire a) := Laws.wfCommand_of_wf _
theorem Laws.WfCommand.alertReceived (a : Port) (b : Word) : Laws.WfCommand.Statement (.alertReceived a b) := Laws.wfCommand_of_wf _
theorem Laws.WfCommand.getStatusReceived (a : Port) : Laws.WfCommand.Statement (.getStatusReceived a) := Laws.wfCommand_of_wf _
theorem Laws.WfCommand.vdmReceived (a : Port) (b : Sop) (c : Word) (d : List Word) : Laws.WfCommand.Statement (.vdmReceived a b c d) := Laws.wfCommand_of_wf _
theorem Laws.WfCommand.notSupportedReceived (a : Port) (b : Sop) (c : BitVec 5) : Laws.WfCommand.Statement (.notSupportedReceived a b c) := Laws.wfCommand_of_wf _
theorem Laws.WfCommand.pdResponseReceived (a : Port) (b : PdResp) : Laws.WfCommand.Statement (.pdResponseReceived a b) := Laws.wfCommand_of_wf _
theorem Laws.WfCommand.srcTransitionExpire (a : Port) : Laws.WfCommand.Statement (.srcTransitionExpire a) := Laws.wfCommand_of_wf _
theorem Laws.WfCommand.waitHoldExpire (a : Port) : Laws.WfCommand.Statement (.waitHoldExpire a) := Laws.wfCommand_of_wf _
theorem Laws.WfCommand.snkWaitExpire (a : Port) : Laws.WfCommand.Statement (.snkWaitExpire a) := Laws.wfCommand_of_wf _
theorem Laws.WfCommand.ppsTimeout (a : Port) : Laws.WfCommand.Statement (.ppsTimeout a) := Laws.wfCommand_of_wf _
theorem Laws.WfCommand.eprKeepaliveTimeout (a : Port) : Laws.WfCommand.Statement (.eprKeepaliveTimeout a) := Laws.wfCommand_of_wf _
theorem Laws.WfCommand.sinkRefreshTimer (a : Port) : Laws.WfCommand.Statement (.sinkRefreshTimer a) := Laws.wfCommand_of_wf _
theorem Laws.WfCommand.senderResponseTimeout (a : Port) : Laws.WfCommand.Statement (.senderResponseTimeout a) := Laws.wfCommand_of_wf _
theorem Laws.WfCommand.hardResetCountExhausted (a : Port) : Laws.WfCommand.Statement (.hardResetCountExhausted a) := Laws.wfCommand_of_wf _
theorem Laws.WfCommand.cableDiscoveryTimer (a : Port) : Laws.WfCommand.Statement (.cableDiscoveryTimer a) := Laws.wfCommand_of_wf _
theorem Laws.WfCommand.sendSourceCapTimer (a : Port) : Laws.WfCommand.Statement (.sendSourceCapTimer a) := Laws.wfCommand_of_wf _
theorem Laws.WfCommand.offerChange (a : Port) : Laws.WfCommand.Statement (.offerChange a) := Laws.wfCommand_of_wf _
theorem Laws.WfCommand.swapRetryTimer (a : Port) : Laws.WfCommand.Statement (.swapRetryTimer a) := Laws.wfCommand_of_wf _
theorem Laws.WfCommand.trellisHelloReceived (a : Port) (b : Word) (c : Word) : Laws.WfCommand.Statement (.trellisHelloReceived a b c) := Laws.wfCommand_of_wf _
theorem Laws.WfCommand.trellisTimeout (a : Port) : Laws.WfCommand.Statement (.trellisTimeout a) := Laws.wfCommand_of_wf _
theorem Laws.WfCommand.bridgePoll (a : Port) (b : Word) (c : Word) (d : List Byte) : Laws.WfCommand.Statement (.bridgePoll a b c d) := Laws.wfCommand_of_wf _
theorem Laws.WfCommand.uartByteReceived (a : Port) (b : Byte) (c : Bool) : Laws.WfCommand.Statement (.uartByteReceived a b c) := Laws.wfCommand_of_wf _
theorem Laws.WfCommand.uartByteSent (a : Port) : Laws.WfCommand.Statement (.uartByteSent a) := Laws.wfCommand_of_wf _
theorem Laws.WfCommand.pathOrder (a : Port) (b : PathOrder) : Laws.WfCommand.Statement (.pathOrder a b) := Laws.wfCommand_of_wf _
theorem Laws.WfCommand.rampComplete (a : Port) : Laws.WfCommand.Statement (.rampComplete a) := Laws.wfCommand_of_wf _
theorem Laws.WfCommand.ocTimerStart (a : Port) : Laws.WfCommand.Statement (.ocTimerStart a) := Laws.wfCommand_of_wf _
theorem Laws.WfCommand.ocTimerExpire (a : Port) : Laws.WfCommand.Statement (.ocTimerExpire a) := Laws.wfCommand_of_wf _
theorem Laws.WfCommand.ocTimerReset (a : Port) : Laws.WfCommand.Statement (.ocTimerReset a) := Laws.wfCommand_of_wf _
theorem Laws.WfCommand.shortCircuit (a : Port) : Laws.WfCommand.Statement (.shortCircuit a) := Laws.wfCommand_of_wf _
theorem Laws.WfCommand.rampTimeout (a : Port) : Laws.WfCommand.Statement (.rampTimeout a) := Laws.wfCommand_of_wf _
theorem Laws.WfCommand.overVoltage (a : Port) : Laws.WfCommand.Statement (.overVoltage a) := Laws.wfCommand_of_wf _
theorem Laws.WfCommand.reverseCurrent (a : Port) : Laws.WfCommand.Statement (.reverseCurrent a) := Laws.wfCommand_of_wf _
theorem Laws.WfCommand.gateOffConfirmed (a : Port) : Laws.WfCommand.Statement (.gateOffConfirmed a) := Laws.wfCommand_of_wf _
theorem Laws.WfCommand.coolExpire (a : Port) : Laws.WfCommand.Statement (.coolExpire a) := Laws.wfCommand_of_wf _
theorem Laws.WfCommand.onStableExpire (a : Port) : Laws.WfCommand.Statement (.onStableExpire a) := Laws.wfCommand_of_wf _
theorem Laws.WfCommand.fbTrimTick (a : Port) : Laws.WfCommand.Statement (.fbTrimTick a) := Laws.wfCommand_of_wf _
theorem Laws.WfCommand.powerGoodAssert (a : Port) : Laws.WfCommand.Statement (.powerGoodAssert a) := Laws.wfCommand_of_wf _
theorem Laws.WfCommand.ppsCurrentLimit (a : Port) (b : Nat) : Laws.WfCommand.Statement (.ppsCurrentLimit a b) := Laws.wfCommand_of_wf _
theorem Laws.WfCommand.vbusSafe0vReached (a : Port) : Laws.WfCommand.Statement (.vbusSafe0vReached a) := Laws.wfCommand_of_wf _
theorem Laws.WfCommand.earlywarnEntry (a : Bed) (b : Fin 2) : Laws.WfCommand.Statement (.earlywarnEntry a b) := Laws.wfCommand_of_wf _
theorem Laws.WfCommand.shedNext (a : Bed) : Laws.WfCommand.Statement (.shedNext a) := Laws.wfCommand_of_wf _
theorem Laws.WfCommand.earlywarnRestoreExpire (a : Bed) : Laws.WfCommand.Statement (.earlywarnRestoreExpire a) := Laws.wfCommand_of_wf _
theorem Laws.WfCommand.restoreNext : Laws.WfCommand.Statement (.restoreNext) := Laws.wfCommand_of_wf _
theorem Laws.WfCommand.tempoSample (a : BitVec 16) : Laws.WfCommand.Statement (.tempoSample a) := Laws.wfCommand_of_wf _
theorem Laws.WfCommand.tempoRecoveredExpire : Laws.WfCommand.Statement (.tempoRecoveredExpire) := Laws.wfCommand_of_wf _
theorem Laws.WfCommand.sundialCheck (a : BitVec 16) : Laws.WfCommand.Statement (.sundialCheck a) := Laws.wfCommand_of_wf _
theorem Laws.WfCommand.regulatorSettled (a : Nat) : Laws.WfCommand.Statement (.regulatorSettled a) := Laws.wfCommand_of_wf _
theorem Laws.WfCommand.regulatorSettleTimeout : Laws.WfCommand.Statement (.regulatorSettleTimeout) := Laws.wfCommand_of_wf _
theorem Laws.WfCommand.modeWindowsDrained : Laws.WfCommand.Statement (.modeWindowsDrained) := Laws.wfCommand_of_wf _
theorem Laws.WfCommand.autoRaiseTimer : Laws.WfCommand.Statement (.autoRaiseTimer) := Laws.wfCommand_of_wf _
theorem Laws.WfCommand.regulatorPoll (a : Option Nat) : Laws.WfCommand.Statement (.regulatorPoll a) := Laws.wfCommand_of_wf _
theorem Laws.WfCommand.drowseIdleExpire : Laws.WfCommand.Statement (.drowseIdleExpire) := Laws.wfCommand_of_wf _
theorem Laws.WfCommand.dormantIdleExpire : Laws.WfCommand.Statement (.dormantIdleExpire) := Laws.wfCommand_of_wf _
theorem Laws.WfCommand.dormantEntryComplete : Laws.WfCommand.Statement (.dormantEntryComplete) := Laws.wfCommand_of_wf _
theorem Laws.WfCommand.wakeCause (a : WakeCause) : Laws.WfCommand.Statement (.wakeCause a) := Laws.wfCommand_of_wf _
theorem Laws.WfCommand.dormantExitComplete : Laws.WfCommand.Statement (.dormantExitComplete) := Laws.wfCommand_of_wf _
theorem Laws.WfCommand.brownOut : Laws.WfCommand.Statement (.brownOut) := Laws.wfCommand_of_wf _
theorem Laws.WfCommand.rotationTimer : Laws.WfCommand.Statement (.rotationTimer) := Laws.wfCommand_of_wf _
theorem Laws.WfCommand.rotationCopyDone (a : Nat) : Laws.WfCommand.Statement (.rotationCopyDone a) := Laws.wfCommand_of_wf _
theorem Laws.WfCommand.engineSelfTestDone (a : Bool) : Laws.WfCommand.Statement (.engineSelfTestDone a) := Laws.wfCommand_of_wf _
theorem Laws.WfCommand.spareRefillDone : Laws.WfCommand.Statement (.spareRefillDone) := Laws.wfCommand_of_wf _
theorem Laws.WfCommand.codePageRepair (a : Tender) (b : Bool) : Laws.WfCommand.Statement (.codePageRepair a b) := Laws.wfCommand_of_wf _
theorem Laws.WfCommand.threadRestart (a : Tender) (b : Bool) : Laws.WfCommand.Statement (.threadRestart a b) := Laws.wfCommand_of_wf _
theorem Laws.WfCommand.keeperMemoryRewrite : Laws.WfCommand.Statement (.keeperMemoryRewrite) := Laws.wfCommand_of_wf _
theorem Laws.WfCommand.keeperDivergence : Laws.WfCommand.Statement (.keeperDivergence) := Laws.wfCommand_of_wf _
theorem Laws.WfCommand.updateImageChecked (a : List Byte) (b : Bool) : Laws.WfCommand.Statement (.updateImageChecked a b) := Laws.wfCommand_of_wf _
theorem Laws.WfCommand.keeperSwap : Laws.WfCommand.Statement (.keeperSwap) := Laws.wfCommand_of_wf _
theorem Laws.WfCommand.keeperReady : Laws.WfCommand.Statement (.keeperReady) := Laws.wfCommand_of_wf _
theorem Laws.WfCommand.keeperReadyTimeout : Laws.WfCommand.Statement (.keeperReadyTimeout) := Laws.wfCommand_of_wf _
theorem Laws.WfCommand.updateAbandonDone : Laws.WfCommand.Statement (.updateAbandonDone) := Laws.wfCommand_of_wf _
theorem Laws.WfCommand.bedTestIdle (a : Bed) : Laws.WfCommand.Statement (.bedTestIdle a) := Laws.wfCommand_of_wf _
theorem Laws.WfCommand.bedTestDeadline : Laws.WfCommand.Statement (.bedTestDeadline) := Laws.wfCommand_of_wf _
theorem Laws.WfCommand.selfTestDone (a : TestOp) (b : Bool) (c : Nat) : Laws.WfCommand.Statement (.selfTestDone a b c) := Laws.wfCommand_of_wf _
theorem Laws.WfCommand.graftRunExpire (a : Fin 8) (b : Nat) : Laws.WfCommand.Statement (.graftRunExpire a b) := Laws.wfCommand_of_wf _
theorem Laws.WfCommand.graftServiceCall (a : Fin 8) (b : GraftCall) : Laws.WfCommand.Statement (.graftServiceCall a b) := Laws.wfCommand_of_wf _
theorem Laws.WfCommand.graftTimerExpire (a : Fin 8) (b : Port) : Laws.WfCommand.Statement (.graftTimerExpire a b) := Laws.wfCommand_of_wf _
theorem Laws.WfCommand.dispatcherSourceAssert (a : Dsp) (b : Option Proc) : Laws.WfCommand.Statement (.dispatcherSourceAssert a b) := Laws.wfCommand_of_wf _
theorem Laws.WfCommand.dispatcherClaim (a : Proc) : Laws.WfCommand.Statement (.dispatcherClaim a) := Laws.wfCommand_of_wf _
theorem Laws.WfCommand.dispatcherEoi (a : Proc) (b : BitVec 12) (c : Bool) (d : Bool) : Laws.WfCommand.Statement (.dispatcherEoi a b c d) := Laws.wfCommand_of_wf _
theorem Laws.WfCommand.holdoffTimerExpire (a : Fin 256) : Laws.WfCommand.Statement (.holdoffTimerExpire a) := Laws.wfCommand_of_wf _
theorem Laws.WfCommand.dispatcherStackMismatch (a : Proc) : Laws.WfCommand.Statement (.dispatcherStackMismatch a) := Laws.wfCommand_of_wf _
theorem Laws.WfCommand.faultLineRaised (a : FaultRep) : Laws.WfCommand.Statement (.faultLineRaised a) := Laws.wfCommand_of_wf _
theorem Laws.WfCommand.faultLineBroken (a : Src) (b : Bool) : Laws.WfCommand.Statement (.faultLineBroken a b) := Laws.wfCommand_of_wf _
theorem Laws.WfCommand.faultLineQuiet (a : Src) : Laws.WfCommand.Statement (.faultLineQuiet a) := Laws.wfCommand_of_wf _
theorem Laws.WfCommand.portHoldDone (a : Port) : Laws.WfCommand.Statement (.portHoldDone a) := Laws.wfCommand_of_wf _
theorem Laws.WfCommand.bedRestartDone (a : Bed) : Laws.WfCommand.Statement (.bedRestartDone a) := Laws.wfCommand_of_wf _
theorem Laws.WfCommand.bedIsolateDone (a : Bed) : Laws.WfCommand.Statement (.bedIsolateDone a) := Laws.wfCommand_of_wf _
theorem Laws.WfCommand.collectorMismatch : Laws.WfCommand.Statement (.collectorMismatch) := Laws.wfCommand_of_wf _
theorem Laws.WfCommand.collectorRebuildDone : Laws.WfCommand.Statement (.collectorRebuildDone) := Laws.wfCommand_of_wf _
theorem Laws.WfCommand.faultNPulseEnd : Laws.WfCommand.Statement (.faultNPulseEnd) := Laws.wfCommand_of_wf _
theorem Laws.WfCommand.contextRebuildDone (a : EpRef) (b : CopyFound) : Laws.WfCommand.Statement (.contextRebuildDone a b) := Laws.wfCommand_of_wf _
theorem Laws.WfCommand.sramEccError (a : Array2) (b : Nat) (c : Bool) : Laws.WfCommand.Statement (.sramEccError a b c) := Laws.wfCommand_of_wf _
theorem Laws.WfCommand.scrubTick : Laws.WfCommand.Statement (.scrubTick) := Laws.wfCommand_of_wf _
theorem Laws.WfCommand.troughWordRebuild (a : Bank) : Laws.WfCommand.Statement (.troughWordRebuild a) := Laws.wfCommand_of_wf _
theorem Laws.WfCommand.troughBankRetire (a : Bank) (b : Bool) : Laws.WfCommand.Statement (.troughBankRetire a b) := Laws.wfCommand_of_wf _
theorem Laws.WfCommand.bankRebuildDone : Laws.WfCommand.Statement (.bankRebuildDone) := Laws.wfCommand_of_wf _
theorem Laws.WfCommand.marchTimer : Laws.WfCommand.Statement (.marchTimer) := Laws.wfCommand_of_wf _
theorem Laws.WfCommand.fallowMoveDone : Laws.WfCommand.Statement (.fallowMoveDone) := Laws.wfCommand_of_wf _
theorem Laws.WfCommand.marchDone (a : Bool) : Laws.WfCommand.Statement (.marchDone a) := Laws.wfCommand_of_wf _
theorem Laws.WfCommand.adcCalTimer (a : Bed) : Laws.WfCommand.Statement (.adcCalTimer a) := Laws.wfCommand_of_wf _
theorem Laws.WfCommand.efuseTestPulse (a : Port) (b : Bool) : Laws.WfCommand.Statement (.efuseTestPulse a b) := Laws.wfCommand_of_wf _
theorem Laws.WfCommand.keeperSelfCheck : Laws.WfCommand.Statement (.keeperSelfCheck) := Laws.wfCommand_of_wf _
theorem Laws.WfCommand.coldFrameWatchTest (a : Bool) : Laws.WfCommand.Statement (.coldFrameWatchTest a) := Laws.wfCommand_of_wf _
theorem Laws.WfCommand.fabricCheckFail (a : HopWord) : Laws.WfCommand.Statement (.fabricCheckFail a) := Laws.wfCommand_of_wf _
theorem Laws.WfCommand.fabricHandshakeTimeout (a : Nat) : Laws.WfCommand.Statement (.fabricHandshakeTimeout a) := Laws.wfCommand_of_wf _
theorem Laws.WfCommand.laneFail (a : Bed) (b : Nat) : Laws.WfCommand.Statement (.laneFail a b) := Laws.wfCommand_of_wf _
theorem Laws.WfCommand.ringEngineLost (a : Fin 16) : Laws.WfCommand.Statement (.ringEngineLost a) := Laws.wfCommand_of_wf _
theorem Laws.WfCommand.thermalWarning (a : Fin 9) : Laws.WfCommand.Statement (.thermalWarning a) := Laws.wfCommand_of_wf _
theorem Laws.WfCommand.thermalShutdown (a : Fin 9) : Laws.WfCommand.Statement (.thermalShutdown a) := Laws.wfCommand_of_wf _
theorem Laws.WfCommand.thermalCooled (a : Fin 9) : Laws.WfCommand.Statement (.thermalCooled a) := Laws.wfCommand_of_wf _
theorem Laws.WfCommand.sievePacketBegin (a : Port) : Laws.WfCommand.Statement (.sievePacketBegin a) := Laws.wfCommand_of_wf _
theorem Laws.WfCommand.sievePacketEnd (a : Port) (b : CapPacket) : Laws.WfCommand.Statement (.sievePacketEnd a b) := Laws.wfCommand_of_wf _
theorem Laws.WfCommand.sievePointerMismatch (a : Port) : Laws.WfCommand.Statement (.sievePointerMismatch a) := Laws.wfCommand_of_wf _
theorem Laws.WfCommand.exporterPoll (a : Port) (b : Word) : Laws.WfCommand.Statement (.exporterPoll a b) := Laws.wfCommand_of_wf _
theorem Laws.WfCommand.smbusIdentity : Laws.WfCommand.Statement (.smbusIdentity) := Laws.wfCommand_of_wf _
theorem Laws.WfCommand.smbusStatus : Laws.WfCommand.Statement (.smbusStatus) := Laws.wfCommand_of_wf _
theorem Laws.WfCommand.smbusAlmanacInfo : Laws.WfCommand.Statement (.smbusAlmanacInfo) := Laws.wfCommand_of_wf _
theorem Laws.WfCommand.smbusAlmanacSelect (a : BitVec 16) : Laws.WfCommand.Statement (.smbusAlmanacSelect a) := Laws.wfCommand_of_wf _
theorem Laws.WfCommand.smbusAlmanacRead : Laws.WfCommand.Statement (.smbusAlmanacRead) := Laws.wfCommand_of_wf _
theorem Laws.WfCommand.smbusTelemetrySelect (a : Byte) : Laws.WfCommand.Statement (.smbusTelemetrySelect a) := Laws.wfCommand_of_wf _
theorem Laws.WfCommand.smbusTelemetryRead : Laws.WfCommand.Statement (.smbusTelemetryRead) := Laws.wfCommand_of_wf _
theorem Laws.WfCommand.smbusAlertResponse : Laws.WfCommand.Statement (.smbusAlertResponse) := Laws.wfCommand_of_wf _
theorem Laws.WfCommand.ptmDialogue : Laws.WfCommand.Statement (.ptmDialogue) := Laws.wfCommand_of_wf _
theorem Laws.WfCommand.ptmResponse (a : BitVec 64) : Laws.WfCommand.Statement (.ptmResponse a) := Laws.wfCommand_of_wf _
theorem Laws.WfCommand.telemetryRefresh (a : TeleSample) : Laws.WfCommand.Statement (.telemetryRefresh a) := Laws.wfCommand_of_wf _
theorem Laws.WfCommand.refclk25Restored : Laws.WfCommand.Statement (.refclk25Restored) := Laws.wfCommand_of_wf _
theorem Laws.WfCommand.psTransitionTimeout (a : Port) (b : PdTimer) : Laws.WfCommand.Statement (.psTransitionTimeout a b) := Laws.wfCommand_of_wf _
theorem Laws.WfCommand.u1U2EntryRequest (a : Port) (b : Bool) : Laws.WfCommand.Statement (.u1U2EntryRequest a b) := Laws.wfCommand_of_wf _
theorem Laws.WfCommand.deviceNotificationReceived (a : Port) (b : DevNotif) : Laws.WfCommand.Statement (.deviceNotificationReceived a b) := Laws.wfCommand_of_wf _

end Sys2Proof
end

