-- ==== Sys2Proof/Laws/Regs.lean ====
section
/-! SUPPORT. Fields of register words, the count of blocked writes, the sleep record, and where a register write goes. -/

namespace Sys2Proof.Safety

open Sys2Proof Sys2Proof.Machine

theorem asleep_boot (s : State) : s.asleep 1 = false := by unfold State.asleep; simp
theorem asleep_global (s : State) : s.asleep 0 = false := by unfold State.asleep; simp
theorem bits_setBits (x lo w v : Nat) : bits (setBits x lo w v) lo w = v % 2 ^ w := by
  unfold setBits bits
  have h1 : x / 2 ^ lo % 2 ^ w * 2 ^ lo ≤ x := by
    calc x / 2 ^ lo % 2 ^ w * 2 ^ lo ≤ x / 2 ^ lo * 2 ^ lo := Nat.mul_le_mul_right _ (Nat.mod_le _ _)
      _ ≤ x := Nat.div_mul_le_self _ _
  have hx : x - x / 2 ^ lo % 2 ^ w * 2 ^ lo = x % 2 ^ lo + (x / 2 ^ lo / 2 ^ w * 2 ^ w) * 2 ^ lo := by
    have e1 := Nat.div_add_mod x (2 ^ lo)
    have e2 := Nat.div_add_mod (x / 2 ^ lo) (2 ^ w)
    have e3 : x = x % 2 ^ lo + (x / 2 ^ lo) * 2 ^ lo := by rw [Nat.mul_comm]; omega
    have e4 : (x / 2 ^ lo) * 2 ^ lo = (x / 2 ^ lo / 2 ^ w * 2 ^ w) * 2 ^ lo + x / 2 ^ lo % 2 ^ w * 2 ^ lo := by
      rw [← Nat.add_mul]; congr 1; rw [Nat.mul_comm (x / 2 ^ lo / 2 ^ w)]; exact e2.symm
    omega
  rw [hx]
  have hp : 0 < 2 ^ lo := Nat.two_pow_pos lo
  rw [Nat.add_assoc, ← Nat.add_mul, Nat.add_mul_div_right _ _ hp, Nat.div_eq_of_lt (Nat.mod_lt _ hp), Nat.zero_add, Nat.mul_comm, Nat.mul_add_mod, Nat.mod_mod]
theorem bit_bits (x i : Nat) : bit x i = (bits x i 1 == 1) := by unfold bit bits; simp
theorem fld_fldPut (s : State) (off lo w v : Nat) : (s.fldPut off lo w v).fld off lo w = v % 2 ^ w := by
  unfold State.fldPut State.fld; rw [rget_rput_same, bits_setBits]
theorem fldPut_ne (s : State) (off lo w v o : Nat) (h : o ≠ off) : (s.fldPut off lo w v).rget o = s.rget o := rget_rput_ne _ _ _ _ h
/-- fields at disjoint places -/
theorem bits_setBits_hi (x lo w v lo' w' : Nat) (h : lo + w ≤ lo') : bits (setBits x lo w v) lo' w' = bits x lo' w' := by
  unfold bits
  congr 1
  unfold setBits bits
  obtain ⟨d, rfl⟩ : ∃ d, lo' = lo + w + d := ⟨lo' - (lo + w), by omega⟩
  have h1 : x / 2 ^ lo % 2 ^ w * 2 ^ lo ≤ x := by
    calc x / 2 ^ lo % 2 ^ w * 2 ^ lo ≤ x / 2 ^ lo * 2 ^ lo := Nat.mul_le_mul_right _ (Nat.mod_le _ _)
      _ ≤ x := Nat.div_mul_le_self _ _
  have key : ∀ y, y = x % 2 ^ lo + (x / 2 ^ lo / 2 ^ w * 2 ^ w) * 2 ^ lo + (v % 2 ^ w) * 2 ^ lo → y / 2 ^ (lo + w) = x / 2 ^ (lo + w) := by
    intro y hy
    rw [Nat.pow_add, ← Nat.div_div_eq_div_mul, ← Nat.div_div_eq_div_mul]
    have hp : 0 < 2 ^ lo := Nat.two_pow_pos lo
    have hq : 0 < 2 ^ w := Nat.two_pow_pos w
    rw [hy, Nat.add_assoc, ← Nat.add_mul, Nat.add_mul_div_right _ _ hp, Nat.div_eq_of_lt (Nat.mod_lt _ hp), Nat.zero_add]
    rw [Nat.add_comm, Nat.add_mul_div_right _ _ hq, Nat.div_eq_of_lt (Nat.mod_lt _ hq), Nat.zero_add]
  have hx : x - x / 2 ^ lo % 2 ^ w * 2 ^ lo = x % 2 ^ lo + (x / 2 ^ lo / 2 ^ w * 2 ^ w) * 2 ^ lo := by
    have e1 := Nat.div_add_mod x (2 ^ lo)
    have e2 := Nat.div_add_mod (x / 2 ^ lo) (2 ^ w)
    have e3 : x = x % 2 ^ lo + (x / 2 ^ lo) * 2 ^ lo := by rw [Nat.mul_comm]; omega
    have e4 : (x / 2 ^ lo) * 2 ^ lo = (x / 2 ^ lo / 2 ^ w * 2 ^ w) * 2 ^ lo + x / 2 ^ lo % 2 ^ w * 2 ^ lo := by
      rw [← Nat.add_mul]; congr 1; rw [Nat.mul_comm (x / 2 ^ lo / 2 ^ w)]; exact e2.symm
    omega
  have := key (x - x / 2 ^ lo % 2 ^ w * 2 ^ lo + v % 2 ^ w * 2 ^ lo) (by rw [hx])
  rw [show (2:Nat) ^ (lo + w + d) = 2 ^ (lo + w) * 2 ^ d from Nat.pow_add _ _ _, ← Nat.div_div_eq_div_mul, this, Nat.div_div_eq_div_mul]
theorem bits_setBits_lo (x lo w v lo' w' : Nat) (h : lo' + w' ≤ lo) : bits (setBits x lo w v) lo' w' = bits x lo' w' := by
  have key : (setBits x lo w v) % 2 ^ lo = x % 2 ^ lo := by
    unfold setBits bits
    have h1 : x / 2 ^ lo % 2 ^ w * 2 ^ lo ≤ x := by
      calc x / 2 ^ lo % 2 ^ w * 2 ^ lo ≤ x / 2 ^ lo * 2 ^ lo := Nat.mul_le_mul_right _ (Nat.mod_le _ _)
        _ ≤ x := Nat.div_mul_le_self _ _
    rw [Nat.add_mul_mod_self_right]
    conv_rhs => rw [← Nat.sub_add_cancel h1]
    rw [Nat.add_mul_mod_self_right]
  have red : ∀ y : Nat, bits y lo' w' = bits (y % 2 ^ lo) lo' w' := by
    intro y
    unfold bits
    obtain ⟨d, rfl⟩ : ∃ d, lo = lo' + w' + d := ⟨lo - (lo' + w'), by omega⟩
    apply Nat.eq_of_testBit_eq
    intro i
    simp only [Nat.testBit_mod_two_pow, Nat.testBit_div_two_pow]
    by_cases hi : i < w'
    · simp [hi]; intro; omega
    · simp [hi]
  rw [red, key, ← red]
theorem sat16 (x n : Nat) : satAdd 16 (x % 65536) n % 2 ^ 16 = min (x % 65536 + n) 65535 := by unfold satAdd; omega
theorem fld_lt (s : State) (off lo w : Nat) : s.fld off lo w < 2 ^ w := by unfold State.fld bits; exact Nat.mod_lt _ (Nat.two_pow_pos w)
theorem countBlocked_fld (s : State) (off : Nat) (vf : Bool) : (s.countBlocked off vf).fld 0x44 0 16 = min (s.fld 0x44 0 16 + 1) 65535 := by
  unfold State.countBlocked
  show (s.rsAdd 0x44 0 16 1).fld 0x44 0 16 = _
  unfold State.rsAdd
  rw [fld_fldPut]
  have := fld_lt s 0x44 0 16
  unfold satAdd; omega
theorem countBlocked_ne (s : State) (off o : Nat) (vf : Bool) (h : o ≠ 0x44) : (s.countBlocked off vf).rget o = s.rget o := rget_rsAdd_ne _ _ _ _ _ _ h
theorem sleepHit_block (s : State) (b : Nat) : (s.sleepHit b).fld 0x110008 0 12 = b % 4096 := by
  unfold State.sleepHit State.rsAdd
  have e1 : ∀ (u : State) v, (u.fldPut 0x110008 16 16 v).fld 0x110008 0 12 = u.fld 0x110008 0 12 := by
    intro u v; unfold State.fldPut State.fld; rw [rget_rput_same, bits_setBits_lo _ _ _ _ _ _ (by decide)]
  have e2 : ∀ (u : State) v, (u.fldPut 0x110008 12 1 v).fld 0x110008 0 12 = u.fld 0x110008 0 12 := by
    intro u v; unfold State.fldPut State.fld; rw [rget_rput_same, bits_setBits_lo _ _ _ _ _ _ (by decide)]
  rw [e1, e2, fld_fldPut]; norm_num
theorem sleepHit_valid (s : State) (b : Nat) : bit ((s.sleepHit b).rget 0x110008) 12 = true := by
  unfold State.sleepHit State.rsAdd
  rw [bit_bits]
  unfold State.fldPut
  rw [rget_rput_same, bits_setBits_lo _ _ _ _ _ _ (by decide), rget_rput_same, bits_setBits]
  rfl
theorem sleepHit_ne (s : State) (b o : Nat) (h : o ≠ 0x110008) : (s.sleepHit b).rget o = s.rget o := by
  unfold State.sleepHit
  rw [rget_rsAdd_ne _ _ _ _ _ _ h, fldPut_ne _ _ _ _ _ _ h, fldPut_ne _ _ _ _ _ _ h]
theorem regWrite_awake (off w b : Nat) (s : State) (h : s.inReset = false) (h4 : off % 4 = 0) (hb : blockOf off = some b) (ha : s.asleep b = false) :
    regWrite off w s = regAct off w s := by
  unfold regWrite
  rw [if_neg (by simp [h, h4]), hb]
  dsimp only
  rw [if_neg (by simp [ha])]
theorem regWrite_asleep (off w b : Nat) (s : State) (h : s.inReset = false) (h4 : off % 4 = 0) (hb : blockOf off = some b) (ha : s.asleep b = true) :
    regWrite off w s = s.sleepHit b := by
  unfold regWrite
  rw [if_neg (by simp [h, h4]), hb]
  dsimp only
  rw [if_pos ha]
theorem awake_of_active (s : State) (b : Nat) (hs : s.served = true) (hp : s.mode.pwr = .active) (hb : b < 0x300) : s.asleep b = false := by
  unfold State.asleep
  rw [hs, hp]
  simp
  rw [if_neg (by omega)]
  omega
theorem port_awake_of_active (s : State) (p : Nat) (hs : s.served = true) (hp : s.mode.pwr = .active) (hlt : p < 128) (h1 : (s.bed (bedOf p)).isolating = false)
    (h2 : (s.bed (bedOf p)).retired = false) : s.asleep (0x400 + p) = false := by
  unfold State.asleep
  rw [hs, hp]
  simp
  rw [if_neg (by omega)]
  intro _
  exact ⟨h1, h2⟩
theorem blockOf_port (p o : Nat) (hp : p < 128) (ho : o < 0x10000) : blockOf (portReg p o) = some (0x400 + p) := by
  unfold blockOf portReg
  have : 50331648 + p * 65536 + o < 58720256 := by omega
  repeat rw [if_neg (by omega)]
  rw [if_pos (by omega)]
  congr 1; omega
theorem blockOf_fn (f o : Nat) (hf : f < 129) (ho : o < 0x4000) : blockOf (fnReg f o) = some (0x200 + f) := by
  unfold blockOf fnReg
  rw [if_neg (by omega), if_neg (by omega), if_neg (by omega), if_neg (by omega), if_pos (by omega)]
  congr 1; omega
/-- Before the lock, a set-up field takes the bits written. -/
theorem write_rwl (f : Fld) (h : f.acc = .rwl) (old w : Nat) : f.write false old w = bits w f.lo f.w := by
  unfold Fld.write; rw [h]; rfl
theorem plainWrite_unlocked (s : State) (off w : Nat) (h : s.lock = false) : s.plainWrite off w = s.rput off (writeWord (fields off) false (s.rget off) w) := by
  unfold State.plainWrite; simp [h]

end Sys2Proof.Safety
end

