-- ==== Sys2Proof/Laws/Runs.lean ====
section
/-! SUPPORT. Laws of the runs of the context pool (05 R172): moving runs changes their places and nothing else of a slot, a guest or an
endpoint. -/

namespace Sys2Proof.Laws

open Sys2Proof Sys2Proof.Machine Sys2Proof.Safety

/-- Two tables hold the same keys in the same order, with values that agree under `g`. -/
def Alike {α β : Type} (g : α → β) (l m : Tbl α) : Prop := List.Forall₂ (fun x y => y.1 = x.1 ∧ g y.2 = g x.2) l m

theorem tget_alike {α β : Type} (g : α → β) (d : α) {l m : Tbl α} (h : Alike g l m) (k : Nat) : g (tget d m k) = g (tget d l k) := by
  induction h with
  | nil => rfl
  | cons hx _ ih => unfold tget; rw [hx.1]; split <;> [exact hx.2; exact ih]

/-- A fold that appends each entry, changed at most in what `g` does not see. -/
theorem fold_alike {α β : Type} (g : α → β) (F : Tbl α × Nat → Nat × α → Tbl α × Nat)
    (hF : ∀ l a x, ∃ v b, F (l, a) x = (l ++ [(x.1, v)], b) ∧ g v = g x.2) (l : Tbl α) :
    ∀ acc a, ∃ m b, l.foldl F (acc, a) = (acc ++ m, b) ∧ Alike g l m := by
  induction l with
  | nil => intro acc a; exact ⟨[], a, by simp, .nil⟩
  | cons x l ih =>
    intro acc a
    obtain ⟨v, b, hv, hg⟩ := hF acc a x
    obtain ⟨m, c, hm, ha⟩ := ih (acc ++ [(x.1, v)]) b
    exact ⟨(x.1, v) :: m, c, by simp [hv, hm], .cons ⟨rfl, hg⟩ ha⟩

theorem packRuns_eq (s : State) : ∃ slots guests eps, packRuns s = { s with slots, guests, eps }
    ∧ Alike unplaced s.slots slots ∧ Alike unhoused s.guests guests ∧ Alike unstaged s.eps eps := by
  obtain ⟨m1, a1, h1, k1⟩ := fold_alike unplaced
    (fun (y : Tbl Slot × Nat) x => if x.2.st == .free then (y.1 ++ [x], y.2) else (y.1 ++ [(x.1, { x.2 with ctxBase := y.2 })], y.2 + x.2.ctxCount))
    (fun l a x => by dsimp only; split <;> exact ⟨_, _, rfl, rfl⟩) s.slots [] 0
  obtain ⟨m2, a2, h2, k2⟩ := fold_alike unhoused
    (fun (y : Tbl Guest × Nat) x => if x.2.st == .free then (y.1 ++ [x], y.2) else (y.1 ++ [(x.1, { x.2 with ctxBase := y.2 })], y.2 + x.2.ctxCount))
    (fun l a x => by dsimp only; split <;> exact ⟨_, _, rfl, rfl⟩) s.guests [] a1
  obtain ⟨m3, a3, h3, k3⟩ := fold_alike unstaged
    (fun (y : Tbl Ep × Nat) x => if x.2.streams then (y.1 ++ [(x.1, { x.2 with base := y.2 })], y.2 + 2 ^ (x.2.stLog + 1) - 1) else (y.1 ++ [x], y.2))
    (fun l a x => by dsimp only; split <;> exact ⟨_, _, rfl, rfl⟩) s.eps [] a2
  refine ⟨m1, m2, m3, ?_, k1, k2, k3⟩
  unfold packRuns
  simp only [List.nil_append] at h1 h2 h3
  simp only [h1, h2, h3]

/-- Moving runs changes the places of runs and nothing else. -/
theorem fixRuns_eq (s : State) : ∃ slots guests eps, fixRuns s = { s with slots, guests, eps }
    ∧ (∀ k, unplaced ((fixRuns s).slot k) = unplaced (s.slot k)) ∧ (∀ k, unhoused ((fixRuns s).guest k) = unhoused (s.guest k))
    ∧ (∀ k, unstaged ((fixRuns s).ep k) = unstaged (s.ep k)) := by
  unfold fixRuns
  split
  · exact ⟨s.slots, s.guests, s.eps, rfl, fun _ => rfl, fun _ => rfl, fun _ => rfl⟩
  · obtain ⟨a, b, c, h, ka, kb, kc⟩ := packRuns_eq s
    rw [h]
    exact ⟨a, b, c, rfl, tget_alike _ _ ka, tget_alike _ _ kb, tget_alike _ _ kc⟩

end Sys2Proof.Laws
end

