-- ==== Sys2Proof/Tests/Slice0.lean ====
section
/-! SUPPORT. Tests: the ill-formed commands that each check of well-formedness refuses, single steps on small states whose expected results are
read from the rules named beside them, and the states and operands that meet the hypotheses of the statements. -/

namespace Sys2Proof.Tests

open Sys2Proof Sys2Proof.Machine Sys2Proof.Safety

-- One theorem after another: a thread of its own for each would fill the memory.
set_option Elab.async false

/-! ### Well-formedness -/

/-- A header of the PF, and parameters whose PARAM0 is `a`. -/
def hdr : CmdHdr := ⟨0, 0x1000, 7⟩
def par (a : Nat) (b c : Nat := 0) : Params := ⟨BitVec.ofNat 64 a, BitVec.ofNat 64 b, BitVec.ofNat 64 c⟩

theorem test_op_refused : (Instr.portEnable hdr (par 0x200)).wf = false ∧ (Instr.portEnable hdr (par 0x100)).wf = true := by decide
theorem test_block_refused : (Instr.sendVdm hdr (par 0) []).wf = false ∧ (Instr.sendVdm hdr (par 0) (List.replicate 32 0)).wf = true := by decide +kernel
theorem test_kind_refused : (Instr.lifecycleReturn hdr (par 0) (List.replicate 512 1)).wf = false
    ∧ (Instr.lifecycleReturn hdr (par 0) (List.replicate 512 3)).wf = true := by decide +kernel
theorem test_objs_refused : (Instr.sourceCapsReceived 0 false (List.replicate 8 0)).wf = false
    ∧ (Instr.sourceCapsReceived 0 true (List.replicate 8 0)).wf = true := by decide
theorem test_offset_refused : (Instr.registerWrite 0x42 0).wf = false ∧ (Instr.registerWrite 0x44 0).wf = true := by decide
theorem test_rp_refused : (Instr.ccTerminationChange 3 (.rp 0) .opened).wf = false ∧ (Instr.ccTerminationChange 3 (.rp 1) .opened).wf = true := by decide
theorem test_link_refused : (Instr.linkRetrain 7 16).wf = false ∧ (Instr.linkRetrain 6 12).wf = false ∧ (Instr.linkRetrain 6 16).wf = true := by decide

/-! ### Small states -/

/-- A part in service with nothing attached, port 0 in the hands of the PF. -/
def up : State := { sup := { perst := false, wiping := false, cfgReady := true }, boot := { st := .served }, regs := [(pfnReg 0, 0x400)] }
/-- The same with the PF's event ring 0 enabled: 128 records, vector 0 (04 R146). -/
def ring : State := { up with regs := [(pfnReg 0, 0x400), (evrReg 0 0 8, 1)] }
/-- The same with every VF. -/
def vfs : State := { up with pcie := { vfEn := true, numVfs := 128 } }
/-- Port 0 with PORT PROFILE TYPE-C (10). -/
def typec : State := { up with regs := [(pfnReg 0, 0x400), (portReg 0 0x400, 1)] }
/-- Port 0 attached as a source with PD, VBUS on. -/
def src : State := { typec with
  tcs := [(0, { st := .attachedSrc, source := true, dfp := true, vconnSrc := true, vconnOn := true, cfg := 0x4101, rp := 3, cc1 := .rd, atSource := true, atDfp := true, atVconn := true })]
  pds := [(0, { attached := true, cableDone := true })], paths := [(0, { st := .on, pg := true, target := 5000 })] }
/-- Port 0 attached as a sink with PD. -/
def snk : State := { typec with tcs := [(0, { st := .attachedSnk, cfg := 0x4005, cc1 := .rp 3 })], pds := [(0, { attached := true })] }
/-- Changes of the PD policy of port 0. -/
def withPd (s : State) (g : Pd → Pd) : State := s.pdOn 0 g
/-- A bulk or control endpoint of slot 1 of the PF behind port 0, and its device. -/
def k1 : Nat := epKey 0 1 2 0
def r1 : EpRef := ⟨0, 1, 2, 0⟩
def dev (e : Ep) (speed : Nat := 2) : State := { up with
  regs := [(pfnReg 0, 0x400), (fnReg 0 0x10, 1)]
  slots := [(slotKey 0 1, { st := .configured, speed, address := 5 })], eps := [(k1, e)], links := [(0, { u2 := { st := .enabled, speed := 2 } })] }
/-- A NORMAL descriptor of 1024 bytes with EOC set. -/
def td (ty : Nat := 1) (len : Nat := 1024) : Td :=
  { addr := 0x4000, buf := 0x8000, len, cookie := 9, param := 0, chain := false, eoc := true, eos := false, imm := false, ty, flags := 0,
    next := { addr := 0x4020, count := 1, pos := 1 }, rd := {} }
/-- A guest on port 0, presented at high speed, its bulk OUT endpoint 2 running with a credit. -/
def gst (g : Guest) (es : Tbl Ep) : State := { up with
  links := [(0, { device := true, u2 := { st := .enabled, speed := 2 } })], guests := [(0, g)], eps := es }
def g0 : Guest := { st := .addressed, connectReq := true, present := true, speed := 2, bell := 1, address := 5, speedMax := 2, ctxCount := 3 }

/-- The next state of a command satisfies a test. -/
def after (c : Instr) (s : State) (P : State → Bool) : Bool := match exec c s with | .next t => P t | _ => false
/-- The record written last has a type, a CODE, a COOKIE and a SOURCE. -/
def lastRec (t : State) (ty code cookie src : Nat) : Bool :=
  match t.out.head? with | some (.record _ _ _ _ e) => e.ty == ty && e.code == code && e.cookie == cookie && e.src == src | _ => false

/-! ### Room of the event rings of such a state -/

theorem resetVal_ring (f r : Nat) (hf : f < 129) (hr : r < 256) : resetVal (evrReg f r 8) = 0 := by
  have ho : (evrReg f r 8 - 0x1000000) % 0x4000 = 0x1008 + 16 * r := by unfold evrReg fnReg; omega
  have hb : 0x1001000 ≤ evrReg f r 8 ∧ evrReg f r 8 < 0x1204000 ∧ evrReg f r 8 % 4 = 0 := by unfold evrReg fnReg; omega
  have h8 : (0x1008 + 16 * r) % 16 = 8 := by omega
  unfold resetVal fields
  generalize evrReg f r 8 = off at ho hb ⊢
  rw [if_neg (by omega), if_neg (by omega), if_neg (by omega), if_neg (by omega), if_neg (by omega), if_neg (by omega), if_neg (by omega), if_neg (by omega), if_neg (by omega),
    if_neg (by omega), if_pos (by omega)]
  simp only [ho, h8]
  rw [if_neg (by omega), if_neg (by omega)]
  split <;> split <;> decide
theorem tget_away {α : Type} (d : α) (l : Tbl α) (k : Nat) (h : ∀ x ∈ l, x.1 ≠ k) : tget d l k = d := by
  induction l with
  | nil => rfl
  | cons x l ih =>
    unfold tget
    rw [if_neg (h x (List.mem_cons_self ..)), ih (fun y hy => h y (List.mem_cons_of_mem _ hy))]
/-- A state whose registers hold no event ring's has room for every record. -/
theorem room_of {s : State} (n : Nat) (h : s.regs.all (fun x => decide (x.1 < 0x1001000) || decide (0x1204000 ≤ x.1)) = true) : Room n s := by
  intro f r hf hr he
  have hb : 0x1001000 ≤ evrReg f r 8 ∧ evrReg f r 8 < 0x1204000 := by unfold evrReg fnReg; omega
  have h0 : s.rget (evrReg f r 8) = 0 := by
    unfold State.rget
    rw [resetVal_ring f r hf hr]
    refine tget_away _ _ _ (fun x hx => ?_)
    have := List.all_eq_true.mp h x hx
    simp only [Bool.or_eq_true, decide_eq_true_eq] at this
    omega
  unfold State.evrEnable at he
  rw [h0] at he
  simp [bit] at he

/-! ### Single steps -/

/-- 03 R106: the working pool and what the part keeps fill the trough with one bank out of service, 31 MiB. -/
theorem test_trough : Config.workingPool + Config.keptSpace = 31 * 1048576 := by decide
/-- 04 R138: with every parameter 0, SUCCESS (0x01) in a COMMAND record (2) that carries the COOKIE. -/
theorem test_no_op : after (.noOp hdr (par 0) 0) ring (fun t => lastRec t 2 1 7 0) = true := by decide +kernel
theorem test_no_op_param : after (.noOp hdr (par 1) 0) ring (fun t => lastRec t 2 0x13 7 0) = true := by decide +kernel
/-- 04 R144: an unknown OPCODE gives UNKNOWN-OPCODE (0x1C). -/
theorem test_unknown : after (.unknownCommand hdr 0xC 0x77 (par 0)) ring (fun t => lastRec t 2 0x1C 7 0) = true := by decide +kernel
/-- 02 R74: a reset ends the lock and empties the slots. -/
theorem test_perst : after .perstAssert { dev {} with lock := true } (fun t => t.sup.perst && !t.lock && t.slots.isEmpty) = true := by decide +kernel
/-- 02 R78: an Uprooted part takes IDCODE alone, SAMPLE acts as BYPASS. -/
theorem test_jtag : after (.jtagInstruction .sample) { up with otp := { life := .uprooted } } (fun t => t.sup.tap == .bypass) = true := by decide +kernel
/-- 03 R87: Revision ID 0x10; before the configuration space is ready a request gets CRS. -/
theorem test_revision : after (.configRequest 0 (.read .revision)) up (fun t => t.out == [.cfgData (some 0x10)]) = true := by decide +kernel
theorem test_crs : after (.configRequest 0 (.read .revision)) { up with sup := { up.sup with cfgReady := false } } (fun t => t.out == [.cfgData none]) = true := by decide +kernel
/-- 02 R52: a piece whose address is not a multiple of 64 refuses the image with cause 0x0D. -/
theorem test_piece : after (.loaderDescriptorFetched 0x1020 64 0) { up with boot := { st := .awaiting }, regs := [(0x1008, 1), (0x100C, 1)] }
    (fun t => t.boot.st == .refused && t.boot.refusal == 0x0D) = true := by decide +kernel
/-- 00 R25: a write 1 to clear; 15 R506: with the cause alive the bit stays and STILL is set. -/
theorem test_w1c : after (.fltStatusClear 20 2) { up with flt := { srcs := [(641, { status := true })] } } (fun t => !(t.fltSrc 641).status) = true := by decide +kernel
theorem test_still : after (.fltStatusClear 20 2) { up with flt := { srcs := [(641, { status := true, line := .fault })] } }
    (fun t => (t.fltSrc 641).status && (t.fltSrc 641).still) = true := by decide +kernel
/-- 00 R22: a read that is not an aligned 32-bit one returns 0. -/
theorem test_misaligned : after (.misalignedAccess { bar := .pfBar0, off := 2, bits := 32, isWrite := false, data := 0 }) up (fun t => t.out == [.readData 0]) = true := by
  decide +kernel
/-- 00 R24: a read of a sleeping block returns 0x5EED0000 with the block's number. -/
theorem test_sleep : after (.sleepWordAccess ⟨.pfBar0, 0x100000⟩ false) { up with boot := {} } (fun t => t.out == [.readData 0x5EED0100]) = true := by decide +kernel
/-- 05 R180: a MAX PACKET SIZE of endpoint 0 that the speed does not allow. -/
theorem test_open_slot : after (.openSlot hdr (par 0x200 0x10000 (63 * 2 ^ 32))) { dev {} with regs := [(pfnReg 0, 0x400), (fnReg 0 0x10, 1), (evrReg 0 0 8, 1)] }
    (fun t => lastRec t 2 0x13 7 0) = true := by decide +kernel
/-- 05 R181: the lowest address not in use on the port. -/
theorem test_address : after (.assignAddress hdr (par 1)) { dev {} with slots := [(slotKey 0 1, { st := .dflt }), (slotKey 0 2, { st := .configured, address := 1 })] }
    (fun t => (t.slot (slotKey 0 1)).address == 2) = true := by decide +kernel
/-- 05 R184: CLEAR HALT gives Idle; outside Halted it is refused. -/
theorem test_clear_halt : after (.clearHalt hdr (par 0x1020001)) (dev { st := .halted, ty := 6, toggle := true }) (fun t => (t.ep k1).st == .idle && !(t.ep k1).toggle) = true := by
  decide +kernel
/-- 08 R307: DISABLE puts both sides to Off. -/
theorem test_disable : after (.portDisable hdr (par 0x100)) { up with links := [(0, { u2 := { st := .disconnected }, ss := { st := .disconnected } })] }
    (fun t => (t.link 0).disabled && (t.link 0).u2.st == .off && (t.link 0).ss.st == .off) = true := by decide +kernel
/-- 08 R281: a hot reset that times out is repeated as a warm one. -/
theorem test_hot_reset : after (.hotResetTimeout 0) { up with links := [(0, { ss := { st := .resetting } })] } (fun t => (t.link 0).ss.warm && t.out == [.bus 0 .ss (.reset true)]) = true := by
  decide +kernel
/-- 09 R331: the external host's suspend. -/
theorem test_guest_suspend : after (.guestSuspendDetect 0) (gst g0 []) (fun t => (t.guest 0).suspended && (t.link 0).u2.st == .suspended) = true := by decide +kernel
/-- 09 R326: with SET ADDRESS sent and acknowledged the guest takes its address. -/
theorem test_guest_address : after (.guestInHandshake 0 0 true) (gst { g0 with newAddr := some 9, addrSent := true } []) (fun t => (t.guest 0).address == 9) = true := by decide +kernel
/-- 12 R439: SHED CLASS; RESULT is the class before, 7 after reset. -/
theorem test_shed_class : after (.shedClass hdr (par 0 3)) ring (fun t => (t.path 0).shedClass == 3
    && t.out.any (fun o => match o with | .record _ _ _ _ e => e.detail == 0x21 + 7 * 256 | _ => false)) = true := by decide +kernel
/-- 12 R424: an overcurrent trip counts a retry. -/
theorem test_trip : after (.ocTimerExpire 0) { src with paths := [(0, { st := .on, ocTimer := true })] } (fun t => (t.path 0).st == .trip && (t.path 0).retries == 1) = true := by decide +kernel
/-- 12 R421: at the end of a ramp the path is On. -/
theorem test_ramp : after (.rampComplete 0) { src with paths := [(0, { st := .ramp })] } (fun t => (t.path 0).st == .on) = true := by decide +kernel
/-- 11 R376, R377: a good message is answered by GoodCRC; a second one with its ID too, and nothing else. -/
theorem test_good_crc : after (.pdMessageReceived 0 { sop := .sop0, hdr := 0x0207, objs := [], good := true }) snk (fun t => t.out == [.cc 0 (.goodCrc .sop0 1)]) = true := by decide +kernel
/-- 11 R379: Soft Reset is answered by Accept (3) and the counters are 0. -/
theorem test_soft_reset : after (.softResetReceived 0 .sop0) snk (fun t => (t.pd 0).txq.map (·.ty) == [3] && (t.pd 0).s0.tx == 0) = true := by decide +kernel
/-- 11 R381: a request for an object that was not offered is rejected (4). -/
theorem test_reject : after (.requestReceived 0 0x70000000) (withPd src fun d => { d with offered := [0x0001912C] }) (fun t => (t.pd 0).txq.map (·.ty) == [4]) = true := by decide +kernel
/-- 11 R410, R382: GET SOURCE CAPS sends Get_Source_Cap (7). -/
theorem test_get_src : after (.getSourceCaps hdr (par 0x800)) src (fun t => (t.pd 0).txq.map (·.ty) == [7] && t.ops.length == 1) = true := by decide +kernel
/-- 10 R348: Rd on one line alone starts the debounce of a source. -/
theorem test_cc : after (.ccTerminationChange 0 .rd .opened) { typec with tcs := [(0, { st := .unattachedSrc })] } (fun t => (t.tc 0).st == .attachWaitSrc) = true := by decide +kernel
/-- 13 R445: a step to a faster mode asks the regulator for its voltage first. -/
theorem test_set_mode : after (.setMode hdr (par 1)) up (fun t => t.mode.mode == .steady && (t.mode.chg.map (·.goal)) == some .bloom) = true := by decide +kernel
/-- 13 R462: a brown-out in Dormant counts and takes the cold frame out of low power. -/
theorem test_brown_out : after .brownOut { up with mode := { pwr := .dormant, cfLp := true } } (fun t => !t.mode.cfLp && t.fld 0x110004 16 16 == 1) = true := by decide +kernel
/-- 16 R561: a read of a slot steps the slot pointer. -/
theorem test_smbus : after .smbusAlmanacRead { up with smb := { slot := 8191 } } (fun t => t.smb.slot == 0) = true := by decide +kernel
/-- 16 R537: STOP of a port that captures nothing is STATE-REFUSED (0x15). -/
theorem test_capture_stop : after (.captureStop hdr (par 0)) ring (fun t => lastRec t 2 0x15 7 0) = true := by decide +kernel
/-- 14 R475: the spare takes the place of the engine whose state it has copied. -/
theorem test_rotation : after (.rotationCopyDone 3) { up with eng := { rot := some { out_ := 2, by_ := .auto, step := .copying, test := 2 } } }
    (fun t => t.eng.active == [0, 1, 3, 4, 5, 6, 7, 8] && t.eng.spare == 15 && t.eng.lastPause == 3) = true := by decide +kernel
/-- 14 R495: a source that asserts while its group's holdoff runs stays held. -/
theorem test_held : after (.dispatcherSourceAssert 1 none) { up with dsp := { groups := [(0, { len := 5, running := true })] } } (fun t => (t.dspSrc 1).pending && (t.dspSrc 1).held) = true := by
  decide +kernel
/-- 15 R505: a cause is counted and its code is kept. -/
theorem test_fault : after (.faultLineRaised { src := 641, cause := 1, unit := 0, info := 0, func := 0, lasting := false }) up
    (fun t => (t.fltSrc 641).status && (t.fltSrc 641).lastCause == 1 && t.rget (fltCntReg 641) == 1) = true := by decide +kernel
/-- 01 R41: the third consecutive failure of a hop's word retires its first path; a good word between begins the count again. -/
theorem test_hop : after (.fabricCheckFail { hop := 3, word := 12 }) { up with units := { hops := [(3, { fails := 2, latest := 11 })] } } (fun t => (t.hopOf 3).second) = true
    ∧ after (.fabricCheckFail { hop := 3, word := 13 }) { up with units := { hops := [(3, { fails := 2, latest := 11 })] } } (fun t => !(t.hopOf 3).second && (t.hopOf 3).fails == 1) = true := by
  decide +kernel
/-- 04 R147: the consumer index is taken as it is read. -/
theorem test_cons : after (.evrConsRead 0 0 5) { ring with fns := [(0, { evrs := [(0, { w := 5 })] })] } (fun t => (t.evr 0 0).c == 5) = true := by decide +kernel
/-- 04 R136: a COMMAND position moves the cursor by 32. -/
theorem test_fetch : after (.descriptorFetched (.cmd 0) 0 { q0 := 0, w2 := 0, w3 := 0, w4 := 0, w5 := 0, w6 := 7, w7 := 0x01000C01 })
    { up with regs := [(fnReg 0 0x28, 1)], fns := [(0, { prod := 2 })] } (fun t => (t.fn 0).cur.addr == 32 && (t.fn 0).cur.count == 1) = true := by decide +kernel
/-- 06 R221: an ACK moves the toggle and the bytes done. -/
theorem test_ack : after (.outHandshake r1 .ack) (dev { st := .running, ty := 3, mps := 512, wire := true, begun := true, tds := [{ td with len := 1024 }], staged := [List.replicate 512 0] })
    (fun t => (t.ep k1).toggle && (t.ep k1).done == 512 && (t.ep k1).staged.isEmpty) = true := by decide +kernel
/-- 06 R222: a packet of the other toggle is acknowledged and dropped. -/
theorem test_repeat : after (.inPacketReceived r1 1 [1, 2]) (dev { st := .running, ty := 6, mps := 512, wire := true, tds := [td], credits := [{ serial := 1, tog := 0, covered := true }] })
    (fun t => (t.ep k1).pkts.isEmpty && (t.ep k1).credits.length == 1) = true := by decide +kernel
/-- 16 R551: the timebase counts 8 ns a step. -/
theorem test_idle : (match step up with | .next t => t.time.local_ == 8 | _ => false) = true := by decide +kernel
/-- A SHA-384 value of FIPS 180-4 (02 R58 names the standard): of "abc". -/
theorem test_sha384 : beNat (leBytes 48 (sha384 [0x61, 0x62, 0x63]).toNat)
    = 0xcb00753f45a35e8bb5a03d699ac65007272c32ab0eded1631a8b605a43ff5bed8086072ba1e7cc2358baeca134c825a7 := by decide +kernel

/-! ### The hypotheses of the statements are met -/

theorem meets_StepIdle : up.pending = [] ∧ up.waiting = [] ∧ up.inj = [] := by
  decide +kernel
theorem meets_UprootedStays : (match step { up with otp := { life := .uprooted } } with | .next t => decide (t.otp.life = .uprooted ∧ t.otp.mark = none) | _ => false) = true := by
  decide +kernel
theorem meets_QueueKept : after (.noOp hdr (par 0) 0) { up with pending := [.scrubTick] } (fun t => t.pending == [.scrubTick]) = true := by
  decide +kernel
theorem meets_NoOpRule : Room 9 up
    ∧ Starts hdr [] up
    ∧ p0 (par 0) = 0 ∧ p1 (par 0) = 0 ∧ p2 (par 0) = 0
    ∧ p0 (par 1) ≠ 0 :=
  ⟨room_of 9 (by decide +kernel), by unfold Starts; decide +kernel⟩
theorem meets_EarlyLock : ({ up with boot := {} } : State).inReset = false ∧ ({ up with boot := {} } : State).served = false ∧ up.lock = false ∧ bit (1#32).toNat 0 = true := by
  decide +kernel
theorem meets_CommandWaits : ({ up with fns := [(0, { stopped := true })] } : State).keyBusy (.limit 0) = true
    ∧ Starts hdr [] { ring with fns := [(0, { evrs := [(0, { w := 128 })] })] } ∧ ring.evrEnable 0 0 = true ∧ ({ ring with fns := [(0, { evrs := [(0, { w := 128 })] })] } : State).evrRoom 0 0 = false
    ∧ State.reset.served = false := by
  unfold Starts; decide +kernel
theorem meets_ResetRows : up.inReset = false ∧ State.reset.inReset = true
    ∧ ({ up with sup := { low := [.core], perst := true } } : State).sup.low ≠ [] ∧ State.reset.sup.perst = true ∧ State.reset.sup.low = []
    ∧ up.sup.wiping = false := by
  decide +kernel
theorem meets_SupplyRows : up.sup.hvLow = false ∧ ({ up with sup := { hvLow := true } } : State).sup.hvLow = true
    ∧ ((src.tc 0).vconnOn = true ∧ (∀ q, q < 128 → q ≠ 0 → (src.tc q).vconnOn = false) ∧ ({ src with pds := [] } : State).pds = [] ∧ Light 1 { src with pds := [] })
    ∧ up.sup.refclk = true ∧ ({ up with sup := { refclk := false } } : State).sup.refclk = false
    ∧ up.mode.pwr = .active := by
  unfold Light; decide +kernel
theorem meets_PcieRows : up.inReset = false ∧ up.sup.cfgReady = true ∧ up.fnExists 0 = true ∧ up.pcie.vfEn = false ∧ up.otp.life ≠ .uprooted
    ∧ vfs.fnExists 128 = true ∧ vfs.pcie.flr.contains 128 = false ∧ vfs.pcie.vfEn = true
    ∧ ({ up with pcie := { fns := [(0, { d3 := true })] } } : State).cfgFn 0 = { d3 := true }
    ∧ (3#32).toNat % 4 = 3 := by
  decide +kernel
theorem meets_SowingRows : ({ up with boot := {} } : State).lock = false ∧ ({ up with boot := {} } : State).inReset = false ∧ ({ up with boot := {} } : State).boot.st ≠ .uprooted ∧ bit (2#32).toNat 1 = true
    ∧ ({ up with boot := {}, regs := [(0x1008, 1), (0x100C, 1)] } : State).loaderRuns = true ∧ (0x1000#64).toNat % 64 = 0 ∧ (64#32).toNat % 64 = 0 ∧ (0x1020#64).toNat % 64 ≠ 0
    ∧ imageFault {} [] = some 1
    ∧ ({ up with boot := { st := .starting, checked := some ⟨0, 0, 0, [], [], []⟩ } } : State).boot.running = none
    ∧ ({ up with boot := { st := .starting, running := some ⟨0, 0, 0, [], [], []⟩ }, mode := { vout := 850 } } : State).coreSettled = true
    ∧ ({ up with boot := { held := [(0, ⟨5000, 900, .fixed, true⟩)] } } : State).persisting 0 = true := by
  decide +kernel
theorem meets_WriteRows : up.inReset = false ∧ up.lock = false ∧ up.served = true ∧ bit (1#32).toNat 0 = true ∧ ({ up with lock := true } : State).lock = true
    ∧ blockOf 0x50000 = none ∧ blockOf 0x1001000 = some 0x200 ∧ ({ up with boot := {} } : State).asleep 0x200 = true ∧ up.asleep 0x200 = false
    ∧ 0x170000 ≤ 0x1001000 ∧ 0x1001000 % 0x10000 ≠ 0x704 ∧ reachesLocked 0x1001000 = true ∧ reachesLocked 0x17000C = false
    ∧ blockOf 0x3000104 = some 0x400 ∧ up.asleep 0x400 = false ∧ 0x3000104 % 0x10000 < 0x400
    ∧ vfs.fnExists 1 = true ∧ vfs.asleep 0x201 = false ∧ vfs.served = true ∧ vfs.mode.pwr = .active
    ∧ (({ up with fns := [(0, { doze := .dozing })] } : State).fn 0).doze = .dozing ∧ (3 : Nat) < ringsOf 0 ∧ (2047 : Nat) < vectors 0
    ∧ (up.bed (bedOf 127)).isolating = false ∧ (up.bed (bedOf 127)).retired = false := by
  decide +kernel
theorem meets_FaultWriteRows : up.inReset = false ∧ up.served = true ∧ up.mode.pwr = .active ∧ (2#32).toNat = 2 ^ 1
    ∧ (({ up with flt := { srcs := [(641, { status := true })] } } : State).fltSrc (32 * 20 + 1)) = { status := true } ∧ up.holdRuns 641 = false
    ∧ (({ up with flt := { srcs := [(641, { status := true, line := .fault })] } } : State).fltSrc 641).line ≠ .quiet
    ∧ ({ up with flt := { safeHold := true } } : State).safeMayEnd = true ∧ ({ up with flt := { safeHold := true, srcs := [(641, { safe := true, status := true })] } } : State).safeMayEnd = false
    ∧ ((∀ p, p < 128 → (up.path p).queued = none ∧ ¬((up.path p).st = .trip ∧ (up.path p).gateOff = true)))
    ∧ ({ up with regs := [(0x163010, 3)] } : State).injEn = true ∧ ({ up with regs := [(0x163010, 3)] } : State).injWireEn = true ∧ (catalogue (bits (641#32).toNat 0 10)).isSome = true
    ∧ bits (641#32).toNat 10 2 = 0 ∧ bits (1665#32).toNat 10 2 = 1 ∧ up.injEn = false := by
  decide +kernel
theorem meets_ReadRows : up.inReset = false ∧ up.served = true ∧ up.mode.pwr = .active ∧ bar2Fn .pfBar0 = none ∧ bar2Fn .pfBar2 = some 0
    ∧ msixOk 0 { bar := .pfBar2, off := 0x10000, bits := 64, isWrite := true, data := 0 } = true ∧ msixOk 0 { bar := .pfBar2, off := 0x10004, bits := 64, isWrite := true, data := 0 } = false
    ∧ (2047 : Nat) < vectors 0 ∧ up.pcie.flr.contains 0 = false ∧ blockOf 0x1001000 = some 0x200 ∧ ({ up with boot := {} } : State).asleep 0x200 = true
    ∧ bit (({ up with regs := [(0x1040, 0x10000)] } : State).rget 0x1040) 16 = true ∧ bit (up.rget 0x1040) 16 = false := by
  decide +kernel
theorem meets_SlotCommandRows : Room 9 (dev {})
    ∧ Starts hdr (slotWait hdr 1 []) (dev {}) ∧ slotCheck 0 1 false (dev {}) = none ∧ slotCheck 0 1 true (dev {}) = none
    ∧ openSlotCode 0 (par 0x200 0x10000 (64 * 2 ^ 32)) { dev {} with regs := [(pfnReg 0, 0x400), (fnReg 0 0x10, 1), (evrReg 0 0 8, 1)] } = none ∧ (dev {}).freeBell 0 = some 2
    ∧ openSlotCode 0 (par 0x200 0x10000 (64 * 2 ^ 32)) (dev {}) = some ccParam
    ∧ (({ dev {} with slots := [(slotKey 0 1, { st := .dflt })] } : State).slot 1).address = 0 ∧ ({ dev {} with slots := [(slotKey 0 1, { st := .dflt })] } : State).freeAddress 0 = some 1
    ∧ (dev {}).slots.any (fun x => x.1 / 16384 == 0 && x.2.st != .free && x.2.ttHub == 1 && (1 : Nat) != 0) = false
    ∧ bits (p0 (par (2 ^ 63 + 1))) 42 20 = 0 ∧ bit (p0 (par (2 ^ 63 + 1))) 63 = true ∧ bits (p0 (par (2 ^ 63 + 1))) 0 16 = 1
    ∧ (dev { st := .idle, ty := 6 }).epDefined (epKey 0 1 2 0) = true ∧ bits (p0 (par 0x20001)) 16 5 = 2 :=
  ⟨room_of 9 (by decide +kernel), by unfold Starts; decide +kernel⟩
theorem meets_EndpointCommandRows : Room 9 (dev { st := .halted, ty := 6 })
    ∧ Starts hdr (slotWait hdr 1 [k1]) (dev { st := .halted, ty := 6 }) ∧ epCode 0 1 2 false (dev { st := .halted, ty := 6 }) = none ∧ (dev { st := .halted, ty := 6 }).epAll k1 = [k1]
    ∧ setEndpointsCode 0 1 (par 1) (List.replicate 1056 0) (dev { st := .idle, ty := 6 }) = none ∧ setEndpointsCode 0 1 (par 1 1) (List.replicate 1056 0) (dev { st := .idle, ty := 6 }) = some ccParam
    ∧ (dev { st := .running, ty := 6, wire := true }).epBusy k1 = true ∧ (dev { st := .running, ty := 6 }).epBusy k1 = false ∧ (dev { st := .running, ty := 6 }).ep k1 = { st := .running, ty := 6 }
    ∧ ((dev { st := .running, ty := 6 }).ep k1).inXfer = false ∧ streamBad ((dev { st := .paused, ty := 6 }).ep k1) 0 = false :=
  ⟨room_of 9 (by decide +kernel), by unfold Starts; decide +kernel⟩
theorem meets_PortCommandRows : Room 9 up ∧ Room 9 src
    ∧ paBad (par 0x100) false false false = false ∧ paAll (par 0x100) = false ∧ up.owns 0 0 = true ∧ vfs.owns 0 1 = false ∧ Starts hdr [.port 0] up
    ∧ (({ up with links := [(0, { disabled := true })] } : State).link 0).disabled = true ∧ paBad (par 0x10201) false false false = true
    ∧ (paAll (par 0x180) = true ∧ (∀ x ∈ up.fnPorts 0, (up.link x).disabled = false))
    ∧ (({ up with links := [(0, { u2 := { st := .enabled } })] } : State).link 0).u2.st.resettable = true ∧ namedSides (paSides (par 0x100000300)) = [.usb2] ∧ paBad (par 0x100000300) false true false = false
    ∧ canSuspend 0 { up with links := [(0, { u2 := { st := .enabled } })] } = true ∧ canSuspend 0 up = false ∧ canResume 0 { up with links := [(0, { u2 := { st := .suspended } })] } = true
    ∧ (dev {}).slotOpen 0 1 = true ∧ ((dev {}).slot 1).port = 0 ∧ paBad (par 0x10700) true false false = false ∧ paSlot (par 0x10700) = 1
    ∧ p1 (par 0x900 8) = 8 ∧ paBad (par 0x900 8) false false true = false ∧ up.portSlots 0 = []
    ∧ (({ up with links := [(0, { ss := { st := .withheld, cause := 1 } })] } : State).link 0).ss.cause = 1
    ∧ up.powerAllowed 0 0 = true ∧ typec.profile 0 = .typec ∧ up.profile 0 = .disabled ∧ vfs.powerAllowed 1 0 = false ∧ bits (p0 (par 0x1100)) 8 8 = 0x11 :=
  ⟨room_of 9 (by decide +kernel), room_of 9 (by decide +kernel), by unfold Starts; decide +kernel⟩
theorem meets_PortEventRows : Room 9 up
    ∧ up.portSlots 0 = [] ∧ (dev {}).portSlots 0 = [1] ∧ ({ dev {} with eps := [(epKey 0 1 0 0, { st := .idle, ty := 1 })] } : State).slotRoots 1 = [epKey 0 1 0 0]
    ∧ (({ up with links := [(0, { u2 := { st := .resetting, resetBy := .autoReset } })] } : State).link 0).u2.resetBy ≠ .flr ∧ speedOnSide .high .usb2 = true
    ∧ ({ up with ops := [{ h := hdr, kind := .reset, port := 0 }] } : State).opFind (portOp 0 .reset) = some { h := hdr, kind := .reset, port := 0 }
    ∧ (({ up with links := [(0, { u2 := { st := .enabled, suspending := true, quiesced := true } })] } : State).link 0).u2.wakeLatched = false
    ∧ (({ up with links := [(0, { ss := { st := .resuming } })] } : State).link 0).ss.st = .resuming ∧ up.autoWarm 0 = false :=
  ⟨room_of 9 (by decide +kernel), by decide +kernel⟩
theorem meets_GuestCommandRows : Room 9 (gst g0 [(k1, { st := .idle, ty := 3, guest := true })])
    ∧ (gst g0 []).owns 0 0 = true ∧ gaBad (par 0xA00) false false = false ∧ ({ up with regs := [(pfnReg 0, 0x400), (evrReg 0 0 8, 1)] } : State).evrOk 0 0 = true ∧ (up.guest 0).st = .free
    ∧ (gst g0 []).guestNamed 0 (par 0x10B00) = true ∧ gaBad (par 0x10B00) true false = false ∧ Starts hdr [] (gst g0 [])
    ∧ (gst { g0 with connectReq := false } []).guestNamed 0 (par 0x10C00) = true ∧ (gst { g0 with present := false } []).guestNamed 0 (par 0x10D00) = true
    ∧ ((gst { g0 with suspended := true } []).guest 0).suspended = true ∧ p1 (par 0x10F00 255) < 256
    ∧ gaBad (par 0x2000000011100) true true = false ∧ guestEpIdx (par 0x2000000011100) = 2
    ∧ (gst g0 [(k1, { st := .idle, ty := 3, guest := true })]).epDefined k1 = true ∧ ((gst g0 []).guest 0).st.bound = true
    ∧ ({ up with regs := [(pfnReg 0, 0x400), (portReg 0 0x300, 1), (portReg 0 0x400, 3)] } : State).roleCfg 0 = 1 ∧ ({ up with regs := [(pfnReg 0, 0x400), (portReg 0 0x300, 1), (portReg 0 0x400, 3)] } : State).profile 0 = .soldered
    ∧ (({ gst { g0 with suspended := true } [] with ops := [{ h := hdr, kind := .guestWake, port := 0, bell := 1 }] } : State).opFind (guestWaking 0)).isSome = true :=
  ⟨room_of 9 (by decide +kernel), by unfold Starts; decide +kernel⟩
theorem meets_PowerPolicyRows : Room 9 src
    ∧ Starts hdr [.port 0] src ∧ Starts hdr [] up ∧ up.powerAllowed 0 0 = true ∧ vfs.powerAllowed 1 0 = false ∧ bits (p0 (par 0)) 16 48 = 0 ∧ p2 (par 0) = 0
    ∧ p1 (par 0 7) < 8 ∧ p1 (par 0 (65536 + 4000)) < 131072 ∧ p1 (par 0 (65536 + 4000)) % 65536 ≤ 4000 ∧ up.budget.waitOrder = [] ∧ (src.pd 0).con = none
    ∧ p1 (par 7 4000) ≤ 4000 ∧ ppNum (par 7) = 7 ∧ p1 (par 0 20000) ≤ 20000
    ∧ ({ up with regs := [(portReg 0 0x618, 3)] } : State).indMode 0 = 3 ∧ up.indMode 0 ≠ 3 ∧ bits (p0 (par 65536)) 16 48 ≠ 0 :=
  ⟨room_of 9 (by decide +kernel), by unfold Starts; decide +kernel⟩
theorem meets_PdRequestRows : Room 9 src ∧ Room 9 snk
    ∧ prBad (par 0x100) = false ∧ prNone (par 0x100) = false ∧ src.powerAllowed 0 0 = true ∧ src.pdLive 0 = true ∧ snk.pdLive 0 = true ∧ up.pdLive 0 = false ∧ src.graftFor 1 0 0 = none
    ∧ Starts hdr [.port 0] src ∧ Starts hdr [.port 0] snk ∧ (src.tc 0).source = true ∧ (snk.tc 0).source = false
    ∧ ((withPd src fun d => { d with con := some {} }).pd 0).con.isSome = true ∧ ((withPd src fun d => { d with con := some {} }).pd 0).inTrellis = false
    ∧ ({ src with tcs := [(0, { st := .attachedSrc, source := true, cfg := 0x4009 })] } : State).isDrp 0 = true ∧ src.isDrp 0 = false
    ∧ ({ snk with tcs := [(0, { st := .attachedSnk, pdCfg := 4 })] } : State).eprEn 0 = true
    ∧ (src.tc 0).source = (src.tc 0).atSource ∧ (src.tc 0).dfp = (src.tc 0).atDfp ∧ (src.pd 0).trellis = .no ∧ src.ops = []
    ∧ p1 (par 0x200 0x10000000) < 2 ^ 32 ∧ ((withPd snk fun d => { d with partner := [0x1912C] }).pd 0).partner ≠ [] ∧ (snk.pd 0).quiet = true
    ∧ src.sopOk 0 0 = true ∧ src.sopOk 0 1 = true ∧ src.sopOk 0 2 = true ∧ snk.sopOk 0 1 = false ∧ prOut (par 0x800) = false
    ∧ discoverBad 4 = false ∧ svBad (par 0) 0xFF008001 = false ∧ svSop (par 0) = 0 :=
  ⟨room_of 9 (by decide +kernel), room_of 9 (by decide +kernel), by unfold Starts; decide +kernel⟩
theorem meets_ModeRows : Room 9 up
    ∧ bits (p0 (par 1)) 0 2 ≠ 3 ∧ modeOf 1 = .bloom ∧ up.mode.mode.rank < Mode.rank .bloom ∧ Starts hdr [.mode] up ∧ up.sup.voutLinear = true ∧ up.flt.safeHold = false
    ∧ Mode.rank .steady < Mode.rank .bloom ∧ ({ up with mode := { mode := .bloom } } : State).capsOver (captureLimit .steady) = [] ∧ Starts hdr [.mode] { up with mode := { mode := .bloom } } ∧ bits (p0 (par 7)) 2 6 ≠ 0
    ∧ (dev {}).mode.mode ≠ .fallow ∧ ({ up with links := [(0, { ss := { st := .enabled } })] } : State).withholds = [] ∧ (2 : Nat) ≠ 3
    ∧ up.served = true ∧ up.mode.pwr ≠ .dormant ∧ up.mode.chg = none ∧ up.mode.floor + up.margin ≤ 256 ∧ up.mode.floor ≤ 255 ∧ 255 < up.mode.floor + up.margin
    ∧ (max 1000 900 - min 1000 900) * 100 > 4 * 900 ∧ Light 641 { up with mode := { mode := .bloom, index := 1000 } } ∧ up.mode.entering = false ∧ up.mode.leaving = none
    ∧ max 940 (Mode.mv .bloom) - min 940 (Mode.mv .bloom) ≤ 10 ∧ 10 < max 939 (Mode.mv .bloom) - min 939 (Mode.mv .bloom)
    ∧ Mode.rank .steady < Mode.rank .bloom ∧ ({ up with regs := [(0x100008, 16)] } : State).autoRaise = true ∧ max 875 up.mode.voutTarget - min 875 up.mode.voutTarget ≤ 25 ∧ 25 < max 876 up.mode.voutTarget - min 876 up.mode.voutTarget
    ∧ Light 648 up ∧ up.mode.regSilent = false :=
  ⟨room_of 9 (by decide +kernel), by unfold Starts Light; decide +kernel⟩
theorem meets_PowerStateRows : ({ up with regs := [(0x110000, 3)] } : State).drowseEn = true ∧ ({ up with regs := [(0x110000, 3)] } : State).mayDrowse = true ∧ up.mode.pwr = .active ∧ up.mode.rewriteDue = false
    ∧ ({ up with regs := [(0x110000, 3)], mode := { pwr := .drowse } } : State).dormantEn = true ∧ ({ up with regs := [(0x110000, 3)], mode := { pwr := .drowse } } : State).mayDormant = true
    ∧ ({ up with mode := { watchCopy := [(63, 0x8000)] } } : State).watches 63 = true ∧ up.watches 63 = false ∧ up.sup.voutLinear = true ∧ up.mode.queued = none
    ∧ ({ up with ops := [{ h := hdr, kind := .reset }] } : State).mayDrowse = false := by
  decide +kernel
theorem meets_ReadAlmanacRows : Room 9 up ∧ Room 9 vfs
    ∧ Starts hdr [] up ∧ Starts ⟨1, 0, 0⟩ [] vfs ∧ bits (p0 (par 0x801FFF 64)) 13 3 = 0 ∧ bits (p0 (par 0x801FFF 64)) 25 39 = 0 ∧ bits (p0 (par 0x801FFF 64)) 16 8 ≤ 128 ∧ p1 (par 0x801FFF 64) % 64 = 0
    ∧ bits (p0 (par 0x2000)) 13 3 ≠ 0 :=
  ⟨room_of 9 (by decide +kernel), room_of 9 (by decide +kernel), by unfold Starts; decide +kernel⟩
theorem meets_ObservationRows : State.reset.sup.perst = true ∧ up.sup.perst = false ∧ (8191#16).toNat < 8192 ∧ (8#8).toNat < 9
    ∧ ({ up with regs := [(0x170008, 1)], pcie := { ptmEn := true } } : State).ptmUse = true ∧ ({ up with regs := [(0x170008, 0)] } : State).ptmUse = false ∧ up.time.stepNext = true ∧ Light 642 up
    ∧ ((1000000 : Int) - 0).natAbs ≤ 1000000 ∧ 1000000 < ((1000001 : Int) - 0).natAbs ∧ up.now = 0
    ∧ ({ up with mode := { pwr := .dormant } } : State).mode.pwr = .dormant ∧ up.mode.pwr ≠ .dormant := by
  unfold Light; decide +kernel
theorem meets_CaptureCommandRows : Room 9 up
    ∧ bits (p0 (par 0xF00000000)) 32 4 ≠ 0 ∧ bits (p1 (par 0xF00000000 10)) 0 4 ≤ 10 ∧ bits (p0 (par 0xF00000000)) 37 4 = 0 ∧ bits (p0 (par 0xF00000000)) 49 15 = 0 ∧ Starts hdr [.port 0] up
    ∧ up.mayCapture 0 0 = true ∧ (up.cap 0).running = false ∧ up.captures < captureLimit up.mode.mode ∧ (up.sieveRun 8).isSome = true ∧ vfs.mayCapture 1 1 = false
    ∧ up.mayEndCapture 0 0 = true ∧ vfs.mayEndCapture 1 0 = false ∧ Starts hdr [.port 0] { up with caps := [(0, { running := true, inPacket := true })] }
    ∧ ({ up with caps := (List.range 8).map (fun p => (p, { running := true, memBase := 8 * p, size := 3 })) } : State).captures = 8 :=
  ⟨room_of 9 (by decide +kernel), by unfold Starts; decide +kernel⟩
theorem meets_SieveRows : Light 3 { up with caps := [(0, { running := true })] } ∧ (({ up with caps := [(0, { running := true, inPacket := true })] } : State).cap 0).flush = none
    ∧ (({ up with caps := [(0, { running := true })] } : State).cap 0).count + (({ up with caps := [(0, { running := true })] } : State).cap 0).maxRec ≤ (({ up with caps := [(0, { running := true })] } : State).cap 0).words
    ∧ (({ running := true, recs := [⟨[1, 2, 3, 4], 1, none, false⟩], kinds := 15 } : Capture).keeps ⟨[1, 2, 3, 4], 1, none, false⟩) = true ∧ up.rget (portReg 0 0x704) ≤ 0
    ∧ sub32 (add32 0 4) 0 ≤ 65536 := by
  unfold Light; decide +kernel
theorem meets_LifecycleRows : Room 9 up ∧ Room 9 vfs
    ∧ Starts hdr [] up ∧ Starts ⟨1, 0, 0⟩ [] vfs ∧ p0 (par 0x1000) % 64 = 0 ∧ p0 (par 0x1020) % 64 ≠ 0 ∧ tokenBad {} .plant [] = true
    ∧ ({ up with otp := { mark := some { kind := .raiseFloor, target := 64 } } } : State).otp.mark = some { kind := .raiseFloor, target := 64 } ∧ State.reset.inReset = true :=
  ⟨room_of 9 (by decide +kernel), room_of 9 (by decide +kernel), by unfold Starts; decide +kernel⟩
theorem meets_EngineCommandRows : Room 9 up ∧ Room 9 vfs
    ∧ Starts hdr [] up ∧ Starts ⟨1, 0, 0⟩ [] vfs ∧ bits (p0 (par 0)) 8 56 = 0 ∧ up.rotBusy = false ∧ up.eng.spare ≠ noSpare ∧ up.nextOut = some 0
    ∧ opUnit (par 0x700) = 7 ∧ bits (p0 (par 0x700)) 16 48 = 0 ∧ 7 ∈ up.eng.active ∧ 8 ∉ up.eng.active ∧ p2 (par 0 64 1024) ≤ 1024 ∧ 1 ≤ p2 (par 0 64 1024) ∧ 1024 < p2 (par 0 64 1025)
    ∧ opUnit (par 0x1F00) = 31 ∧ up.units.fallowOn = false ∧ up.units.retiredBanks = [] ∧ p1 (par 0x700 3600) ≤ 3600 ∧ up.eng.tests.any (fun t => t.op == .bed) = false
    ∧ ({ up with eng := { rot := some { out_ := 1, by_ := .auto, step := .copying, test := 1 } } } : State).rotBusy = true ∧ bits (p0 (par 0x100)) 8 56 ≠ 0 :=
  ⟨room_of 9 (by decide +kernel), room_of 9 (by decide +kernel), by unfold Starts; decide +kernel⟩
theorem meets_RotationRows : Room 9 up
    ∧ ({ up with regs := [(0x130000, 1)], lock := true } : State).rotEnable = true ∧ ({ up with regs := [(0x130000, 0)] } : State).rotEnable = false ∧ up.rotHeld = false ∧ ({ up with eng := { tests := [{ op := .tender, h := hdr, unit := 8, runs := true }] } } : State).eng.rot = none
    ∧ Light 627 up ∧ Light 635 up ∧ Light 636 up ∧ Light 637 up ∧ 7 ∈ up.eng.active ∧ up.eng.spare ≠ 7
    ∧ (({ up with eng := { upd := some { h := hdr, step := .rotating, newEngines := [0, 1, 2, 3, 4, 5, 6, 7] } } } : State).eng.rot = none ∧ (∀ n ∈ up.eng.active, n ∈ [0, 1, 2, 3, 4, 5, 6, 7])) :=
  ⟨room_of 9 (by decide +kernel), by unfold Light; decide +kernel⟩
theorem meets_TestAndGraftRows : Room 9 up
    ∧ ({ up with eng := { tests := [{ op := .bed, h := hdr, unit := 7 }] } } : State).eng.tests.find? (fun t => t.op == .bed && t.unit == 7 && !t.runs) = some { op := .bed, h := hdr, unit := 7 } ∧ up.bedIdle 7 = true
    ∧ Light (512 + 8 * 7 + 5) up ∧ Light 651 up ∧ Light 658 up ∧ (({ up with grafts := [(7, { st := 1, mask := 1 })] } : State).graft 7).mask.getLsbD 0 = true ∧ (up.graft 7).st ≠ 1
    ∧ ((∀ p, p < 128 → (up.tc p).attachDue = false)) :=
  ⟨room_of 9 (by decide +kernel), by unfold Light; decide +kernel⟩
theorem meets_RakeRows : ({ ring with regs := [(pfnReg 0, 0x400), (fnReg 0 0x10, 1), (fnReg 0 0x14, 0x01010004), (evrReg 0 0 8, 1)] } : State).raked 0 = true ∧ up.raked 0 = false
    ∧ ({ ring with regs := [(pfnReg 0, 0x400), (fnReg 0 0x10, 1), (fnReg 0 0x14, 0x01010004), (evrReg 0 0 8, 1)] } : State).dozeEn 0 = true
    ∧ ({ ring with regs := [(pfnReg 0, 0x400), (fnReg 0 0x10, 1), (fnReg 0 0x14, 0x01010004), (evrReg 0 0 8, 1)] } : State).dozeIdle 0 = 1
    ∧ Light 650 up ∧ up.pcie.own 0x40 = false := by
  unfold Light; decide +kernel
theorem meets_RingRows : Room 9 (dev { st := .running, ty := 6, prod := 0 })
    ∧ ring.evrEnable 0 0 = true ∧ ring.evrRoom 0 0 = true ∧ up.evrEnable 0 0 = false ∧ add32 0 (ring.evrSize 0 0) = 128
    ∧ ({ up with regs := [(fnReg 0 0x28, 1)], fns := [(0, { prod := 2 })] } : State).cmdEnable 0 = true ∧ (({ up with regs := [(fnReg 0 0x28, 1)] } : State).cmdCursor 0) = {} ∧ knownOpcodes.contains 0x10 = true ∧ cmdRsv 0x10001C01 = true
    ∧ Light 650 up ∧ Unheld k1 (dev { st := .running, ty := 6, prod := 0 }) ∧ (dev { st := .running, ty := 6, prod := 0 }).epLive k1 = true ∧ ((dev { st := .running, ty := 6, prod := 0 }).ep k1).readCursor = {}
    ∧ ((dev { st := .running, ty := 6, prod := 0 }).ep k1).coveredFrom {} = 0 ∧ 0 < (dev { st := .running, ty := 6, prod := 0 }).fetchDepth 0 ∧ (dev { st := .running, ty := 6, prod := 0 }).epGone k1 = false :=
  ⟨room_of 9 (by decide +kernel), by unfold Light Unheld; decide +kernel⟩
theorem meets_ScheduleRows : ({ up with buses := [(0, { running := true })] } : State).bus 0 = { running := true } ∧ (1 : Nat) ≤ 0 + 8 ∧ Light 3 up ∧ ({ up with buses := [(0, { running := true })] } : State).periodicOf 0 1 = []
    ∧ ({ up with buses := [(0, { running := true })] } : State).splitsLeft 0 = []
    ∧ ((∀ w ∈ [{ mf := 1, st := .built, periodic := [], async := [] : Window }], w.mf = 0 + 1 → w.st = .built))
    ∧ (dev {}).sup.refclk = true ∧ ((dev {}).link 0).u2.l1 = false ∧ ((dev {}).link 0).u2.speed = 2 := by
  unfold Light; decide +kernel
theorem meets_DispatcherRows : (3375 : Nat) < 3376 ∧ (up.dspSrc 3375).pending = false ∧ (up.holdoff 0).running = false ∧ Light 639 up ∧ (up.fltSrc 638).line = .quiet ∧ up.flt.safeHold = false
    ∧ (({ up with dsp := { procs := [(procOf 0, { stack := [(5, 1)] })], srcs := [(7, { prio := 2, targets := 1 })] } } : State).dspSrc 7).aimsAt 0 = true
    ∧ ({ up with dsp := { srcs := [(7, { prio := 2, targets := 1, pending := true })] } } : State).offered 0 = some 7
    ∧ ({ up with dsp := { srcs := [(7, { pending := true, held := true })] } } : State).heldIn 0 = [7] ∧ up.heldIn 0 = [] := by
  unfold Light; decide +kernel
theorem meets_FaultRows : (catalogue 641).isSome = true
    ∧ catalogue 1023 = none ∧ Light 3 up ∧ up.reactOf 0 ≤ 1 ∧ up.flt.portHolds.any (fun x => x.1 == 0) = false
    ∧ ({ up with regs := [(fltReg 3, 0x20)] } : State).reactOf 3 = 2 ∧ ({ up with regs := [(fltReg 3, 0x40)] } : State).reactOf 3 = 4
    ∧ ({ up with flt := { portHolds := [(0, {})] } } : State).flt.portHolds.find? (fun x => x.1 == 0) = some (0, {}) ∧ up.portRoots 0 = []
    ∧ ((∀ x ∈ portsOf 0, (({ up with beds := [(0, { isolating := true })] } : State).pd x).attached = false) ∧ (∀ p ∈ portsOf 0, (up.path p).st = .off ∧ (up.path p).queued = none ∧ up.profile p = .disabled ∧ up.portRoots p = []))
    ∧ ((dev { st := .faulted, was := .paused }).ep k1).pend = false ∧ ((dev { st := .faulted, was := .paused }).bus 0).windows = [] := by
  unfold Light; decide +kernel
theorem meets_MemoryRows : Light 637 up ∧ Light 626 up ∧ Light 514 up ∧ Light 627 up ∧ Light 624 (dev { st := .running, ty := 6 }) ∧ Light 623 up ∧ up.reactOf 625 = 2
    ∧ up.units.rebuilt.any (fun x => x.1 == 31 && decide (up.time.local_ < x.2 + 24 * 60 * minuteNs)) = false
    ∧ ({ up with units := { rebuilt := [(31, 0)] } } : State).units.rebuilt.any (fun x => x.1 == 31 && decide (up.time.local_ < x.2 + 24 * 60 * minuteNs)) = true
    ∧ ({ up with regs := [(0x163020, 0)] } : State).scrubEn = false ∧ ({ up with regs := [(0x163020, 3)] } : State).scrubEn = true ∧ ({ up with regs := [(0x163020, 3)] } : State).marchEn = true ∧ up.bankTest = false
    ∧ (31 : Nat) ∉ up.units.retiredBanks := by
  unfold Light; decide +kernel
theorem meets_CoreUnitRows : Light (512 + 8 * 7 + 4) up ∧ Light 643 up ∧ Light 661 up ∧ Light 512 up ∧ up.reactOf 513 = 3 ∧ Light 591 up ∧ Light 659 up ∧ Light (512 + 8 * 7 + 6) up
    ∧ ((∀ p ∈ portsOf 7, up.alerts p = false) ∧ (up.path 127).chainAside = false)
    ∧ ((∀ p ∈ portsOf 0, (({ up with paths := (List.range 16).map (fun p => (p, { st := .latched })) } : State).path p).st = .latched)) := by
  unfold Light; decide +kernel
theorem meets_FlowRows : (dev { st := .running, ty := 3, mps := 512, tds := [td] }).stageMay k1 512 = true ∧ (dev { st := .running, ty := 3, mps := 512, tds := [td] }).stageMay k1 511 = false
    ∧ (dev { st := .running, ty := 6, mps := 512, tds := [td] }).creditMay k1 = true ∧ (dev { st := .halted, ty := 6, mps := 512 }).creditMay k1 = false
    ∧ Calm k1 (dev { st := .running, ty := 3, mps := 512, tds := [td], wire := true }) ∧ (dev { st := .running, ty := 3, mps := 512, tds := [td], wire := true } 3).xactOpen k1 = true
    ∧ (dev { st := .running, ty := 3, mps := 512, tds := [td], wire := true } 3).isSs k1 = true
    ∧ Unheld k1 (dev { st := .running, ty := 6, rev := some .halt, revFrom := { granted := 20 } }) ∧ ({ granted := 20 } : Ledger).standing = 19 + 1
    ∧ ({ st := .running, ty := 5, inStream := true, empty := 65535 } : Ep).isIso = true ∧ (dev {}).isoHold 0 ≤ 65535 ∧ (dev { st := .running, ty := 5, mps := 512, tds := [td 5, td 5], pkts := [[1]] }).epLive k1 = true
    ∧ (dev { st := .running, ty := 6, streams := true } 3).isSs k1 = true ∧ keyStream (epKey 0 1 2 1) ≠ 0 ∧ epRoot (epKey 0 1 2 1) = k1 := by
  unfold Calm Unheld; decide +kernel
theorem meets_OutcomeRows : Room 9 (dev { st := .running, ty := 3, mps := 512, tds := [td, td], staged := [[1, 2]], wire := true })
    ∧ Calm k1 (dev { st := .running, ty := 3, mps := 512, tds := [td, td], staged := [[1, 2]], wire := true }) ∧ (dev { st := .running, ty := 3, mps := 512, tds := [td, td], staged := [[1, 2]], wire := true }).xactOpen k1 = true
    ∧ ({ st := .running, ty := 3, mps := 512, tds := [td, td], staged := [[1, 2]], wire := true } : Ep).sending = true ∧ ({ st := .running, ty := 3, tds := [td], wire := true } : Ep).atSetup = false ∧ epRoot k1 = k1
    ∧ (0 : Nat) + 1 < 3 ∧ (3 : Nat) ≤ 2 + 1 ∧ ({ st := .running, ty := 1, tds := [td 2 8, td 4 0], wire := true, mps := 64 } : Ep).atSetup = true ∧ ({ st := .running, ty := 1, tds := [td 2 8, td 4 0], wire := true, mps := 64 } : Ep).sending = true
    ∧ Calm k1 (dev { st := .running, ty := 3, ping := true, pingOn := true, wire := true }) ∧ ({ st := .running, ty := 7 } : Ep).periodic = true :=
  ⟨room_of 9 (by decide +kernel), by unfold Calm Unheld; decide +kernel⟩
theorem meets_PacketRows : Room 9 (dev { st := .running, ty := 6, mps := 512, tds := [td], wire := true, credits := [⟨1, 0, true⟩] })
    ∧ Calm k1 (dev { st := .running, ty := 6, mps := 512, tds := [td], wire := true, credits := [⟨1, 0, true⟩] }) ∧ ({ st := .running, ty := 6, tds := [td] } : Ep).receives = true
    ∧ (dev { st := .running, ty := 6, mps := 512, tds := [td], wire := true, credits := [⟨1, 0, true⟩] }).inTog k1 0 = .good ∧ (dev { st := .running, ty := 6, mps := 512, tds := [td], wire := true, credits := [⟨1, 0, true⟩] }).inTog k1 1 = .again
    ∧ (dev { st := .running, ty := 6, mps := 512, tds := [td], pkts := [List.replicate 512 0] }).claimable k1 = true ∧ (List.replicate 512 (0 : Byte)).length < (td).len - 0 ∧ (dev {}).claimable k1 = false
    ∧ Calm k1 (dev { st := .running, ty := 6, mps := 64, tds := [td], split := true, inSplit := true } 1) ∧ b2n false = (dev { st := .running, ty := 6, mps := 64, tds := [td], split := true, inSplit := true } 1).nextTog k1
    ∧ (({ dev {} with eps := [(epKey 0 1 0 0, { st := .running, ty := 1, snoop := true, tds := [td 4 0] })] } : State).snooped (epKey 0 1 0 0)).any ({ dev {} with eps := [(epKey 0 1 0 0, { st := .running, ty := 1, snoop := true, tds := [td 4 0] })] } : State).epBusy = false :=
  ⟨room_of 9 (by decide +kernel), by unfold Calm Unheld; decide +kernel⟩
theorem meets_LinkService : Room 9 up
    ∧ (({ up with links := [(0, { u2 := { st := .disconnected }, ss := { st := .disconnected } })] } : State).link 0).device = false ∧ up.autoReset 0 = false ∧ ({ up with regs := [(portReg 0 0x100, 0x100)] } : State).autoReset 0 = true
    ∧ ({ up with links := (List.range 32).map (fun p => (p, { ss := { st := .enabled } })) } : State).ssUp = 32 ∧ up.ssUp < 32 ∧ LinkSt.holdsDevice .enabled = true ∧ up.profile 0 ≠ .typec
    ∧ (dev {}).sideSlots 0 .usb2 = [1] ∧ ({ dev {} with eps := [] } : State).slotRoots 1 = [] ∧ (dev {}).sideSlots 0 .ss = [] :=
  ⟨room_of 9 (by decide +kernel), by decide +kernel⟩
theorem meets_LinkPower : ({ up with regs := [(portReg 0 0x100, 0x400)] } : State).wakeEn 0 = true ∧ ({ up with regs := [(portReg 0 0x100, 0)] } : State).wakeEn 0 = false
    ∧ ({ dev { st := .idle, ty := 3 } with regs := [(portReg 0 0x104, 0x10000)], slots := [(1, { st := .configured, speed := 2 })] } : State).l1May 0 = true ∧ (dev {}).l1May 0 = false
    ∧ ({ up with regs := [(portReg 0 0x104, 0x101)] } : State).u1Timeout 0 = 1 ∧ ({ up with regs := [(portReg 0 0x104, 0x101)] } : State).u2Timeout 0 = 1 ∧ up.u1Timeout 0 = 0 := by
  decide +kernel
theorem meets_GuestBusRows : Room 9 (gst g0 []) ∧ Room 9 (gst { g0 with suspended := true } [])
    ∧ (gst { g0 with present := false, st := .ready } []).fnExists ((gst g0 []).portFunc 0) = true ∧ ((gst g0 []).link 0).device = true ∧ (gst g0 []).guestServes 0 = true
    ∧ (gst g0 []).slotRoots (slotKey 0 1) = [] ∧ (gst g0 [(epKey 0 1 0 0, { st := .idle, ty := 1, guest := true })]).slotRoots (slotKey 0 1) = [epKey 0 1 0 0]
    ∧ ({ g0 with resetting := true } : Guest).attains 2 = true ∧ ({ g0 with resetting := true } : Guest).attains 3 = false ∧ (gst { g0 with suspended := true } []).opFind (guestWaking 0) = none
    ∧ ({ gst { g0 with suspended := true } [] with ops := [{ h := hdr, kind := .guestWake, port := 0, bell := 1 }] } : State).opFind (guestWaking 0) = some { h := hdr, kind := .guestWake, port := 0, bell := 1 }
    ∧ ({ g0 with speedMax := 3 } : Guest).side = .ss ∧ g0.side = .usb2 :=
  ⟨room_of 9 (by decide +kernel), room_of 9 (by decide +kernel), by decide +kernel⟩
theorem meets_GuestTransferRows : Room 9 (gst g0 [(k1, { st := .running, ty := 3, guest := true, mps := 512, tds := [td], credits := [⟨1, 0, true⟩] })])
    ∧ (gst g0 []).guestServes 0 = true ∧ (gst { g0 with suspended := true } []).guestServes 0 = false ∧ (gst g0 []).guestKey 0 2 = k1
    ∧ (gst g0 [(k1, { st := .running, ty := 3, guest := true, mps := 512, tds := [td], credits := [⟨1, 0, true⟩] })]).guestRuns 0 k1 = true
    ∧ (gst g0 [(k1, { st := .running, ty := 3, guest := true, mps := 512, tds := [td], credits := [⟨1, 0, true⟩] })]).nextTog k1 = 0 ∧ ({ st := .running, ty := 3, guest := true } : Ep).rx = true
    ∧ (gst g0 [(k1, { st := .running, ty := 6, guest := true, mps := 512, tds := [td], staged := [[1]] })]).guestRuns 0 k1 = true ∧ ({ st := .running, ty := 6, guest := true } : Ep).rx = false
    ∧ ((gst { g0 with held := true } [(epKey 0 1 0 0, { st := .running, ty := 1, guest := true, tds := [td 2 8] })]).ep (epKey 0 1 0 0)).tds = [td 2 8]
    ∧ Unheld (epKey 0 1 0 0) (gst { g0 with newAddr := some 127, addrSent := true } []) ∧ ({ gst g0 [] with regs := [(pfnReg 0, 0x400), (portReg 0 0x300, 0x10)] } : State).devL1 0 = true ∧ ({ gst g0 [] with regs := [(pfnReg 0, 0x400), (portReg 0 0x300, 0)] } : State).devL1 0 = false :=
  ⟨room_of 9 (by decide +kernel), by unfold Unheld; decide +kernel⟩
theorem meets_TypeCConnect : Room 9 src ∧ Room 9 snk
    ∧ ({ typec with tcs := [(0, { st := .attachWaitSrc, cc1 := .rd })] } : State).tc 0 = { st := .attachWaitSrc, cc1 := .rd } ∧ ({ st := .attachWaitSrc, cc1 := .rd } : Tc).seesSink = true
    ∧ ({ st := .attachWaitSrc, cc1 := .rd, cc2 := .rd, cfg := 0x200 } : Tc).seesDebugSink = true ∧ ({ cc1 := .ra, cc2 := .ra, cfg := 0x400 } : Tc).seesAudio = true ∧ ({ cc1 := .rd, cc2 := .ra } : Tc).seesAudio = false
    ∧ ({ cc1 := .rp 3 } : Tc).seesSource = true ∧ ({ cc1 := .rp 3, cc2 := .rp 1, cfg := 0x200 } : Tc).seesDebugSource = true ∧ ({ cfg := 0x18 } : Tc).tryRole = 1 ∧ ({ cfg := 0x28 } : Tc).tryRole = 2
    ∧ (src.bed (bedOf 0)).isolating = false ∧ (src.bed (bedOf 0)).testing = false ∧ src.persisting 0 = false ∧ ({ up with boot := { held := [(0, ⟨5000, 900, .fixed, true⟩)] } } : State).persisting 0 = true
    ∧ ({ typec with tcs := [(0, { st := .unattachedSnk, cfg := 9 })] } : State).isDrp 0 = true ∧ typec.isDrp 0 = false ∧ CcSee.isRd .rd = true ∧ (snk.pd 0).sinkWait = false ∧ (snk.pd 0).swap = .none ∧ src.ops = [] :=
  ⟨room_of 9 (by decide +kernel), room_of 9 (by decide +kernel), by decide +kernel⟩
theorem meets_TypeCGuard : Room 9 src
    ∧ (({ typec with tcs := [(0, { st := .unattachedSnk, cfg := 0x800 })] } : State).tc 0).moistEn = true ∧ (src.tc 0).moistEn = false
    ∧ ({ moist := 1 } : Tc).wet ⟨0, 0, 0, 0⟩ = true ∧ ({ moist := 1 } : Tc).wet ⟨10000000, 10000000, 10000000, 10000000⟩ = false
    ∧ (src.tc 0).vconnOn = true ∧ Light 1 src ∧ bits ({ guard := 0x10000 } : Tc).guard.toNat 16 8 ≠ 0 ∧ ({ guard := 0x10000 } : Tc).flood ≤ ({ guard := 0x10000 } : Tc).floodLimit
    ∧ src.pcie.flr.contains (src.portOwner 0) = false ∧ sub32 (add32 4095 1) 0 ≤ 4096 ∧ 4096 < sub32 (add32 4096 1) 0 :=
  ⟨room_of 9 (by decide +kernel), by unfold Light; decide +kernel⟩
theorem meets_PathStates : Room 9 src
    ∧ src.served = true ∧ src.persisting 0 = false ∧ Light 0 src ∧ ({ st := .on } : Path).orderBusy = false ∧ src.hwOnly 0 = false ∧ ({ src with flt := { safeHold := true } } : State).hwOnly 0 = true
    ∧ ({ src with paths := [] } : State).profile 0 = .typec ∧ ({ src with paths := [], beds := [(0, { bedW := 100 })] } : State).rpFits 0 = some 1 ∧ (({ src with paths := [] } : State).path 0).hold = []
    ∧ (({ snk with hooks := [(0, { sinkEn := true })] } : State).hook 0).sinkEn = true ∧ TcSt.attached .attachedSnk = true ∧ (snk.tc 0).source = false
    ∧ ({ typec with regs := [(portReg 0 0x600, 0)] } : State).retryLimit 0 = 0 ∧ ({ typec with regs := [(portReg 0 0x600, 0x3000000)] } : State).retryLimit 0 = 3 :=
  ⟨room_of 9 (by decide +kernel), by unfold Light; decide +kernel⟩
theorem meets_PathBudget : Room 9 src
    ∧ (src.path 0).st = .on ∧ (src.path 0).ocTimer = false ∧ (src.path 0).queued = none ∧ src.hwOnly 0 = false ∧ src.pdLive 0 = true
    ∧ ((withPd src fun d => { d with con := some { kind := .pps, ma := 1000 } }).pd 0).con = some { kind := .pps, ma := 1000 } ∧ fbCode (src.hook 0) 3300 ≤ fbCode (src.hook 0) 3300
    ∧ ((withPd src fun d => { d with swap := .transit .pr true }).pd 0).swap = .transit .pr true
    ∧ ({ warnMv := [4000, 0] } : BedSt).threshold 0 ≠ 0 ∧ ({} : BedSt).threshold 1 = 0 ∧ ({ up with beds := [(0, { warnMv := [4000, 0] })] } : State).flt.safeHold = false
    ∧ ({ src with beds := [(0, { cut := true, bedW := 1 })], paths := [(0, { st := .on })], pds := [(0, { attached := true, grant := 15000 })] } : State).shedNext 0 = none
    ∧ ({ src with beds := [(0, { cut := true, bedW := 1 })], paths := [(0, { st := .on, shedClass := 6 })], pds := [(0, { attached := true, grant := 15000, con := some {} })] } : State).shedNext 0 = some 0
    ∧ ({ up with paths := [(0, { shed := true })], beds := [(0, { restoring := true })], budget := { shedOrder := [0] } } : State).restoreNext = some 0 ∧ up.restoreNext = none :=
  ⟨room_of 9 (by decide +kernel), by decide +kernel⟩
theorem meets_PdProtocol : Room 9 src ∧ Room 9 snk
    ∧ src.pdLive 0 = true ∧ (src.tc 0).st.attached = true ∧ (src.bed (bedOf 0)).isolating = false ∧ (src.tc 0).quarantine = false ∧ (src.tc 0).flood + 1 ≤ (src.tc 0).floodLimit ∧ Light 1 src
    ∧ badHeader { sop := .sop0, hdr := 0x0207, objs := [], good := true } (bits 0x0207 0 5) (bits 0x0207 12 3) (bit 0x0207 15) = false ∧ snk.unexpected 0 (bits 0x0207 0 5) (bits 0x0207 12 3) (bit 0x0207 15) = false
    ∧ ((withPd src fun d => { d with txq := [msg 3 [] .accept], next := some {} }).pd 0).txq = [msg 3 [] .accept] ∧ (withPd src fun d => { d with txq := [msg 3 [] .accept] }).mayStart 0 (msg 3 [] .accept) = true
    ∧ (withPd src fun d => { d with txq := [{ msg 3 [] .accept with onWire := true, tries := 2 }] }).onWire 0 = true ∧ src.onWire 0 = false ∧ (msg 3 [] .accept).sop = .sop0
    ∧ ((withPd src fun d => { d with awaits := some .vdmReq, awaitSop := .sop1 }).pd 0).awaiting = true ∧ (msg 3 [] (.swapAccept .dr)).use = .swapAccept .dr :=
  ⟨room_of 9 (by decide +kernel), room_of 9 (by decide +kernel), by unfold Light; decide +kernel⟩
theorem meets_PdSource : Room 9 src
    ∧ src.pdLive 0 = true ∧ (src.tc 0).source = true ∧ ((withPd src fun d => { d with offered := [0x0001912C] }).pd 0).next = none ∧ src.graftFor 1 1 0 = none
    ∧ ((withPd src fun d => { d with offered := [0x0001912C] }).requestAnswer 0 0x1000640A).2.isSome = true ∧ ((withPd src fun d => { d with offered := [0x0001912C] }).requestAnswer 0 0x70000000).2 = none
    ∧ ((withPd src fun d => { d with con := some { mv := 5000 }, transition := true }).pd 0).con = some { mv := 5000 } ∧ (src.path 0).target = 5000 ∧ (src.path 0).pg = true ∧ (src.path 0).sinking = false
    ∧ ((withPd src fun d => { d with waitSince := some 0 }).pd 0).waitSince.isSome = true ∧ ((withPd src fun d => { d with con := some { kind := .pps } }).pd 0).con = some { kind := .pps }
    ∧ (withPd src fun d => { d with con := some {}, offered := [1] }).offers 0 false ≠ [1] ∧ ((withPd src fun d => { d with con := some {} }).pd 0).quiet = true ∧ ((withPd src fun d => { d with capsDue := true }).pd 0).cableDone = true :=
  ⟨room_of 9 (by decide +kernel), by decide +kernel⟩
theorem meets_PdSink : Room 9 snk ∧ Room 9 src
    ∧ snk.pdLive 0 = true ∧ (snk.tc 0).source = false ∧ src.pdLive 0 = true ∧ (src.tc 0).source = true ∧ ((withPd snk fun d => { d with awaits := some .request }).pd 0).awaits = some .request
    ∧ ((withPd snk fun d => { d with con := some { kind := .pps } }).pd 0).quiet = true ∧ ((withPd snk fun d => { d with con := some { kind := .pps } }).pd 0).epr = false
    ∧ ((withPd snk fun d => { d with swap := .transit .pr true, awaits := some .psRdy }).pd 0).grant = 0 ∧ (snk.path 0).sinking = false
    ∧ snk.swapAnswer 0 .dr = 2 ∧ snk.swapAnswer 0 .pr = 2 ∧ snk.graftFor 1 2 0 = none ∧ (snk.pd 0).trellis = .no :=
  ⟨room_of 9 (by decide +kernel), room_of 9 (by decide +kernel), by decide +kernel⟩
theorem meets_PdResets : Room 9 src ∧ Room 9 snk
    ∧ src.pdLive 0 = true ∧ snk.pdLive 0 = true ∧ src.persisting 0 = false ∧ (src.pd 0).attached = true ∧ (src.bed (bedOf 0)).isolating = false ∧ (src.tc 0).st.attached = true ∧ src.ops = []
    ∧ (({ src with paths := [(0, { hold := [1] })] } : State).path 0).hold.contains 1 = true ∧ (({ src with paths := [(0, { hold := [1] })] } : State).path 0).forceOff = false
    ∧ (({ src with paths := [(0, { hold := [1] })], beds := [(0, { bedW := 100 })] } : State).pathOn 0 (fun y => { y with hold := [] })).rpFits 0 = some 1
    ∧ ((withPd src fun d => { d with hardResets := 2 }).pd 0).con = none ∧ ((withPd snk fun d => { d with sinkWait := true }).pd 0).hardResets < 2 ∧ snk.bistCarrier 0 0 = false :=
  ⟨room_of 9 (by decide +kernel), room_of 9 (by decide +kernel), by decide +kernel⟩
theorem meets_PdVdm : Room 9 src ∧ Room 9 snk
    ∧ src.pdLive 0 = true ∧ bit 0x1EF78003 15 = true ∧ bits 0x1EF78003 6 2 = 0 ∧ bits 0x1EF78003 0 5 = 3 ∧ bits 0x1EF78003 16 16 = 0x1EF7 ∧ src.graftFor 1 4 0 = none
    ∧ bits 0xFF008001 16 16 = 0xFF00 ∧ bits 0xFF008001 0 5 = 1 ∧ ({ src with tcs := [(0, { st := .attachedSrc, source := true, pdCfg := 0x100 })] } : State).trellisEn 0 = true ∧ src.trellisEn 0 = false
    ∧ ((withPd src fun d => { d with trellis := .hello }).pd 0).trellis = .hello ∧ ((withPd src fun d => { d with trellis := .hello }).tc 0).dfp = true
    ∧ respAnswer { sop := .sop0, kind := .accept, hdr := 0x0203, data := [] } = 1 ∧ respAnswer { sop := .sop0, kind := .reject, hdr := 0x0204, data := [] } ≠ 1
    ∧ ({ withPd src (fun d => { d with awaits := some .vdmReq }) with ops := [{ h := hdr, kind := .vdm 64 .sop0, port := 0 }] } : State).opFind (opServes 0 .vdmReq) = some { h := hdr, kind := .vdm 64 .sop0, port := 0 } :=
  ⟨room_of 9 (by decide +kernel), room_of 9 (by decide +kernel), by decide +kernel⟩

end Sys2Proof.Tests
end

section
/-! What a command can do to OTP (02 R80, R83 – R85): leave it, complete the pending burn, or, in a part that is not Uprooted, accept a
token whose burn is then pending. -/

namespace Sys2Proof.Machine

open Sys2Proof Sys2Proof.Safety

/-- The mask of every part of the state but OTP: states that agree outside it agree in OTP. -/
def allButOtp : Nat := 2 ^ 46 - 1 - 2 ^ 7

theorem otp_eq_of_outside {s t : State} (h : t.outside allButOtp = s.outside allButOtp) : t.otp = s.otp := eq_otp_of_outside h rfl

/-! ### The three moves of OTP -/

/-- OTP after its pending burn, if there is one, has been completed (02 R83 steps 5 and 6). -/
def Otp.committed (o : Otp) : Otp :=
  match o.mark with
  | none => o
  | some m => { o.burn m with mark := none }

/-- What one command can make of OTP. -/
inductive Otp.Moves (o : Otp) : Otp → Prop
  | kept : Moves o o
  | committed : Moves o o.committed
  | marked (m : LcMark) (h : o.life ≠ .uprooted) : Moves o { o with mark := some m }

theorem Otp.committed_mark (o : Otp) : o.committed.mark = none := by
  unfold Otp.committed
  split
  · assumption
  · rfl

theorem Otp.committed_of_unmarked {o : Otp} (h : o.mark = none) : o.committed = o := by
  rw [Otp.committed, h]

theorem Otp.moves_of_eq {o p : Otp} (h : p = o) : o.Moves p := h ▸ .kept
theorem Otp.moves_of_eq_committed {o p : Otp} (h : p = o.committed) : o.Moves p := h ▸ .committed

theorem moves_of_outside {s t : State} (h : t.outside allButOtp = s.outside allButOtp) : s.otp.Moves t.otp := Otp.moves_of_eq (otp_eq_of_outside h)

/-- No burn is pending in Uprooted. -/
def Otp.Settled (o : Otp) : Prop := o.life = .uprooted → o.mark = none

/-- A settled Uprooted part has no move left, so its OTP stays as it is. -/
theorem Otp.Moves.eq_of_uprooted {o p : Otp} (h : o.Moves p) (hs : o.Settled) (hu : o.life = .uprooted) : p = o := by
  cases h with
  | kept => rfl
  | committed => exact Otp.committed_of_unmarked (hs hu)
  | marked m hn => exact absurd hu hn

theorem Otp.Moves.settled {o p : Otp} (h : o.Moves p) (hs : o.Settled) : p.Settled := by
  cases h with
  | kept => exact hs
  | committed => exact fun _ => Otp.committed_mark o
  | marked m hn => exact fun hu => absurd hu hn

/-! ### Commits and resets -/

/-- A wipe keeps OTP (02 R74). -/
theorem wipe_otp (cold off : Bool) (pcie : Pcie) (s : State) : (wipe cold off pcie s).otp = s.otp := rfl

theorem almEvent_otp (kind cause detail unit : Nat) (s : State) : (almEvent kind cause detail unit s).otp = s.otp :=
  otp_eq_of_outside (almEvent_outside _ _ _ _ _ _ rfl)
theorem almJournal_otp (s : State) : (almJournal s).otp = s.otp := otp_eq_of_outside (almJournal_outside _ _ rfl)
theorem resetAs_otp (pcie : Pcie) (s : State) : (resetAs pcie s).otp = s.otp := otp_eq_of_outside (resetAs_outside _ _ _ rfl)
theorem holdReset_otp (s : State) : (holdReset s).otp = s.otp := rfl

theorem lcCommit_otp (s : State) : (lcCommit s).otp = s.otp.committed := by
  unfold lcCommit Otp.committed
  cases s.otp.mark with
  | none => rfl
  | some m =>
    dsimp only
    split
    · rw [wipe_otp, almEvent_otp]
    · rw [almEvent_otp]

/-- The boot ROM completes a pending burn when it starts (02 R84). -/
theorem bootStart_otp (s : State) : (bootStart s).otp = s.otp.committed := by
  rw [bootStart, lcCommit_otp, almJournal_otp, supOn_otp]
theorem bootRelease_otp (s : State) : (bootRelease s).otp = s.otp.committed := by
  rw [bootRelease, lcCommit_otp, almEvent_otp, almJournal_otp, supOn_otp]

theorem doSupplyMainRecovered_moves (s : State) : s.otp.Moves (doSupplyMainRecovered s).otp := by
  unfold doSupplyMainRecovered
  split
  · exact .kept
  · dsimp only
    split
    · exact .kept
    · exact Otp.moves_of_eq_committed (bootRelease_otp _)

theorem doPerstRelease_moves (s : State) : s.otp.Moves (doPerstRelease s).otp := by
  unfold doPerstRelease
  split
  · exact .kept
  · dsimp only
    split
    · exact Otp.moves_of_eq_committed (bootRelease_otp _)
    · exact .kept

theorem doConventionalReset_moves (k : LinkResetKind) (s : State) : s.otp.Moves (doConventionalReset k s).otp := by
  unfold doConventionalReset
  split
  · exact .kept
  · exact Otp.moves_of_eq_committed (by rw [bootStart_otp, holdReset_otp, resetAs_otp])

theorem doFlrPf_moves (s : State) : s.otp.Moves (doFlrPf s).otp := by
  unfold doFlrPf
  split
  · exact .kept
  · exact Otp.moves_of_eq_committed (by rw [bootStart_otp, supOn_otp, resetAs_otp])

theorem doLifecycleCommitDone_moves (s : State) : s.otp.Moves (doLifecycleCommitDone s).otp := by
  unfold doLifecycleCommitDone
  split
  · exact .kept
  · exact Otp.moves_of_eq_committed (lcCommit_otp s)

/-! ### Configuration writes: Device Control can order an FLR of the PF -/

theorem cfgWrite_outside_otp {f : Nat} {x : CfgField} (w : Nat) (s : State) (hx : x ≠ .devCtl) :
    (cfgWrite f x w s).outside allButOtp = s.outside allButOtp := by
  cases x with
  | devCtl => exact absurd rfl hx
  | command => exact ite_outside (State.cfgFnOn_outside (hm := rfl) ..) rfl
  | bar i => exact ite_outside rfl (pcieOn_outside (hm := rfl) ..)
  | vfBar i => exact ite_outside rfl (pcieOn_outside (hm := rfl) ..)
  | numVfs => exact ite_outside rfl (pcieOn_outside (hm := rfl) ..)
  | sriovControl =>
    exact ite_outside rfl (ite_outside ((doVfEnableSet_outside (hm := rfl) ..).trans (pcieOn_outside (hm := rfl) ..))
      ((doVfEnableClear_outside (hm := rfl) ..).trans (pcieOn_outside (hm := rfl) ..)))
  | devCtl2 => exact State.cfgFnOn_outside (hm := rfl) ..
  | msixControl => exact (pbaAll_outside (hm := rfl) ..).trans (State.cfgFnOn_outside (hm := rfl) ..)
  | pmcsr =>
    have hpme := State.cfgFnOn_outside (msk := allButOtp) (hm := rfl) s f (fun c => { c with pmeEn := bit w 8 })
    exact ite_outside ((State.cfgFnOn_outside (hm := rfl) ..).trans hpme) (ite_outside ((doFunctionD0_outside (hm := rfl) ..).trans hpme) hpme)
  | aerUncor => exact State.cfgFnOn_outside (hm := rfl) ..
  | aerCor => exact State.cfgFnOn_outside (hm := rfl) ..
  | ptmControl =>
    exact ite_outside rfl ((pcieOn_outside (hm := rfl) ..).trans (ite_outside (timeOn_outside (hm := rfl) ..) rfl))
  | _ => rfl

/-- The part with the settings of a write to Device Control stored. -/
def devCtlSet (f w : Nat) (s : State) : State :=
  let s := s.cfgFnOn f (fun c => { c with relaxed := bit w 4 })
  if f = 0 then doMaxPayload (bits w 5 3) (s.cfgFnOn 0 (fun c => if bits w 12 3 ≤ 5 then { c with mrrs := bits w 12 3 } else c)) else s

theorem devCtlSet_outside_otp (f w : Nat) (s : State) : (devCtlSet f w s).outside allButOtp = s.outside allButOtp :=
  have hrelaxed := State.cfgFnOn_outside (msk := allButOtp) (hm := rfl) s f (fun c => { c with relaxed := bit w 4 })
  ite_outside ((doMaxPayload_outside (hm := rfl) ..).trans ((State.cfgFnOn_outside (hm := rfl) ..).trans hrelaxed)) hrelaxed

/-- Device Control stores its settings, and bit 15 then resets its function (03 R116). -/
theorem cfgWrite_devCtl (f w : Nat) (s : State) : cfgWrite f .devCtl w s =
    if !bit w 15 then devCtlSet f w s
    else if f = 0 then doFlrPf (devCtlSet f w s)
    else if (devCtlSet f w s).pcie.flr.contains f then devCtlSet f w s
    else flrWipe f (devCtlSet f w s) := rfl

theorem cfgWrite_moves (f : Nat) (x : CfgField) (w : Nat) (s : State) : s.otp.Moves (cfgWrite f x w s).otp := by
  by_cases hx : x = .devCtl
  · have hset := devCtlSet_outside_otp f w s
    rw [hx, cfgWrite_devCtl]
    split_ifs
    · exact moves_of_outside hset
    · exact otp_eq_of_outside hset ▸ doFlrPf_moves (devCtlSet f w s)
    · exact moves_of_outside hset
    · exact moves_of_outside ((flrWipe_outside (hm := rfl) ..).trans hset)
  · exact moves_of_outside (cfgWrite_outside_otp w s hx)

theorem doConfigRequest_moves (f : Fnc) (q : CfgReq) (s : State) : s.otp.Moves (doConfigRequest f q s).otp := by
  unfold doConfigRequest
  split_ifs
  · exact .kept
  · exact .kept
  · exact .kept
  · cases q with
    | read x => cases x <;> exact .kept
    | write x w => exact cfgWrite_moves f.val x w.toNat s

/-! ### The LIFECYCLE command -/

/-- A ring command leaves OTP as it was, or as its own effect leaves it. -/
theorem command_moves {c : Instr} {h : CmdHdr} {keys : List WaitKey} {g : State → State} {s : State} (hg : ∀ u : State, u.otp.Moves (g u).otp) :
    s.otp.Moves (command c h keys g s).otp := by
  unfold command bundleFor jobFor
  split_ifs
  · exact .kept
  · exact .kept
  · exact .kept
  · dsimp only
    split_ifs
    · exact hg { s with blocked := [] }
    · exact .kept

theorem not_permitted_uprooted (k : LcKind) (vendor : Bool) : permitted .uprooted k vendor = false := by
  cases k <;> rfl

/-- A list of checks finds no error exactly when every check passes. -/
theorem firstErr_eq_none {l : List (Bool × Nat)} : firstErr l = none ↔ ∀ x ∈ l, x.1 = false := by
  induction l with
  | nil => simp [firstErr]
  | cons x l ih =>
    obtain ⟨bad, code⟩ := x
    cases bad <;> simp [firstErr, ih]

/-- No token passes the checks in Uprooted (02 R80, R85). -/
theorem life_ne_uprooted_of_tokenCheck {k : LcKind} {t : List Byte} {s : State} (h : tokenCheck k t s = none) : s.otp.life ≠ .uprooted := by
  have hpass := firstErr_eq_none.1 (Option.map_eq_none_iff.1 h) (!permitted s.otp.life k (tokVendor t), ccState) (by simp)
  intro hu
  simp [hu, not_permitted_uprooted] at hpass

theorem cmdDone_otp (h : CmdHdr) (opcode code result src : Nat) (s : State) : (cmdDone h opcode code result src s).otp = s.otp :=
  otp_eq_of_outside (cmdDone_outside (hm := rfl) ..)

/-- An accepted token leaves its burn pending and OTP otherwise as it was (02 R83 step 1). -/
theorem lifecycleAccept_otp (h : CmdHdr) (k : LcKind) (t : List Byte) (s : State) :
    (lifecycleAccept h k t s).otp = { s.otp with mark := some (markOf k t) } := by
  have hports : ∀ u : State, (forEach ports portSafe u).otp = u.otp := fun u =>
    otp_eq_of_outside (forEach_outside _ _ _ _ fun _ _ => portSafe_outside (hm := rfl) ..)
  unfold lifecycleAccept
  dsimp only
  split
  · rw [hports, cmdDone_otp, almEvent_otp]
  · rw [cmdDone_otp, almEvent_otp]

theorem lifecycle_moves (c : Instr) (h : CmdHdr) (q : Params) (k : LcKind) (t : List Byte) (s : State) : s.otp.Moves (lifecycle c h q k t s).otp := by
  refine command_moves fun u => ?_
  rw [bootOn_otp]
  split_ifs
  · exact Otp.moves_of_eq (cmdDone_otp ..)
  · exact Otp.moves_of_eq (cmdDone_otp ..)
  · cases hc : tokenCheck k t u with
    | some e => exact Otp.moves_of_eq (cmdDone_otp ..)
    | none => exact lifecycleAccept_otp h k t u ▸ .marked _ (life_ne_uprooted_of_tokenCheck hc)

end Sys2Proof.Machine
end

section
/-! Every command makes one move of OTP (02 R80, R83 – R85). -/

namespace Sys2Proof.Machine

open Sys2Proof Sys2Proof.Safety

/-- An outcome is a next state that has made one move of OTP. -/
def OtpMoves (s : State) (o : Host.Outcome State Fault Refusal) : Prop := ∃ t, o = .next t ∧ s.otp.Moves t.otp

/-! ### The shapes of a command's effect -/

theorem otpMoves_next {s t : State} (h : s.otp.Moves t.otp) : OtpMoves s (.next t) := ⟨t, rfl, h⟩
theorem otpMoves_of_outside {s t : State} (h : t.outside allButOtp = s.outside allButOtp) : OtpMoves s (.next t) :=
  otpMoves_next (moves_of_outside h)
theorem otpMoves_onward {k : Nat} {s u : State} (h : u.outside allButOtp = s.outside allButOtp) : OtpMoves s (.next (onward k u)) :=
  otpMoves_of_outside ((onward_outside (hm := rfl) ..).trans h)

section
variable {g : State → State} {s : State} (hg : ∀ u : State, (g u).outside allButOtp = u.outside allButOtp)
include hg

theorem otpMoves_happen : OtpMoves s (.next (happen g s)) := otpMoves_of_outside (happen_outside _ _ _ rfl hg)
theorem otpMoves_bundle {c : Instr} : OtpMoves s (.next (bundle c g s)) := otpMoves_of_outside (bundle_outside _ _ _ _ rfl hg)
theorem otpMoves_epBundle {j k : Nat} {c : Instr} : OtpMoves s (.next (onward j (epBundle k c g s))) :=
  otpMoves_onward (epBundle_outside _ _ _ _ _ rfl hg)
theorem otpMoves_readReg {off : Nat} : OtpMoves s (.next (readReg off g s)) := otpMoves_of_outside (readReg_outside _ _ _ _ rfl hg)

end

theorem execDescriptorFetched_otpMoves (rg : RingRef) (addr : BitVec 64) (d : Desc) (s : State) : OtpMoves s (execDescriptorFetched rg addr d s) := by
  have hdo : ∀ u, (doDescriptorFetched rg addr d u).outside allButOtp = u.outside allButOtp := fun _ => doDescriptorFetched_outside (hm := rfl) ..
  cases rg with
  | cmd f => exact otpMoves_bundle hdo
  | ep e => exact otpMoves_epBundle hdo

theorem execHostReadError_otpMoves (what : ReadFor) (e : ReadErr) (s : State) : OtpMoves s (execHostReadError what e s) := by
  have hdo : ∀ u, (doHostReadError what e u).outside allButOtp = u.outside allButOtp := fun _ => doHostReadError_outside (hm := rfl) ..
  cases what with
  | desc r | outData r | streamTable r => exact otpMoves_epBundle hdo
  | _ => exact otpMoves_bundle hdo

/-- Each command completes and makes one move of OTP: the commands that start the boot ROM or end a commit complete the pending burn, the
LIFECYCLE commands may leave one pending, and every other command keeps OTP, since its operation writes other parts of the state alone. -/
theorem exec_otpMoves (c : Instr) (s : State) : OtpMoves s (exec c s) := by
  cases c with
  | powerOn => exact otpMoves_happen fun _ => doPowerOn_outside (hm := rfl) ..
  | supplyMainLow => exact otpMoves_happen fun _ => doSupplyMainLow_outside (hm := rfl) ..
  | supplyMainRecovered => exact otpMoves_next (doSupplyMainRecovered_moves _)
  | vddHvLow => exact otpMoves_happen fun _ => doVddHvLow_outside (hm := rfl) ..
  | vddHvReturn => exact otpMoves_happen fun _ => doVddHvReturn_outside (hm := rfl) ..
  | vconnInLow => exact otpMoves_happen fun _ => doVconnInLow_outside (hm := rfl) ..
  | retentionLost => exact otpMoves_happen fun _ => doRetentionLost_outside (hm := rfl) ..
  | perstAssert => exact otpMoves_happen fun _ => doPerstAssert_outside (hm := rfl) ..
  | perstRelease => exact otpMoves_next (doPerstRelease_moves _)
  | sramWipeComplete => exact otpMoves_of_outside (supOn_outside (hm := rfl) ..)
  | configSpaceReady => exact otpMoves_of_outside (doConfigSpaceReady_outside (hm := rfl) ..)
  | configRequest => exact otpMoves_next (doConfigRequest_moves ..)
  | conventionalReset => exact otpMoves_next (doConventionalReset_moves ..)
  | linkRetrain => exact otpMoves_happen fun _ => doLinkRetrain_outside (hm := rfl) ..
  | linkRecovery => exact otpMoves_next .kept
  | flrPf => exact otpMoves_next (doFlrPf_moves _)
  | flrVf => exact otpMoves_happen fun _ => doFlrVf_outside (hm := rfl) ..
  | flrVfComplete => exact otpMoves_of_outside (pcieOn_outside (hm := rfl) ..)
  | vfEnableSet => exact otpMoves_happen fun _ => doVfEnableSet_outside (hm := rfl) ..
  | vfEnableClear => exact otpMoves_happen fun _ => doVfEnableClear_outside (hm := rfl) ..
  | maxPayloadSizeChange => exact otpMoves_of_outside (doMaxPayload_outside (hm := rfl) ..)
  | functionD0Entry => exact otpMoves_happen fun _ => doFunctionD0_outside (hm := rfl) ..
  | refclk25Lost => exact otpMoves_happen fun _ => doRefclk25Lost_outside (hm := rfl) ..
  | jtagInstruction => exact otpMoves_of_outside (supOn_outside (hm := rfl) ..)
  | ldrProdWrite => exact otpMoves_happen fun _ => regWrite_outside (hm := rfl) ..
  | ldrRestart => exact otpMoves_happen fun _ => regWrite_outside (hm := rfl) ..
  | loaderDescriptorFetched => exact otpMoves_happen fun _ => doLoaderDescriptorFetched_outside (hm := rfl) ..
  | imagePieceReceived => exact otpMoves_of_outside (doImagePieceReceived_outside (hm := rfl) ..)
  | loaderReadError => exact otpMoves_happen fun _ => doLoaderReadError_outside (hm := rfl) ..
  | imageCheckDone => exact otpMoves_happen fun _ => doImageCheckDone_outside (hm := rfl) ..
  | keeperConfigCheck => exact otpMoves_happen fun _ => doKeeperConfigCheck_outside (hm := rfl) ..
  | tenderStartupDone => exact otpMoves_of_outside (doTenderStartupDone_outside (hm := rfl) ..)
  | sowingComplete => exact otpMoves_happen fun _ => doSowingComplete_outside (hm := rfl) ..
  | persistHoldExpire => exact otpMoves_happen fun _ => doPersistHoldExpire_outside (hm := rfl) ..
  | setupLockWrite => exact otpMoves_happen fun _ => regWrite_outside (hm := rfl) ..
  | registerWrite => exact otpMoves_happen fun _ => regWrite_outside (hm := rfl) ..
  | vfBar0Write => exact otpMoves_of_outside (doVfBar0Write_outside (hm := rfl) ..)
  | misalignedAccess => exact otpMoves_of_outside (doMisalignedAccess_outside (hm := rfl) ..)
  | sleepWordAccess => exact otpMoves_of_outside (doSleepWordAccess_outside (hm := rfl) ..)
  | nudge => exact otpMoves_happen fun _ => doNudge_outside (hm := rfl) ..
  | dozeEnClear => exact otpMoves_happen fun _ => regWrite_outside (hm := rfl) ..
  | evrEnableWrite => exact otpMoves_happen fun _ => regWrite_outside (hm := rfl) ..
  | msixUnmask => exact otpMoves_of_outside (doMsixUnmask_outside (hm := rfl) ..)
  | fltStatusClear => exact otpMoves_happen fun _ => regWrite_outside (hm := rfl) ..
  | fltWireClear => exact otpMoves_happen fun _ => regWrite_outside (hm := rfl) ..
  | fltCntClear => exact otpMoves_happen fun _ => regWrite_outside (hm := rfl) ..
  | safeHoldClear => exact otpMoves_happen fun _ => regWrite_outside (hm := rfl) ..
  | fltPinHeldClear => exact otpMoves_happen fun _ => regWrite_outside (hm := rfl) ..
  | fltPinForce => exact otpMoves_happen fun _ => regWrite_outside (hm := rfl) ..
  | injFireTagged => exact otpMoves_happen fun _ => regWrite_outside (hm := rfl) ..
  | injFireWire => exact otpMoves_happen fun _ => regWrite_outside (hm := rfl) ..
  | prtSieveLostClear => exact otpMoves_happen fun _ => regWrite_outside (hm := rfl) ..
  | tempoStatusRead => exact otpMoves_readReg fun _ => modeOn_outside (hm := rfl) ..
  | teleTempRead => exact otpMoves_readReg fun _ => clearPeak_outside (hm := rfl) ..
  | prtFrameRead => exact otpMoves_readReg fun _ => State.busOn_outside (hm := rfl) ..
  | tallyLoRead => exact otpMoves_readReg fun _ => tallyLatch_outside (hm := rfl) ..
  | almDataRead => exact otpMoves_readReg fun _ => almAdvance_outside (hm := rfl) ..
  | noOp => exact otpMoves_of_outside (doNoOp_outside (hm := rfl) ..)
  | unknownCommand => exact otpMoves_of_outside (doUnknownCommand_outside (hm := rfl) ..)
  | openSlot => exact otpMoves_of_outside (doOpenSlot_outside (hm := rfl) ..)
  | assignAddress => exact otpMoves_of_outside (doAssignAddress_outside (hm := rfl) ..)
  | setEndpoints => exact otpMoves_of_outside (doSetEndpoints_outside (hm := rfl) ..)
  | clearHalt => exact otpMoves_of_outside (doClearHalt_outside (hm := rfl) ..)
  | pauseEndpoint => exact otpMoves_of_outside (doPauseEndpoint_outside (hm := rfl) ..)
  | moveCursor => exact otpMoves_of_outside (doMoveCursor_outside (hm := rfl) ..)
  | closeSlot => exact otpMoves_of_outside (doCloseSlot_outside (hm := rfl) ..)
  | snapshotContext => exact otpMoves_of_outside (doSnapshotContext_outside (hm := rfl) ..)
  | portEnable => exact otpMoves_of_outside (doPortEnable_outside (hm := rfl) ..)
  | portDisable => exact otpMoves_of_outside (doPortDisable_outside (hm := rfl) ..)
  | portReset => exact otpMoves_of_outside (doPortReset_outside (hm := rfl) ..)
  | portResetQuiesced => exact otpMoves_of_outside (bundleFor_outside _ _ _ _ _ rfl fun _ => doPortResetQuiesced_outside (hm := rfl) ..)
  | hotResetTimeout => exact otpMoves_of_outside (doHotResetTimeout_outside (hm := rfl) ..)
  | portResetDone => exact otpMoves_bundle fun _ => doPortResetDone_outside (hm := rfl) ..
  | portSuspend => exact otpMoves_of_outside (doPortSuspend_outside (hm := rfl) ..)
  | suspendQuiesced => exact otpMoves_of_outside (doSuspendQuiesced_outside (hm := rfl) ..)
  | ssU3Entered => exact otpMoves_of_outside (doSsU3Entered_outside (hm := rfl) ..)
  | suspendComplete => exact otpMoves_bundle fun _ => doSuspendComplete_outside (hm := rfl) ..
  | portResume => exact otpMoves_of_outside (doPortResume_outside (hm := rfl) ..)
  | resumeKEnd => exact otpMoves_of_outside (doResumeKEnd_outside (hm := rfl) ..)
  | resumeRecoveryEnd => exact otpMoves_bundle fun _ => doResumeRecoveryEnd_outside (hm := rfl) ..
  | ssResumeTimeout => exact otpMoves_happen fun _ => doSsResumeTimeout_outside (hm := rfl) ..
  | treeSleep => exact otpMoves_of_outside (doTreeSleep_outside (hm := rfl) ..)
  | treeSleepQuiesced => exact otpMoves_bundle fun _ => doTreeSleepQuiesced_outside (hm := rfl) ..
  | treeWake => exact otpMoves_of_outside (doTreeWake_outside (hm := rfl) ..)
  | portTest => exact otpMoves_of_outside (doPortTest_outside (hm := rfl) ..)
  | ssRetry => exact otpMoves_of_outside (doSsRetry_outside (hm := rfl) ..)
  | powerOff => exact otpMoves_of_outside (doPowerOff_outside (hm := rfl) ..)
  | powerCycle => exact otpMoves_of_outside (doPowerCycle_outside (hm := rfl) ..)
  | powerCycleDelayExpire => exact otpMoves_bundle fun _ => doPowerCycleDelayExpire_outside (hm := rfl) ..
  | guestOpen => exact otpMoves_of_outside (doGuestOpen_outside (hm := rfl) ..)
  | guestEndpoints => exact otpMoves_of_outside (doGuestEndpoints_outside (hm := rfl) ..)
  | guestClose => exact otpMoves_of_outside (doGuestClose_outside (hm := rfl) ..)
  | guestConnect => exact otpMoves_of_outside (doGuestConnect_outside (hm := rfl) ..)
  | guestDisconnect => exact otpMoves_of_outside (doGuestDisconnect_outside (hm := rfl) ..)
  | guestWake => exact otpMoves_of_outside (doGuestWake_outside (hm := rfl) ..)
  | guestWakeKStart => exact otpMoves_of_outside (doGuestWakeKStart_outside (hm := rfl) ..)
  | guestWakeKEnd => exact otpMoves_of_outside (doGuestWakeKEnd_outside (hm := rfl) ..)
  | guestEpPause => exact otpMoves_of_outside (doGuestEpPause_outside (hm := rfl) ..)
  | guestEpMove => exact otpMoves_of_outside (doGuestEpMove_outside (hm := rfl) ..)
  | guestEpHalt => exact otpMoves_of_outside (doGuestEpHalt_outside (hm := rfl) ..)
  | guestEpUnhalt => exact otpMoves_of_outside (doGuestEpUnhalt_outside (hm := rfl) ..)
  | roleSet => exact otpMoves_of_outside (doRoleSet_outside (hm := rfl) ..)
  | guestSnapshot => exact otpMoves_of_outside (doGuestSnapshot_outside (hm := rfl) ..)
  | portLimit => exact otpMoves_of_outside (doPortLimit_outside (hm := rfl) ..)
  | shedClass => exact otpMoves_of_outside (doShedClass_outside (hm := rfl) ..)
  | bedBudget => exact otpMoves_of_outside (doBedBudget_outside (hm := rfl) ..)
  | devBudget => exact otpMoves_of_outside (doDevBudget_outside (hm := rfl) ..)
  | indLevel => exact otpMoves_of_outside (doIndLevel_outside (hm := rfl) ..)
  | sendCaps => exact otpMoves_of_outside (doSendCaps_outside (hm := rfl) ..)
  | pdRequestRdo => exact otpMoves_of_outside (doPdRequestRdo_outside (hm := rfl) ..)
  | drSwap => exact otpMoves_of_outside (doDrSwap_outside (hm := rfl) ..)
  | prSwap => exact otpMoves_of_outside (doPrSwap_outside (hm := rfl) ..)
  | vconnSwap => exact otpMoves_of_outside (doVconnSwap_outside (hm := rfl) ..)
  | softReset => exact otpMoves_of_outside (doSoftReset_outside (hm := rfl) ..)
  | hardReset => exact otpMoves_of_outside (doHardReset_outside (hm := rfl) ..)
  | getSourceCaps => exact otpMoves_of_outside (doGetSourceCaps_outside (hm := rfl) ..)
  | getSinkCaps => exact otpMoves_of_outside (doGetSinkCaps_outside (hm := rfl) ..)
  | discover => exact otpMoves_of_outside (doDiscover_outside (hm := rfl) ..)
  | eprEnter => exact otpMoves_of_outside (doEprEnter_outside (hm := rfl) ..)
  | eprExit => exact otpMoves_of_outside (doEprExit_outside (hm := rfl) ..)
  | getStatus => exact otpMoves_of_outside (doGetStatus_outside (hm := rfl) ..)
  | sendVdm => exact otpMoves_of_outside (doSendVdm_outside (hm := rfl) ..)
  | setMode => exact otpMoves_of_outside (doSetMode_outside (hm := rfl) ..)
  | rotateNext => exact otpMoves_of_outside (doRotateNext_outside (hm := rfl) ..)
  | rotateEngine => exact otpMoves_of_outside (doRotateEngine_outside (hm := rfl) ..)
  | rotateUpdate => exact otpMoves_of_outside (doRotateUpdate_outside (hm := rfl) ..)
  | updateCancel => exact otpMoves_of_outside (doUpdateCancel_outside (hm := rfl) ..)
  | selfTestTender => exact otpMoves_of_outside (doSelfTestTender_outside (hm := rfl) ..)
  | selfTestBank => exact otpMoves_of_outside (doSelfTestBank_outside (hm := rfl) ..)
  | selfTestAdc => exact otpMoves_of_outside (doSelfTestAdc_outside (hm := rfl) ..)
  | selfTestBed => exact otpMoves_of_outside (doSelfTestBed_outside (hm := rfl) ..)
  | selfTestKeeper => exact otpMoves_of_outside (doSelfTestKeeper_outside (hm := rfl) ..)
  | captureStart => exact otpMoves_of_outside (doCaptureStart_outside (hm := rfl) ..)
  | captureStop => exact otpMoves_of_outside (doCaptureStop_outside (hm := rfl) ..)
  | captureFlush => exact otpMoves_of_outside (doCaptureFlush_outside (hm := rfl) ..)
  | readAlmanacSlots => exact otpMoves_of_outside (doReadAlmanacSlots_outside (hm := rfl) ..)
  | readAlmanacInfo => exact otpMoves_of_outside (doReadAlmanacInfo_outside (hm := rfl) ..)
  | lifecyclePlant => exact otpMoves_next (lifecycle_moves ..)
  | lifecycleUproot => exact otpMoves_next (lifecycle_moves ..)
  | lifecycleReturn => exact otpMoves_next (lifecycle_moves ..)
  | lifecycleRevoke => exact otpMoves_next (lifecycle_moves ..)
  | lifecycleRaiseFloor => exact otpMoves_next (lifecycle_moves ..)
  | lifecycleCommitDone => exact otpMoves_next (doLifecycleCommitDone_moves _)
  | rakeSweep => exact otpMoves_happen fun _ => doRakeSweep_outside (hm := rfl) ..
  | rakeDozeEnter => exact otpMoves_happen fun _ => doRakeDozeEnter_outside (hm := rfl) ..
  | bellReadError => exact otpMoves_happen fun _ => doBellReadError_outside (hm := rfl) ..
  | evrConsRead => exact otpMoves_of_outside (doEvrConsRead_outside (hm := rfl) ..)
  | eventRingRoomReturns => exact otpMoves_of_outside (doEventRingRoomReturns_outside (hm := rfl) ..)
  | descriptorFetched => exact execDescriptorFetched_otpMoves ..
  | hostReadError => exact execHostReadError_otpMoves ..
  | streamTableRead => exact otpMoves_epBundle fun _ => doStreamTableRead_outside (hm := rfl) ..
  | outDataFetched => exact otpMoves_of_outside (doOutDataFetched_outside (hm := rfl) ..)
  | creditGrant => exact otpMoves_of_outside (doCreditGrant_outside (hm := rfl) ..)
  | creditRevocationSettled => exact otpMoves_epBundle fun _ => doCreditRevocationSettled_outside (hm := rfl) ..
  | packetClaim => exact otpMoves_epBundle fun _ => doPacketClaim_outside (hm := rfl) ..
  | pendClear => exact otpMoves_of_outside (doPendClear_outside (hm := rfl) ..)
  | msixHoldoffExpire => exact otpMoves_of_outside (doMsixHoldoffExpire_outside (hm := rfl) ..)
  | microframeStart => exact otpMoves_happen fun _ => doMicroframeStart_outside (hm := rfl) ..
  | windowBuild => exact otpMoves_of_outside (doWindowBuild_outside (hm := rfl) ..)
  | windowLoadPoint => exact otpMoves_happen fun _ => doWindowLoadPoint_outside (hm := rfl) ..
  | inPacketReceived => exact otpMoves_onward (bundleElse_outside _ _ _ _ rfl (fun _ => doInPacketReceived_outside (hm := rfl) ..) fun _ => dropIn_outside (hm := rfl) ..)
  | outHandshake => exact otpMoves_epBundle fun _ => doOutHandshake_outside (hm := rfl) ..
  | nakLimitReached => exact otpMoves_epBundle fun _ => doNakLimitReached_outside (hm := rfl) ..
  | transactionTimeout => exact otpMoves_epBundle fun _ => doTransactionTimeout_outside (hm := rfl) ..
  | transactionErrorReceived => exact otpMoves_epBundle fun _ => doTransactionErrorReceived_outside (hm := rfl) ..
  | stallReceived => exact otpMoves_epBundle fun _ => doStallReceived_outside (hm := rfl) ..
  | babbleDetected => exact otpMoves_epBundle fun _ => doBabbleDetected_outside (hm := rfl) ..
  | nrdyReceived => exact otpMoves_epBundle fun _ => doNrdyReceived_outside (hm := rfl) ..
  | erdyReceived => exact otpMoves_onward (doErdyReceived_outside (hm := rfl) ..)
  | splitResult => exact otpMoves_epBundle fun _ => doSplitResult_outside (hm := rfl) ..
  | setupStageComplete => exact otpMoves_epBundle fun _ => doSetupStageComplete_outside (hm := rfl) ..
  | setAddressRecoveryEnd => exact otpMoves_of_outside (doSetAddressRecoveryEnd_outside (hm := rfl) ..)
  | toggleSnoopReset => exact otpMoves_epBundle fun _ => doToggleSnoopReset_outside (hm := rfl) ..
  | isoStreamEnd => exact otpMoves_of_outside (doIsoStreamEnd_outside (hm := rfl) ..)
  | isoCommitDeadline => exact otpMoves_happen fun _ => doIsoCommitDeadline_outside (hm := rfl) ..
  | usb2ConnectDebounce => exact otpMoves_happen fun _ => doUsb2ConnectDebounce_outside (hm := rfl) ..
  | ssTrainingU0 => exact otpMoves_happen fun _ => doSsTrainingU0_outside (hm := rfl) ..
  | ssTrainingTimeout => exact otpMoves_happen fun _ => doSsTrainingTimeout_outside (hm := rfl) ..
  | usb2Detach => exact otpMoves_happen fun _ => doUsb2Detach_outside (hm := rfl) ..
  | ssDetach => exact otpMoves_happen fun _ => doSsDetach_outside (hm := rfl) ..
  | remoteWakeDetected => exact otpMoves_happen fun _ => doRemoteWakeDetected_outside (hm := rfl) ..
  | l1IdleExpire => exact otpMoves_happen fun _ => doL1IdleExpire_outside (hm := rfl) ..
  | lpmAnswer => exact otpMoves_happen fun _ => doLpmAnswer_outside (hm := rfl) ..
  | l1Exit => exact otpMoves_happen fun _ => doL1Exit_outside (hm := rfl) ..
  | uStateTimerExpire => exact otpMoves_happen fun _ => doUStateTimerExpire_outside (hm := rfl) ..
  | ssInactive => exact otpMoves_happen fun _ => doSsInactive_outside (hm := rfl) ..
  | portBabble => exact otpMoves_happen fun _ => doPortBabble_outside (hm := rfl) ..
  | ssRecoveryEntry => exact otpMoves_happen fun _ => doSsRecoveryEntry_outside (hm := rfl) ..
  | guestPresent => exact otpMoves_of_outside (doGuestPresent_outside (hm := rfl) ..)
  | guestBusReset => exact otpMoves_bundle fun _ => doGuestBusReset_outside (hm := rfl) ..
  | guestResetEnd => exact otpMoves_bundle fun _ => doGuestResetEnd_outside (hm := rfl) ..
  | guestSetupReceived => exact otpMoves_happen fun _ => doGuestSetupReceived_outside (hm := rfl) ..
  | guestSetupDeliver => exact otpMoves_bundle fun _ => doGuestSetupDeliver_outside (hm := rfl) ..
  | guestToken => exact otpMoves_of_outside (bundleElse_outside _ _ _ _ rfl (fun _ => doGuestToken_outside (hm := rfl) ..) fun _ => guestHold_outside (hm := rfl) ..)
  | guestOutPacket => exact otpMoves_of_outside (bundleElse_outside _ _ _ _ rfl (fun _ => doGuestOutPacket_outside (hm := rfl) ..) fun _ => guestHold_outside (hm := rfl) ..)
  | guestInHandshake => exact otpMoves_of_outside (epBundle_outside _ _ _ _ _ rfl fun _ => doGuestInHandshake_outside (hm := rfl) ..)
  | guestSuspendDetect => exact otpMoves_bundle fun _ => doGuestSuspendDetect_outside (hm := rfl) ..
  | guestResumeDetect => exact otpMoves_bundle fun _ => doGuestResumeDetect_outside (hm := rfl) ..
  | guestHostGone => exact otpMoves_bundle fun _ => doGuestHostGone_outside (hm := rfl) ..
  | guestSsLinkTimeout => exact otpMoves_bundle fun _ => doGuestSsLinkTimeout_outside (hm := rfl) ..
  | ccTerminationChange => exact otpMoves_happen fun _ => doCcTerminationChange_outside (hm := rfl) ..
  | ccAttachDebounce => exact otpMoves_happen fun _ => doCcAttachDebounce_outside (hm := rfl) ..
  | ccDetachDebounce => exact otpMoves_happen fun _ => doCcDetachDebounce_outside (hm := rfl) ..
  | vbusSinkDisconnect => exact otpMoves_happen fun _ => doVbusSinkDisconnect_outside (hm := rfl) ..
  | drpPeriodExpire => exact otpMoves_happen fun _ => doDrpPeriodExpire_outside (hm := rfl) ..
  | tryTimerExpire => exact otpMoves_happen fun _ => doTryTimerExpire_outside (hm := rfl) ..
  | errorRecoveryExpire => exact otpMoves_happen fun _ => doErrorRecoveryExpire_outside (hm := rfl) ..
  | moistureReadingStart => exact otpMoves_of_outside (doMoistureReadingStart_outside (hm := rfl) ..)
  | moistureReadingDone => exact otpMoves_happen fun _ => doMoistureReadingDone_outside (hm := rfl) ..
  | vconnOcTrip => exact otpMoves_happen fun _ => vconnTrip_outside (hm := rfl) ..
  | vconnShortTrip => exact otpMoves_happen fun _ => vconnTrip_outside (hm := rfl) ..
  | pdMessageReceived => exact otpMoves_happen fun _ => doPdMessageReceived_outside (hm := rfl) ..
  | floodBucketRoll => exact otpMoves_of_outside (doFloodBucketRoll_outside (hm := rfl) ..)
  | quarantineReleaseExpire => exact otpMoves_happen fun _ => doQuarantineReleaseExpire_outside (hm := rfl) ..
  | ccLineIdle => exact otpMoves_of_outside (doCcLineIdle_outside (hm := rfl) ..)
  | ccIdleTimeout => exact otpMoves_happen fun _ => doCcIdleTimeout_outside (hm := rfl) ..
  | ccCollision => exact otpMoves_happen fun _ => doCcCollision_outside (hm := rfl) ..
  | sinktxWaitExpire => exact otpMoves_of_outside (doSinktxWaitExpire_outside (hm := rfl) ..)
  | goodcrcReceived => exact otpMoves_happen fun _ => doGoodcrcReceived_outside (hm := rfl) ..
  | drSwapAcceptAcked => exact otpMoves_happen fun _ => doDrSwapAcceptAcked_outside (hm := rfl) ..
  | treceiveExpire => exact otpMoves_happen fun _ => doTreceiveExpire_outside (hm := rfl) ..
  | sourceCapsReceived => exact otpMoves_happen fun _ => doSourceCapsReceived_outside (hm := rfl) ..
  | requestReceived => exact otpMoves_happen fun _ => doRequestReceived_outside (hm := rfl) ..
  | waitReceived => exact otpMoves_happen fun _ => doWaitReceived_outside (hm := rfl) ..
  | psRdyReceived => exact otpMoves_happen fun _ => doPsRdyReceived_outside (hm := rfl) ..
  | swapRequestReceived => exact otpMoves_happen fun _ => doSwapRequestReceived_outside (hm := rfl) ..
  | eprModeReceived => exact otpMoves_happen fun _ => doEprModeReceived_outside (hm := rfl) ..
  | eprKeepaliveReceived => exact otpMoves_of_outside (doEprKeepaliveReceived_outside (hm := rfl) ..)
  | softResetReceived => exact otpMoves_happen fun _ => doSoftResetReceived_outside (hm := rfl) ..
  | hardResetReceived => exact otpMoves_happen fun _ => doHardResetReceived_outside (hm := rfl) ..
  | hardResetSourceOff => exact otpMoves_happen fun _ => doHardResetSourceOff_outside (hm := rfl) ..
  | srcRecoverExpire => exact otpMoves_happen fun _ => doSrcRecoverExpire_outside (hm := rfl) ..
  | alertReceived => exact otpMoves_happen fun _ => doAlertReceived_outside (hm := rfl) ..
  | getStatusReceived => exact otpMoves_of_outside (doGetStatusReceived_outside (hm := rfl) ..)
  | vdmReceived => exact otpMoves_happen fun _ => doVdmReceived_outside (hm := rfl) ..
  | notSupportedReceived => exact otpMoves_of_outside (doNotSupportedReceived_outside (hm := rfl) ..)
  | pdResponseReceived => exact otpMoves_happen fun _ => doPdResponseReceived_outside (hm := rfl) ..
  | srcTransitionExpire => exact otpMoves_happen fun _ => doSrcTransitionExpire_outside (hm := rfl) ..
  | waitHoldExpire => exact otpMoves_happen fun _ => doWaitHoldExpire_outside (hm := rfl) ..
  | snkWaitExpire => exact otpMoves_happen fun _ => doSnkWaitExpire_outside (hm := rfl) ..
  | ppsTimeout => exact otpMoves_happen fun _ => doPpsTimeout_outside (hm := rfl) ..
  | eprKeepaliveTimeout => exact otpMoves_happen fun _ => doEprKeepaliveTimeout_outside (hm := rfl) ..
  | sinkRefreshTimer => exact otpMoves_of_outside (doSinkRefreshTimer_outside (hm := rfl) ..)
  | senderResponseTimeout => exact otpMoves_happen fun _ => doSenderResponseTimeout_outside (hm := rfl) ..
  | hardResetCountExhausted => exact otpMoves_happen fun _ => doHardResetCountExhausted_outside (hm := rfl) ..
  | cableDiscoveryTimer => exact otpMoves_happen fun _ => doCableDiscoveryTimer_outside (hm := rfl) ..
  | sendSourceCapTimer => exact otpMoves_happen fun _ => doSendSourceCapTimer_outside (hm := rfl) ..
  | offerChange => exact otpMoves_happen fun _ => doOfferChange_outside (hm := rfl) ..
  | swapRetryTimer => exact otpMoves_happen fun _ => doSwapRetryTimer_outside (hm := rfl) ..
  | trellisHelloReceived => exact otpMoves_happen fun _ => doTrellisHelloReceived_outside (hm := rfl) ..
  | trellisTimeout => exact otpMoves_happen fun _ => doTrellisTimeout_outside (hm := rfl) ..
  | bridgePoll => exact otpMoves_happen fun _ => doBridgePoll_outside (hm := rfl) ..
  | uartByteReceived => exact otpMoves_of_outside (doUartByteReceived_outside (hm := rfl) ..)
  | uartByteSent => exact otpMoves_of_outside (doUartByteSent_outside (hm := rfl) ..)
  | pathOrder => exact otpMoves_happen fun _ => doPathOrder_outside (hm := rfl) ..
  | rampComplete => exact otpMoves_happen fun _ => doRampComplete_outside (hm := rfl) ..
  | ocTimerStart => exact otpMoves_of_outside (doOcTimerStart_outside (hm := rfl) ..)
  | ocTimerExpire => exact otpMoves_happen fun _ => doOcTimerExpire_outside (hm := rfl) ..
  | ocTimerReset => exact otpMoves_of_outside (doOcTimerReset_outside (hm := rfl) ..)
  | shortCircuit => exact otpMoves_happen fun _ => doShortCircuit_outside (hm := rfl) ..
  | rampTimeout => exact otpMoves_happen fun _ => doRampTimeout_outside (hm := rfl) ..
  | overVoltage => exact otpMoves_happen fun _ => doOverVoltage_outside (hm := rfl) ..
  | reverseCurrent => exact otpMoves_happen fun _ => doReverseCurrent_outside (hm := rfl) ..
  | gateOffConfirmed => exact otpMoves_of_outside (doGateOffConfirmed_outside (hm := rfl) ..)
  | coolExpire => exact otpMoves_happen fun _ => doCoolExpire_outside (hm := rfl) ..
  | onStableExpire => exact otpMoves_of_outside (doOnStableExpire_outside (hm := rfl) ..)
  | fbTrimTick => exact otpMoves_of_outside (doFbTrimTick_outside (hm := rfl) ..)
  | powerGoodAssert => exact otpMoves_happen fun _ => doPowerGoodAssert_outside (hm := rfl) ..
  | ppsCurrentLimit => exact otpMoves_of_outside (doPpsCurrentLimit_outside (hm := rfl) ..)
  | vbusSafe0vReached => exact otpMoves_happen fun _ => doVbusSafe0vReached_outside (hm := rfl) ..
  | earlywarnEntry => exact otpMoves_happen fun _ => doEarlywarnEntry_outside (hm := rfl) ..
  | shedNext => exact otpMoves_happen fun _ => doShedNext_outside (hm := rfl) ..
  | earlywarnRestoreExpire => exact otpMoves_happen fun _ => doEarlywarnRestoreExpire_outside (hm := rfl) ..
  | restoreNext => exact otpMoves_happen fun _ => doRestoreNext_outside (hm := rfl) ..
  | tempoSample => exact otpMoves_happen fun _ => doTempoSample_outside (hm := rfl) ..
  | tempoRecoveredExpire => exact otpMoves_happen fun _ => doTempoRecoveredExpire_outside (hm := rfl) ..
  | sundialCheck => exact otpMoves_happen fun _ => doSundialCheck_outside (hm := rfl) ..
  | regulatorSettled => exact otpMoves_bundle fun _ => doRegulatorSettled_outside (hm := rfl) ..
  | regulatorSettleTimeout => exact otpMoves_bundle fun _ => doRegulatorSettleTimeout_outside (hm := rfl) ..
  | modeWindowsDrained => exact otpMoves_of_outside (doModeWindowsDrained_outside (hm := rfl) ..)
  | autoRaiseTimer => exact otpMoves_happen fun _ => doAutoRaiseTimer_outside (hm := rfl) ..
  | regulatorPoll => exact otpMoves_happen fun _ => doRegulatorPoll_outside (hm := rfl) ..
  | drowseIdleExpire => exact otpMoves_happen fun _ => doDrowseIdleExpire_outside (hm := rfl) ..
  | dormantIdleExpire => exact otpMoves_happen fun _ => doDormantIdleExpire_outside (hm := rfl) ..
  | dormantEntryComplete => exact otpMoves_of_outside (doDormantEntryComplete_outside (hm := rfl) ..)
  | wakeCause => exact otpMoves_happen fun _ => doWakeCause_outside (hm := rfl) ..
  | dormantExitComplete => exact otpMoves_happen fun _ => doDormantExitComplete_outside (hm := rfl) ..
  | brownOut => exact otpMoves_of_outside (doBrownOut_outside (hm := rfl) ..)
  | rotationTimer => exact otpMoves_happen fun _ => doRotationTimer_outside (hm := rfl) ..
  | rotationCopyDone => exact otpMoves_of_outside (doRotationCopyDone_outside (hm := rfl) ..)
  | engineSelfTestDone => exact otpMoves_bundle fun _ => doEngineSelfTestDone_outside (hm := rfl) ..
  | spareRefillDone => exact otpMoves_bundle fun _ => doSpareRefillDone_outside (hm := rfl) ..
  | codePageRepair => exact otpMoves_happen fun _ => unitOnce_outside (hm := rfl) ..
  | threadRestart => exact otpMoves_happen fun _ => unitOnce_outside (hm := rfl) ..
  | keeperMemoryRewrite => exact otpMoves_happen fun _ => unitOnce_outside (hm := rfl) ..
  | keeperDivergence => exact otpMoves_happen fun _ => unitOnce_outside (hm := rfl) ..
  | updateImageChecked => exact otpMoves_bundle fun _ => doUpdateImageChecked_outside (hm := rfl) ..
  | keeperSwap => exact otpMoves_of_outside (doKeeperSwap_outside (hm := rfl) ..)
  | keeperReady => exact otpMoves_of_outside (keeperSwapEnd_outside _ _ _ _ rfl fun _ => updServe_outside (hm := rfl) ..)
  | keeperReadyTimeout => exact otpMoves_of_outside (keeperSwapEnd_outside _ _ _ _ rfl fun _ => updAbandon_outside (hm := rfl) ..)
  | updateAbandonDone => exact otpMoves_bundle fun _ => doUpdateAbandonDone_outside (hm := rfl) ..
  | bedTestIdle => exact otpMoves_of_outside (doBedTestIdle_outside (hm := rfl) ..)
  | bedTestDeadline => exact otpMoves_bundle fun _ => doBedTestDeadline_outside (hm := rfl) ..
  | selfTestDone => exact otpMoves_bundle fun _ => doSelfTestDone_outside (hm := rfl) ..
  | graftRunExpire => exact otpMoves_happen fun _ => graftFault_outside (hm := rfl) ..
  | graftServiceCall => exact otpMoves_happen fun _ => doGraftServiceCall_outside (hm := rfl) ..
  | graftTimerExpire => exact otpMoves_of_outside (State.graftOn_outside (hm := rfl) ..)
  | dispatcherSourceAssert => exact otpMoves_of_outside (doDispatcherSourceAssert_outside (hm := rfl) ..)
  | dispatcherClaim => exact otpMoves_of_outside (dspClaim_outside (hm := rfl) ..)
  | dispatcherEoi => exact otpMoves_happen fun _ => doDispatcherEoi_outside (hm := rfl) ..
  | holdoffTimerExpire => exact otpMoves_of_outside (doHoldoffTimerExpire_outside (hm := rfl) ..)
  | dispatcherStackMismatch => exact otpMoves_happen fun _ => unitOnce_outside (hm := rfl) ..
  | faultLineRaised => exact otpMoves_happen fun _ => doFaultLineRaised_outside (hm := rfl) ..
  | faultLineBroken => exact otpMoves_happen fun _ => doFaultLineBroken_outside (hm := rfl) ..
  | faultLineQuiet => exact otpMoves_happen fun _ => doFaultLineQuiet_outside (hm := rfl) ..
  | portHoldDone => exact otpMoves_happen fun _ => doPortHoldDone_outside (hm := rfl) ..
  | bedRestartDone => exact otpMoves_happen fun _ => doBedRestartDone_outside (hm := rfl) ..
  | bedIsolateDone => exact otpMoves_happen fun _ => doBedIsolateDone_outside (hm := rfl) ..
  | collectorMismatch => exact otpMoves_happen fun _ => doCollectorMismatch_outside (hm := rfl) ..
  | collectorRebuildDone => exact otpMoves_happen fun _ => doCollectorRebuildDone_outside (hm := rfl) ..
  | faultNPulseEnd => exact otpMoves_next .kept
  | contextRebuildDone => exact otpMoves_happen fun _ => doContextRebuildDone_outside (hm := rfl) ..
  | sramEccError => exact otpMoves_happen fun _ => doSramEccError_outside (hm := rfl) ..
  | scrubTick => exact otpMoves_of_outside (doScrubTick_outside (hm := rfl) ..)
  | troughWordRebuild => exact otpMoves_happen fun _ => unitOnce_outside (hm := rfl) ..
  | troughBankRetire => exact otpMoves_happen fun _ => bankRetire_outside (hm := rfl) ..
  | bankRebuildDone => exact otpMoves_of_outside (unitsOn_outside (hm := rfl) ..)
  | marchTimer => exact otpMoves_of_outside (doMarchTimer_outside (hm := rfl) ..)
  | fallowMoveDone => exact otpMoves_of_outside (unitsOn_outside (hm := rfl) ..)
  | marchDone => exact otpMoves_happen fun _ => doMarchDone_outside (hm := rfl) ..
  | adcCalTimer => exact otpMoves_next .kept
  | efuseTestPulse => exact otpMoves_happen fun _ => doEfuseTestPulse_outside (hm := rfl) ..
  | keeperSelfCheck => exact otpMoves_next .kept
  | coldFrameWatchTest => exact otpMoves_happen fun _ => doColdFrameWatchTest_outside (hm := rfl) ..
  | fabricCheckFail => exact otpMoves_happen fun _ => doFabricCheckFail_outside (hm := rfl) ..
  | fabricHandshakeTimeout => exact otpMoves_happen fun _ => doFabricHandshakeTimeout_outside (hm := rfl) ..
  | laneFail => exact otpMoves_happen fun _ => doLaneFail_outside (hm := rfl) ..
  | ringEngineLost => exact otpMoves_happen fun _ => unitOnce_outside (hm := rfl) ..
  | thermalWarning => exact otpMoves_happen fun _ => doThermalWarning_outside (hm := rfl) ..
  | thermalShutdown => exact otpMoves_happen fun _ => doThermalShutdown_outside (hm := rfl) ..
  | thermalCooled => exact otpMoves_happen fun _ => thermalEnd_outside (hm := rfl) ..
  | sievePacketBegin => exact otpMoves_happen fun _ => packetBegin_outside (hm := rfl) ..
  | sievePacketEnd => exact otpMoves_happen fun _ => doSievePacketEnd_outside (hm := rfl) ..
  | sievePointerMismatch => exact otpMoves_happen fun _ => doSievePointerMismatch_outside (hm := rfl) ..
  | exporterPoll => exact otpMoves_happen fun _ => doExporterPoll_outside (hm := rfl) ..
  | smbusIdentity => exact otpMoves_of_outside (smbReply_outside (hm := rfl) ..)
  | smbusStatus => exact otpMoves_of_outside (smbReply_outside (hm := rfl) ..)
  | smbusAlmanacInfo => exact otpMoves_of_outside (smbReply_outside (hm := rfl) ..)
  | smbusAlmanacSelect => exact otpMoves_of_outside (doSmbusAlmanacSelect_outside (hm := rfl) ..)
  | smbusAlmanacRead => exact otpMoves_of_outside (doSmbusAlmanacRead_outside (hm := rfl) ..)
  | smbusTelemetrySelect => exact otpMoves_of_outside (doSmbusTelemetrySelect_outside (hm := rfl) ..)
  | smbusTelemetryRead => exact otpMoves_of_outside (smbReply_outside (hm := rfl) ..)
  | smbusAlertResponse => exact otpMoves_of_outside (ite_outside rfl (set_smb_outside (hm := rfl) ..))
  | ptmDialogue => exact otpMoves_of_outside (ite_outside ((timeOn_outside (hm := rfl) ..).trans (State.emit_outside (hm := rfl) ..)) rfl)
  | ptmResponse => exact otpMoves_happen fun _ => doPtmResponse_outside (hm := rfl) ..
  | telemetryRefresh => exact otpMoves_of_outside (doTelemetryRefresh_outside (hm := rfl) ..)
  | refclk25Restored => exact otpMoves_of_outside (doRefclk25Restored_outside (hm := rfl) ..)
  | psTransitionTimeout => exact otpMoves_happen fun _ => doPsTransitionTimeout_outside (hm := rfl) ..
  | u1U2EntryRequest => exact otpMoves_happen fun _ => doU1U2EntryRequest_outside (hm := rfl) ..
  | deviceNotificationReceived => exact otpMoves_happen fun _ => doDeviceNotificationReceived_outside (hm := rfl) ..

end Sys2Proof.Machine
end

section
/-! Steps: a part in Uprooted never returns to another state (02 R85). -/

namespace Sys2Proof.Machine

open Sys2Proof Sys2Proof.Safety

theorem putBack_otp (before after : List Waiting) (t : State) : (putBack before after t).otp = t.otp := rfl

/-- A bundle of the part's own writes no fuse. -/
theorem runJob_otp (j : Job) (s : State) : (runJob j s).otp = s.otp := by
  cases j with
  | cmd c => rfl
  | pauseEnd r => exact otp_eq_of_outside (pauseTry_outside (hm := rfl) ..)
  | detach key => exact otp_eq_of_outside (detachTry_outside (hm := rfl) ..)
  | hand k prod => exact otp_eq_of_outside (happen_outside _ _ _ rfl fun _ => handOver_outside (hm := rfl) ..)

theorem idleTick_otp (s : State) : (idleTick s).otp = s.otp := by
  have hack : ∀ u : State, (injAck u).otp = u.otp := fun u => otp_eq_of_outside (injAck_outside (hm := rfl) ..)
  unfold idleTick
  dsimp only
  split
  · exact hack _
  · exact hack _

/-- A waiting command runs with the others set aside, which is no part of OTP. -/
theorem runWaiting_otpMoves (before : List Waiting) (w : Waiting) (after : List Waiting) (s : State) : OtpMoves s (runWaiting before w after s) := by
  unfold runWaiting
  dsimp only
  split
  · next c _ =>
    obtain ⟨t, ht, hmove⟩ := exec_otpMoves c { s with waiting := [], aside := before ++ after }
    rw [ht]
    exact otpMoves_next hmove
  · exact otpMoves_next (Otp.moves_of_eq (runJob_otp ..))

theorem step_otpMoves (s : State) : OtpMoves s (step s) := by
  unfold step
  split
  · next c rest _ => exact exec_otpMoves c { s with pending := rest }
  · split
    · exact runWaiting_otpMoves ..
    · exact otpMoves_next (Otp.moves_of_eq (idleTick_otp s))

/-- Settles O6: a step makes one move of OTP, and a settled Uprooted part has none but to stay. -/
theorem uprootedStays : Obligations.UprootedStays := by
  intro s t hstep hsettled
  obtain ⟨u, hu, hmove⟩ := step_otpMoves s
  obtain rfl : u = t := Host.Outcome.next.inj (hu.symm.trans hstep)
  exact ⟨fun huprooted => hmove.eq_of_uprooted hsettled huprooted ▸ huprooted, hmove.settled hsettled⟩

end Sys2Proof.Machine
end

section
/-! A write of LOCK before SERVED (02 R75). -/

namespace Sys2Proof.Machine

open Sys2Proof Sys2Proof.Safety

theorem bit_setBits_same (x i v : Nat) : bit (setBits x i 1 v) i = (v % 2 == 1) := by
  rw [bit_bits, bits_setBits, pow_one]

theorem bit_setBits_ne (x i v : Nat) {j : Nat} (h : j ≠ i) : bit (setBits x i 1 v) j = bit x j := by
  rw [bit_bits, bit_bits]
  rcases Nat.lt_or_gt_of_ne h with hlt | hgt
  · rw [bits_setBits_lo x i 1 v j 1 hlt]
  · rw [bits_setBits_hi x i 1 v j 1 hgt]

/-- SETUP_LOCK stands in the global block, which never sleeps: its write always acts out of reset. -/
theorem regWrite_setupLock (w : Nat) (s : State) (hr : s.inReset = false) : regWrite 0x40 w s = lockWrite w s :=
  regWrite_awake 0x40 w 0 s hr rfl rfl (asleep_global s)

/-- An open lock that is written 1 before SERVED only raises EARLY_LOCK, bit 16 of SETUP_STATUS. -/
theorem lockWrite_early (w : Nat) (s : State) (hl : s.lock = false) (hs : s.served = false) (hw : bit w 0 = true) :
    lockWrite w s = s.fldPut 0x44 16 1 1 := by
  simp [lockWrite, hl, hs, hw]

/-- Settles O11: the write acts as one on EARLY_LOCK alone, and a bit of one word is not another bit or word. -/
theorem earlyLock : Obligations.EarlyLock := by
  intro s w hr hl hs hw
  have hrun : regWrite 0x40 w.toNat s = s.fldPut 0x44 16 1 1 := by
    rw [regWrite_setupLock _ _ hr, lockWrite_early _ _ hl hs hw]
  have hword : (s.fldPut 0x44 16 1 1).rget 0x44 = setBits (s.rget 0x44) 16 1 1 := rget_rput_same _ _ _
  refine ⟨{ s.fldPut 0x44 16 1 1 with blocked := [] }, ?_, hl, ?_, rfl, rfl, rfl, rfl, ?_, ?_⟩
  · exact congrArg (fun u : State => Host.Outcome.next { u with blocked := [] }) hrun
  · exact (congrArg (bit · 16) hword).trans (bit_setBits_same _ _ _)
  · exact fun off hoff => fldPut_ne s 0x44 16 1 1 off hoff
  · exact fun j hj _ => (congrArg (bit · j) hword).trans (bit_setBits_ne _ _ _ hj)

end Sys2Proof.Machine
end

section
/-! A frame by parts from a frame by mask: `OnlyChanges` lists the parts that may differ, `State.outside` blanks them by their bits. -/

namespace Sys2Proof.Safety

open Sys2Proof Sys2Proof.Machine

/-- A mask of `State.outside` blanks a part: its own bit is set, or, of the two parts that lie within another one, the bit of that one. -/
def Part.blankedBy (m : Nat) : Part → Bool
  | .msix => m.testBit Part.pcie.ctorIdx || m.testBit Part.msix.ctorIdx
  | .evrs => m.testBit Part.fns.ctorIdx || m.testBit Part.evrs.ctorIdx
  | p => m.testBit p.ctorIdx

/-- States that agree outside a mask agree in every part that the mask does not blank. -/
theorem Part.same_of_outside {m : Nat} {s t : State} (h : t.outside m = s.outside m) : ∀ p : Part, p.blankedBy m = false → p.same s t
  | .pending, hm => eq_pending_of_outside h hm
  | .waiting, hm => eq_waiting_of_outside h hm
  | .aside, hm => eq_aside_of_outside h hm
  | .ops, hm => eq_ops_of_outside h hm
  | .regs, hm => fun off hoff => eq_rget_of_outside h hm off hoff
  | .lock, hm => eq_lock_of_outside h hm
  | .blockedLast, hm => eq_blockedLast_of_outside h hm
  | .otp, hm => eq_otp_of_outside h hm
  | .sup, hm => eq_sup_of_outside h hm
  | .boot, hm => eq_boot_of_outside h hm
  | .pcie, hm => eq_link_of_outside h hm
  | .fns, hm => fun f => eq_fn_of_outside h hm f
  | .slots, hm => eq_slots_of_outside h hm
  | .eps, hm => eq_eps_of_outside h hm
  | .short, hm => eq_short_of_outside h hm
  | .grants, hm => eq_grants_of_outside h hm
  | .links, hm => eq_links_of_outside h hm
  | .buses, hm => eq_buses_of_outside h hm
  | .guests, hm => eq_guests_of_outside h hm
  | .tcs, hm => eq_tcs_of_outside h hm
  | .pds, hm => eq_pds_of_outside h hm
  | .paths, hm => eq_paths_of_outside h hm
  | .brgs, hm => eq_brgs_of_outside h hm
  | .caps, hm => eq_caps_of_outside h hm
  | .capStarts, hm => eq_capStarts_of_outside h hm
  | .beds, hm => eq_beds_of_outside h hm
  | .hooks, hm => eq_hooks_of_outside h hm
  | .budget, hm => eq_budget_of_outside h hm
  | .mode, hm => eq_mode_of_outside h hm
  | .eng, hm => eq_eng_of_outside h hm
  | .grafts, hm => eq_grafts_of_outside h hm
  | .dsp, hm => eq_dsp_of_outside h hm
  | .flt, hm => eq_flt_of_outside h hm
  | .inj, hm => eq_inj_of_outside h hm
  | .alm, hm => eq_alm_of_outside h hm
  | .time, hm => eq_time_of_outside h hm
  | .smb, hm => eq_smb_of_outside h hm
  | .tele, hm => eq_tele_of_outside h hm
  | .tallies, hm => eq_tallies_of_outside h hm
  | .units, hm => eq_units_of_outside h hm
  | .out, hm => eq_out_of_outside h hm
  | .blocked, hm => eq_blocked_of_outside h hm
  | .free, hm => eq_free_of_outside h hm
  | .msix, hm => eq_msix_of_outside h (Bool.or_eq_false_iff.1 hm).1 (Bool.or_eq_false_iff.1 hm).2
  | .evrs, hm => fun f => eq_evrs_of_outside h (Bool.or_eq_false_iff.1 hm).1 (Bool.or_eq_false_iff.1 hm).2 f
  | .unsent, hm => fun off hoff => eq_unsent_of_outside h hm off hoff

theorem mem_allParts (p : Part) : p ∈ allParts := by
  cases p <;> decide

/-- States that agree outside a mask differ in listed parts alone, when every part that the mask blanks is listed. -/
theorem onlyChanges_of_outside {m : Nat} {l : List Part} {s t : State} (h : t.outside m = s.outside m)
    (hl : allParts.all (fun p => l.contains p || !p.blankedBy m) = true) : OnlyChanges l s t := by
  intro p hp
  refine p.same_of_outside h ?_
  simpa [hp] using List.all_eq_true.1 hl p (mem_allParts p)

end Sys2Proof.Safety
end

section
/-! NO-OP (04 R138). -/

namespace Sys2Proof.Machine

open Sys2Proof Sys2Proof.Safety

/-- The mask of `eventParts`. -/
def eventMask : Nat := 2 ^ 40 + 2 ^ 41 + 2 ^ 43 + 2 ^ 44 + 2 ^ 45

/-- A COMMAND record that ends a bundle changes no more than the posting of an event may. -/
theorem cmdDone_onlyChanges (h : CmdHdr) (opcode code result src : Nat) (s : State) :
    OnlyChanges eventParts s (cmdDone h opcode code result src { s with blocked := [] }) :=
  have hframe : (cmdDone h opcode code result src { s with blocked := [] }).outside eventMask = s.outside eventMask :=
    (cmdDone_outside (hm := rfl) ..).trans (set_blocked_outside (hm := rfl) ..)
  onlyChanges_of_outside hframe (by decide)

/-- A NO-OP that starts at once, with room for its record, is that record and nothing else; its code says whether PARAM and the reserved
bits are 0. -/
theorem noOp_gives {h : CmdHdr} {s : State} (q : Params) (rsv : Word) (hs : Starts h [] s) (hr : Room 1 s) :
    Gives (.noOp h q rsv) s (fun t =>
      Answered h 0x01 (if p0 q = 0 ∧ p1 q = 0 ∧ p2 q = 0 ∧ rsv = 0 then ccSuccess else ccParam) 0 0 s t ∧ OnlyChanges eventParts s t) := by
  obtain ⟨hrun, hanswer⟩ := command_answers (.noOp h q rsv) h [] _ s { s with blocked := [] } 0x01
    (if p0 q = 0 ∧ p1 q = 0 ∧ p2 q = 0 ∧ rsv = 0 then ccSuccess else ccParam) 0 0 hs hr rfl rfl rfl rfl rfl
  exact ⟨_, congrArg Host.Outcome.next hrun, hanswer, cmdDone_onlyChanges _ _ _ _ _ _⟩

/-- Settles O10: the record of a NO-OP has the code of the one case or of the other. -/
theorem noOpRule : Obligations.NoOpRule := by
  intro s h q rsv hs hr
  have hgives := noOp_gives q rsv hs hr
  constructor
  · intro hzero
    rwa [if_pos hzero] at hgives
  · intro hset
    rwa [if_neg (by tauto)] at hgives

end Sys2Proof.Machine
end
